-- ==== Sys2Proof/Word.lean ====
section
/-! DEFINITION. The word types: a byte of host memory or of a frame, and the 32-bit word of a register (R3), a TS32
stamp (R15), an angle stamp (R12) or a wrapping counter. -/

namespace Sys2Proof

/-- One byte of a ring entry, a buffer or a frame. -/
abbrev Byte := BitVec 8

/-- A 32-bit register word, TS32 stamp, angle stamp or wrapping counter. -/
abbrev Word := BitVec 32

end Sys2Proof
end

