-- ==== Sys2Proof/Syntax/Operands.lean ====
section
/-! DEFINITION. Operands of the commands: a mailbox command's identity, frames as decoded records (the bits of a PDU are
decoded by the receiver before the block judges them), tandem link frames and referee messages. -/

namespace Sys2Proof

/-- A mailbox command: the slice it came from and its CID (R78). -/
structure CmdId where
  slice : Nat
  cid : Nat
  deriving DecidableEq, Repr

/-- An IEC 62351-6 security extension (R165): algorithm 1 AES-128-GMAC, 2 AES-256-GMAC, others unknown. -/
structure Auth where
  alg : Nat
  tagLen : Nat
  keyId : Nat
  tag : Nat
  deriving DecidableEq, Repr

/-- An IEEE 802.1Q tag; VID 0 is a priority tag. -/
structure VTag where
  vid : Nat
  pcp : Nat
  deriving DecidableEq, Repr

/-- One ASDU of a sampled-value frame (R164). -/
structure SvAsdu where
  svid : List Byte
  smpCnt : Nat
  smpSynch : Nat
  confRev : Nat
  smpRate : Option Nat
  gmId : Option Nat
  values : List Int
  quality : List Nat
  deriving DecidableEq, Repr

/-- A savPdu. `decodes` is false where the PDU cannot be decoded. -/
structure SvPdu where
  appid : Nat
  sim : Bool
  auth : Option Auth
  decodes : Bool
  noAsdu : Nat
  asdus : List SvAsdu
  deriving DecidableEq, Repr

/-- One top-level entry of a GOOSE dataset: 0 BOOLEAN, 1 Dbpos, 2 Quality, others not selectable (R287). -/
structure GooseEntry where
  kind : Nat
  value : Nat
  deriving DecidableEq, Repr

/-- A GOOSE PDU (R281, R285, R288). -/
structure GoosePdu where
  appid : Nat
  sim : Bool
  auth : Option Auth
  decodes : Bool
  gocbref : List Byte
  datset : List Byte
  goid : List Byte
  confRev : Nat
  stNum : Nat
  sqNum : Nat
  /-- timeAllowedtoLive in ms. -/
  tal : Nat
  /-- t: seconds, nanoseconds, ClockNotSynchronized. -/
  tSec : Nat
  tNs : Nat
  notSync : Bool
  test : Bool
  ndsCom : Bool
  nds : Nat
  entries : List GooseEntry
  deriving DecidableEq, Repr

/-- IEEE 1588 message types the block handles (R380, R381). -/
inductive PtpKind where
  | sync
  | followUp
  | announce
  | pdelayReq
  | pdelayResp
  | pdelayRespFollowUp
  deriving DecidableEq, Repr

/-- An IEEE 1588 message. Times are in units of 2^-16 ns. -/
structure PtpMsg where
  kind : PtpKind
  domain : Nat
  seq : Nat
  /-- Source port identity. -/
  srcId : Nat
  srcPort : Nat
  twoStep : Bool
  correction : Int
  /-- originTimestamp, preciseOriginTimestamp or the request receipt timestamp. -/
  origin : Nat
  gmId : Nat := 0
  gmClass : Nat := 248
  gmAccuracy : Nat := 0xFE
  prio1 : Nat := 128
  prio2 : Nat := 128
  steps : Nat := 0
  /-- ALTERNATE_TIME_OFFSET_INDICATOR, where carried. -/
  altOffset : Option Int := none
  /-- networkTimeInaccuracy of the IEEE_C37_238 TLV, where carried. -/
  inaccuracy : Option Nat := none
  deriving DecidableEq, Repr

/-- A referee message (R315). -/
structure RefMsg where
  msg : Nat
  unit : Nat
  pairId : Nat
  seq : Nat
  gen : Nat
  ballot : Nat
  sec : Nat
  ns : Nat
  notTraceable : Bool
  role : Nat
  reason : Nat
  link : Nat
  arg : Nat
  tag : Nat
  deriving DecidableEq, Repr

/-- What a frame carries, by EtherType. -/
inductive Payload where
  | sv (pdu : SvPdu)
  | goose (pdu : GoosePdu)
  | ptp (msg : PtpMsg)
  | referee (msg : RefMsg)
  /-- IEEE 802.3x pause with its time in quanta of 512 bit times. -/
  | pause (quanta : Nat)
  /-- PRP or HSR supervision. -/
  | supervision
  | other (etherType : Nat) (bytes : List Byte)
  deriving DecidableEq, Repr

/-- A PRP redundancy control trailer or HSR tag (R366, R367): LAN or ring path, and the sequence number. -/
structure RedTag where
  hsr : Bool
  lan : Nat
  seq : Nat
  deriving DecidableEq, Repr

/-- An Ethernet frame. `len` counts from the destination address to the FCS as received. `fcs` is 0 correct, 1 wrong,
2 the exact inverse of the correct FCS (R349). -/
structure Frame where
  dst : Nat
  src : Nat
  tag : Option VTag
  len : Nat
  fcs : Nat
  red : Option RedTag
  payload : Payload
  deriving DecidableEq, Repr

/-- A transmit descriptor as read (R95): length, flags, traffic class and launch time. -/
structure TxDesc where
  len : Nat
  sof : Bool
  eof : Bool
  tsreq : Bool
  launch : Bool
  cls : Nat
  launchTs : Nat
  deriving DecidableEq, Repr

/-- The header of a tandem link frame (R301) with the lane it came on and its tag. -/
structure LinkHdr where
  lane : Nat
  retx : Bool
  session : Nat
  seq : Nat
  ack : Nat
  ballot : Nat
  tag : Nat
  deriving DecidableEq, Repr

/-- The identity of a ballot input (R303): one ASDU of a stream, or one GOOSE message of a subscription. -/
inductive InputId where
  | sample (stream smpCnt wrap : Nat)
  | goose (inst sub stNum sqNum : Nat)
  deriving DecidableEq, Repr

/-- The content of a ballot input. -/
inductive InputData where
  | sample (asdu : SvAsdu) (sim : Bool) (arrival : Nat)
  | goose (pdu : GoosePdu) (arrival : Nat)
  deriving DecidableEq, Repr

/-- A NOTICE record (R301): what was learned, and the CRC-32 of the content. -/
structure NoticeRec where
  input : InputId
  /-- 0 placed, 1 declared missing, 2 GOOSE accepted. -/
  kind : Nat
  crc : Nat
  deriving DecidableEq, Repr

/-- A SETTLE record (R301, R305): present with or without content, or missing. -/
structure SettleRec where
  input : InputId
  present : Bool
  ballot : Nat
  content : Option InputData
  deriving DecidableEq, Repr

/-- A digest of a committed step of a domain (R310). -/
structure StepDigest where
  domain : Nat
  step : Nat
  crc : Nat
  deriving DecidableEq, Repr

/-- A chunk of a resynchronisation image (R323): its phase, its place, and the bytes. -/
structure ResyncChunk where
  phase : Nat
  offset : Nat
  last : Bool
  bytes : List Byte
  deriving DecidableEq, Repr

/-- What a link frame carries (R301). -/
inductive LinkBody where
  | idle (role gen tcl alarms : Nat)
  | notice (recs : List NoticeRec)
  | forward (input : InputId) (data : InputData)
  | settle (recs : List SettleRec)
  | report (digests : List StepDigest) (x3 : Option Nat)
  | close (ballot settled : Nat) (steps : List (Nat × Nat)) (crc : Nat)
  | closeAck (ballot crc : Nat)
  | carry (ident op slice effect : Nat) (params : List (Nat × Nat)) (input : List Byte)
  | carryAck (ident status : Nat)
  | nak (first last : Nat)
  | gasp (cause : Nat)
  | hello (serial position pairId tclMin tclMax proposal : Nat)
  | resync (chunk : ResyncChunk)
  deriving DecidableEq, Repr

/-- How an evaluation on a lane ends: as computed, or disturbed by an upset in the lane (R219 to R221). -/
inductive LaneUpset where
  | none
  /-- The primary copy's result differs. -/
  | primary
  /-- The secondary copy's result differs. -/
  | secondary
  deriving DecidableEq, Repr

end Sys2Proof
end

