-- ==== Sys2Proof/Syntax.lean ====
section
/-! DEFINITION. The commands of the block: one constructor per row of the command table, in the table's order.
A Feljo command names the mailbox command it executes: its parameters are those of the entry the mailbox fetched. A
register access, an event on a pin, a received frame or an internal event carries what comes from outside. -/

namespace Sys2Proof

/-- A command to the block: a Feljo command, a register access, or an event. -/
inductive Instr where
  /-- R97. Returns the identity EEPROM bytes, the running bank, the image version and the Feljo version. -/
  | adminIdentify (r : CmdId)
  /-- R97. Returns the service state, the previous state, the cause, CHANGING and the full time of the last change. -/
  | adminServiceGet (r : CmdId)
  /-- R32. Requests a service-state transition against an expected state; it runs to every instance from its commit point and completes OK, STALE, BUSY or DENIED. -/
  | adminServiceSet (r : CmdId)
  /-- R97. Returns the full time, so that the host can measure mailbox latency. -/
  | adminEcho (r : CmdId)
  /-- R88. Aborts a named command that is still in FETCHED or EXECUTING, or completes STALE. -/
  | adminAbort (r : CmdId)
  /-- R97. Writes CMD_TIMEOUT.DEFAULT of the sending slice. -/
  | adminTimeoutSet (r : CmdId)
  /-- R97. Returns the tag and non-posted read usage and the outstanding count of every slice. -/
  | adminBoundsGet (r : CmdId)
  /-- R97. Returns the window counters of a slice. -/
  | adminCountersGet (r : CmdId)
  /-- R98. Writes every configurable field, staged values included, to a new setting-store generation and may clear RECOVERY cause 0x03. -/
  | adminConfigSave (r : CmdId)
  /-- R97. Stages AUTO_SERVICE for the next save and the next boot. -/
  | adminAutoserviceSet (r : CmdId)
  /-- R97. Writes MBX_ADMIN_VEC.VEC. -/
  | adminVectorSet (r : CmdId)
  /-- R128. Returns SLC_INST_STATUS and the epoch of the instance. -/
  | instanceStatusGet (r : CmdId)
  /-- R106. Binds a slice to a PASID and starts its notification unit. -/
  | instanceSliceAssign (r : CmdId)
  /-- R106. Unbinds a slice whose rings are all disabled and removes its ATU entries. -/
  | instanceSliceRelease (r : CmdId)
  /-- R109. Installs all the map records of the command atomically, or none of them. -/
  | instanceAtuMap (r : CmdId)
  /-- R109. Removes ATU entries and completes once every request already translated through them has been issued. -/
  | instanceAtuUnmap (r : CmdId)
  /-- R111. Changes the fetch weight, the cap and the ATU quota of a slice. -/
  | instanceShareSet (r : CmdId)
  /-- R129. Writes instance keys under their change classes; the first accepted write moves an EMPTY instance to HELD. -/
  | instanceConfigSet (r : CmdId)
  /-- R128. Returns the instance keys and marks the staged ones. -/
  | instanceConfigGet (r : CmdId)
  /-- R113. Holds a RUNNING instance at the close of the current step, and cancels any pending restart. -/
  | instanceHold (r : CmdId)
  /-- R112. Selects a restart boundary and completes there, either admitted or NOSPACE. -/
  | instanceRestart (r : CmdId)
  /-- R115. Increments the epoch, enters RESETTING, aborts the slice's commands and stops its fetching. -/
  | instanceReset (r : CmdId)
  /-- R118. Freezes an instance at its freeze boundary and returns the freeze angle. -/
  | instanceFreeze (r : CmdId)
  /-- R119. Writes the saved state of a FROZEN instance; the first successful save stops its publications. -/
  | instanceSave (r : CmdId)
  /-- R121. Checks a saved state and applies it to a HELD instance at the restart boundary, warm or cold. -/
  | instanceRestore (r : CmdId)
  /-- R124. Returns a FROZEN instance to RUNNING at the restart boundary. -/
  | instanceThaw (r : CmdId)
  /-- R158. Returns ANG_STATUS and the domain keys, with staged values marked. -/
  | angleDomainGet (r : CmdId)
  /-- R159. Writes domain keys one by one in entry order, under their classes and the FMAX reservation check. -/
  | angleDomainSet (r : CmdId)
  /-- R153. Makes a domain HELD at the next grid sample when none of its instances runs. -/
  | angleDomainHold (r : CmdId)
  /-- R155. Checks the reference-set forms and the lane load, then waits for the restart boundary. -/
  | angleDomainRestart (r : CmdId)
  /-- R139. Puts the tracking loop into HOLD or releases it at the next grid sample. -/
  | angleLoopHold (r : CmdId)
  /-- R150. Converts an angle stamp to time or a time to angle, using the anchor and the kept pairs. -/
  | angleConvert (r : CmdId)
  /-- R160. Writes the keys of an owned spare loop. -/
  | angleSpareSet (r : CmdId)
  /-- R158. Returns a spare loop's state record and its keys. -/
  | angleSpareGet (r : CmdId)
  /-- R145. Holds or releases a spare loop at the next cycle boundary. -/
  | angleSpareHold (r : CmdId)
  /-- R163. Admits a stream descriptor against the ceilings and overlaps, and places the stream in WAITING. -/
  | svStreamSubscribe (r : CmdId)
  /-- R187. Removes a stream that no instance or reference set uses. -/
  | svStreamUnsubscribe (r : CmdId)
  /-- R183. Writes stream keys, or a whole descriptor while the stream is HELD. -/
  | svStreamSet (r : CmdId)
  /-- R187. Returns the stream descriptor and its keys. -/
  | svStreamGet (r : CmdId)
  /-- R183. Makes a stream HELD when no referencing instance is running or pending. -/
  | svStreamHold (r : CmdId)
  /-- R183. Arms a stream restart that takes effect at the first matching frame. -/
  | svStreamRestart (r : CmdId)
  /-- R186. Returns the stream state, the last SmpCnt and the stream counters. -/
  | svStreamStatus (r : CmdId)
  /-- R187. Returns each ingest figure with its ceiling, and UNKNOWN. -/
  | svLoadGet (r : CmdId)
  /-- R169. Ends SIM_ACTIVE on a stream. -/
  | svSimReset (r : CmdId)
  /-- R187. Clears the counters of one stream, or of all streams together with UNKNOWN. -/
  | svCountersClear (r : CmdId)
  /-- R210. Stages the response, the post-filter and the single-cycle-settling mode of a channel. -/
  | filterChannelSet (r : CmdId)
  /-- R209. Returns the channel's filter keys and its pairs. -/
  | filterChannelGet (r : CmdId)
  /-- R209. Returns the coefficients of a ROM response or of a decimator stage. -/
  | filterRomGet (r : CmdId)
  /-- R209. Returns the pairs in use, the pair capacity and the pairs per domain. -/
  | filterPairsGet (r : CmdId)
  /-- R209. Returns the latest grid samples of a pair. -/
  | filterGridRead (r : CmdId)
  /-- R201. Makes a synchronising reset of the named pairs at the next placed raw sample. -/
  | filterResync (r : CmdId)
  /-- R211. Writes the keys of a threshold detector. -/
  | filterDetectorSet (r : CmdId)
  /-- R209. Returns the detector's state, its keys and its counters. -/
  | filterDetectorGet (r : CmdId)
  /-- R209. Sets the counters of one detector, or of all detectors, to 0. -/
  | filterDetectorClear (r : CmdId)
  /-- R235. Checks a setting-set image and stages it as a whole. -/
  | elementSetLoad (r : CmdId)
  /-- R239. Returns the setting set in effect, or the staged one. -/
  | elementSetGet (r : CmdId)
  /-- R236. Changes one field of one slot under that field's class. -/
  | elementParamSet (r : CmdId)
  /-- R239. Returns the parameters of a slot, with staged values marked. -/
  | elementParamGet (r : CmdId)
  /-- R231. Runs admission on the staged set without applying it. -/
  | elementAdmitCheck (r : CmdId)
  /-- R239. Returns the active lanes, the lane capacity, the load U and the per-domain loads. -/
  | elementLoadGet (r : CmdId)
  /-- R239. Returns a slot's committed word, its global slot and its counters. -/
  | elementSlotStatus (r : CmdId)
  /-- R238. Returns the state record of a slot as of the last commit. -/
  | elementStateGet (r : CmdId)
  /-- R239. Returns a lane's retirement, self-test result and charges. -/
  | elementLaneStatus (r : CmdId)
  /-- R239. Returns the catalogue entry of an element type. -/
  | elementCatalogueGet (r : CmdId)
  /-- R239. Clears the counters of one slot or of every slot of the instance. -/
  | elementCountersClear (r : CmdId)
  /-- R261. Checks a program image and either stages it or places it as a shadow for an on-line exchange. -/
  | logicProgramLoad (r : CmdId)
  /-- R272. Returns the program image in effect, or the staged one. -/
  | logicProgramGet (r : CmdId)
  /-- R272. Returns the bank, the counts and the digest of the program in effect. -/
  | logicProgramInfo (r : CmdId)
  /-- R272. Returns signal-space bits as they stood at the end of the last sweep. -/
  | logicSignalRead (r : CmdId)
  /-- R272. Writes host-control bits, all of which the same sweep latches. -/
  | logicControlWrite (r : CmdId)
  /-- R267. Forces a signal to 0 or 1, in COMMISSIONING or TEST only. -/
  | logicForceSet (r : CmdId)
  /-- R269. Clears one force, or every force of the instance. -/
  | logicForceClear (r : CmdId)
  /-- R272. Returns the forces of the instance. -/
  | logicForceList (r : CmdId)
  /-- R271. Returns a timer, counter or edge-memory record. -/
  | logicStateGet (r : CmdId)
  /-- R265. Returns the report of the last exchange. -/
  | logicExchangeReport (r : CmdId)
  /-- R272. Returns the sweep timing, the bank loads, the store use and the ECC corrections. -/
  | logicSweepGet (r : CmdId)
  /-- R243. Sets SWEEP_MIN from the next sweep start. -/
  | logicEngineSet (r : CmdId)
  /-- R281. Writes a publication descriptor, allocating a publication where the index has none. -/
  | goosePubSet (r : CmdId)
  /-- R298. Returns a publication descriptor. -/
  | goosePubGet (r : CmdId)
  /-- R298. Returns stNum, sqNum, the publication counters and the time of the last state. -/
  | goosePubStatus (r : CmdId)
  /-- R298. Frees a publication whose owner is not RUNNING. -/
  | goosePubRelease (r : CmdId)
  /-- R287. Writes a subscription descriptor. -/
  | gooseSubSet (r : CmdId)
  /-- R298. Returns a subscription descriptor. -/
  | gooseSubGet (r : CmdId)
  /-- R298. Returns the subscription's signal bits, its last stNum and its counters. -/
  | gooseSubStatus (r : CmdId)
  /-- R298. Clears the GOOSE counters of the instance. -/
  | gooseCountersClear (r : CmdId)
  /-- R299. Writes the fields of a local trip output. -/
  | tripOutputSet (r : CmdId)
  /-- R298. Returns an output's status, its fields and its counters. -/
  | tripOutputGet (r : CmdId)
  /-- R279. Runs the supervision test of an output now. -/
  | tripOutputTest (r : CmdId)
  /-- R298. Returns the terms of the reaction bound for a domain. -/
  | tripReactionGet (r : CmdId)
  /-- R329. Returns TDM_STATUS, GEN, the last ballot and the time of the last role change. -/
  | tandemStatusGet (r : CmdId)
  /-- R330. Writes the tandem pair keys. -/
  | tandemPairSet (r : CmdId)
  /-- R329. Returns the tandem pair keys. -/
  | tandemPairGet (r : CmdId)
  /-- R320. Sends SWITCH_REQ to start a planned switch-over and completes at the close of h + 1. -/
  | tandemSwitchover (r : CmdId)
  /-- R314. Makes the unit ISOLATED and mutes it. -/
  | tandemIsolate (r : CmdId)
  /-- R314. Moves an ISOLATED unit that has no module fault to DETACHED. -/
  | tandemRejoin (r : CmdId)
  /-- R329. Returns the progress of resynchronisation. -/
  | tandemResyncGet (r : CmdId)
  /-- R329. Returns the tandem counters. -/
  | tandemCountersGet (r : CmdId)
  /-- R329. Clears the tandem counters. -/
  | tandemCountersClear (r : CmdId)
  /-- R329. Returns the last referee message sent and the last received on each path. -/
  | tandemRefereeGet (r : CmdId)
  /-- R372. Writes port fields under their classes and the common-shelf floor. -/
  | portConfigSet (r : CmdId)
  /-- R371. Returns the port keys. -/
  | portConfigGet (r : CmdId)
  /-- R371. Returns PRT_STATUS and the port counters. -/
  | portStatusGet (r : CmdId)
  /-- R338. Drops the link and flushes the port's queues. -/
  | portHold (r : CmdId)
  /-- R338. Applies the staged port writes and brings the port up. -/
  | portRestart (r : CmdId)
  /-- R371. Clears the counters of a port, or of all ports. -/
  | portCountersClear (r : CmdId)
  /-- R361. Checks a gate control list and switches to it at its change instant. -/
  | portGclSet (r : CmdId)
  /-- R371. Returns the running or the pending gate control list. -/
  | portGclGet (r : CmdId)
  /-- R373. Writes the MAC addresses, VLANs, class and ceiling of a virtual port. -/
  | portVportSet (r : CmdId)
  /-- R371. Returns the virtual port keys. -/
  | portVportGet (r : CmdId)
  /-- R374. Installs or deletes forwarding entries, either all of them or none. -/
  | switchFdbSet (r : CmdId)
  /-- R374. Returns forwarding entries. -/
  | switchFdbGet (r : CmdId)
  /-- R371. Removes the learned entries of a port, or of all ports. -/
  | switchFdbFlush (r : CmdId)
  /-- R374. Writes a destination group. -/
  | switchGroupSet (r : CmdId)
  /-- R374. Writes VLAN membership and untag sets. -/
  | switchVlanSet (r : CmdId)
  /-- R358. Configures a mirror session. -/
  | switchMirrorSet (r : CmdId)
  /-- R365. Stages a PRP or HSR redundancy pair. -/
  | switchRedundancySet (r : CmdId)
  /-- R371. Returns a redundancy pair's keys and its counters. -/
  | switchRedundancyGet (r : CmdId)
  /-- R371. Returns a port's shelf charges. -/
  | switchShelfGet (r : CmdId)
  /-- R360. Starts a stocktake pass now and completes at its end. -/
  | switchStocktakeRun (r : CmdId)
  /-- R371. Writes the RW fields of SWC_. -/
  | switchConfigSet (r : CmdId)
  /-- R393. Returns PTP_STATUS with the offset, grandmaster and step details. -/
  | timeStatusGet (r : CmdId)
  /-- R390. Returns a full time matching the completion's TS32. -/
  | timeNowGet (r : CmdId)
  /-- R394. Writes the PTP configuration keys. -/
  | timeConfigSet (r : CmdId)
  /-- R393. Returns the PTP configuration keys. -/
  | timeConfigGet (r : CmdId)
  /-- R393. Writes the PTP settings of a port. -/
  | timePortSet (r : CmdId)
  /-- R393. Returns a port's PTP settings and its PTP counters. -/
  | timePortGet (r : CmdId)
  /-- R375. Applies the staged time fields and restarts the clock state without resetting the PHC. -/
  | timeRestart (r : CmdId)
  /-- R385. Sets the seconds, and optionally traceability, from the next accepted PPS_IN edge. -/
  | timeSet (r : CmdId)
  /-- R393. Clears the time counters of a port, or of all ports. -/
  | timeCountersClear (r : CmdId)
  /-- R419. Writes a recorder descriptor. -/
  | archiveRecorderSet (r : CmdId)
  /-- R418. Returns a recorder descriptor. -/
  | archiveRecorderGet (r : CmdId)
  /-- R407. Admits a HELD recorder against pages, pairs and bandwidth, and starts FILLING. -/
  | archiveRecorderArm (r : CmdId)
  /-- R397. Holds a recorder and closes any recording in progress as TRUNCATED. -/
  | archiveRecorderHold (r : CmdId)
  /-- R418. Deletes a HELD recorder. -/
  | archiveRecorderDelete (r : CmdId)
  /-- R401. Gives an ARMED recorder a host trigger. -/
  | archiveTrigger (r : CmdId)
  /-- R418. Returns the Archive status and its counters. -/
  | archiveStatusGet (r : CmdId)
  /-- R418. Lists the folios that the slice may read. -/
  | archiveFolioList (r : CmdId)
  /-- R416. Frees folios that are not open in the reading room. -/
  | archiveFolioRelease (r : CmdId)
  /-- R418. Sets or clears KEEP on a folio. -/
  | archiveFolioKeep (r : CmdId)
  /-- R415. Maps a folio into a reading-room window. -/
  | archiveRoomOpen (r : CmdId)
  /-- R418. Closes a reading-room window. -/
  | archiveRoomClose (r : CmdId)
  /-- R418. Writes RECYCLE. -/
  | archiveConfigSet (r : CmdId)
  /-- R418. Sets the Archive counters to 0. -/
  | archiveCountersClear (r : CmdId)
  /-- R441. Returns whole entries from an accession onward, marking OPEN, QUEUED and GAP. -/
  | chronicleRead (r : CmdId)
  /-- R450. Returns the Chronicle status and its counts. -/
  | chronicleStatusGet (r : CmdId)
  /-- R443. Removes entries below an expected accession and writes code 0x0D05. -/
  | chronicleClear (r : CmdId)
  /-- R450. Writes a host note entry, code 0x0105. -/
  | chronicleNote (r : CmdId)
  /-- R450. Writes NOTIFY_SEV. -/
  | chronicleConfigSet (r : CmdId)
  /-- R450. Returns the four error contexts. -/
  | errorContextsGet (r : CmdId)
  /-- R424. Writes a slice's notification routing, enables, priorities and moderation. -/
  | notifyConfigSet (r : CmdId)
  /-- R450. Returns a slice's notification configuration. -/
  | notifyConfigGet (r : CmdId)
  /-- R450. Returns NTF_ALARM and NTF_FAULT. -/
  | notifyAlarmGet (r : CmdId)
  /-- R428. Clears the named module-alarm bits. -/
  | notifyAlarmClear (r : CmdId)
  /-- R429. Configures the module's alarm publication. -/
  | notifyAlarmpubSet (r : CmdId)
  /-- R430. Sets the X3 glitch-filter times. -/
  | notifyFilterSet (r : CmdId)
  /-- R478. Returns the identity public key, the device certificate and the alias certificate. -/
  | keyIdentityGet (r : CmdId)
  /-- R458. Enrols an owner with its issuer keys and its OTK, in COMMISSIONING only. -/
  | keyOwnerEnrol (r : CmdId)
  /-- R459. Opens a key deposit session. -/
  | keyDepositBegin (r : CmdId)
  /-- R459. Accepts the next chunk of a key deposit at its offset. -/
  | keyDepositChunk (r : CmdId)
  /-- R462. Checks the deposit and commits its records in a new key-store generation. -/
  | keyDepositEnd (r : CmdId)
  /-- R459. Abandons the key deposit session. -/
  | keyDepositAbort (r : CmdId)
  /-- R478. Returns the metadata of a key slot's current and next keys. -/
  | keySlotGet (r : CmdId)
  /-- R457. Makes the next key of a slot current. -/
  | keySlotPromote (r : CmdId)
  /-- R465. Generates a P-384 key pair in a signing slot. -/
  | keyGenerate (r : CmdId)
  /-- R465. Signs a host digest with the key of a signing slot. -/
  | keySign (r : CmdId)
  /-- R466. Returns an attestation statement signed by the alias key. -/
  | keyAttest (r : CmdId)
  /-- R463. Stages the key mode, NATIVE or COMPAT. -/
  | keyModeSet (r : CmdId)
  /-- R479. Returns the update status and the state of each bank. -/
  | updateStatusGet (r : CmdId)
  /-- R459. Opens a firmware deposit session into the bank that is not running. -/
  | updateDepositBegin (r : CmdId)
  /-- R459. Accepts the next chunk of a firmware image. -/
  | updateDepositChunk (r : CmdId)
  /-- R469. Checks the image's structure and digest and leaves the bank LOADED or EMPTY. -/
  | updateDepositEnd (r : CmdId)
  /-- R459. Abandons the firmware session and leaves the bank EMPTY. -/
  | updateDepositAbort (r : CmdId)
  /-- R472. Arms the LOADED bank as the trial, optionally with a soft reset. -/
  | updateActivate (r : CmdId)
  /-- R473. Makes a running trial PRIMARY and advances MIN_SVN. -/
  | updateConfirm (r : CmdId)
  /-- R472. Clears an armed trial. -/
  | updateCancel (r : CmdId)
  /-- R479. Writes UPD_CONFIRM.WINDOW. -/
  | updateWindowSet (r : CmdId)
  /-- R59. Returns PWR_STATUS, PWR_INPUT and PWR_TEMP. -/
  | powerStatusGet (r : CmdId)
  /-- R59. Starts an energy-measurement interval from an internal snapshot. -/
  | powerEnergyStart (r : CmdId)
  /-- R59. Returns the energy, the protected count and their quotient for the finished interval. -/
  | powerEnergyRead (r : CmdId)
  /-- R59. Stages LANE_GATING. -/
  | powerGatingSet (r : CmdId)
  /-- R49. Opens the ideal-diode stage to measure the hold-up store. -/
  | powerHoldupTest (r : CmdId)
  /-- R59. Returns the operating seconds, the power-cycle count and the full time. -/
  | powerCountersGet (r : CmdId)
  /-- R59. Sets TRP_ALARM. -/
  | powerThermalSet (r : CmdId)
  /-- R59. Writes its completion, after which the soft reset begins; refused in IN_SERVICE. -/
  | powerReset (r : CmdId)
  /-- R72. The submission doorbell adds entries to the submission ring, or is discarded with RING_ERR. -/
  | sqTail (slice : Nat) (value : Nat)
  /-- R72. The completion doorbell releases consumed completion entries, or is discarded with RING_ERR. -/
  | cqHead (slice : Nat) (value : Nat)
  /-- R72. Setting RING_CFG.ENABLE zeroes the heads and tail, sets the phase to 1 and starts fetching. -/
  | ringEnable (slice : Nat) (value : Nat)
  /-- R72. Clearing RING_CFG.ENABLE stops fetching at once; commands already fetched run to completion. -/
  | ringDisable (slice : Nat) (value : Nat)
  /-- R92. The receive doorbell posts descriptors, which lets frames waiting for the virtual port be placed. -/
  | rxTail (slice : Nat) (value : Nat)
  /-- R95. The transmit doorbell posts transmit descriptors. -/
  | txTail (slice : Nat) (value : Nat)
  /-- R344. Setting RX_CFG.ENABLE brings the virtual port up and restarts its block. -/
  | rxRingEnable (slice : Nat) (value : Nat)
  /-- R344. Clearing RX_CFG.ENABLE takes the virtual port down and flushes its queue into RX_DROP_NOBUF. -/
  | rxRingDisable (slice : Nat) (value : Nat)
  /-- R68. Setting TX_CFG.ENABLE starts the transmit ring. -/
  | txRingEnable (slice : Nat) (value : Nat)
  /-- R68. Clearing TX_CFG.ENABLE stops the transmit ring. -/
  | txRingDisable (slice : Nat) (value : Nat)
  /-- R54. Writing 1 to PWR_CTRL.SNAP copies all the meters, the protected count and TS32 at one instant. -/
  | snap (value : Nat)
  /-- R139. Writing ANG_CTRL.HOLD enters or leaves loop HOLD at the next grid sample. -/
  | angCtrlHold (d : Nat) (value : Nat)
  /-- R422. A read claims the highest-priority pending admin source, or returns 0x3FF. -/
  | ntfAdmClaim
  /-- R422. A write clears the claim of an admin source and may re-post it. -/
  | ntfAdmComplete (value : Nat)
  /-- R422. A read claims the highest-priority pending source of a slice vector, or returns 0x3FF. -/
  | slcNtfClaim (slice : Nat) (v : Nat)
  /-- R422. A write clears the claim of a slice source and may re-post it. -/
  | slcNtfComplete (slice : Nat) (value : Nat)
  /-- R390. A read returns TS32 now and latches the full time for the same requester. -/
  | ptpNowTs32 (rid : Nat)
  /-- R6. A read of the low word of a 64-bit pair latches the high word for that requester. -/
  | lowWordRead (addr : Nat) (rid : Nat)
  /-- R489. A write to a register without a row of its own is judged as one word against ranges, classes and the block's own rules. -/
  | registerWrite (addr : Nat) (value : Nat)
  /-- R4. A BAR0 access of the wrong size or alignment returns all ones or is discarded, and is reported as an access error. -/
  | bar0BadAccess (addr : Nat) (write : Bool)
  /-- R415. A BAR2 read returns folio bytes through an open window, or is reported as an access error. -/
  | readingRoomRead (off : Nat)
  /-- R64. A BAR2 write is discarded and reported as an access error. -/
  | bar2Write (off : Nat)
  /-- R427. Unmasking an MSI-X entry sends the message that its pending bit holds. -/
  | msixUnmask (vec : Nat)
  /-- R490. Fetches a submission entry when tags and the cap allow, allocates a tag and checks the entry. -/
  | submissionFetch (slice : Nat) (entry : Option (List Byte))
  /-- R85. A PCIe completion for a module read arrives; it is used, treated as a failure, or discarded as unexpected. -/
  | dmaReadCompletion (tag : Nat) (ok : Bool) (data : List Byte)
  /-- R85. CTO expires for a module read, which is reissued once or fails. -/
  | dmaReadTimeout (tag : Nat)
  /-- R84. The effective timeout of a command short of its commit point expires, and the command completes ABORTED. -/
  | commandTimeout (r : CmdId)
  /-- R80. A ready reply is written to a free completion slot, and the command retires. -/
  | completionWrite (r : CmdId)
  /-- R89. PERST# resets the host interface, releases the slices and abandons uncommitted commands. -/
  | perst
  /-- R89. A Function Level Reset acts on the host interface as PERST# does. -/
  | functionLevelReset
  /-- R90. Bus Master Enable or D3hot stops DMA and holds write-backs, which are released when bus mastering returns. -/
  | busMasterChange (bme : Bool) (d3 : Bool)
  /-- R96. Reads a transmit frame's descriptors and data, checks it, and hands it to the switch core or drops it. -/
  | txFrameFetch (slice : Nat) (descs : List TxDesc) (frame : Frame)
  /-- R112. At the restart boundary the staged writes take effect, admission runs, logic is initialised and the first step is evaluated. -/
  | instanceRestartBoundary (n : Nat)
  /-- R118. The instance enters FROZEN, its outputs go to hold values and its state is captured. -/
  | freezeBoundary (n : Nat)
  /-- R115. At t0 + 1 ms, completions still waiting for a slot are discarded. -/
  | instanceResetDiscard (n : Nat)
  /-- R115. By t0 + 2 ms the slice's tags retire, the ATU and rings are cleared, and the instance enters HELD or EMPTY. -/
  | instanceResetComplete (n : Nat)
  /-- R155. At the first cycle boundary 100 µs after the command, the domain's writes take effect and it leaves HELD. -/
  | domainRestartBoundary (d : Nat)
  /-- R43. VIN held at 10.8 V or above for 10 ms with MOD_EN high declares 12 V good and starts the rails. -/
  | twelveVGood
  /-- R43. MOD_EN low holds the module off. -/
  | modEnLow
  /-- R43. Each rail reaches 90 %, and the next one starts. -/
  | railsUp
  /-- R44. A rail outside ±5 % for 50 µs retries the sequence, halts the module or is a module fault. -/
  | railFault (rail : Nat)
  /-- R41. The supervisor runs from NOR and samples DBG_EN. -/
  | supervisorStart (dbgEn : Bool)
  /-- R55. The endpoint is configured from NOR, and link training starts. -/
  | pcieEndpointConfigured
  /-- R55. The counters are restored, the power-cycle count is incremented, PFW is armed and GLB_ and PWR_ become readable. -/
  | countersRestored
  /-- R471. The boot ROM selects and verifies a firmware bank, handling trials and fallback. -/
  | bankSelect
  /-- R55. DRAM is trained and HOLDUP_READY is set. -/
  | dramTrained
  /-- R55. The setting store is verified and loaded, the ports are configured and PHY_RST# is released. -/
  | settingsLoaded
  /-- R55. The admin mailbox starts to accept commands. -/
  | mbxReady
  /-- R55. The pipeline starts, instances restart, the X3 latches are copied and the module leaves BOOT. -/
  | pipelineStart
  /-- R491. The soft reset begins after its completion has been written, and the module returns to BOOT with the rails and the link kept. -/
  | softReset
  /-- R46. VIN low before PFW is armed withdraws 12 V good and holds the module in reset. -/
  | vinLossUnarmed
  /-- R45. VIN below 10.6 V for 200 µs asserts PFW and starts the power-fail sequence. -/
  | powerFailWarning
  /-- R45. At t0 + 100 µs the outputs are de-asserted, the instances held and the pipeline powered down, in state REDUCED. -/
  | pfwOutputsOff
  /-- R45. At t0 + 500 µs GASP is sent on the tandem links and to the referee. -/
  | dyingGasp
  /-- R45. At t0 + 600 µs the tandem links, the referee ports and the switch core are powered down. -/
  | pfwLinksDown
  /-- R45. At t0 + 1 ms the power-fail notification is posted, and PCIe is powered down. -/
  | pfwPcieDown
  /-- R45. By t0 + 4 ms the queue is drained and the power-fail entry is written to both FRAM devices. -/
  | pfwChronicleEntry
  /-- R45. When the store falls below 6.0 V the supervisor holds the module in reset. -/
  | supervisorResetHold
  /-- R49. After 1 ms, or at 10.8 V, the diode stage closes and the result is PASS or FAIL. -/
  | holdupTestEnd (microfarad : Nat)
  /-- R59. The energy interval ends, and its reading becomes available. -/
  | powerEnergyIntervalEnd
  /-- R36. The TRP reaches TRP_ALARM, and a thermal alarm is raised. -/
  | thermalAlarm (temp : Nat)
  /-- R36. The die reaches 110 °C, which is a module fault. -/
  | dieOvertemperature (temp : Nat)
  /-- R56. The management cores silent for 1 s is a module fault. -/
  | supervisorWatchdog
  /-- R246. An uncorrected ECC error in logic memory is a module fault. -/
  | eccUncorrected
  /-- R316. DEMOTE is resent every 2 ms, at most 3 times. -/
  | demoteResend
  /-- R30. The demotion timeout expires, and the unit enters HALTED. -/
  | demoteTimeout
  /-- R57. The operating-seconds counter advances by one second. -/
  | opsecTick
  /-- R57. Every 60 s the operating-seconds counter is written to an alternate FRAM slot. -/
  | opsecPersist
  /-- R340. A received frame passes the MAC checks, duplicate discard, VLAN, class, capture, lookup, mirroring and shelf admission. -/
  | portFrameReceive (p : Nat) (frame : Frame)
  /-- R355. The port picks and starts the highest ready class whose gate is open, dropping aged frames. -/
  | frameTransmit (p : Nat)
  /-- R357. Loss of link freezes the port's queues and drops new copies. -/
  | linkDown (p : Nat)
  /-- R357. The link comes up and dequeue resumes. -/
  | linkUp (p : Nat) (speed : Nat)
  /-- R357. With the link still down 10 ms later, every queued copy is flushed. -/
  | linkDownFlush (p : Nat)
  /-- R336. Pause held for PAUSE_WD trips the watchdog, and pause is then ignored. -/
  | pauseWatchdog (p : Nat)
  /-- R336. After 1 s without a pause frame, WD_ACTIVE clears. -/
  | pauseWdRelease (p : Nat)
  /-- R337. The wake pattern present for 10 ms on a SPARE port sets WAKE and notifies. -/
  | wake (p : Nat)
  /-- R343. A learned entry unused for FDB_AGE is removed. -/
  | fdbAgeExpiry (vid : Nat) (mac : Nat)
  /-- R368. A duplicate-discard window idle for DD_AGE is forgotten. -/
  | ddAgeExpiry (pair : Nat) (src : Nat)
  /-- R359. Every ST_PERIOD a pass frees leaked cells and corrects the shelf counters. -/
  | stocktake
  /-- R361. A gate-control entry's interval ends, and the next entry's gate states apply. -/
  | gateEvent (p : Nat)
  /-- R361. At the change instant the new gate control list takes over, and PORT_GCL_SET completes. -/
  | gclChange (p : Nat)
  /-- R364. An IEEE 802.3br verification attempt runs after VERIFY_TIME. -/
  | preemptionVerify (p : Nat) (ok : Bool)
  /-- R365. Every 2 s PRP or HSR supervision frames are sent. -/
  | supervisionFrameSend (pair : Nat)
  /-- R389. A launch-time frame is released on egress at its launch time, or counted late. -/
  | launchTime (p : Nat)
  /-- R164. An SV frame is checked, authenticated, decoded and its samples placed, resolving runs and stream state. -/
  | svFrameIngest
  /-- R177. At ALIGN_MAX or after SKEW_WAIT a sample is declared missing, and a third one makes a gap. -/
  | sampleMissing (stream : Nat)
  /-- R180. No sample placed for STREAM_TIMEOUT moves a RUNNING stream to LOST. -/
  | streamTimeout (stream : Nat)
  /-- R198. A pair's grid sample is produced once its inputs are final, and the domain's tracker step follows. -/
  | gridSampleProduce (ch : Nat) (d : Nat)
  /-- R207. The run reaches its count and the detector asserts or de-asserts, sending an event. -/
  | thresholdDetectorEvent (i : Nat)
  /-- R142. A 2-cycle acquisition pass ends, F is refitted and acquisition may complete. -/
  | acquisitionPass (d : Nat)
  /-- R141. 8 cycles in TRACK within LOCK_E set LOCK. -/
  | lockSet (d : Nat)
  /-- R141. A HOLD lasting COAST_MAX cycles clears LOCK. -/
  | holdLockTimeout (d : Nat)
  /-- R143. COAST_MAX cycles in COAST end COAST and set COAST_TIMEOUT. -/
  | coastTimeout (d : Nat)
  /-- R143. The detector clear for HOLDOFF cycles clears it and ends COAST. -/
  | holdoffExpiry (d : Nat)
  /-- R133. Set A valid for one cycle becomes active again, or GLIDE returns to ACQUIRE. -/
  | refSetResume (d : Nat)
  /-- R214. At a step boundary, once the grid sample and the ballot exist, the due slots are dispatched. -/
  | stepDispatch (d : Nat)
  /-- R219. An evaluation completes; a trip-capable pair is compared. -/
  | laneEvaluationComplete (n : Nat) (slot : Nat) (upset : LaneUpset)
  /-- R217. The step closes and is committed for each instance in order. -/
  | stepClose (d : Nat)
  /-- R218. The step deadline expires, and unfinished evaluations are overruns. -/
  | stepDeadline (d : Nat)
  /-- R221. Every 10 s each lane runs its known-answer self-test. -/
  | laneSelftest (failed : List Nat)
  /-- R242. A sweep latches the inputs, executes every bank and hands off the outputs. -/
  | logicSweep
  /-- R262. The shadow program has been checked, placed and mapped. -/
  | exchangeShadowReady (n : Nat)
  /-- R276. The frozen launch time of POW[k] is reached, and the output is energised. -/
  | powLaunch (k : Nat)
  /-- R275. MIN_PULSE ends, and the output may be de-energised. -/
  | minPulseExpiry (k : Nat)
  /-- R275. MAX_PULSE ends, the output is de-energised and MAXPULSE is set. -/
  | maxPulseExpiry (k : Nat)
  /-- R278. TRIPI below ENERG_MIN at ENERG_TIME sets SUP_FAULT. -/
  | energTimeExpiry (k : Nat) (mV : Nat)
  /-- R278. Each 10 ms mean of TRIPI is judged, and 100 ms out of range sets SUP_FAULT. -/
  | supervisionWindow (k : Nat) (mV : Nat)
  /-- R279. Every TEST_PERIOD an eligible output's one-side test starts. -/
  | outputTest (k : Nat)
  /-- R279. A timed instant of the output test drives a line or samples TRIPI. -/
  | outputTestPhase (k : Nat) (mV : Nat)
  /-- R280. Breaker contacts discrepant for DISC_TIME set OUTDISC and DISC_EVT. -/
  | discTimeExpiry (k : Nat)
  /-- R430. An X3 input held for its filter time takes a new filtered level. -/
  | filteredInputEdge (i : Nat) (level : Bool) (ts : Nat)
  /-- R431. An edge captured by a latch while the filters are not running. -/
  | x3LatchEdge (i : Nat) (rising : Bool)
  /-- R282. A delayed or angle launch of a state's first message is reached. -/
  | gooseLaunch (n : Nat) (p : Nat)
  /-- R283. The next scheduled retransmission of a state is sent. -/
  | gooseRetransmit (n : Nat) (p : Nat)
  /-- R288. A GOOSE frame is checked and judged for sequence against a subscription. -/
  | gooseFrameReceive
  /-- R291. No message within TAL plus TAL_EXTRA clears VALID. -/
  | gooseTalExpiry (n : Nat) (sub : Nat)
  /-- R381. A PTP message is processed for the state machine, offset, peer delay or transparent forwarding. -/
  | ptpMessageHandle
  /-- R381. A pending residence value is discarded after 1 s without its Follow_Up. -/
  | residenceDiscard (p : Nat) (seq : Nat)
  /-- R377. The announce timeout, three missing Syncs or PPS rejects lose the time source. -/
  | sourceLoss
  /-- R377. HOLDOVER_LIMIT passes, the clock becomes LOST and the module may enter RECOVERY. -/
  | holdoverLimitExpiry
  /-- R385. A PPS_IN edge is accepted as a second boundary or rejected. -/
  | ppsInEdge
  /-- R384. FREQ_IN lost or out of tolerance clears FREQ_OK. -/
  | freqInLoss
  /-- R386. PPS_OUT rises at each second boundary plus its offset. -/
  | ppsOutPulse
  /-- R301. An IDLE link frame carrying the partner's role, GEN, TCL and alarm bits arrives. -/
  | idle (h : LinkHdr) (role : Nat) (gen : Nat) (tcl : Nat) (alarms : Nat)
  /-- R304. The partner's NOTICE records of placements, missing declarations or GOOSE arrive. -/
  | notice (h : LinkHdr) (recs : List NoticeRec)
  /-- R305. A forwarded input arrives at the chair. -/
  | forward (h : LinkHdr) (input : InputId) (data : InputData)
  /-- R305. The follower adopts the chair's settlements. -/
  | settle (h : LinkHdr) (recs : List SettleRec)
  /-- R310. The partner's step digests and X3 states arrive and are compared. -/
  | report (h : LinkHdr) (digests : List StepDigest) (x3 : Option Nat)
  /-- R308. The follower closes the ballot, starts its sweep and sends CLOSE_ACK. -/
  | close (h : LinkHdr) (b : Nat) (settled : Nat) (steps : List (Nat × Nat)) (crc : Nat)
  /-- R310. The follower's sweep digest arrives at the chair. -/
  | closeAck (h : LinkHdr) (b : Nat) (crc : Nat)
  /-- R325. A carried change arrives and is applied at its effect point. -/
  | carry (h : LinkHdr) (ident : Nat) (op : Nat) (slice : Nat) (effect : Nat) (params : List (Nat × Nat)) (input : List Byte)
  /-- R325. The partner's result of a carried change arrives and is compared. -/
  | carryAck (h : LinkHdr) (ident : Nat) (status : Nat)
  /-- R302. A NAK causes the named frames to be resent at once. -/
  | nak (h : LinkHdr) (first : Nat) (last : Nat)
  /-- R314. The partner's GASP makes the link dead and sends PEER_GASP. -/
  | gasp (h : LinkHdr) (cause : Nat)
  /-- R322. The partner's HELLO opens a session and agrees the TCL. -/
  | hello (h : LinkHdr) (serial : Nat) (position : Nat) (pairId : Nat) (tclMin : Nat) (tclMax : Nat) (proposal : Nat)
  /-- R323. A chunk of a resynchronisation image arrives and is applied. -/
  | resync (h : LinkHdr) (chunk : ResyncChunk)
  /-- R302. A link frame unacknowledged for 15 µs is resent, and a fourth failure kills the link. -/
  | linkFrameResend (seq : Nat)
  /-- R302. No valid frame for LINK_DEAD ends the session and changes the role. -/
  | linkDead
  /-- R301. A lane with no valid frame for 100 µs is reported dead. -/
  | laneDead (lane : Nat)
  /-- R301. Every 10 µs without other traffic an IDLE frame is sent on each lane. -/
  | idleSend
  /-- R301. Every 1 ms without a session a HELLO is sent. -/
  | helloSend
  /-- R304. FWD_WAIT after a placement without the partner's NOTICE forwards or settles the input. -/
  | fwdWaitExpiry (input : InputId)
  /-- R308. A 250 µs period ends, and each unit sends its REPORT. -/
  | ballotPeriodEnd
  /-- R308. At the deadline the chair settles the remaining inputs, closes the ballot, starts its sweep and sends CLOSE. -/
  | ballotDeadline
  /-- R316. A referee HB_REPLY names the ACTIVE unit. -/
  | hbReply
  /-- R317. A referee GRANT is accepted or refused, and outputs go live at the first close or at ballot h. -/
  | grant
  /-- R320. A REVOKE starts a planned switch-over, or with FORCE detaches the unit. -/
  | revoke
  /-- R30. The referee's acknowledgement of demotion takes the unit to HALTED. -/
  | demoteAck
  /-- R316. Every HB_PERIOD a HEARTBEAT is sent on both referee paths. -/
  | heartbeat
  /-- R316. Every 100 ms until answered, a HELLO is sent to the referee. -/
  | refereeHello
  /-- R316. PEER_GASP is resent every 2 ms, at most 3 times. -/
  | peerGaspResend
  /-- R327. A referee path silent for 4 HB_PERIOD raises the REFEREE_PATH alarm. -/
  | refereeUnreachable (path : Nat)
  /-- R323. A resynchronisation phase completes, and the next begins or the unit becomes STANDBY. -/
  | resyncPhaseEnd
  /-- R324. A phase exceeds its bound, and resynchronisation fails. -/
  | resyncFailure
  /-- R324. 1 s after a first failure, resynchronisation starts again. -/
  | resyncRetry
  /-- R311. The self-test and scrub after a disagreement end, and the unit rejoins or faults. -/
  | selftestScrubComplete (ok : Bool)
  /-- R396. A recorder row is written once its inputs are final, with the mask test and the state progression. -/
  | archiveRow (rec : Nat)
  /-- R401. A trigger reaches a recorder and starts, extends or is ignored, then cross-triggers the targets. -/
  | triggerAccept
  /-- R403. An ARMED recorder quiet for AUTO_TIMEOUT triggers itself. -/
  | autoTimeout (rec : Nat)
  /-- R411. A folio's trailer is written, the folio closes and the owner is notified. -/
  | folioClose (folio : Nat)
  /-- R426. MOD_INT after the last message, a held message is sent. -/
  | moderationExpiry (slice : Nat) (v : Nat)
  /-- R439. A queued item is written to both FRAM devices and verified, then leaves the queue. -/
  | chronicleItemWrite (good0 : Bool) (good1 : Bool)
  /-- R444. A device silent for 1 ms is declared failed, and the survivor carries on. -/
  | framDeviceFailed (dev : Nat)
  /-- R456. A current key lapses, and the next one becomes current or the key is marked LAPSED. -/
  | keyLapse (slot : Nat)
  /-- R459. A deposit session with no chunk for 60 s is abandoned. -/
  | depositSessionTimeout (firmware : Bool)
  /-- R473. An unconfirmed trial's window ends, and a soft reset falls back. -/
  | trialWindowExpiry
  /-- R384. A 10 MHz signal within ±10 ppm appears on FREQ_IN with FREQ_IN_EN set, the PHC oscillator locks to it and FREQ_OK becomes 1. -/
  | freqInPresent
  /-- R38. The TRP falls back below TRP_ALARM, THERM_ALARM clears and MOD_ALERT# is released if no other cause holds. -/
  | thermalAlarmCleared (temp : Nat)
  /-- R336. The pause time set by a received IEEE 802.3x pause frame runs out, and the port leaves PAUSED and may start frames again. -/
  | pauseTimeExpiry (p : Nat)
  /-- R428. A hardware fault in the switch core or a port is detected, which is a module fault with CAUSE 9, and every physical transmitter is turned off. -/
  | switchHardwareFault
  deriving DecidableEq, Repr

end Sys2Proof
end

