-- ==== Sys2Proof/Config.lean ====
section
/-! DEFINITION. What an implementation fixes and the manual does not give: identity, ROM contents, the algorithms of
element types the manual names without stating them, cryptography, and the choices the manual leaves free. Each is a
constant with no body, so no proof can see its value. -/

namespace Sys2Proof

/-- Serial number: 16 bytes of the identity EEPROM (R37, R481). -/
opaque Config.serial : List Byte
/-- Part number: bytes 0 to 15 of the identity EEPROM (R37). -/
opaque Config.partNumber : List Byte
/-- Hardware revision (R37, R481). -/
opaque Config.hwRevision : Nat
/-- The module is an SPT-4851-X (R17). -/
opaque Config.variantX : Bool
/-- The module's base MAC address, from which its clock identity is formed (R383). -/
opaque Config.baseMac : Nat
/-- Identity public key and the device certificate (R453). -/
opaque Config.identityPub : List Byte
opaque Config.deviceCert : List Byte

/-- How the phase detector rounds the argument of a vector to 1 ac: -1, 0 or 1 from the computed value (R134). -/
opaque Config.argRound (re im : Int) : Int
/-- Coefficient of a resampler response in ROM: response, input rate, row, tap (R193, R195); only its low 20 bits count. -/
opaque Config.romCoef (response rate row tap : Nat) : Int
/-- Coefficient of a halfband stage: stage 1 to 4, tap (R191); only its low 20 bits count. -/
opaque Config.halfband (stage tap : Nat) : Int

/-- Evaluation of an element type whose algorithm the manual names without stating it: type, parameters, window values,
state, real time since the last evaluation. Answers OPERATE, PICKUP and type outputs, and the new state. -/
opaque Config.element (type : Nat) (params : List Nat) (inputs : List Int) (state : List Int) (dt : Nat) : Nat × List Int
/-- Progress of an inverse-time curve of IEC 60255-151 in Q2.30 over a time in ns: curve, multiplier, current over pickup
as squares, reset choice, progress so far. -/
opaque Config.curve (curve tms : Nat) (sq puSq : Int) (reset : Nat) (acc : Int) (dt : Nat) : Int
/-- Lane that takes an evaluation (R213, R216): the draw's number. -/
opaque Config.lane (draw : Nat) : Nat

/-- GMAC tag of an SV or GOOSE PDU or of a link or referee message under a key (R165, R281, R302, R315). -/
opaque Config.svTag (key : List Byte) (alg : Nat) (pdu : SvPdu) : Nat
opaque Config.gooseTag (key : List Byte) (alg : Nat) (pdu : GoosePdu) : Nat
opaque Config.linkTag (key : List Byte) (hdr : LinkHdr) (body : LinkBody) : Nat
/-- CRC-32 of the content of a ballot input, whose layout the manual does not give (R301, R304). -/
opaque Config.contentCrc (data : InputData) : Nat
/-- Serial number as HELLO carries it. -/
opaque Config.serialNo : Nat
opaque Config.refTag (key : List Byte) (msg : RefMsg) : Nat
/-- ECDSA P-384 (R453, R462, R465): verification, signing, and the public key of a private one. -/
opaque Config.verify (pub msg sig : List Byte) : Bool
opaque Config.sign (priv msg : List Byte) : List Byte
opaque Config.publicOf (priv : List Byte) : List Byte
/-- AES-GCM opening: key, IV, additional data, ciphertext, tag (R460). -/
opaque Config.gcmOpen (key iv aad cipher tag : List Byte) : Option (List Byte)
/-- The compat transport key, the firmware roots, the SPT-2410 deposit root and the test root (R452, R463, R464, R469). -/
opaque Config.compatKey : List Byte
opaque Config.firmwareRoot (i : Nat) : List Byte
opaque Config.depositRoot : List Byte
opaque Config.testRoot : List Byte
/-- Alias private key of a running image, by its BODY_DIGEST, and the identity private key (R452). -/
opaque Config.aliasKey (digest : List Byte) : List Byte
opaque Config.identityKey : List Byte
/-- The on-die random source (R465, R302): bytes of the draw. -/
opaque Config.random (draw : Nat) : List Byte
/-- Whether a value reported in a unit it does not fit exactly is rounded up: which value, and the exact quotient. -/
opaque Config.roundUp (what num den : Nat) : Bool
/-- A free number where the manual leaves one open: what for, and the draw. -/
opaque Config.free (what draw : Nat) : Nat

end Sys2Proof
end

