-- ==== Sys2Proof/Machine/Bits.lean ====
section
/-! DEFINITION. Bit fields of a word, sign extension, saturation, byte strings little-endian first, and the rounding
and comparison helpers that several chapters share. -/

namespace Sys2Proof.Machine

/-- Bits `[lo + width - 1 : lo]` of a number. -/
def bitsOf (v lo width : Nat) : Nat := (v >>> lo) % 2 ^ width

/-- One bit of a number. -/
def bitOf (v i : Nat) : Bool := (v >>> i) % 2 == 1

/-- The number a truth value stands for in a field of one bit. -/
def b2n (b : Bool) : Nat := if b then 1 else 0

/-- A value as a read reports it in a coarser unit; where it does not fit exactly, the manual leaves the rounding open. -/
def shown (what num den : Nat) : Nat :=
  num / den + (if num % den = 0 then 0 else b2n (Config.roundUp what num den))

/-- Put bit `i` of a mask to 1. -/
def setBit (m i : Nat) : Nat := if bitOf m i then m else m + 2 ^ i

/-- Put bit `i` of a mask to 0. -/
def clrBit (m i : Nat) : Nat := if bitOf m i then m - 2 ^ i else m

/-- Put bit `i` of a mask to a value. -/
def putBit (m i : Nat) (b : Bool) : Nat := if b then setBit m i else clrBit m i

/-- Clear in `m` every bit of `x` among the low `n` bits: the effect of a W1C write (R7). -/
def clearMask : Nat → Nat → Nat → Nat
  | 0, m, _ => m
  | n + 1, m, x => clearMask n (if bitOf x n then clrBit m n else m) x

/-- The numbers below `n` whose bit is set in a mask. -/
def bitList (m n : Nat) : List Nat := (List.range n).filter fun i => bitOf m i

/-- How many of the low `n` bits of a mask are set. -/
def popCount (m n : Nat) : Nat := (bitList m n).length

/-- A number of `width` bits read as two's complement. -/
def sext (width v : Nat) : Int := if v % 2 ^ width < 2 ^ (width - 1) then (v % 2 ^ width : Nat) else (v % 2 ^ width : Nat) - (2 ^ width : Nat)

/-- A signed number as the bits of a field of `width` bits. -/
def enc (width : Nat) (v : Int) : Nat := (v % (2 ^ width : Nat)).toNat

/-- Limit a number to a range. -/
def clampInt (lo hi v : Int) : Int := if v < lo then lo else if hi < v then hi else v

/-- Limit a number to 32-bit two's complement. -/
def sat32 (v : Int) : Int := clampInt (-2147483648) 2147483647 v

/-- Difference `a - b` of two stamps modulo 2^32, read as a signed 32-bit number (R13). -/
def stampDiff (a b : Word) : Int := (a - b).toInt

/-- Division rounding to nearest, halves away from zero. -/
def roundDiv (a : Int) (b : Nat) : Int :=
  if b = 0 then 0
  else if a < 0 then -(((-a).toNat * 2 + b) / (2 * b) : Nat) else ((a.toNat * 2 + b) / (2 * b) : Nat)

/-- Shift right rounding to nearest, halves away from zero. -/
def roundShift (a : Int) (n : Nat) : Int := roundDiv a (2 ^ n)

/-- Integer square root by Newton steps on fuel, largest `r` with `r * r ≤ n`. -/
def isqrtLoop (n : Nat) : Nat → Nat → Nat
  | 0, r => r
  | f + 1, r => let q := (r + n / r) / 2; if q < r then isqrtLoop n f q else r

/-- The integer square root. -/
def isqrt (n : Nat) : Nat := if n = 0 then 0 else isqrtLoop n (n.log2 + 2) (2 ^ (n.log2 / 2 + 1))

/-- A number as `n` bytes, least significant first. -/
def le : Nat → Nat → List Byte
  | 0, _ => []
  | n + 1, v => BitVec.ofNat 8 v :: le n (v / 256)

/-- The number that bytes spell, least significant first. -/
def unle : List Byte → Nat
  | [] => 0
  | b :: t => b.toNat + 256 * unle t

/-- `n` zero bytes. -/
def zeros (n : Nat) : List Byte := List.replicate n 0

/-- Bytes `[off, off + n)` of a string, as many as there are. -/
def sliceOf (l : List Byte) (off n : Nat) : List Byte := (l.drop off).take n

/-- The number in `n` bytes at an offset. -/
def leAt (l : List Byte) (off n : Nat) : Nat := unle (sliceOf l off n)

/-- Do bytes at an offset hold zero? -/
def zerosAt (l : List Byte) (off n : Nat) : Bool := leAt l off n == 0

/-- Put bytes in place of those at an offset. -/
def patch (l : List Byte) (off : Nat) (b : List Byte) : List Byte := l.take off ++ b ++ l.drop (off + b.length)

/-- A string brought to a length, cut or filled with zero bytes. -/
def padTo (n : Nat) (l : List Byte) : List Byte := (l ++ zeros (n - l.length)).take n

/-- The 32-bit words of a byte string, little-endian. -/
def wordsOf : Nat → List Byte → List Nat
  | 0, _ => []
  | n + 1, l => unle (l.take 4) :: wordsOf n (l.drop 4)

/-- The largest number of a list, or 0. -/
def maxOf (l : List Nat) : Nat := l.foldl Nat.max 0

/-- The sum of a list. -/
def sumOf (l : List Nat) : Nat := l.foldl (· + ·) 0

/-- Ceiling division. -/
def ceilDiv (a b : Nat) : Nat := if b = 0 then 0 else (a + b - 1) / b

/-- The first half of a list of pairs of flags: is any set? -/
def anyOf (l : List Bool) : Bool := l.any id

/-- Insert a number into a rising list without repeats. -/
def insNat : List Nat → Nat → List Nat
  | [], x => [x]
  | y :: t, x => if x < y then x :: y :: t else if x = y then y :: t else y :: insNat t x

end Sys2Proof.Machine
end

