-- ==== Sys2Proof/Machine/Tab.lean ====
section
/-! DEFINITION. Finite tables: a list of (key, value) pairs with strictly rising keys. A table of things that exist
(streams, folios) lists those that exist; a table over a fixed index range (ports, slices) lists only the entries that
differ from the default, so that equal tables are equal data. -/

namespace Sys2Proof.Machine

/-- A finite table keyed by a number; keys strictly rise (`tabWf`). -/
abbrev Tab (α : Type) := List (Nat × α)

variable {α : Type}

/-- The entry under a key. -/
def tfind : Tab α → Nat → Option α
  | [], _ => none
  | (k, v) :: t, i => if k = i then some v else tfind t i

/-- The entry under a key, or the default where the table lists none. -/
def tget (d : α) (t : Tab α) (i : Nat) : α := (tfind t i).getD d

/-- Is there an entry under the key? -/
def thas (t : Tab α) (i : Nat) : Bool := (tfind t i).isSome

/-- Put an entry in its place, replacing one under the same key. -/
def tput : Tab α → Nat → α → Tab α
  | [], i, x => [(i, x)]
  | (k, v) :: t, i, x =>
    if i < k then (i, x) :: (k, v) :: t
    else if k = i then (i, x) :: t
    else (k, v) :: tput t i x

/-- Remove the entry under a key. -/
def tdel : Tab α → Nat → Tab α
  | [], _ => []
  | (k, v) :: t, i => if k = i then tdel t i else (k, v) :: tdel t i

/-- Set the entry under a key; a default value is not listed. -/
def tset [DecidableEq α] (d : α) (t : Tab α) (i : Nat) (x : α) : Tab α :=
  if x = d then tdel t i else tput t i x

/-- Change the entry under a key, the default where the table lists none. -/
def tmod [DecidableEq α] (d : α) (t : Tab α) (i : Nat) (f : α → α) : Tab α := tset d t i (f (tget d t i))

/-- Change an entry that exists; a key with no entry stays without one. -/
def tupd (t : Tab α) (i : Nat) (f : α → α) : Tab α :=
  match tfind t i with
  | some x => tput t i (f x)
  | none => t

/-- Change every entry. -/
def tmap {β : Type} (f : Nat → α → β) (t : Tab α) : Tab β := t.map fun e => (e.1, f e.1 e.2)

/-- Change every listed entry of a table over a fixed range; entries that become the default are not listed. -/
def tmapD [DecidableEq α] (d : α) (f : Nat → α → α) (t : Tab α) : Tab α := (tmap f t).filter fun e => e.2 ≠ d

/-- Keep the entries that meet a test. -/
def tfilter (p : Nat → α → Bool) (t : Tab α) : Tab α := t.filter fun e => p e.1 e.2

/-- The keys of a table. -/
def tkeys (t : Tab α) : List Nat := t.map Prod.fst

/-- The smallest number of `lo .. lo + n - 1` that is no key of the table. -/
def tfree (t : Tab α) : Nat → Nat → Option Nat
  | _, 0 => none
  | lo, n + 1 => if thas t lo then tfree t (lo + 1) n else some lo

/-- Every key of the list lies above `b`, and the keys rise strictly. -/
def tabAbove : Nat → Tab α → Bool
  | _, [] => true
  | b, (k, _) :: t => decide (b < k) && tabAbove k t

/-- The canonical form: keys strictly rising. -/
def tabWf : Tab α → Bool
  | [] => true
  | (k, _) :: t => tabAbove k t

end Sys2Proof.Machine
end

