-- ==== Sys2Proof/Machine/Field.lean ====
section
/-! DEFINITION. Configurable fields: the change classes L, S and X (R8 to R11), the value in effect and the staged
value of each field, and the judgement of a register write as one word (R489). A field is one row of the manual's
register and key tables: its place in a register, its Feljo key, its range, class and reset value. -/

namespace Sys2Proof.Machine

/-- The change class of a field (R8). -/
inductive Cls where
  /-- Live: in effect at once, which the next step or frame sees. -/
  | live
  /-- Staged while the block runs; in effect when it restarts. -/
  | staged
  /-- Locked: refused while the block runs. -/
  | locked
  deriving DecidableEq, Repr

/-- One configurable field of a block. -/
structure Desc where
  /-- Number of the field within its block. -/
  id : Nat
  /-- Feljo parameter key, 0 where the field has none. -/
  key : Nat
  /-- Register offset within the block's window, and place in the word. -/
  off : Nat
  bit : Nat
  width : Nat
  /-- Range of accepted values. -/
  lo : Int
  hi : Int
  cls : Cls
  /-- Reset value (R7). -/
  rst : Nat
  /-- The value is two's complement of `width` bits. -/
  sgn : Bool := false
  /-- RWS: a soft reset keeps it (R7). -/
  rws : Bool := false
  deriving DecidableEq, Repr

/-- A register offset that no register has, for fields that only a Feljo key reaches. -/
def noOff : Nat := 0xFFFF_FFFF

/-- The values of a block's fields: those that differ from reset, in effect and staged. -/
structure Cfg where
  eff : Tab Nat := []
  staged : Tab Nat := []
  deriving DecidableEq, Repr

/-- The value in effect. -/
def fval (c : Cfg) (d : Desc) : Nat := tget d.rst c.eff d.id

/-- The value in effect of a signed field. -/
def fvalI (c : Cfg) (d : Desc) : Int := sext d.width (fval c d)

/-- Is the one-bit field 1 in effect? -/
def fon (c : Cfg) (d : Desc) : Bool := fval c d != 0

/-- What a read returns: the staged value where one is staged (R10). -/
def fread (c : Cfg) (d : Desc) : Nat := tget (fval c d) c.staged d.id

/-- Is a write to the field staged? -/
def fstaged (c : Cfg) (d : Desc) : Bool := thas c.staged d.id

/-- Is any write to the block staged? The block's STAGED bit (R10). -/
def anyStaged (c : Cfg) : Bool := !c.staged.isEmpty

/-- Set a field in effect at once. -/
def fset (c : Cfg) (d : Desc) (v : Nat) : Cfg := { eff := tset d.rst c.eff d.id v, staged := tdel c.staged d.id }

/-- Stage a write: a second staged write to the same field replaces the first (R10). -/
def fstage (c : Cfg) (d : Desc) (v : Nat) : Cfg := { c with staged := tput c.staged d.id v }

/-- Does a value lie in the field's range? -/
def inRange (d : Desc) (v : Nat) : Bool :=
  decide (v < 2 ^ d.width) &&
    (let x : Int := if d.sgn then sext d.width v else (v : Int)
     decide (d.lo ≤ x) && decide (x ≤ d.hi))

/-- How a block takes a write. -/
inductive Mode where
  /-- The block runs (R8). -/
  | run
  /-- The block is HELD: writes of every class wait for its restart (R9). -/
  | held
  /-- A stopped unit that has no HELD state (a disabled ring, an unassigned notification unit): writes act at once. -/
  | idle
  deriving DecidableEq, Repr

/-- Write a field that is in range: while the block runs, live at once, staged later, locked refused (R8); while the
block is HELD every class waits for the restart (R9). -/
def fwrite (c : Cfg) (d : Desc) (m : Mode) (v : Nat) : Option Cfg :=
  match m, d.cls with
  | .run, .live => some (fset c d v)
  | .run, .staged => some (fstage c d v)
  | .run, .locked => none
  | .held, _ => some (fstage c d v)
  | .idle, _ => some (fset c d v)

/-- The staged value of one field takes effect. -/
def fapply1 (c : Cfg) (d : Desc) : Cfg :=
  match tfind c.staged d.id with
  | some v => fset c d v
  | none => c

/-- Every staged write takes effect, at the block's restart (R9). -/
def fapply (ds : List Desc) (c : Cfg) : Cfg := ds.foldl fapply1 c

/-- Drop every staged write. -/
def fdropStaged (c : Cfg) : Cfg := { c with staged := [] }

/-- The configuration as if every staged write had taken effect; what a save records (R98). -/
def fsaved (ds : List Desc) (c : Cfg) : Cfg := fapply ds c

/-- After a soft reset: RWS fields keep the value in effect, the others return to reset; staged writes are lost
(R7, R47, R98). -/
def fsoftReset (ds : List Desc) (c : Cfg) : Cfg :=
  { eff := tfilter (fun i _ => ds.any fun d => d.id == i && d.rws) c.eff, staged := [] }

/-- The fields of a register. -/
def atOff (ds : List Desc) (off : Nat) : List Desc := ds.filter fun d => d.off == off

/-- What a register write would write: the fields whose written value differs from what a read returns (R489). -/
def changedFields (ds : List Desc) (c : Cfg) (off w : Nat) : List (Desc × Nat) :=
  ((atOff ds off).map fun d => (d, bitsOf w d.bit d.width)).filter fun p => fread c p.1 != p.2

/-- Write fields one by one, giving up at the first refusal. -/
def fwriteAll (mode : Desc → Mode) : List (Desc × Nat) → Cfg → Option Cfg
  | [], c => some c
  | (d, v) :: t, c =>
    if inRange d v then
      match fwrite c d (mode d) v with
      | some c' => fwriteAll mode t c'
      | none => none
    else none

/-- A register write judged as one word (R489): `none` where the whole word is discarded. `ok` is the block's own rule,
judged on the values after the write. -/
def regWrite (ds : List Desc) (mode : Desc → Mode) (ok : Cfg → Bool) (off w : Nat) (c : Cfg) : Option Cfg :=
  match fwriteAll mode (changedFields ds c off w) c with
  | some c' => if ok c' then some c' else none
  | none => none

/-- The RW fields of a register word as a read returns them. -/
def regRead (ds : List Desc) (off : Nat) (c : Cfg) : Nat :=
  ((atOff ds off).map fun d => fread c d * 2 ^ d.bit).foldl (· + ·) 0

/-- The field under a Feljo key. -/
def byKey (ds : List Desc) (k : Nat) : Option Desc := ds.find? fun d => d.key == k && k != 0

end Sys2Proof.Machine
end

