-- ==== Sys2Proof/Machine/FieldsHost.lean ====
section
/-! DEFINITION. The configurable fields of the mailbox windows (R68), the power block (R59), the X3 filter (R447), the
time function and its ports (R392 to R394), the tandem function (R328, R330), the trip outputs (R297, R299), the ports
(R369, R372), the switch core (R370), virtual ports (R373), mirror sessions and redundancy pairs (R374). Each row is
the manual's: Feljo key, register offset, place, range, class, reset. -/

namespace Sys2Proof.Machine

/-- A field of a register that a Feljo key may reach too. -/
def field (id key off bit width : Nat) (lo hi : Int) (cls : Cls) (rst : Nat) : Desc :=
  { id := id, key := key, off := off, bit := bit, width := width, lo := lo, hi := hi, cls := cls, rst := rst }

/-- A field that only a Feljo key reaches. -/
def keyField (id key width : Nat) (lo hi : Int) (cls : Cls) (rst : Nat) : Desc := field id key noOff 0 width lo hi cls rst

/-! ## Mailbox windows (R68) -/

def wSqLo : Desc := field 0 0 0x000 12 20 0 0xFFFFF .locked 0
def wSqHi : Desc := field 1 0 0x004 0 32 0 0xFFFFFFFF .locked 0
def wCqLo : Desc := field 2 0 0x008 12 20 0 0xFFFFF .locked 0
def wCqHi : Desc := field 3 0 0x00C 0 32 0 0xFFFFFFFF .locked 0
def wSqLog2 : Desc := field 4 0 0x010 0 4 8 12 .locked 8
def wCqLog2 : Desc := field 5 0 0x010 4 4 8 12 .locked 8
def wEnable : Desc := field 6 0 0x010 8 1 0 1 .live 0
def wTimeout : Desc := field 7 0x0001 0x02C 0 16 10 60000 .live 0x01F4
def wRxLo : Desc := field 8 0 0x040 12 20 0 0xFFFFF .locked 0
def wRxHi : Desc := field 9 0 0x044 0 32 0 0xFFFFFFFF .locked 0
def wRxLog2 : Desc := field 10 0 0x048 0 4 8 12 .locked 8
def wRxBuf : Desc := field 11 0 0x048 4 7 1 64 .locked 8
def wRxEn : Desc := field 12 0 0x048 16 1 0 1 .live 0
def wTxLo : Desc := field 13 0 0x060 12 20 0 0xFFFFF .locked 0
def wTxHi : Desc := field 14 0 0x064 0 32 0 0xFFFFFFFF .locked 0
def wTxLog2 : Desc := field 15 0 0x068 0 4 8 12 .locked 8
def wTxEn : Desc := field 16 0 0x068 16 1 0 1 .live 0
def wVec : Desc := field 17 0x0001 0x0A0 0 11 0 0x7FF .live 0x7FF

/-- The fields of an instance slice's window. -/
def slcFields : List Desc :=
  [wSqLo, wSqHi, wCqLo, wCqHi, wSqLog2, wCqLog2, wEnable, wTimeout, wRxLo, wRxHi, wRxLog2, wRxBuf, wRxEn, wTxLo, wTxHi,
   wTxLog2, wTxEn]

/-- The fields of the admin window: no station rings, and MBX_ADMIN_VEC. -/
def mbxFields : List Desc := [wSqLo, wSqHi, wCqLo, wCqHi, wSqLog2, wCqLog2, wEnable, wTimeout, wVec]

/-- The window fields of a slice. -/
def winFields (slice : Nat) : List Desc := if slice = 0 then mbxFields else slcFields

/-! ## Power (PWR_CTRL) -/

def pGating : Desc := field 0 0x0001 0x004 1 1 0 1 .staged 0
def pTrpAlarm : Desc := field 1 0x0001 0x004 2 8 60 90 .live 0x55
def pwrFields : List Desc := [pGating, pTrpAlarm]

/-! ## Time function (R392, R394) -/

def tType : Desc := field 0 0x0002 0x000 0 2 0 2 .staged 0
def tSlaveOnly : Desc := field 1 0x0003 0x000 2 1 0 1 .staged 1
def tProfile : Desc := field 2 0x0004 0x000 3 2 0 1 .staged 0
def tDomain : Desc := field 3 0x0005 0x000 8 8 0 255 .staged 0
def tPpsInEn : Desc := field 4 0x0006 0x000 16 1 0 1 .staged 0
def tPpsTerm : Desc := field 5 0x0007 0x000 17 1 0 1 .live 0
def tFreqInEn : Desc := field 6 0x0008 0x000 18 1 0 1 .staged 0
def tPpsOutMode : Desc := field 7 0x0009 0x000 19 2 0 2 .live 2
def tStepInSvc : Desc := field 8 0x000A 0x000 21 1 0 1 .live 1
def tHoldover : Desc := field 9 0x000B 0x024 0 16 1 3600 .live 5
def tLockNs : Desc := field 10 0x000C 0x024 16 16 10 1000 .live 0xFA
def tStepThresh : Desc := field 11 0x000D 0x028 0 20 1 1000000 .live 0x64
def tSlewMax : Desc := field 12 0x000E 0x02C 0 17 1000 100000 .live 0x186A0
def tPpsOff : Desc := { field 13 0x000F 0x030 0 32 (-1000000) 1000000 .live 0 with sgn := true }
def tPpsWin : Desc := field 14 0x0010 0x034 0 16 100 65535 .live 0x3E8
def tPpsCable : Desc := field 15 0x0011 0x034 16 16 0 65535 .live 0
def tPrio1 : Desc := keyField 16 0x0020 8 0 255 .staged 128
def tPrio2 : Desc := keyField 17 0x0021 8 0 255 .staged 128
def timeFields : List Desc :=
  [tType, tSlaveOnly, tProfile, tDomain, tPpsInEn, tPpsTerm, tFreqInEn, tPpsOutMode, tStepInSvc, tHoldover, tLockNs,
   tStepThresh, tSlewMax, tPpsOff, tPpsWin, tPpsCable, tPrio1, tPrio2]

/-- PTP settings of a port: offsets from the port's words at 0x200 + 4p and 0x300 + 4p (R392, R393). -/
def tpEn : Desc := field 0 0x0002 0x200 0 1 0 1 .staged 0
def tpMode : Desc := field 1 0x0003 0x200 1 2 0 2 .staged 0
def tpSegment : Desc := field 2 0x0004 0x200 3 2 0 3 .staged 0
def tpTagged : Desc := field 3 0x0005 0x200 5 1 0 1 .staged 0
def tpEgress : Desc := field 4 0x0006 0x300 0 16 0 65535 .live 0
def tpIngress : Desc := field 5 0x0007 0x300 16 16 0 65535 .live 0
def timePortFields : List Desc := [tpEn, tpMode, tpSegment, tpTagged, tpEgress, tpIngress]

/-! ## Tandem (R328, R330) -/

def dEnable : Desc := { field 0 0x0002 0x000 0 1 0 1 .staged 0 with rws := true }
def dPosition : Desc := { field 1 0x0003 0x000 1 1 0 1 .staged 0 with rws := true }
def dPairId : Desc := keyField 2 0x0004 64 1 0xFFFFFFFFFFFFFFFF .staged 0
def dLinkKey : Desc := keyField 3 0x0005 16 0 1023 .staged 0
def dRefKey : Desc := keyField 4 0x0006 16 0 1023 .staged 0
def dRef0 : Desc := keyField 5 0x0007 8 0 47 .staged 0
def dRef1 : Desc := keyField 6 0x0008 8 0 47 .staged 1
def dRefVlan : Desc := keyField 7 0x0009 16 0 4094 .staged 0
def dRefMac : Desc := keyField 8 0x000A 48 0 0xFFFFFFFFFFFF .staged 0
def dFwdWait : Desc := field 9 0x000B 0x00C 0 8 20 136 .live 0x64
def dLinkDead : Desc := field 10 0x000C 0x00C 16 12 200 2000 .live 0x12C
def dHbPeriod : Desc := field 11 0x000D 0x010 0 2 1 3 .live 2
def dDemote : Desc := field 12 0x000E 0x010 8 8 10 100 .live 0x14
def tdmFields : List Desc :=
  [dEnable, dPosition, dPairId, dLinkKey, dRefKey, dRef0, dRef1, dRefVlan, dRefMac, dFwdWait, dLinkDead, dHbPeriod,
   dDemote]

/-! ## Trip outputs (R297, R299); offsets from the output's block -/

def oTestAllow : Desc := field 0 0x0003 0x00 12 1 0 1 .live 0
def oSupEn : Desc := field 1 0x0004 0x00 13 1 0 1 .live 1
def oBkEn : Desc := field 2 0x0005 0x00 14 1 0 1 .live 1
def oUnlocked : Desc := field 3 0x0006 0x00 15 1 0 1 .live 0
def oMinPulse : Desc := field 4 0x0007 0x08 0 16 0 10000 .live 0x64
def oMaxPulse : Desc := field 5 0x0008 0x08 16 16 0 1000 .live 0
def oSupMin : Desc := field 6 0x0009 0x0C 0 12 0 2500 .live 0x064
def oSupMax : Desc := field 7 0x000A 0x0C 16 12 0 2500 .live 0x190
def oTestMin : Desc := field 8 0x000B 0x10 0 12 0 2500 .live 0x258
def oTestMax : Desc := field 9 0x000C 0x10 16 12 0 2500 .live 0x4B0
def oEnergMin : Desc := field 10 0x000D 0x14 0 12 0 2500 .live 0x3E8
def oEnergTime : Desc := field 11 0x000E 0x14 16 8 1 200 .live 0x14
def oDiscTime : Desc := field 12 0x000F 0x18 0 16 10 10000 .live 0x64
def oPowAngle : Desc := field 13 0x0010 0x1C 0 20 0 0xFFFFF .live 0
def outFields : List Desc :=
  [oTestAllow, oSupEn, oBkEn, oUnlocked, oMinPulse, oMaxPulse, oSupMin, oSupMax, oTestMin, oTestMax, oEnergMin,
   oEnergTime, oDiscTime, oPowAngle]

/-- TRP_TEST_CFG.TEST_PERIOD. -/
def oTestPeriod : Desc := field 0 0 0x004 0 12 1 3600 .live 0x00A

/-! ## Ports (R369, R372) -/

def prRole : Desc := field 0 0x0002 0x000 0 3 0 4 .staged 0
def prSpeed : Desc := field 1 0x0003 0x000 4 2 0 3 .staged 1
def prLane : Desc := field 2 0x0004 0x000 6 2 0 3 .staged 0
def prCut : Desc := field 3 0x0005 0x000 8 1 0 1 .live 1
def prPauseRx : Desc := field 4 0x0006 0x000 9 1 0 1 .live 0
def prFlood : Desc := field 5 0x0007 0x000 10 1 0 1 .live 1
def prLearn : Desc := field 6 0x0008 0x000 11 1 0 1 .staged 1
def prAccept : Desc := field 7 0x0009 0x000 12 2 0 2 .staged 0
def prAn : Desc := field 8 0x000A 0x000 16 1 0 1 .staged 1
def prPvid : Desc := field 9 0x000B 0x008 0 12 1 4094 .staged 1
def prDefPcp : Desc := field 10 0x000C 0x008 12 3 0 7 .staged 0
def prPcpMap : Desc := field 11 0x000D 0x00C 0 24 0 0xFFFFFF .staged 0xFAC681
/-- Own shelf of class `c` (PRT_OWN_LO, PRT_OWN_HI). -/
def prOwn (c : Nat) : Desc :=
  field (12 + c) 0 (if c < 4 then 0x010 else 0x014) (8 * (c % 4)) 8 0 255 .staged
    (if c = 7 then 0x28 else if c = 6 then 0x18 else 8)
def prCmax : Desc := field 20 0x000F 0x018 0 17 0 111360 .live 0x2000
def prPmax : Desc := field 21 0x0010 0x01C 0 17 0 111360 .live 0x4000
def prPauseWd : Desc := field 22 0x0011 0x020 0 10 1 1000 .live 0xA
def prMaxFrame : Desc := field 23 0x0012 0x024 0 14 1518 9216 .staged 0x5F2
def prGclEn : Desc := field 24 0x0013 0x028 0 1 0 1 .live 0
def prPreempt : Desc := field 25 0x0014 0x02C 0 6 0 63 .live 0x3F
def prVerifyEn : Desc := field 26 0 0x02C 8 1 0 1 .staged 1
def prForce : Desc := field 27 0 0x02C 9 1 0 1 .staged 0
def prVerifyTime : Desc := field 28 0 0x02C 16 8 1 128 .live 0xA
def portFields : List Desc :=
  [prRole, prSpeed, prLane, prCut, prPauseRx, prFlood, prLearn, prAccept, prAn, prPvid, prDefPcp, prPcpMap, prOwn 0,
   prOwn 1, prOwn 2, prOwn 3, prOwn 4, prOwn 5, prOwn 6, prOwn 7, prCmax, prPmax, prPauseWd, prMaxFrame, prGclEn,
   prPreempt, prVerifyEn, prForce, prVerifyTime]

/-! ## Switch core (R370) -/

def swStEn : Desc := field 0 0x0002 0x000 0 1 0 1 .live 1
def swStPeriod : Desc := field 1 0x0003 0x000 4 12 100 4000 .live 0x3E8
def swSvClass : Desc := field 2 0x0004 0x000 16 3 0 7 .live 6
def swGooseClass : Desc := field 3 0x0005 0x000 20 3 0 7 .live 7
def swMatrix : Desc := field 4 0x0006 0x018 0 16 0 0xFFFF .live 0x9269
def swFdbAge : Desc := field 5 0x0007 0x01C 0 20 10 1000000 .live 0x12C
def swSviOwn : Desc := field 6 0x0008 0x024 0 13 0 8191 .staged 0x1000
def swGseOwn : Desc := field 7 0x0009 0x024 16 13 0 8191 .staged 0x400
def swMgtOwn : Desc := field 8 0x000A 0x028 0 13 0 8191 .staged 0x400
def swVpOwn : Desc := field 9 0x000B 0x028 16 8 0 255 .staged 0x10
def swDdAge : Desc := field 10 0x000C 0x02C 0 14 10 10000 .live 0x190
def swMirCap : Desc := field 11 0x000D 0x044 0 17 0 65536 .live 0x1000
def swFields : List Desc :=
  [swStEn, swStPeriod, swSvClass, swGooseClass, swMatrix, swFdbAge, swSviOwn, swGseOwn, swMgtOwn, swVpOwn, swDdAge,
   swMirCap]

/-- Virtual port (R373); the address and VLAN lists stand beside these. -/
def vpMaxClass : Desc := keyField 0 0x0004 3 0 7 .live 0
def vpVcmax : Desc := keyField 1 0x0005 14 0 8192 .live 256
def vpFlood : Desc := keyField 2 0x0006 1 0 1 .live 0
def vpFields : List Desc := [vpMaxClass, vpVcmax, vpFlood]

/-- Mirror session (R374). -/
def mrSources : Desc := keyField 0 0x0003 48 0 0xFFFFFFFFFFFF .live 0
def mrDir : Desc := keyField 1 0x0004 2 1 3 .live 0
def mrClasses : Desc := keyField 2 0x0005 8 0 255 .live 0
def mrPort : Desc := keyField 3 0x0006 10 0 562 .live 0
def mrEnable : Desc := keyField 4 0x0007 1 0 1 .live 0
def mirFields : List Desc := [mrSources, mrDir, mrClasses, mrPort, mrEnable]

/-- Redundancy pair (R374). -/
def rpFirst : Desc := keyField 0 0x0003 6 0 47 .staged 0
def rpSecond : Desc := keyField 1 0x0004 6 0 47 .staged 0
def rpMode : Desc := keyField 2 0x0005 1 0 1 .staged 0
def rpEnable : Desc := keyField 3 0x0006 1 0 1 .staged 0
def pairFields : List Desc := [rpFirst, rpSecond, rpMode, rpEnable]

end Sys2Proof.Machine
end

