-- ==== Sys2Proof/Machine/FieldsAngle.lean ====
section
/-! DEFINITION. The configurable fields of an angle domain (R157, R159), a spare loop (R160), a stream (R188), a
channel's filter (R210), a threshold detector (R211) and an instance (R129). -/

namespace Sys2Proof.Machine

/-- A signed 32-bit field. -/
def sfield (id key off : Nat) (lo : Int) (cls : Cls) (rst : Nat) : Desc :=
  { field id key off 0 32 lo 2147483647 cls rst with sgn := true }

/-! ## Angle domain (R157, R159); offsets from the domain's block -/

def aStep : Desc := field 0 0x0002 0x00 0 2 0 2 .locked 1
def aHold : Desc := field 1 0 0x00 2 1 0 1 .live 0
def aForm : Desc := field 2 0x0004 0x00 3 1 0 1 .staged 0
def aTrack : Desc := field 3 0x0005 0x00 4 1 0 1 .staged 0
def aFnom : Desc := field 4 0x0006 0x08 0 32 0x28000000 0x48000000 .staged 0x32000000
def aB (i : Nat) : Desc :=
  sfield (5 + i) (0x0009 + i) (0x20 + 4 * i) (-2147483648) .live
    (if i = 0 then 0x20140000 else if i = 1 then 0xE0000000 else 0)
/-- Coefficient a1 to a3, `i` 0 to 2. -/
def aA (i : Nat) : Desc :=
  sfield (9 + i) (0x000D + i) (0x30 + 4 * i) (-2147483648) .live (if i = 0 then 0xF0000000 else 0)
def aFmin : Desc := field 12 0x0007 0x3C 0 16 4000 7200 .live 0x0FA0
def aFmax : Desc := field 13 0x0008 0x3C 16 16 4000 7200 .live 0x1C20
def aEclamp : Desc := field 14 0x0010 0x40 0 20 1024 262144 .live 0x05000
def aLockE : Desc := field 15 0x0011 0x44 0 20 256 65536 .live 0x01000
def aFdThresh : Desc := field 16 0x0012 0x48 0 10 10 1023 .live 0x066
def aFdUnderv : Desc := field 17 0x0013 0x48 10 10 512 1023 .live 0x366
def aHoldoff : Desc := field 18 0x0014 0x48 20 4 1 15 .live 2
def aCoastMax : Desc := field 19 0x0015 0x4C 0 9 4 500 .live 0x032
def aLaunchLead : Desc := field 20 0x0016 0x4C 16 11 50 2000 .live 0x0C8
def aRate : Desc := field 21 0x0017 0x50 0 20 10 10000 .live 0x001F4
def aAccel : Desc := field 22 0x0018 0x54 0 20 10 50000 .live 0x003E8
def aJerk : Desc := field 23 0x0019 0x58 0 20 10 1000000 .live 0x00FA0
/-- Channel of a reference set: set 0 A, 1 B; position 0 to 2. -/
def aRef (set i : Nat) : Desc :=
  field (24 + 3 * set + i) (0x0020 + 4 * set + i) ((if i = 2 then 0x60 else 0x5C) + 12 * set) (if i = 1 then 16 else 0)
    14 0 0x3FFF .staged 0x3FFF
def aRefOff (set : Nat) : Desc := field (30 + set) (0x0023 + 4 * set) (0x64 + 12 * set) 0 20 0 0xFFFFF .staged 0
def aRefMin : Desc := field 32 0x0028 0x74 0 31 1 2147483647 .live 0x3E8
def angFields : List Desc :=
  [aStep, aHold, aForm, aTrack, aFnom, aB 0, aB 1, aB 2, aB 3, aA 0, aA 1, aA 2, aFmin, aFmax, aEclamp, aLockE,
   aFdThresh, aFdUnderv, aHoldoff, aCoastMax, aLaunchLead, aRate, aAccel, aJerk, aRef 0 0, aRef 0 1, aRef 0 2, aRefOff 0,
   aRef 1 0, aRef 1 1, aRef 1 2, aRefOff 1, aRefMin]

/-! ## Spare loop (R160); form, out_min, out_max and thresh have no reset value in the manual (DESIGN CHOICE) -/

def lChan : Desc := keyField 0 0x0003 14 0 16383 .staged 0x3FFF
def lSet : Desc := sfield 1 0x0004 noOff (-2147483648) .live 0
def lDead : Desc := keyField 2 0x0005 32 0 2147483647 .live 0
def lForm : Desc := keyField 3 0x0006 2 2 3 .staged 2
def lB (i : Nat) : Desc := sfield (4 + i) (0x0007 + i) noOff (-2147483648) .live 0
def lA (i : Nat) : Desc := sfield (8 + i) (0x000B + i) noOff (-2147483648) .live 0
def lMin : Desc := sfield 11 0x000E noOff (-2147483648) .live 0x80000000
def lMax : Desc := sfield 12 0x000F noOff (-2147483648) .live 0x7FFFFFFF
def lThresh : Desc := keyField 13 0x0010 32 1 2147483647 .live 0x7FFFFFFF
def loopFields : List Desc :=
  [lChan, lSet, lDead, lForm, lB 0, lB 1, lB 2, lB 3, lA 0, lA 1, lA 2, lMin, lMax, lThresh]

/-! ## Channel filter (R210) -/

def cResponse : Desc := keyField 0 0x0002 2 0 2 .staged 0
def cPost : Desc := keyField 1 0x0003 1 0 1 .staged 0
def cScs : Desc := keyField 2 0x0004 1 0 1 .staged 0
def chanFields : List Desc := [cResponse, cPost, cScs]

/-! ## Threshold detector (R211) -/

def tdChan : Desc := keyField 0 0x0002 14 0 16383 .locked 0
def tdDomain : Desc := keyField 1 0x0003 4 0 15 .locked 0
def tdMeasure : Desc := keyField 2 0x0004 2 0 2 .locked 0
def tdDir : Desc := keyField 3 0x0005 1 0 1 .live 0
def tdLevel : Desc := keyField 4 0x0006 31 1 2147483647 .live 0x7FFFFFFF
def tdHyst : Desc := keyField 5 0x0007 31 0 2147483647 .live 0
def tdCount : Desc := keyField 6 0x0008 7 1 64 .live 3
def tdOwner : Desc := keyField 7 0x0009 10 0 512 .locked 0
def tdEnable : Desc := keyField 8 0x000A 1 0 1 .live 0
def tdEdges : Desc := keyField 9 0x000B 1 0 1 .live 0
def detFields : List Desc :=
  [tdChan, tdDomain, tdMeasure, tdDir, tdLevel, tdHyst, tdCount, tdOwner, tdEnable, tdEdges]

/-! ## Instance (R129); the stream list stands beside these -/

def iProtect : Desc := keyField 0 0x0002 1 0 1 .staged 0
def iDomain : Desc := keyField 1 0x0003 4 0 15 .locked 0
def iSim : Desc := keyField 2 0x0004 1 0 1 .staged 0
def iOutputs : Desc := keyField 3 0x0005 8 0 0xFF .staged 0
def iSpare : Desc := keyField 4 0x0006 4 0 0xF .staged 0
def instFields : List Desc := [iProtect, iDomain, iSim, iOutputs, iSpare]

end Sys2Proof.Machine
end

