-- ==== Sys2Proof/Machine/FieldsMisc.lean ====
section
/-! DEFINITION. The keys of a sampled-value stream (R188). The first six replace fields of the stream's descriptor
(R162) and are class S; the other five stand beside the descriptor and are class L. -/

namespace Sys2Proof.Machine

def sConfrev : Desc := keyField 5 0x0002 32 0 0xFFFFFFFF .staged 0
def sAuth : Desc := keyField 6 0x0003 1 0 1 .staged 0
def sSyncReq : Desc := keyField 7 0x0004 1 0 1 .staged 0
def sGmCheck : Desc := keyField 8 0x0005 1 0 1 .staged 0
def sKeySlot : Desc := keyField 9 0x0006 10 0 1023 .staged 0
def sWrap : Desc := keyField 10 0x0007 17 0 65536 .staged 0
def sAlignMax : Desc := keyField 0 0x0008 14 100 10000 .live 1000
def sAlignAdv : Desc := keyField 1 0x0009 9 0 500 .live 100
def sSkewWait : Desc := keyField 2 0x000A 9 0 500 .live 50
def sTimeout : Desc := keyField 3 0x000B 10 1 1000 .live 4
def sRecoverN : Desc := keyField 4 0x000C 7 1 64 .live 4

/-- The keys that stand in the descriptor. -/
def streamDescFields : List Desc := [sConfrev, sAuth, sSyncReq, sGmCheck, sKeySlot, sWrap]

/-- The keys that stand beside it. -/
def streamLiveFields : List Desc := [sAlignMax, sAlignAdv, sSkewWait, sTimeout, sRecoverN]

def streamFields : List Desc := streamDescFields ++ streamLiveFields

end Sys2Proof.Machine
end

