-- ==== Sys2Proof/Machine/StateHost.lean ====
section
/-! DEFINITION. State of the host side: the service state (R27 to R33), the mailbox windows (R68), the commands in
flight (R80), the reads outstanding and the writes held (R61, R85, R90), and what the block has sent out. -/

namespace Sys2Proof.Machine

/-- The service states, numbered as GLB_SVC_STATUS.STATE (R33). -/
inductive Svc where
  | boot
  | commissioning
  | inService
  | test
  | recovery
  | halted
  deriving DecidableEq, Repr

/-- GLB_SVC_STATUS.STATE encoding (R33). -/
def Svc.code : Svc → Nat
  | .boot => 0
  | .commissioning => 1
  | .inService => 2
  | .test => 3
  | .recovery => 4
  | .halted => 5

/-- The state a GLB_SVC_STATUS.STATE code names. -/
def Svc.ofCode : Nat → Option Svc
  | 0 => some .boot
  | 1 => some .commissioning
  | 2 => some .inService
  | 3 => some .test
  | 4 => some .recovery
  | 5 => some .halted
  | _ => none

/-- Full time as replies carry it: seconds, nanoseconds and the not-traceable flag (R14, R15). -/
structure FullTime where
  sec : Nat := 0
  ns : Nat := 0
  notTraceable : Bool := true
  deriving DecidableEq, Repr

/-- A service-state transition in progress (R31, R32). -/
structure SvcChange where
  target : Svc
  cause : Nat
  /-- The command that asked for it; none for an automatic transition. -/
  cmd : Option CmdId
  /-- The first instance has changed. -/
  committed : Bool
  /-- Running instances still to change. -/
  todo : List Nat
  deriving DecidableEq, Repr

/-- The service state and its registers (R33). -/
structure SvcState where
  state : Svc := .boot
  prev : Svc := .boot
  cause : Nat := 0
  count : Word := 0
  ts32 : Word := 0
  /-- Full time of the last change, for `admin.service.get` (R97). -/
  at_ : FullTime := {}
  change : Option SvcChange := none
  /-- The cause of the present stay in RECOVERY, and whether it has cleared since entry (R29). -/
  recCause : Nat := 0
  recCleared : Bool := false
  /-- A new setting-store generation has been saved since RECOVERY was entered (R29). -/
  recSaved : Bool := false
  /-- AUTO_SERVICE of the stored configuration, and the value staged for the next save (R97). -/
  auto : Bool := false
  autoStaged : Option Bool := none
  deriving DecidableEq, Repr

/-- Where a command stands (R80). `reading` is the part of EXECUTING in which its input buffer is still being read; a
command with no buffer to read is `fetched` until its own row executes it. -/
inductive Phase where
  | reading
  | fetched
  | executing
  | committed
  | completing
  deriving DecidableEq, Repr

/-- A parameter entry (R71): a wide pair is one parameter. `idx` is the index of its first entry. -/
structure Param where
  key : Nat
  value : Nat
  wide : Bool
  idx : Nat
  deriving DecidableEq, Repr

/-- A reply (R73 to R76). -/
structure Reply where
  status : Nat := 0
  detail : Nat := 0
  /-- RESULT0 as 64 bits. -/
  res0 : Nat := 0
  /-- RESULT1; none stands for the number of bytes written to the buffer. -/
  res1 : Option Nat := none
  nres : Nat := 0
  /-- Bytes for the command's buffer. -/
  out : List Byte := []
  /-- The reply carries full time in RESULT0 and RESULT1 (R74), taken when the command retires. -/
  full : Bool := false
  notTraceable : Bool := false
  /-- The reply is `power.reset`'s: the soft reset begins once the completion is written (R59). -/
  reset : Bool := false
  deriving DecidableEq, Repr

/-- A fetched command (R80). -/
structure Cmd where
  id : CmdId
  op : Nat
  /-- Fetch order over all slices (R79). -/
  seq : Nat
  flags : Nat := 0
  timeout : Nat := 0
  bufLen : Nat := 0
  bufAddr : Nat := 0
  params : List Param := []
  /-- The input the module read from the buffer. -/
  input : List Byte := []
  phase : Phase := .fetched
  /-- `clk` when it entered EXECUTING; the timeout runs from there (R84). -/
  started : Nat := 0
  reply : Reply := {}
  /-- The inline parameter entries as bytes, kept while further entries are read from the buffer (R71). -/
  inline : List Byte := []
  deriving DecidableEq, Repr

/-- What a non-posted read of host memory is for. -/
inductive Purpose where
  /-- A submission entry of the slice's ring. -/
  | entry (slice : Nat)
  /-- A command's input buffer. -/
  | buffer (id : CmdId)
  deriving DecidableEq, Repr

/-- A non-posted read outstanding (R61, R85). -/
structure Rd where
  tag : Nat
  purpose : Purpose
  addr : Nat
  len : Nat
  /-- 0 for the first attempt, 1 for the reissue. -/
  attempt : Nat
  /-- `clk` at issue; CTO runs from there (R62). -/
  at_ : Nat
  deriving DecidableEq, Repr

/-- One mailbox window: slice 0 is the admin slice (R68), with the per-slice registers of R127. -/
structure Window where
  cfg : Cfg := {}
  enabled : Bool := false
  sqTail : Nat := 0
  cqHead : Nat := 0
  sqHead : Nat := 0
  ringErr : Bool := false
  deniedWr : Bool := false
  epoch : Word := 1
  rxTail : Nat := 0
  rxHead : Nat := 0
  txTail : Nat := 0
  txHead : Nat := 0
  cmdDone : Word := 0
  cmdAborted : Word := 0
  rxFrames : Word := 0
  rxNobuf : Word := 0
  rxBad : Word := 0
  txFrames : Word := 0
  txDrop : Word := 0
  /-- Index and phase of the next completion to write (R74). -/
  cqIdx : Nat := 0
  cqPhase : Bool := true
  /-- The completion ring has failed: later completions are discarded (R108). -/
  cqFailed : Bool := false
  /-- Fetching stopped at an instance reset and the ring has not been enabled since (R115). -/
  resetStop : Bool := false
  /-- PASID the slice is bound to (R106). -/
  pasid : Option Nat := none
  weight : Nat := 0x10
  quota : Nat := 0x080
  cap : Nat := 0x40
  atuFaults : Word := 0
  /-- Fetches left to the slice in the present weighted round (R82, R110). -/
  credit : Nat := 0
  deriving DecidableEq, Repr

/-- An address-translation entry (R107): a page of `2^log2` bytes. -/
structure AtuEntry where
  slice : Nat
  addr : Nat
  bus : Nat
  log2 : Nat
  /-- 1 read, 2 write, 3 both. -/
  access : Nat
  deriving DecidableEq, Repr

/-- A record of the ATU fault log (R127). -/
structure AtuFault where
  addr : Nat
  slice : Nat
  /-- 1 no entry, 2 permission, 3 crossed into an unmapped page. -/
  kind : Nat
  write : Bool
  /-- 1 command buffer, 2 submission fetch, 3 completion write, 4 receive ring, 5 transmit ring. -/
  source : Nat
  cid : Nat
  ts : Word
  deriving DecidableEq, Repr

/-- The address translation unit (R107 to R109, R127). -/
structure Atu where
  entries : List AtuEntry := []
  /-- Fault records 0 to 15. -/
  log : Tab AtuFault := []
  fault : Bool := false
  ovf : Bool := false
  next : Nat := 0
  deriving DecidableEq, Repr

/-- The PCIe side (R60 to R62, R89, R90). -/
structure Pcie where
  ctoSel : Nat := 0
  tag10 : Bool := false
  bme : Bool := false
  d3hot : Bool := false
  /-- The link is down for good until a cold start (R45 at t0 + 1 ms). -/
  down : Bool := false
  /-- Reads outstanding. -/
  reads : List Rd := []
  nextTag : Nat := 0
  /-- Reads that wait for a tag or for bus mastering, oldest first (R61, R90). -/
  waitReads : List Rd := []
  /-- Latched high words of 64-bit pairs: pair offset, Requester ID, value; most recent use first (R6). -/
  latches : List (Nat × Nat × Nat) := []
  /-- MSI-X table: vectors unmasked, and Pending Bit Array bits set (R427). -/
  unmasked : List Nat := []
  pba : List Nat := []
  /-- MSI-X table words the host has written, by offset. -/
  msix : Tab Nat := []
  deriving DecidableEq, Repr

end Sys2Proof.Machine
end

