-- ==== Sys2Proof/Machine/OpTable.lean ====
section
/-! DEFINITION. The 184 mailbox commands (R485): the direction of each command's buffer (R492), whether the buffer
carries further parameter entries (R71), and the parameter keys with their ranges, from the command tables of the
chapters. Reading of an entry and the checks of step 6 of R490. -/

namespace Sys2Proof.Machine

/-- One parameter key of a command: an accepted range and further accepted values. -/
structure KeySpec where
  key : Nat
  lo : Int
  hi : Int
  width : Nat := 32
  sgn : Bool := false
  req : Bool := false
  /-- Required from the admin slice only. -/
  admReq : Bool := false
  also : List Nat := []
  deriving DecidableEq, Repr

/-- What a command's buffer carries (R492). -/
inductive Dir where
  | none
  | input
  | reply
  | both
  deriving DecidableEq, Repr

/-- A mailbox command. -/
structure OpSpec where
  op : Nat
  dir : Dir
  /-- Key 0x0001 names the instance from the admin slice and is absent from an instance slice (R128). -/
  inst : Bool
  keys : List KeySpec
  deriving DecidableEq, Repr

/-- A required key. -/
def kr (key : Nat) (lo hi : Int) : KeySpec := { key := key, lo := lo, hi := hi, req := true }

/-- A required key with one further accepted value. -/
def kx (key : Nat) (lo hi : Int) (x : Nat) : KeySpec := { key := key, lo := lo, hi := hi, req := true, also := [x] }

/-- An optional key. -/
def ko (key : Nat) (lo hi : Int) : KeySpec := { key := key, lo := lo, hi := hi }

/-- A key required from the admin slice. -/
def ka (key : Nat) (lo hi : Int) : KeySpec := { key := key, lo := lo, hi := hi, admReq := true }

/-- A key of 64 bits or fewer, wide. -/
def kw (key width : Nat) (req : Bool) : KeySpec := { key := key, lo := 0, hi := (2 ^ width : Nat) - 1, width := width, req := req }

/-- The keys of a field table. -/
def keysOf (ds : List Desc) : List KeySpec :=
  (ds.filter fun d => d.key != 0).map fun d => { key := d.key, lo := d.lo, hi := d.hi, width := d.width, sgn := d.sgn }

/-- Any 32-bit value. -/
def anyVal : Int := 0xFFFFFFFF

/-- A command with no instance key. -/
def cmd (op : Nat) (dir : Dir) (keys : List KeySpec) : OpSpec := { op := op, dir := dir, inst := false, keys := keys }

/-- A command of an instance. -/
def cmdI (op : Nat) (dir : Dir) (keys : List KeySpec) : OpSpec := { op := op, dir := dir, inst := true, keys := keys }

/-- R97. -/
def adminOps : List OpSpec :=
  [cmd 0x0101 .reply [], cmd 0x0102 .reply [], cmd 0x0103 .none [kr 1 0 5, kr 2 0 5], cmd 0x0104 .none [],
   cmd 0x0105 .none [kr 1 0 512, kr 2 0 65535], cmd 0x0106 .none [kr 1 10 60000], cmd 0x0107 .reply [],
   cmd 0x0108 .reply [ka 1 0 512], cmd 0x0109 .none [], cmd 0x010A .none [kr 1 0 1], cmd 0x010B .none [kr 1 0 2047]]

/-- R128, R129. -/
def instanceOps : List OpSpec :=
  [cmdI 0x0201 .none [], cmdI 0x0202 .none [kr 2 1 1048575], cmdI 0x0203 .none [], cmdI 0x0204 .input [],
   cmdI 0x0205 .none [kw 2 64 false, ko 3 0 1], cmdI 0x0206 .none [ko 2 1 255, ko 3 1 64, ko 4 16 4096],
   cmdI 0x0207 .none (keysOf instFields ++ [ko 0x10 0 2047]), cmdI 0x0208 .reply [], cmdI 0x0209 .none [],
   cmdI 0x020A .none [ko 2 0 anyVal], cmdI 0x020B .none [kr 2 0 1], cmdI 0x020C .none [], cmdI 0x020D .reply [],
   cmdI 0x020E .input [], cmdI 0x020F .none []]

/-- R158 to R160. -/
def angleOps : List OpSpec :=
  [cmd 0x0301 .reply [kr 1 0 15], cmd 0x0302 .none (kr 1 0 15 :: keysOf angFields), cmd 0x0303 .none [kr 1 0 15],
   cmd 0x0304 .none [kr 1 0 15], cmd 0x0305 .none [kr 1 0 15, kr 2 0 1],
   cmd 0x0306 .none [kr 1 0 15, kr 2 0 1, kr 3 0 anyVal], cmdI 0x0307 .none (kr 2 0 3 :: keysOf loopFields),
   cmdI 0x0308 .reply [kr 2 0 3], cmdI 0x0309 .none [kr 2 0 3, kr 3 0 1]]

/-- R187, R188. -/
def svOps : List OpSpec :=
  [cmd 0x0401 .input [kr 1 0 2047], cmd 0x0402 .none [kr 1 0 2047],
   cmd 0x0403 .none (kr 1 0 2047 :: keysOf streamFields), cmd 0x0404 .reply [kr 1 0 2047],
   cmd 0x0405 .none [kr 1 0 2047], cmd 0x0406 .none [kr 1 0 2047], cmd 0x0407 .reply [kr 1 0 2047],
   cmd 0x0408 .reply [], cmd 0x0409 .none [kr 1 0 2047], cmd 0x040A .none [kx 1 0 2047 0xFFFF]]

/-- R209 to R211. -/
def filterOps : List OpSpec :=
  [cmd 0x0501 .none (kr 1 0 16383 :: keysOf chanFields), cmd 0x0502 .reply [kr 1 0 16383],
   cmd 0x0503 .reply [kr 1 0 3, kr 2 0 anyVal], cmd 0x0504 .reply [], cmd 0x0505 .reply [kr 1 0 16383, kr 2 0 15, kr 3 1 128],
   cmd 0x0506 .none [kr 1 0 16383, kx 2 0 15 0xFF], cmd 0x0507 .none (kr 1 0 1023 :: keysOf detFields),
   cmd 0x0508 .reply [kr 1 0 1023], cmd 0x0509 .none [kx 1 0 1023 0xFFFF]]

/-- Keys P0 to P7 of R240; their ranges are the type's. -/
def paramKeys : List KeySpec := (List.range 8).map fun i => ko (0x10 + i) 0 anyVal

/-- R239, R240. -/
def elementOps : List OpSpec :=
  [cmdI 0x0601 .input [], cmdI 0x0602 .reply [kr 3 0 1],
   cmdI 0x0603 .none ([kr 2 0 63, { ko 3 0 4095 with also := [0xFFFF] }, { ko 4 0 4095 with also := [0xFFFF] }, ko 5 0 1,
     ko 6 0 1, { ko 7 1 2 with also := [4, 8, 16] }, ko 8 0 15, ko 9 0 1] ++ paramKeys),
   cmdI 0x0604 .reply [kr 2 0 63], cmdI 0x0605 .none [], cmd 0x0606 .reply [], cmdI 0x0607 .reply [kr 2 0 63],
   cmdI 0x0608 .reply [kr 2 0 63], cmd 0x0609 .none [kr 3 0 63], cmd 0x060A .reply [kr 3 1 0x1C],
   cmdI 0x060B .none [kx 2 0 63 0xFF]]

/-- R272. -/
def logicOps : List OpSpec :=
  [cmdI 0x0701 .input [kr 2 0 1], cmdI 0x0702 .reply [kr 3 0 1], cmdI 0x0703 .reply [],
   cmdI 0x0704 .reply [kr 3 0 4095, kr 4 1 4096], cmdI 0x0705 .none [kr 3 1664 1791, kr 4 0 1],
   cmdI 0x0706 .none [kr 3 0 anyVal, kr 4 0 1], cmdI 0x0707 .none [kr 3 0 anyVal], cmdI 0x0708 .reply [],
   cmdI 0x0709 .reply [kr 3 0 anyVal], cmdI 0x070A .reply [], cmd 0x070B .reply [], cmd 0x070C .none [kr 2 1 164]]

/-- R298, R299. An output is the module's, so that key 0x0001 may be left out of its commands (DEDUCED). -/
def tripOps : List OpSpec :=
  [cmdI 0x0801 .input [kr 2 0 31], cmdI 0x0802 .reply [kr 2 0 31], cmdI 0x0803 .reply [kr 2 0 31],
   cmdI 0x0804 .none [kr 2 0 31], cmdI 0x0805 .input [kr 2 0 63], cmdI 0x0806 .reply [kr 2 0 63],
   cmdI 0x0807 .reply [kr 2 0 63], cmdI 0x0808 .none [kx 2 0 63 0xFF],
   cmd 0x0809 .none (ko 1 1 512 :: kr 2 0 7 :: keysOf outFields), cmd 0x080A .reply [ko 1 1 512, kr 2 0 7],
   cmd 0x080B .none [ko 1 1 512, kr 2 0 7], cmd 0x080C .reply [ko 1 1 512, kr 3 0 15]]

/-- R329, R330. -/
def tandemOps : List OpSpec :=
  [cmd 0x0901 .reply [], cmd 0x0902 .none (keysOf tdmFields), cmd 0x0903 .reply [], cmd 0x0904 .none [],
   cmd 0x0905 .none [kr 1 1 1], cmd 0x0906 .none [], cmd 0x0907 .reply [], cmd 0x0908 .reply [], cmd 0x0909 .none [],
   cmd 0x090A .reply []]

/-- R371 to R374. Keys 0x000E and 0x0015 of `port.config.set` name several fields. -/
def portOps : List OpSpec :=
  [cmd 0x0A01 .none (kr 1 0 47 :: kw 0x0E 64 false :: ko 0x15 0 anyVal :: keysOf portFields), cmd 0x0A02 .reply [kr 1 0 47],
   cmd 0x0A03 .reply [kr 1 0 47], cmd 0x0A04 .none [kr 1 0 47], cmd 0x0A05 .none [kr 1 0 47],
   cmd 0x0A06 .none [kx 1 0 47 0xFF], cmd 0x0A07 .input [kr 1 0 47], cmd 0x0A08 .reply [kr 1 0 47, kr 2 0 1],
   cmd 0x0A09 .none (kr 1 1 512 :: kw 2 48 false :: ko 3 1 4094 :: keysOf vpFields), cmd 0x0A0A .reply [kr 1 1 512],
   cmd 0x0A0B .input [], cmd 0x0A0C .reply [kr 2 0 65535, kr 3 1 4096], cmd 0x0A0D .none [kx 1 0 47 0xFF],
   cmd 0x0A0E .input [], cmd 0x0A0F .input [], cmd 0x0A10 .none (kr 2 0 3 :: keysOf mirFields),
   cmd 0x0A11 .none (kr 2 0 23 :: keysOf pairFields), cmd 0x0A12 .reply [kr 2 0 23], cmd 0x0A13 .reply [kr 1 0 562],
   cmd 0x0A14 .none [], cmd 0x0A15 .none (keysOf swFields)]

/-- R393, R394. -/
def timeOps : List OpSpec :=
  [cmd 0x0B01 .reply [], cmd 0x0B02 .none [], cmd 0x0B03 .none (keysOf timeFields), cmd 0x0B04 .reply [],
   cmd 0x0B05 .none (kr 1 0 47 :: keysOf timePortFields), cmd 0x0B06 .reply [kr 1 0 47], cmd 0x0B07 .none [],
   cmd 0x0B08 .none [kw 2 48 true, kr 3 0 1], cmd 0x0B09 .none [kx 1 0 47 0xFF]]

/-- R418. -/
def archiveOps : List OpSpec :=
  [cmd 0x0C01 .input [kr 1 0 255], cmd 0x0C02 .reply [kr 1 0 255], cmd 0x0C03 .none [kr 1 0 255], cmd 0x0C04 .none [kr 1 0 255],
   cmd 0x0C05 .none [kr 1 0 255], cmd 0x0C06 .none [kr 1 0 255], cmd 0x0C07 .reply [],
   cmd 0x0C08 .reply [kr 2 0 anyVal, kr 3 1 4096], cmd 0x0C09 .none [kr 2 0 anyVal, kr 3 1 65536],
   cmd 0x0C0A .none [kr 2 0 anyVal, kr 3 0 1], cmd 0x0C0B .none [kr 2 0 15, kr 3 0 anyVal, kr 4 0 anyVal],
   cmd 0x0C0C .none [kr 2 0 15], cmd 0x0C0D .none [kr 2 0 1], cmd 0x0C0E .none []]

/-- Keys of R451. -/
def notifyKeys : List KeySpec :=
  [ko 2 0 0x7FFF, ko 3 0 14, ko 4 0 3, ko 5 0 3, ko 6 0 3, ko 0x10 0 1000, ko 0x11 0 1000, ko 0x12 0 1000, ko 0x13 0 1000,
   ko 0x14 0 4, ko 0x15 0 4, ko 0x16 0 4, ko 0x17 0 4]

/-- R450, R451. -/
def signalOps : List OpSpec :=
  [cmd 0x0D01 .reply [kw 2 64 true, kr 3 1 1024], cmd 0x0D02 .reply [], cmd 0x0D03 .none [kw 2 64 true], cmd 0x0D04 .input [],
   cmd 0x0D05 .none [kr 2 0 4], cmd 0x0D06 .reply [], cmd 0x0D07 .none (kr 1 0 512 :: notifyKeys),
   cmd 0x0D08 .reply [ka 1 0 512], cmd 0x0D09 .none [], cmd 0x0D0A .none [kr 2 0 anyVal], cmd 0x0D0B .input [],
   cmd 0x0D0C .none [ko 2 1 1000, ko 3 1 100]]

/-- R478. -/
def keyOps : List OpSpec :=
  [cmd 0x0E01 .reply [], cmd 0x0E02 .input [], cmd 0x0E03 .none [kr 2 240 65520], cmd 0x0E04 .input [kr 2 0 anyVal],
   cmd 0x0E05 .none [], cmd 0x0E06 .none [], cmd 0x0E07 .reply [kr 2 0 1023], cmd 0x0E08 .none [kr 2 0 1023],
   cmd 0x0E09 .reply [kr 2 0 15], cmd 0x0E0A .both [kr 2 0 15], cmd 0x0E0B .both [kr 2 0 anyVal, kr 3 0 anyVal],
   cmd 0x0E0C .none [kr 2 0 1]]

/-- R479. -/
def updateOps : List OpSpec :=
  [cmd 0x0F01 .reply [], cmd 0x0F02 .none [kr 2 320 201326592], cmd 0x0F03 .input [kr 2 0 anyVal], cmd 0x0F04 .none [],
   cmd 0x0F05 .none [], cmd 0x0F06 .none [kr 2 0 1, kr 3 0 1], cmd 0x0F07 .none [], cmd 0x0F08 .none [],
   cmd 0x0F09 .none [kr 2 1 60]]

/-- R59. -/
def powerOps : List OpSpec :=
  [cmd 0x1001 .reply [], cmd 0x1002 .none [kr 1 10 86400], cmd 0x1003 .reply [], cmd 0x1004 .none [kr 1 0 1],
   cmd 0x1005 .none [], cmd 0x1006 .reply [], cmd 0x1007 .none [kr 1 60 90], cmd 0x1008 .none [ko 1 0 0]]

/-- The commands of a range. -/
def opsOf : Nat → List OpSpec
  | 1 => adminOps
  | 2 => instanceOps
  | 3 => angleOps
  | 4 => svOps
  | 5 => filterOps
  | 6 => elementOps
  | 7 => logicOps
  | 8 => tripOps
  | 9 => tandemOps
  | 10 => portOps
  | 11 => timeOps
  | 12 => archiveOps
  | 13 => signalOps
  | 14 => keyOps
  | 15 => updateOps
  | 16 => powerOps
  | _ => []

/-- The command of an opcode. -/
def opSpec (op : Nat) : Option OpSpec := (opsOf (op / 256)).find? fun o => o.op == op

/-- `sv.stream.set` with a buffer of 160 bytes carries a descriptor there, and its keys inline (R183). -/
def descriptorForm (op bufLen : Nat) : Bool := op == 0x0403 && bufLen == 160

/-- Commands whose buffer carries further parameter entries (R71): those that take keys and no other buffer. -/
def takesList (o : OpSpec) : Bool := o.dir == .none && (o.inst || !o.keys.isEmpty)

/-- Commands that read their buffer. -/
def readsBuffer (o : OpSpec) : Bool := o.dir == .none || o.dir == .input || o.dir == .both

/-- Commands that write their buffer. -/
def writesBuffer (o : OpSpec) : Bool := o.dir == .reply || o.dir == .both

/-- The keys a command takes from a slice: key 0x0001 names the instance from the admin slice (R128). -/
def keysFrom (o : OpSpec) (slice : Nat) : List KeySpec :=
  if o.inst && slice == 0 then kr 1 1 512 :: o.keys else o.keys

/-! ## Parameter entries (R71, R490) -/

/-- One entry as the bytes spell it: key, attributes, value. -/
structure RawParam where
  key : Nat
  attr : Nat
  value : Nat
  deriving DecidableEq, Repr

/-- The entries of a byte string, eight bytes each. -/
def rawParams : Nat → List Byte → List RawParam
  | 0, _ => []
  | n + 1, b => { key := leAt b 0 2, attr := leAt b 2 2, value := leAt b 4 4 } :: rawParams n (b.drop 8)

/-- Take entries into parameters: a wide value and its high word are one parameter. A malformed entry, with an attribute
that only the module sets or a wide value without its high word, is kept under key 0, which no command takes. -/
def joinParams : Nat → List RawParam → List Param
  | _, [] => []
  | i, [a] => [{ key := if a.attr = 0 then a.key else 0, value := a.value, wide := false, idx := i }]
  | i, a :: b :: t =>
    if a.attr = 1 then
      if b.key = a.key then
        { key := a.key, value := a.value + b.value * 2 ^ 32, wide := true, idx := i } :: joinParams (i + 2) t
      else { key := 0, value := 0, wide := true, idx := i } :: joinParams (i + 1) (b :: t)
    else { key := if a.attr = 0 then a.key else 0, value := a.value, wide := false, idx := i } :: joinParams (i + 1) (b :: t)

/-- Is a value in the range of a key? -/
def keyOk (k : KeySpec) (v : Nat) : Bool :=
  if k.sgn then decide (v < 2 ^ k.width) && decide (k.lo ≤ sext k.width v) && decide (sext k.width v ≤ k.hi)
  else (decide (k.lo ≤ (v : Int)) && decide ((v : Int) ≤ k.hi)) || k.also.contains v

/-- The first parameter with an unknown key or a value out of range. -/
def badParam (ks : List KeySpec) (ps : List Param) : Option Nat :=
  (ps.find? fun p =>
    match ks.find? fun k => k.key == p.key with
    | some k => !keyOk k p.value || (p.wide && decide (k.width ≤ 32))
    | none => true).map (·.idx)

/-- The lowest required key that is absent (R76). -/
def missingKey (ks : List KeySpec) (slice : Nat) (ps : List Param) : Option Nat :=
  let absent := ks.filter fun k => (k.req || (k.admReq && slice == 0)) && !(ps.any fun p => p.key == k.key)
  absent.foldl (fun m k => match m with
    | none => some k.key
    | some x => some (min x k.key)) none

/-- Check a command's parameters: the reply of a failure of step 6 of R490, or the parameters. -/
def checkParams (o : OpSpec) (slice : Nat) (raw : List RawParam) : Except Reply (List Param) :=
  let ps := joinParams 0 raw
  match badParam (keysFrom o slice) ps with
  | some i => .error { status := 3, detail := i }
  | none =>
    match missingKey (keysFrom o slice) slice ps with
    | some k => .error { status := 3, detail := 0xFFFC, res0 := k, nres := 1 }
    | none => .ok ps

end Sys2Proof.Machine
end

