-- ==== Sys2Proof/Machine/Digest.lean ====
section
/-! DEFINITION. The digests that images, saved states, folios and link records carry: SHA-384 (FIPS 180-4), CRC-32 of
IEEE 802.3 and CRC-64 of ECMA-182 in the form of R310. -/

namespace Sys2Proof.Machine

/-- The 80 round constants of SHA-384. -/
def shaK0 : List Nat :=
  [0x428a2f98d728ae22, 0x7137449123ef65cd, 0xb5c0fbcfec4d3b2f, 0xe9b5dba58189dbbc, 0x3956c25bf348b538,
   0x59f111f1b605d019, 0x923f82a4af194f9b, 0xab1c5ed5da6d8118, 0xd807aa98a3030242, 0x12835b0145706fbe,
   0x243185be4ee4b28c, 0x550c7dc3d5ffb4e2, 0x72be5d74f27b896f, 0x80deb1fe3b1696b1, 0x9bdc06a725c71235,
   0xc19bf174cf692694, 0xe49b69c19ef14ad2, 0xefbe4786384f25e3, 0x0fc19dc68b8cd5b5, 0x240ca1cc77ac9c65,
   0x2de92c6f592b0275, 0x4a7484aa6ea6e483, 0x5cb0a9dcbd41fbd4, 0x76f988da831153b5, 0x983e5152ee66dfab,
   0xa831c66d2db43210, 0xb00327c898fb213f, 0xbf597fc7beef0ee4, 0xc6e00bf33da88fc2, 0xd5a79147930aa725,
   0x06ca6351e003826f, 0x142929670a0e6e70, 0x27b70a8546d22ffc, 0x2e1b21385c26c926, 0x4d2c6dfc5ac42aed,
   0x53380d139d95b3df, 0x650a73548baf63de, 0x766a0abb3c77b2a8, 0x81c2c92e47edaee6, 0x92722c851482353b]

/-- The second half of the round constants. -/
def shaK1 : List Nat :=
  [0xa2bfe8a14cf10364, 0xa81a664bbc423001, 0xc24b8b70d0f89791, 0xc76c51a30654be30, 0xd192e819d6ef5218,
   0xd69906245565a910, 0xf40e35855771202a, 0x106aa07032bbd1b8, 0x19a4c116b8d2d0c8, 0x1e376c085141ab53,
   0x2748774cdf8eeb99, 0x34b0bcb5e19b48a8, 0x391c0cb3c5c95a63, 0x4ed8aa4ae3418acb, 0x5b9cca4f7763e373,
   0x682e6ff3d6b2b8a3, 0x748f82ee5defb2fc, 0x78a5636f43172f60, 0x84c87814a1f0ab72, 0x8cc702081a6439ec,
   0x90befffa23631e28, 0xa4506cebde82bde9, 0xbef9a3f7b2c67915, 0xc67178f2e372532b, 0xca273eceea26619c,
   0xd186b8c721c0c207, 0xeada7dd6cde0eb1e, 0xf57d4f7fee6ed178, 0x06f067aa72176fba, 0x0a637dc5a2c898a6,
   0x113f9804bef90dae, 0x1b710b35131c471b, 0x28db77f523047d84, 0x32caab7b40c72493, 0x3c9ebe0a15c9bebc,
   0x431d67c49c100d4c, 0x4cc5d4becb3e42b6, 0x597f299cfc657e2a, 0x5fcb6fab3ad6faec, 0x6c44198c4a475817]

/-- A 64-bit word of the hash. -/
abbrev H64 := BitVec 64

def ror64 (x : H64) (n : Nat) : H64 := (x >>> n) ||| (x <<< (64 - n))

/-- The eight working words. -/
structure ShaSt where
  a : H64
  b : H64
  c : H64
  d : H64
  e : H64
  f : H64
  g : H64
  h : H64

def shaInit : ShaSt :=
  ⟨0xcbbb9d5dc1059ed8, 0x629a292a367cd507, 0x9159015a3070dd17, 0x152fecd8f70e5939, 0x67332667ffc00b31,
   0x8eb44a8768581511, 0xdb0c2e0d64f98fa7, 0x47b5481dbefa4fa4⟩

def shaRound (s : ShaSt) (k : Nat) (w : H64) : ShaSt :=
  let s1 := ror64 s.e 14 ^^^ ror64 s.e 18 ^^^ ror64 s.e 41
  let ch := (s.e &&& s.f) ^^^ ((~~~ s.e) &&& s.g)
  let t1 := s.h + s1 + ch + BitVec.ofNat 64 k + w
  let s0 := ror64 s.a 28 ^^^ ror64 s.a 34 ^^^ ror64 s.a 39
  let maj := (s.a &&& s.b) ^^^ (s.a &&& s.c) ^^^ (s.b &&& s.c)
  ⟨t1 + s0 + maj, s.a, s.b, s.c, s.d + t1, s.e, s.f, s.g⟩

/-- The next schedule word from the last sixteen, newest first. -/
def shaNext (ws : List H64) : H64 :=
  let w2 := ws.getD 1 0
  let w7 := ws.getD 6 0
  let w15 := ws.getD 14 0
  let w16 := ws.getD 15 0
  (ror64 w2 19 ^^^ ror64 w2 61 ^^^ (w2 >>> 6)) + w7 + (ror64 w15 1 ^^^ ror64 w15 8 ^^^ (w15 >>> 7)) + w16

/-- Rounds over the constants left; the block's own words first, then the schedule. -/
def shaRounds : List Nat → List H64 → List H64 → ShaSt → ShaSt
  | [], _, _, s => s
  | k :: ks, w :: todo, ws, s => shaRounds ks todo (w :: ws) (shaRound s k w)
  | k :: ks, [], ws, s => let w := shaNext ws; shaRounds ks [] ((w :: ws).take 16) (shaRound s k w)

/-- The number that bytes spell, most significant first. -/
def unbe (l : List Byte) : Nat := l.foldl (fun a b => a * 256 + b.toNat) 0

/-- A number as `n` bytes, most significant first. -/
def be (n v : Nat) : List Byte := (le n v).reverse

def shaWords : Nat → List Byte → List H64
  | 0, _ => []
  | n + 1, l => BitVec.ofNat 64 (unbe (l.take 8)) :: shaWords n (l.drop 8)

def shaBlock (s : ShaSt) (blk : List Byte) : ShaSt :=
  let t := shaRounds (shaK0 ++ shaK1) (shaWords 16 blk) [] s
  ⟨s.a + t.a, s.b + t.b, s.c + t.c, s.d + t.d, s.e + t.e, s.f + t.f, s.g + t.g, s.h + t.h⟩

def shaBlocks : Nat → List Byte → ShaSt → ShaSt
  | 0, _, s => s
  | n + 1, l, s => shaBlocks n (l.drop 128) (shaBlock s (l.take 128))

/-- SHA-384 of a byte string: 48 bytes. -/
def sha384 (l : List Byte) : List Byte :=
  let n := l.length
  let pad := (128 - (n + 17) % 128) % 128
  let m := l ++ [0x80] ++ zeros pad ++ be 16 (8 * n)
  let s := shaBlocks ((n + 17 + pad) / 128) m shaInit
  be 8 s.a.toNat ++ be 8 s.b.toNat ++ be 8 s.c.toNat ++ be 8 s.d.toNat ++ be 8 s.e.toNat ++ be 8 s.f.toNat

/-- Eight shift steps of a reflected CRC. -/
def crcStep (poly : Nat) : Nat → Nat → Nat
  | 0, c => c
  | n + 1, c => crcStep poly n (if c % 2 = 1 then (c / 2) ^^^ poly else c / 2)

/-- CRC-32 of IEEE 802.3. -/
def crc32 (l : List Byte) : Nat :=
  l.foldl (fun c b => crcStep 0xEDB88320 8 (c ^^^ b.toNat)) 0xFFFFFFFF ^^^ 0xFFFFFFFF

/-- Eight shift steps of a CRC-64 taken most significant bit first. -/
def crc64Step : Nat → Nat → Nat
  | 0, c => c
  | n + 1, c => crc64Step n (if c ≥ 2 ^ 63 then ((2 * c) % 2 ^ 64) ^^^ 0x42F0E1EBA9EA3693 else (2 * c) % 2 ^ 64)

/-- CRC-64 of ECMA-182 in its plain form (R310): initial value 0, no reflection, no final inversion. -/
def crc64 (l : List Byte) : Nat := l.foldl (fun c b => crc64Step 8 (c ^^^ (b.toNat * 2 ^ 56))) 0

end Sys2Proof.Machine
end

