-- ==== Sys2Proof/Machine/StateSignal.lean ====
section
/-! DEFINITION. State of the notification units (R420 to R427), the module alarm and fault (R428), the X3 input
filters and latches (R430, R431), the error contexts (R434) and the Chronicle (R436 to R449). -/

namespace Sys2Proof.Machine

/-- A slice's notification unit (R420, R448); the admin slice's unit has the same fields (R421, R447). -/
structure Ntf where
  /-- Edge sources whose event has come and is not claimed. -/
  pend : Nat := 0
  claimed : Nat := 0
  /-- Edge sources whose event recurred while claimed (R422). -/
  again : Nat := 0
  enable : Nat := 0x7FF
  /-- Vector of source s in bits [2s+1:2s] (SLC_NTF_ROUTE). -/
  route : Nat := 0x3FFFE4
  /-- Group and sub-priority of source s in bits [4s+3:4s]. -/
  prio : Nat := 0xC4444000884
  /-- MOD_INT in µs and BYPASS of each vector that differs from reset. -/
  modInt : Tab Nat := []
  bypass : Tab Nat := []
  /-- `clk` of the last message sent on each vector (R426). -/
  last : Tab Nat := []
  /-- Vectors that hold a due message back under moderation (R426). -/
  held : Nat := 0
  deriving DecidableEq, Repr

/-- A module-wide error context (R434). -/
structure ErrCtx where
  code : Nat := 0
  obj : Nat := 0
  count : Nat := 0
  isOpen : Bool := false
  first : Word := 0
  last : Word := 0
  deriving DecidableEq, Repr

/-- One of the 20 X3 inputs behind its glitch filter (R430) and its two latches (R431). -/
structure X3 where
  /-- Pin level. -/
  pins : Nat := 0
  /-- Filtered levels, as NTF_X3_STATE. -/
  state : Nat := 0
  /-- The filters run: from pipeline start until REDUCED (R430). -/
  running : Bool := false
  trigFilt : Nat := 4
  bkFilt : Nat := 4
  /-- The rail latches (R431), armed while the filters are not running. -/
  rise : Nat := 0
  fall : Nat := 0
  /-- NTF_X3_LATCH_R and NTF_X3_LATCH_F. -/
  regR : Nat := 0
  regF : Nat := 0
  deriving DecidableEq, Repr

/-- The module-wide signalling state (R428, R434, R447). -/
structure Signal where
  alarm : Nat := 0
  fault : Bool := false
  faultCause : Nat := 0
  accAddr : Nat := 0
  accBar2 : Bool := false
  accWrite : Bool := false
  accCount : Nat := 0
  ctx : Tab ErrCtx := []
  opened : Nat := 0
  x3 : X3 := {}
  deriving DecidableEq, Repr

/-- A Chronicle entry (R437). -/
structure Entry where
  acc : Nat
  opsec : Nat
  sev : Nat
  code : Nat
  cycles : Nat
  time : FullTime
  /-- FLAGS bits kept with the entry: [1] RESERVE, [2] SINGLE. -/
  flags : Nat := 0
  rep : Nat := 0
  inst : Nat := 0
  slice : Nat := 0xFFFF
  obj : Nat := 0xFFFF
  /-- DATA words, four at most. -/
  data : List Nat := []
  lastTs : Word := 0
  deriving DecidableEq, Repr

/-- An item of the Chronicle queue (R439): a new entry or a repeat rewrite of an entry. -/
structure ChrItem where
  entry : Entry
  rewrite : Bool
  deriving DecidableEq, Repr

/-- The Chronicle (R436 to R449). -/
structure Chron where
  /-- The log areas of device 0 and device 1, by accession. -/
  dev0 : Tab Entry := []
  dev1 : Tab Entry := []
  ok0 : Bool := true
  ok1 : Bool := true
  queue : List ChrItem := []
  /-- The newest accepted entry (R440). -/
  newest : Option Entry := none
  first : Nat := 1
  next : Nat := 1
  /-- The header's record of the last clear: the accession that became CHR_FIRST (R443, R446). -/
  clearRec : Nat := 1
  reserve : List Entry := []
  dropped : Word := 0
  repaired : Word := 0
  lost : Word := 0
  droppedFlag : Bool := false
  repairedFlag : Bool := false
  /-- Entries dropped since the last entry of code 0x0D06 (R439). -/
  droppedSince : Nat := 0
  notifySev : Nat := 2
  deriving DecidableEq, Repr

/-- A slot of the counter area of an FRAM device (R57): sequence number, operating seconds, power cycles. -/
structure CounterSlot where
  seq : Nat
  opsec : Nat
  cycles : Nat
  deriving DecidableEq, Repr

end Sys2Proof.Machine
end

