-- ==== Sys2Proof/Machine/StatePower.lean ====
section
/-! DEFINITION. State of power, rails, start-up, the energy meters and the elapsed-time counters (R36 to R59, R491). -/

namespace Sys2Proof.Machine

/-- Where the power-fail sequence of R45 stands. -/
inductive PfwStep where
  | idle
  /-- PFW asserted, t0. -/
  | warned
  /-- t0 + 100 µs done. -/
  | outputsOff
  /-- t0 + 500 µs done. -/
  | gasped
  /-- t0 + 600 µs done. -/
  | linksDown
  /-- t0 + 1 ms done. -/
  | pcieDown
  /-- t0 + 4 ms done, and the counter persisted at t0 + 5 ms. -/
  | entered
  deriving DecidableEq, Repr

/-- An energy interval (R59). -/
structure Energy where
  /-- Duration in seconds, `clk` at the start. -/
  duration : Nat
  start : Nat
  energy0 : Nat
  pcs0 : Nat
  running : Bool
  energy1 : Nat := 0
  pcs1 : Nat := 0
  /-- A soft reset fell inside it. -/
  soft : Bool := false
  deriving DecidableEq, Repr

/-- Power, supervision and start-up. -/
structure Power where
  /-- 12 V good stands (R43): the module is powered. Reset is the state at 12 V good. -/
  good : Bool := true
  modEn : Bool := true
  /-- How many of the eight rails are up, in the order of R43. -/
  rails : Nat := 0
  /-- The power-up sequence has been retried once (R44). -/
  retried : Bool := false
  /-- PWR_STATUS.STATE: 1 FULL, 2 REDUCED. -/
  state : Nat := 1
  pfw : PfwStep := .idle
  pfwArmed : Bool := false
  /-- `clk` at the assertion of PFW. -/
  pfwAt : Nat := 0
  holdupReady : Bool := false
  therm : Bool := false
  holdupFail : Bool := false
  railFault : Nat := 0
  cfg : Cfg := {}
  vin : Nat := 0
  iin : Nat := 0
  trpTemp : Nat := 0
  dieTemp : Nat := 0
  gated : Nat := 0
  phase : Nat := 0
  mbxReady : Bool := false
  fail : Bool := false
  dbg : Bool := false
  bankB : Bool := false
  /-- The completion of `power.reset` has been written: a soft reset is due (R59). -/
  resetDue : Bool := false
  /-- The start-up in progress follows a soft reset (R491). -/
  soft : Bool := false
  /-- A module fault arose during BOOT: the pipeline is not started (R30). -/
  bootFault : Bool := false
  deriving DecidableEq, Repr

/-- PHY_RST#, MOD_ALERT# and PFW_OUT# (R37, R38); true is the low, asserted level. -/
structure Pins where
  phyRst : Bool := true
  modAlert : Bool := false
  pfwOut : Bool := false
  deriving DecidableEq, Repr

/-- Meters and counters (R53, R54, R57, R58). -/
structure Meters where
  /-- Meters 0 to 9 and 11 in µJ; meter 10 is computed. -/
  energy : Tab Nat := []
  /-- Protected channel-samples (R23). -/
  pcs : Nat := 0
  /-- For each channel, the time in 2^-16 ns up to which its samples have been counted. -/
  pcsAt : Tab Nat := []
  snapTs : Word := 0
  snap : Tab Nat := []
  snapPcs : Nat := 0
  opsec : Nat := 0
  cycles : Nat := 0
  interval : Option Energy := none
  /-- `clk` at the start of a hold-up test (R49). -/
  holdup : Option Nat := none
  /-- Counter slots 0 and 1 of each FRAM device (R57). -/
  slots0 : Tab CounterSlot := []
  slots1 : Tab CounterSlot := []
  seq : Nat := 0
  deriving DecidableEq, Repr

end Sys2Proof.Machine
end

