-- ==== Sys2Proof/Machine/StateNet.lean ====
section
/-! DEFINITION. State of the ports and the switch core (R331 to R374) and of network time (R375 to R394). -/

namespace Sys2Proof.Machine

/-- What a copy must tell its sender when it leaves: the transmit descriptor that asked for a stamp (R95, R388). -/
structure TxRef where
  slice : Nat
  idx : Nat
  tsreq : Bool
  deriving DecidableEq, Repr

/-- A copy of a frame queued on an egress port (R350 to R356). -/
structure Copy where
  /-- The stored frame the copy refers to. -/
  fid : Nat
  frame : Frame
  cls : Nat
  /-- Port the frame came from; 48 to 50 for the module's own, above 50 for a virtual port. -/
  ingress : Nat
  /-- `clk` at the arrival of the first bit or at hand-in (R356), and the PHC then, in 2^-16 ns. -/
  arrival : Nat
  stamp : Nat
  notTraceable : Bool
  own : Nat
  com : Nat
  /-- Cells charged to MIRROR_CAP (R358). -/
  mir : Nat := 0
  tx : Option TxRef := none
  /-- Launch time in 2^-16 ns where the frame has one (R389). -/
  launch : Option Nat := none
  /-- The message asks the firmware for its stamp (R388). -/
  fwStamp : Bool := false
  deriving DecidableEq, Repr

/-- A transmit-ring frame that waits for its hand-in, 5 µs before its launch time (R389): the slice, its first
descriptor and how many, its launch time in 2^-16 ns, whether it asks for a stamp, its class and the frame. -/
structure LaunchWait where
  slice : Nat
  first : Nat
  num : Nat
  launch : Nat
  tsreq : Bool
  cls : Nat
  frame : Frame
  deriving DecidableEq, Repr

/-- The queues and the shelf charges of an egress port, by class; internal and virtual ports use class 0 for charges. -/
structure Egress where
  queues : Tab (List Copy) := []
  ownUsed : Tab Nat := []
  comUsed : Tab Nat := []
  comPort : Nat := 0
  deriving DecidableEq, Repr

/-- A gate control list (R361): base time in ns, cycle, and (gate states, interval) entries. -/
structure Gcl where
  base : Nat
  cycle : Nat
  entries : List (Nat × Nat)
  deriving DecidableEq, Repr

/-- A residence value a transparent clock holds until the Follow_Up (R381). -/
structure Residence where
  seq : Nat
  srcId : Nat
  srcPort : Nat
  value : Int
  at_ : Nat
  deriving DecidableEq, Repr

/-- A physical port (R331 to R338, R369) with its PTP side (R392, R393). -/
structure Port where
  cfg : Cfg := {}
  link : Bool := false
  speedAct : Nat := 0
  held : Bool := false
  paused : Bool := false
  /-- `clk` when the port was last found held with no unpaused interval of 100 µs before it, and at pause's end. -/
  pausedSince : Nat := 0
  pauseEnd : Nat := 0
  unpausedAt : Nat := 0
  lastPause : Nat := 0
  pauseWd : Bool := false
  wdActive : Bool := false
  wake : Bool := false
  preemptAct : Bool := false
  verify : Nat := 0
  gatesRun : Bool := false
  frozen : Bool := false
  frozenAt : Nat := 0
  wrDenied : Bool := false
  counts : Tab Word := []
  gcl : Option Gcl := none
  gclNext : Option (Gcl × Nat) := none
  gates : Nat := 0xFF
  entry : Nat := 0
  /-- PHC time in 2^-16 ns at which the running gate entry ends. -/
  gateEnd : Nat := 0
  /-- PHC time of the first cycle start at which the gates are to start (R362). -/
  gateAt : Option Nat := none
  /-- The frame being sent: `clk` at its start and at the end of its gap, and its class (R355, R364). -/
  busyStart : Nat := 0
  busyUntil : Nat := 0
  busyCls : Nat := 0
  /-- `clk` until which an express frame that preempted it is being sent. -/
  exprUntil : Nat := 0
  /-- `clk` of the last verification attempt (R364). -/
  verifyAt : Nat := 0
  /-- Physical transmitter off after a switch or port fault (R339). -/
  txOff : Bool := false
  ptp : Cfg := {}
  pstate : Nat := 0
  /-- meanLinkDelay in 2^-16 ns. -/
  pdelay : Nat := 0
  tsqOvf : Word := 0
  launchLate : Word := 0
  foreign : Word := 0
  /-- Entries of the transmit timestamp queue in use (R388): `clk` at which each is freed. -/
  tsq : List Nat := []
  residence : List Residence := []
  /-- Peer delay measurement (2^-16 ns): sequence of the last Pdelay_Req, its transmit stamp, and of a two-step response
  the receipt stamp less corrections and the request receipt time. -/
  pdSeq : Nat := 0
  pdT1 : Option Nat := none
  pdT4 : Option Int := none
  pdT2 : Option Int := none
  /-- Sequences of the port's own Sync and Announce messages. -/
  syncSeq : Nat := 0
  annSeq : Nat := 0
  /-- Announce as last received: message, `clk` (R380). -/
  announce : Option (PtpMsg × Nat) := none
  /-- The Sync waiting for its Follow_Up: sequence, receipt stamp, correction. -/
  sync : Option (Nat × Nat × Int) := none
  deriving DecidableEq, Repr

/-- A forwarding entry (R342, R343, R374). -/
structure Fdb where
  vid : Nat
  mac : Nat
  static : Bool
  group : Bool
  target : Nat
  /-- `clk` of the last frame from the address. -/
  seen : Nat := 0
  deriving DecidableEq, Repr

/-- A destination group (R374). -/
structure Group where
  ports : Nat
  vports : List Nat
  deriving DecidableEq, Repr

/-- VLAN membership and untag set over ports 0 to 50 (R374). -/
structure Vlan where
  members : Nat
  untag : Nat
  deriving DecidableEq, Repr

/-- A virtual port (R344, R373). -/
structure Vport where
  cfg : Cfg := {}
  macs : List Nat := []
  vlans : List Nat := []
  macsStaged : Option (List Nat) := none
  vlansStaged : Option (List Nat) := none
  deriving DecidableEq, Repr

/-- A redundancy pair (R365, R371). -/
structure RPair where
  cfg : Cfg := {}
  dup : Word := 0
  outWindow : Word := 0
  wrongLan : Word := 0
  nodeFull : Word := 0
  seq : Nat := 0
  /-- Members restarted since the configuration was staged (R365). -/
  done : List Nat := []
  /-- `clk` of the last supervision frame. -/
  supAt : Nat := 0
  deriving DecidableEq, Repr

/-- A duplicate-discard window (R368): direction 0 consuming, 1 and 2 forwarding to the first and second ring port. -/
structure DdWin where
  pair : Nat
  src : Nat
  dir : Nat
  high : Nat
  marks : List Nat
  last : Nat
  deriving DecidableEq, Repr

/-- The switch core. -/
structure Switch where
  cfg : Cfg := {}
  free : Nat := 131072
  commonUsed : Nat := 0
  /-- Stored frames: cells and copies that hold them. -/
  bufs : Tab (Nat × Nat) := []
  nextFid : Nat := 0
  eg : Tab Egress := []
  fdb : List Fdb := []
  groups : Tab Group := []
  vlans : Tab Vlan := []
  vports : Tab Vport := []
  mirrors : Tab Cfg := []
  mirUsed : Nat := 0
  pairs : Tab RPair := []
  dd : List DdWin := []
  leak : Bool := false
  countFix : Bool := false
  fdbFull : Bool := false
  ddFull : Bool := false
  stRunning : Bool := false
  stGen : Nat := 0
  stLast : Nat := 0
  stPasses : Word := 0
  stLeaked : Word := 0
  stFixed : Word := 0
  nodeFull : Word := 0
  /-- `clk` of passes that found leaks, for the 60 s of R360. -/
  leakTimes : List Nat := []
  /-- Own-shelf sizes in effect of the switch core's ports are `cfg`'s; forwarding is on (R339). -/
  forwarding : Bool := false
  launchWait : List LaunchWait := []
  /-- Transmit descriptors that wait for the stamp of their first physical copy (R388). -/
  txWait : List TxRef := []
  deriving DecidableEq, Repr

/-- The clock states (R377). -/
inductive Clk where
  | free
  | acquiring
  | locked
  | holdover
  | lost
  deriving DecidableEq, Repr

/-- PTP_STATUS.STATE code (R377). -/
def Clk.code : Clk → Nat
  | .free => 0
  | .acquiring => 1
  | .locked => 2
  | .holdover => 3
  | .lost => 4

/-- The PTP hardware clock and the time function (R375 to R394). -/
structure Time where
  /-- N in units of 2^-16 ns (R375). -/
  n : Nat := 0
  /-- Fraction of 2^-16 ns carried by the frequency adjustment, in units of 2^-16 ns × 10^-12. -/
  frac : Int := 0
  cfg : Cfg := {}
  state : Clk := .free
  source : Nat := 0
  slavePort : Nat := 0x3F
  /-- A LOCKED or HOLDOVER clock's stamps are traceable (R378). -/
  traceable : Bool := false
  freqOk : Bool := false
  ppsOk : Bool := false
  stepped : Bool := false
  tsqOvf : Bool := false
  ppsReject : Bool := false
  wrDenied : Bool := false
  everLocked : Bool := false
  within : Nat := 0
  above : Nat := 0
  rejects : Nat := 0
  /-- PPS_REJECT: edges rejected (R385). -/
  ppsRejects : Word := 0
  /-- `clk` at entry to HOLDOVER, of the last Sync taken, and at the last change of state. -/
  holdAt : Nat := 0
  lastSync : Nat := 0
  stateAt : Nat := 0
  steps : Word := 0
  offset : Int := 0
  freqAdj : Int := 0
  /-- Offset still to be slewed, in units of 2^-16 ns × 10^-12 (R379). -/
  slew : Int := 0
  gmId : Nat := 0
  gmClass : Nat := 0
  gmAccuracy : Nat := 0
  gmSteps : Nat := 0
  lastStep : Int := 0
  ppsOffset : Int := 0
  altOffset : Int := 0
  /-- Requester ID and latched full time of PTP_NOW, most recent use first (R390). -/
  latches : List (Nat × FullTime) := []
  /-- Seconds given by `time.set`, waiting for the next accepted edge (R385), and whether the seconds were set with
  traceable 1. -/
  setSec : Option (Nat × Bool) := none
  ppsTraceable : Bool := false
  /-- No edge has been accepted since the entry to ACQUIRING (R385). -/
  acqFirst : Bool := false
  ppsOut : Bool := false
  /-- `clk` at the rise of PPS_OUT. -/
  ppsOutAt : Nat := 0
  deriving DecidableEq, Repr

end Sys2Proof.Machine
end

