-- ==== Sys2Proof/Machine/StateTrip.lean ====
section
/-! DEFINITION. State of the trip outputs (R274 to R280, R297) and of GOOSE publications and subscriptions
(R281 to R291). -/

namespace Sys2Proof.Machine

/-- A launch at an angle whose conversion is frozen (R276, R151): PHC time in 2^-16 ns. -/
structure Launch where
  due : Nat
  notLocked : Bool
  /-- The angle aimed at. -/
  angle : Word
  /-- The conversion has been frozen. -/
  frozen : Bool
  deriving DecidableEq, Repr

/-- A one-side test of an output (R279). -/
structure OutTest where
  /-- `clk` at t0. -/
  start : Nat
  /-- 0 TRIPL high, 1 sampled, 2 TRIPL low, 3 TRIPH high, 4 sampled. -/
  step : Nat
  sample1 : Nat := 0
  sample2 : Nat := 0
  failed : Bool := false
  deriving DecidableEq, Repr

/-- A local trip output. -/
structure Outp where
  cfg : Cfg := {}
  triph : Bool := false
  tripl : Bool := false
  /-- The evaluated state: on a muted unit, what the lines would be (R277, R313). -/
  energised : Bool := false
  /-- TRIP[k] and POW[k] at the last hand-off, and `clk` of the last hand-off with either at 1. -/
  trip : Bool := false
  powReq : Bool := false
  lastReq : Option Nat := none
  pow : Option Launch := none
  /-- `clk` at energising; MIN_PULSE has ended. -/
  energAt : Nat := 0
  minDone : Bool := false
  /-- After MAX_PULSE: blocked until both bits have been seen at 0 (R275). -/
  blocked : Bool := false
  supFault : Bool := false
  discEvt : Bool := false
  testFail : Bool := false
  maxPulse : Bool := false
  tripi : Nat := 0
  /-- TRIPI has reached ENERG_MIN since energising. -/
  energSeen : Bool := false
  outSup : Bool := false
  outDisc : Bool := false
  /-- `clk` since which the contacts have been discrepant. -/
  discSince : Option Nat := none
  /-- Successive 10 ms windows out of range, and whether the last was in range (R278). -/
  outWindows : Nat := 0
  inRangeNow : Bool := false
  test : Option OutTest := none
  /-- `clk` of the last test's start. -/
  testAt : Nat := 0
  operations : Nat := 0
  testFails : Nat := 0
  powUnlocked : Nat := 0
  testBlocked : Nat := 0
  deriving DecidableEq, Repr

/-- A publication (R281 to R285). The descriptor is kept as the 432 bytes of R281. -/
structure Pub where
  desc : List Byte
  staged : Option (List Byte) := none
  /-- The descriptor has taken effect at a restart of the instance. -/
  live : Bool := false
  stNum : Word := 0
  sqNum : Word := 0
  /-- Members of the state last sent, and the bits of the last hand-off. -/
  sent : Option Nat := none
  members : Nat := 0
  /-- Members and launch of a state waiting for its time (R282). -/
  pending : Option (Nat × Launch) := none
  hold : Bool := false
  /-- The retransmission schedule runs; `n` is the number of the next message, `launchAt` the `clk` of message 0. -/
  running : Bool := false
  n : Nat := 0
  launchAt : Nat := 0
  /-- Full time of the launch of the state (t of R285). -/
  at_ : FullTime := {}
  sentCount : Word := 0
  superseded : Word := 0
  powUnlocked : Word := 0
  deriving DecidableEq, Repr

/-- A subscription (R287 to R291); the descriptor is the 296 bytes of R287. -/
structure Sub where
  desc : List Byte
  staged : Option (List Byte) := none
  live : Bool := false
  /-- A message has been accepted since the subscription started. -/
  started : Bool := false
  valid : Bool := false
  test : Bool := false
  bits : Nat := 0
  stNum : Word := 0
  sqNum : Word := 0
  data : List GooseEntry := []
  /-- Simulated messages are being accepted (R290). -/
  simActive : Bool := false
  /-- `clk` at which the TAL and TAL_EXTRA of the last message end. -/
  tal : Nat := 0
  authFail : Word := 0
  decodeErr : Word := 0
  simDiscard : Word := 0
  seqErr : Word := 0
  missed : Word := 0
  restarts : Word := 0
  validChanges : Word := 0
  /-- `clk` of the last Chronicle entry of a change of VALID (R291). -/
  logAt : Option Nat := none
  deriving DecidableEq, Repr

/-- The module's trip path. -/
structure Trip where
  outs : Tab Outp := []
  testPeriod : Cfg := {}
  trigOut : Nat := 0
  /-- Module counter UNKNOWN of R288. -/
  unknown : Word := 0
  /-- The alarm publication (R429). -/
  alarmPub : Option Pub := none
  deriving DecidableEq, Repr

end Sys2Proof.Machine
end

