-- ==== Sys2Proof/Machine/StateTandem.lean ====
section
/-! DEFINITION. State of the tandem function (R300 to R330): role, link, ballot, comparison of results, referee,
resynchronisation and coordinated changes. -/

namespace Sys2Proof.Machine

/-- The roles (R313). -/
inductive Role where
  | active
  | standby
  | detached
  | isolated
  deriving DecidableEq, Repr

/-- TDM_STATUS.ROLE code (R313). -/
def Role.code : Role → Nat
  | .active => 0
  | .standby => 1
  | .detached => 2
  | .isolated => 3

/-- The role a code names. -/
def Role.ofCode : Nat → Option Role
  | 0 => some .active
  | 1 => some .standby
  | 2 => some .detached
  | 3 => some .isolated
  | _ => none

/-- A link frame sent and not yet acknowledged (R302). -/
structure SentFrame where
  seq : Nat
  body : LinkBody
  sends : Nat
  at_ : Nat
  deriving DecidableEq, Repr

/-- A ballot input as this unit knows it (R303 to R306). -/
structure BInput where
  id : InputId
  period : Nat
  /-- This unit's copy and `clk` when it was placed. -/
  own : Option InputData
  ownAt : Nat
  ownMissing : Bool
  /-- The partner's NOTICE: placed with its CRC, or missing. -/
  peerCrc : Option Nat
  peerMissing : Bool
  forwarded : Bool
  /-- Present with content, or missing (R305). -/
  settled : Option (Option InputData)
  deriving DecidableEq, Repr

/-- A carried change waiting for its effect point (R325). -/
structure Carried where
  ident : Nat
  op : Nat
  slice : Nat
  /-- Effect ballot. -/
  effect : Nat
  params : List (Nat × Nat)
  input : List Byte
  /-- The local command, on the ACTIVE unit; the result this unit found. -/
  cmd : Option CmdId
  status : Option Nat
  peer : Option Nat
  deriving DecidableEq, Repr

/-- What the sweep of a closed ballot latches (R244, R308): the agreed X3 inputs, for each domain the step whose element
record is read, and for each instance the bits of its subscriptions. -/
structure SweepIn where
  ballot : Nat
  x3 : Nat
  steps : Tab Nat
  subs : Tab Nat
  deriving DecidableEq, Repr

/-- The tandem function. -/
structure Tandem where
  cfg : Cfg := {}
  /-- ENABLE was 0 at pipeline start. -/
  standalone : Bool := true
  role : Role := .active
  roleCause : Nat := 0
  roleChg : Bool := false
  disagree : Bool := false
  roleAt : FullTime := {}
  gen : Nat := 0
  genHigh : Nat := 0
  -- the link
  laneA : Bool := false
  laneB : Bool := false
  lastA : Nat := 0
  lastB : Nat := 0
  session : Option Nat := none
  proposal : Nat := 0
  txSeq : Nat := 0
  rxSeq : Nat := 0
  /-- Frames received ahead of a missing one, held until the order is whole. -/
  rxAhead : List (Nat × LinkHdr × LinkBody) := []
  unacked : List SentFrame := []
  lastSent : Nat := 0
  lastHello : Nat := 0
  peerRole : Option Role := none
  /-- `clk` at which the partner last reported ACTIVE in IDLE. -/
  peerActiveAt : Option Nat := none
  /-- The partner's CHR_FAILED bit as last seen (R445). -/
  peerChrFailed : Bool := false
  tcl : Nat := 0
  /-- The partner's range of TCLs, from its HELLO (R322). -/
  peerTclMin : Nat := 0
  peerTclMax : Nat := 0
  -- the ballot
  inStep : Bool := false
  ballot : Nat := 0
  closed : Nat := 0
  /-- PHC time at which period 0 opened, chair's timescale. -/
  inputs : List BInput := []
  ownX3 : Tab Nat := []
  peerX3 : Tab Nat := []
  agreedX3 : Nat := 0
  stepOwn : List StepDigest := []
  stepPeer : List StepDigest := []
  /-- For each domain the latest step named by the last close (R308). -/
  closedSteps : Tab Nat := []
  /-- Ballots closed whose sweep has not started yet, oldest first. -/
  sweepTodo : List SweepIn := []
  sweepOwn : Tab Nat := []
  sweepPeer : Tab Nat := []
  counts : Tab Word := []
  /-- `clk` of disagreements in the last hour; self-test and scrub running (R311). -/
  disagreements : List Nat := []
  scrub : Bool := false
  -- the referee
  refSeq : Nat := 0
  refSeen : List Nat := []
  refLast0 : Nat := 0
  refLast1 : Nat := 0
  ref0 : Bool := false
  ref1 : Bool := false
  sent0 : Option RefMsg := none
  sent1 : Option RefMsg := none
  rcvd0 : Option RefMsg := none
  rcvd1 : Option RefMsg := none
  lastHb : Nat := 0
  /-- A HELLO to the referee waits for its answer; sends of PEER_GASP and DEMOTE so far, `clk` of the last. -/
  helloOpen : Bool := false
  helloAt : Nat := 0
  /-- Message numbers that resends keep (R315). -/
  helloSeq : Nat := 0
  peerGaspSeq : Nat := 0
  demoteSeq : Nat := 0
  peerGasp : Nat := 0
  peerGaspAt : Nat := 0
  demote : Nat := 0
  demoteAt : Nat := 0
  demoteStart : Nat := 0
  /-- A grant accepted: live from the close of this ballot, 0 from the first close (R314, R320). -/
  granted : Option Nat := none
  /-- ACTIVE since a promotion without a planned switch-over, and no hand-off yet: the lines stay low (R314). -/
  promoted : Bool := false
  /-- A planned switch-over on the ACTIVE unit: ballot h, the partner has confirmed the grant, the command. -/
  switchH : Option Nat := none
  confirmed : Bool := false
  /-- Publications have stopped at the close of h and the outputs follow at h + 1. -/
  pubsStopped : Bool := false
  -- resynchronisation
  phase : Nat := 0
  attempts : Nat := 0
  phaseAt : Nat := 0
  startAt : Nat := 0
  c0 : Nat := 0
  c1 : Nat := 0
  bytesSent : Nat := 0
  verified : Nat := 0
  /-- The images received of each phase, and the phases whose image is whole. -/
  rsImage : Tab (List Byte) := []
  rsDone : List Nat := []
  failedAt : Nat := 0
  carried : List Carried := []
  /-- For each domain the latest step whose digests this unit holds from both units, or its own where it ballots alone. -/
  matched : Tab Nat := []
  carryId : Nat := 0
  deriving DecidableEq, Repr

end Sys2Proof.Machine
end

