-- ==== Sys2Proof/Machine/StateSv.lean ====
section
/-! DEFINITION. State of sampled-value ingest (R161 to R188, R493): streams, their samples and their counters. -/

namespace Sys2Proof.Machine

/-- The stream states (R180). -/
inductive StrState where
  | waiting
  | running
  | lost
  | held
  deriving DecidableEq, Repr

/-- The code of a stream state (R180). -/
def StrState.code : StrState → Nat
  | .waiting => 0
  | .running => 1
  | .lost => 2
  | .held => 3

/-- The value and quality word of a channel (R171). -/
structure Val where
  v : Int
  csq : Nat
  deriving DecidableEq, Repr

/-- A sample of a stream: its sequence number, its placed time in 2^-16 ns, and every channel's value. -/
structure Smp where
  n : Nat
  t : Nat
  /-- Start of its wrap period in 2^-16 ns, and its SmpCnt (R172, R173). -/
  w : Nat
  cnt : Nat
  vals : List Val
  /-- Its channels passed authentication: it can count as protected (R167). -/
  auth : Bool := false
  /-- It was placed; false for one interpolated or made INVALID. -/
  real : Bool := true
  deriving DecidableEq, Repr

/-- Where a sample of the sequence stands before it is final (R177, R198). -/
inductive Slot where
  | placed (s : Smp)
  | missing
  deriving DecidableEq, Repr

/-- The placement basis (R172, R173). -/
inductive Basis where
  | none
  | global
  | arrival
  deriving DecidableEq, Repr

/-- A stream. -/
structure Stream where
  /-- The 160-byte descriptor in effect (R162), and one that replaces it at the restart (R183). -/
  desc : List Byte
  descStaged : Option (List Byte) := none
  /-- The keys of R188; the descriptor's own fields stand in the descriptor. -/
  cfg : Cfg := {}
  state : StrState := .waiting
  simActive : Bool := false
  notTraceable : Bool := true
  lastCnt : Nat := 0
  lastTs : Word := 0
  /-- `clk` of the last placement, for STREAM_TIMEOUT and SKEW_WAIT. -/
  lastAt : Nat := 0
  counts : Tab Word := []
  /-- Sequence number of the next sample to be resolved, and what is known of it and later ones (sorted). -/
  next : Option Nat := none
  ahead : Tab Slot := []
  /-- `clk` of placement of the samples in `ahead`. -/
  aheadAt : Tab Nat := []
  /-- The last sample resolved with a value, for interpolation. -/
  prev : Option Smp := none
  /-- Sequence numbers declared missing and not yet resolved: the length of the run. -/
  run : Nat := 0
  /-- Consecutive samples placed without a missing one between them (RECOVER_N). -/
  streak : Nat := 0
  basis : Basis := .none
  /-- The next placed sample is a synchronising reset of the channels (R173, R175, R179, R180, R169). -/
  resetNext : Bool := false
  /-- Arrival history of an arrival-placed stream: v in 2^-16 ns, and `clk` (R493). -/
  arrivals : List (Int × Nat) := []
  /-- Final samples, newest first, as many as the resampler can need. -/
  final : List Smp := []
  /-- How many samples have become final, for the rows of RAW recorders. -/
  pushed : Nat := 0
  /-- `clk` of the last Chronicle entry of an authentication failure (R185). -/
  authLog : Option Nat := none
  restart : Bool := false
  deriving DecidableEq, Repr

/-- Sampled-value ingest. -/
structure Sv where
  streams : Tab Stream := []
  unknown : Word := 0
  deriving DecidableEq, Repr

end Sys2Proof.Machine
end

