-- ==== Sys2Proof/Machine/StateAngle.lean ====
section
/-! DEFINITION. State of the angle domains and spare loops (R130 to R160), of the resampling pairs, channel filters and
threshold detectors (R189 to R211). -/

namespace Sys2Proof.Machine

/-- The modes of a domain (R140). -/
inductive DMode where
  | free
  | acquire
  | track
  | coast
  | hold
  | glide
  deriving DecidableEq, Repr

/-- ANG_STATUS.MODE code (R140). -/
def DMode.code : DMode → Nat
  | .free => 0
  | .acquire => 1
  | .track => 2
  | .coast => 3
  | .hold => 4
  | .glide => 5

/-- A spare loop (R145, R146). -/
structure Spare where
  cfg : Cfg := {}
  /-- Held by `angle.spare.hold`. -/
  holdCmd : Bool := false
  /-- The loop was in HOLD at its last update: the next update resumes bumplessly. -/
  wasHeld : Bool := true
  e1 : Int := 0
  e2 : Int := 0
  e3 : Int := 0
  u1 : Int := 0
  u2 : Int := 0
  u3 : Int := 0
  raise : Bool := false
  lower : Bool := false
  limit : Bool := false
  deriving DecidableEq, Repr

/-- A grid instant: index, angle stamp, time in 2^-16 ns. -/
structure Tick where
  k : Nat
  angle : Word
  t : Nat
  deriving DecidableEq, Repr

/-- An angle domain. -/
structure Dom where
  cfg : Cfg := {}
  mode : DMode := .free
  lock : Bool := false
  fd : Bool := false
  /-- The active set: false A, true B. -/
  setB : Bool := false
  aOk : Bool := false
  bOk : Bool := false
  clamped : Bool := false
  held : Bool := false
  wrDenied : Bool := false
  coastTimeout : Bool := false
  aligned : Bool := false
  coasts : Nat := 0
  glides : Nat := 0
  /-- F_{k+1}, Q8.24 Hz. -/
  f : Nat := 0x32000000
  /-- e_k before the clamp. -/
  err : Int := 0
  e1 : Int := 0
  e2 : Int := 0
  e3 : Int := 0
  u1 : Int := 0
  u2 : Int := 0
  u3 : Int := 0
  /-- The next update is a bumpless resume (R139). -/
  bumpless : Bool := false
  /-- Index of the next grid sample of the tracker, and the fixed instants: the next one to three, then those already
  past, each newest first (R131, R150). -/
  k : Nat := 0
  ahead : List Tick := []
  kept : List Tick := []
  /-- P_{k+1} in 2^-16 ns. -/
  period : Nat := 0
  lastAngle : Word := 0
  /-- The grid runs (from pipeline start), and the domain waits for the first sample of a start (R140). -/
  running : Bool := false
  starting : Bool := false
  /-- The domain has been LOCKED since its last start or restart (R140). -/
  everLock : Bool := false
  /-- Acquisition includes alignment; pass 0 to 2; grid samples of the pass so far; its arguments, newest first. -/
  align : Bool := false
  pass : Nat := 0
  passN : Nat := 0
  args : List Int := []
  /-- Mode was ACQUIRE when the hold began (R140). -/
  holdAcq : Bool := false
  /-- Grid samples in TRACK within LOCK_E, in COAST, in HOLD, and of unbroken validity of A and of any set. -/
  lockRun : Nat := 0
  coastRun : Nat := 0
  holdRun : Nat := 0
  aRun : Nat := 0
  anyRun : Nat := 0
  /-- |V1| of the last two cycles, newest first, and the frozen |V1_pre| (R143). -/
  mags : List Nat := []
  preFrozen : Nat := 0
  /-- Consecutive grid samples per channel position with a large difference; grid samples clear of both conditions. -/
  fdRun : List Nat := []
  fdClear : Nat := 0
  /-- The active set has changed and the loop has not updated since; u1 to u3 before the update just made at such a change
  (R143). -/
  switched : Bool := false
  preU : Option (Int × Int × Int) := none
  /-- Grid samples before this index lack a valid set through the last alignment's own reset (R142, R203). -/
  settleTo : Nat := 0
  /-- F over the last cycle, newest first, for the entry to GLIDE (R144). -/
  fHist : List Nat := []
  /-- Glide rate, acceleration and frequency in units of 2^-40 Hz/s, Hz/s² and Hz. -/
  glideR : Int := 0
  glideA : Int := 0
  glideF : Int := 0
  /-- Spare loops 0 to 3. -/
  spares : Tab Spare := []
  /-- The step running: index of the last dispatched step, its angle and `clk` at dispatch (R214). -/
  lastStep : Option Nat := none
  stepOpen : Bool := false
  stepAngle : Word := 0
  stepAt : Nat := 0
  /-- Step boundaries that the grid has reached and that are not yet dispatched, oldest first (R214). -/
  boundary : List Tick := []
  deriving DecidableEq, Repr

/-- A grid sample of a pair (R193, R200): `raw` and `rawCsq` are those ahead of the post-filter. -/
structure Grid where
  k : Nat
  angle : Word
  t : Nat
  raw : Int
  rawCsq : Nat
  v : Int
  csq : Nat
  deriving DecidableEq, Repr

/-- A resampling pair (R189). -/
structure Pair where
  chan : Nat
  dom : Nat
  /-- Index of the next grid sample to produce. -/
  next : Nat
  /-- Last 128 grid samples, newest first. -/
  hist : List Grid := []
  /-- Reset instant: inputs before it count as zero (R201, R202); none while a reset waits for the stream's next placed
  sample. -/
  t0 : Option Nat := none
  /-- Grid samples still to carry SETTLING. -/
  settling : Nat := 0
  deriving DecidableEq, Repr

/-- A threshold detector (R205 to R207). -/
structure Det where
  cfg : Cfg := {}
  state : Bool := false
  run : Nat := 0
  asserts : Word := 0
  deasserts : Word := 0
  suppressed : Word := 0
  /-- Index of the last grid sample evaluated. -/
  lastK : Option Nat := none
  /-- An event waiting to be sent: assert, angle stamp, T_k. -/
  event : Option (Bool × Word × Nat) := none
  deriving DecidableEq, Repr

/-- The filter chain. -/
structure Filt where
  /-- Filter keys of each channel. -/
  chans : Tab Cfg := []
  pairs : List Pair := []
  dets : Tab Det := []
  deriving DecidableEq, Repr

end Sys2Proof.Machine
end

