-- ==== Sys2Proof/Machine/StateInst.lean ====
section
/-! DEFINITION. State of the protection instances (R99 to R129), of the element lanes (R212 to R240) and of the scheme
logic engine (R241 to R272). -/

namespace Sys2Proof.Machine

/-! ## Element lanes -/

/-- The state record of a slot (R238). -/
structure ElRec where
  delay : Nat := 0
  acc : Int := 0
  aux : Nat := 0
  mem0 : Int := 0
  mem1 : Int := 0
  deriving DecidableEq, Repr

/-- A local slot of an admitted setting set (R228, R238, R239). -/
structure SlotSt where
  word : Nat := 0x8000
  rs : ElRec := {}
  /-- The pickup condition of each quantity as last evaluated, for the resets of R224. -/
  above : Nat := 0
  evals : Word := 0
  blocked : Word := 0
  mismatch : Word := 0
  overrun : Word := 0
  lastAngle : Word := 0
  /-- An evaluation has been made since the restart (SYNC, R230). -/
  seen : Bool := false
  /-- `clk` of the last Chronicle entry of a mismatch (R220). -/
  logAt : Option Nat := none
  deriving DecidableEq, Repr

/-- A reserved slot (R232, R233): local slot, global slot, type, cost per due step, EVERY and OFFSET. -/
structure Reserve where
  slot : Nat
  gslot : Nat
  type : Nat
  load : Nat
  every : Nat
  offset : Nat
  deriving DecidableEq, Repr

/-- The elements of an instance. -/
structure Elems where
  /-- The setting set in effect and the staged one, as images (R234). -/
  img : Option (List Byte) := none
  staged : Option (List Byte) := none
  /-- The staged set is the set in effect with fields written by `element.param.set`, and no image of its own (R236). -/
  fieldsOnly : Bool := false
  slots : Tab SlotSt := []
  reserved : List Reserve := []
  /-- Domain the reservation counts in. -/
  resDom : Nat := 0
  /-- The element region after each of the last steps, newest first, for the sweeps of a pair (R244): step index, bits. -/
  hist : List (Nat × Nat) := []
  deriving DecidableEq, Repr

/-- An evaluation in flight (R213, R214): both copies of a trip-capable slot, or the one of another slot. What it will give
is fixed by the parameters, windows and signals of the dispatch. -/
structure Job where
  inst : Nat
  slot : Nat
  gslot : Nat
  epoch : Word
  trip : Bool
  /-- Output word, state record and pickup conditions. -/
  word : Nat
  rs : ElRec
  above : Nat
  /-- Global channels read. -/
  chans : List Nat := []
  /-- It has completed and been compared; `mismatch` where the pair differed (R219, R220). -/
  complete : Bool := false
  mismatch : Bool := false
  deriving DecidableEq, Repr

/-- A step in progress (R214, R216, R217). -/
structure StepRun where
  index : Nat
  angle : Word
  t : Nat
  k : Nat
  at_ : Nat
  jobs : List Job
  deriving DecidableEq, Repr

/-- A lane (R212, R221, R239). -/
structure Lane where
  retired : Bool := false
  failed : Bool := false
  /-- `clk` of charges in the last second. -/
  charges : List Nat := []
  /-- It is to be retired at the close of the step in progress. -/
  due : Bool := false
  evals : Word := 0
  deriving DecidableEq, Repr

/-- The lane pool. -/
structure Lanes where
  lanes : Tab Lane := []
  steps : Tab StepRun := []
  /-- `clk` of the last overrun in the pool (R218), and of the last self-test (R221). -/
  lastOverrun : Option Nat := none
  testAt : Nat := 0
  /-- T of the boundaries of each domain in the last 16 steps, newest first: step index and T (R225). -/
  bounds : Tab (List (Nat × Nat)) := []
  deriving DecidableEq, Repr

/-! ## Scheme logic -/

/-- A state record of a program (R254 to R257): FUNC, and the fields of timers, counters and edge memories. -/
structure StRec where
  ident : Nat
  func : Nat
  preset : Nat
  run : Bool := false
  val : Nat := 0
  prev : Bool := false
  init : Bool := false
  deriving DecidableEq, Repr

/-- A program image, read (R258). -/
structure Prog where
  img : List Byte
  code : List Nat
  /-- IDENTITY, FUNC, PRESET. -/
  states : List (Nat × Nat × Nat)
  /-- IDENTITY, ADDRESS, FLAGS. -/
  sigs : List (Nat × Nat × Nat)
  deriving DecidableEq, Repr

/-- An exchange pending (R261, R262). -/
structure Exch where
  prog : Prog
  bank : Nat
  /-- `clk` at EXECUTING; the shadow is ready. -/
  start : Nat
  ready : Bool := false
  /-- In a tandem unit, the ballot named for the switch. -/
  ballot : Option Nat := none
  cmd : Option CmdId
  deriving DecidableEq, Repr

/-- The logic of an instance. -/
structure Logic where
  prog : Option Prog := none
  bank : Nat := 0
  staged : Option Prog := none
  /-- The 4,096 bits of the signal space as they stood at the end of the last sweep (R247). -/
  space : Nat := 0
  recs : List StRec := []
  /-- Host controls as written, bit i of R247's region at bit i. -/
  controls : Nat := 0
  /-- The next sweep is the first after entering RUNNING, or after an exchange (R245, R248). -/
  first : Bool := false
  dtZero : Bool := false
  /-- Forces: identity and value (R267). -/
  forces : Tab Nat := []
  exch : Option Exch := none
  report : Option (List Byte) := none
  /-- Regions 1,792 to 2,111 at the last hand-off (R273). -/
  handed : Nat := 0
  /-- The states of the owned detectors at the last step boundary (R207). -/
  dets : Nat := 0
  deriving DecidableEq, Repr

/-- The logic engines. -/
structure Engine where
  sweep : Nat := 0
  /-- S_{n-1}: start of the last sweep on the sweep clock. -/
  lastStart : Option Nat := none
  /-- Start of the last sweep plus its length. -/
  busyUntil : Nat := 0
  sweepMin : Nat := 25
  ecc : Word := 0
  deriving DecidableEq, Repr

/-! ## Instances -/

/-- The instance states (R102). -/
inductive IState where
  | empty
  | held
  | running
  | frozen
  | resetting
  deriving DecidableEq, Repr

/-- SLC_INST_STATUS.STATE code (R102). -/
def IState.code : IState → Nat
  | .empty => 0
  | .held => 1
  | .running => 2
  | .frozen => 3
  | .resetting => 4

/-- What waits for an instance's restart boundary (R112, R121, R124). -/
inductive RestartKind where
  | restart
  | thaw
  | restore
  /-- The restart of R105 at pipeline start. -/
  | boot
  deriving DecidableEq, Repr

/-- A restart, thaw or restore waiting for its boundary. -/
structure Restart where
  kind : RestartKind
  cmd : Option CmdId
  target : Option Word
  /-- `clk` at EXECUTING. -/
  start : Nat
  /-- The saved state to apply. -/
  image : List Byte := []
  deriving DecidableEq, Repr

/-- An instance reset in progress (R115). -/
structure ResetRun where
  clear : Bool
  /-- `clk` at t0, the command, and the counts of RESULT0. -/
  start : Nat
  cmd : Option CmdId
  aborted : Nat
  unwritten : Nat
  deriving DecidableEq, Repr

/-- A protection instance. -/
structure Inst where
  st : IState := .empty
  cause : Nat := 0
  warm : Bool := false
  cfg : Cfg := {}
  streams : List Nat := []
  streamsStaged : Option (List Nat) := none
  lastStep : Word := 0
  restart : Option Restart := none
  /-- A hold or freeze waiting for the close of the step running (R103, R118): the command. -/
  holdReq : Option (Option CmdId) := none
  freezeReq : Option (Option CmdId) := none
  /-- The close that is a running instance's freeze boundary has come, at this angle. -/
  freezeAt : Option Word := none
  reset : Option ResetRun := none
  /-- The saved state captured at the freeze (R118, R119), and whether a save has stopped the publications. -/
  captured : Option (List Byte) := none
  saved : Bool := false
  /-- The service state the instance evaluates and publishes under (R31). -/
  svc : Nat := 0
  el : Elems := {}
  lg : Logic := {}
  pubs : Tab Pub := []
  subs : Tab Sub := []
  deriving DecidableEq, Repr

end Sys2Proof.Machine
end

