-- ==== Sys2Proof/Machine/StateArchive.lean ====
section
/-! DEFINITION. State of the Archive (R395 to R419), of the keys (R452 to R466) and of firmware update (R468 to R479). -/

namespace Sys2Proof.Machine

/-- A recorder's states (R397); EMPTY is a recorder the table does not list. -/
inductive RecSt where
  | held
  | filling
  | armed
  | recording
  deriving DecidableEq, Repr

/-- ARC_REC[r].STATE code (R397). -/
def RecSt.code : RecSt → Nat
  | .held => 1
  | .filling => 2
  | .armed => 3
  | .recording => 4

/-- A row (R413): its number since arming, its instant in 2^-16 ns, its angle stamp, F of the domain when it was written,
and its ROW_BYTES bytes. -/
structure Row where
  no : Nat
  t : Nat
  angle : Word
  f : Nat
  bytes : List Byte
  deriving DecidableEq, Repr

/-- A recording in progress (R397, R400 to R405): the folio being written and the row it ends at. -/
structure Recording where
  first : Nat
  folio : Nat
  /-- The trigger instant, and the number of the trigger row once a row at or after it has been written (R400). -/
  trigT : Nat
  trigRow : Option Nat := none
  /-- Number of the first row of the folio, and of the row after its last. -/
  startRow : Nat := 0
  endRow : Nat := 0
  /-- Segments written so far; the segment in progress has ended and the next trigger is awaited (R404). -/
  segs : Nat
  between : Bool := false
  /-- A mask stop ends the recording with its current folio (R405). -/
  stop : Bool := false
  /-- Number of the violating row, where the folio's first row was not yet known. -/
  maskNo : Option Nat := none
  deriving DecidableEq, Repr

/-- A recorder. The descriptor is kept as bytes of R419. -/
structure Recorder where
  desc : List Byte
  staged : Option (List Byte) := none
  st : RecSt := .held
  maskStop : Bool := false
  segment : Nat := 0
  /-- The latest PRE + 256 rows, newest first, and the number of the next row. -/
  ring : List Row := []
  next : Nat := 0
  /-- Instant of the last row that has left the ring, for LATE_TRIG (R400). -/
  gone : Option Nat := none
  /-- RAW: sequence number of the next sample to record; GRID: index of the next grid sample. -/
  input : Option Nat := none
  cur : Option Recording := none
  /-- `clk` of entry to ARMED or of the last trigger accepted, for AUTO (R403). -/
  quietFrom : Nat := 0
  maskRun : Nat := 0
  /-- `clk` of the last Chronicle entry of a trigger ignored for the bound (R401). -/
  boundLog : Option Nat := none
  deriving DecidableEq, Repr

/-- A trigger on its way to a recorder (R399): bit of CAUSE, instant in 2^-16 ns. -/
structure Trig where
  recorder : Nat
  cause : Nat
  t : Nat
  notTraceable : Bool
  /-- The `archive.trigger` that gave it. -/
  cmd : Option CmdId := none
  deriving DecidableEq, Repr

/-- A folio (R412): its header fields, tables and rows. -/
structure Folio where
  recorder : Nat
  segment : Nat
  recording : Nat
  owner : Nat
  kind : Nat
  domain : Nat
  rate : Nat
  stream : Nat
  /-- FLAGS of bytes 6 and 7. -/
  flags : Nat
  cause : Nat
  trigRow : Nat
  trigTs : Word
  trigSec : Nat
  trigNs : Nat
  trigAngle : Word
  f : Nat
  fnom : Nat
  maskRow : Nat
  opsec : Nat
  cycles : Nat
  service : Nat
  role : Nat
  nch : Nat
  nsig : Nat
  rowBytes : Nat
  chans : List Byte
  sigs : List Byte
  /-- Rows, newest first while being written. -/
  rows : List (List Byte)
  /-- Number of the row of the ring the folio starts with. -/
  start : Nat
  pages : Nat
  keep : Bool
  /-- Every row has been written: the folio may close (R411). -/
  full : Bool
  closed : Bool
  deriving DecidableEq, Repr

/-- A reading-room window (R415). -/
structure RoomWin where
  folio : Nat
  off : Nat
  slice : Nat
  deriving DecidableEq, Repr

/-- The Archive. -/
structure Arc where
  recycle : Bool := false
  full : Bool := false
  ignored : Bool := false
  recycled : Bool := false
  wrDenied : Bool := false
  recs : Tab Recorder := []
  trigs : List Trig := []
  folios : Tab Folio := []
  nextFolio : Nat := 1
  counts : Tab Word := []
  room : Tab RoomWin := []
  deriving DecidableEq, Repr

/-! ## Keys -/

/-- A key (R455, R456). -/
structure Key where
  id : Nat
  alg : Nat
  purpose : Nat
  origin : Nat
  lifetime : Nat
  notAfter : Nat
  bytes : List Byte
  /-- Operating second at which it became current. -/
  since : Nat := 0
  lapsed : Bool := false
  deriving DecidableEq, Repr

/-- A key slot (R455). -/
structure KeySlot where
  cur : Option Key := none
  nxt : Option Key := none
  deriving DecidableEq, Repr

/-- A deposit session (R459). -/
structure Session where
  total : Nat
  /-- Bytes received, in order, and the last chunk accepted: offset and length. -/
  got : List Byte := []
  lastOff : Nat := 0
  lastLen : Nat := 0
  /-- `clk` of the last chunk, or of `begin`. -/
  at_ : Nat
  deriving DecidableEq, Repr

/-- The owner (R458): issuer keys 0 and 1, and OTK. -/
structure Owner where
  issuer0 : List Byte
  issuer1 : List Byte
  otk : List Byte
  deriving DecidableEq, Repr

/-- A signing slot (R465): the private key and the public key. -/
structure SignKey where
  priv : List Byte
  pub : List Byte
  deriving DecidableEq, Repr

/-- What the key store in NAND holds (R462, R465): two generations, of which the one in force is kept here. -/
structure KeyStore where
  slots : Tab KeySlot := []
  owner : Option Owner := none
  counter : Nat := 0
  sign : Tab SignKey := []
  gen : Nat := 0
  deriving DecidableEq, Repr

/-- The key function. -/
structure Keys where
  /-- Slots in use: those of the store, and test keys held on die (R464). -/
  slots : Tab KeySlot := []
  store : KeyStore := {}
  mode : Nat := 0
  modeStaged : Option Nat := none
  depRej : Bool := false
  session : Option Session := none
  deriving DecidableEq, Repr

/-! ## Firmware update -/

/-- Bank states (R468). -/
inductive BankSt where
  | empty
  | loading
  | loaded
  | primary
  | trial
  | rejected
  deriving DecidableEq, Repr

/-- The code of a bank state (R468). -/
def BankSt.code : BankSt → Nat
  | .empty => 0
  | .loading => 1
  | .loaded => 2
  | .primary => 3
  | .trial => 4
  | .rejected => 5

/-- What is known of the image in a bank (R469). -/
structure Bank where
  version : Nat := 0
  svn : Nat := 0
  tclMin : Nat := 0
  tclMax : Nat := 0
  storeFmt : Nat := 0
  storeReadMin : Nat := 0
  digest : List Byte := []
  image : List Byte := []
  deriving DecidableEq, Repr

/-- A copy of the boot-select record (R470). -/
structure BootRec where
  seq : Nat
  primary : Nat
  trial : Option Nat
  /-- 0 none, 1 ARMED, 2 BOOTED. -/
  trialState : Nat
  stA : BankSt
  stB : BankSt
  window : Nat
  /-- Setting-store area and format of the primary and of the trial. -/
  areaP : Nat
  fmtP : Nat
  areaT : Nat
  fmtT : Nat
  deriving DecidableEq, Repr

/-- The update function. -/
structure Upd where
  bankA : Bank := {}
  bankB : Bank := {}
  /-- The record in force and the other copy. -/
  boot : BootRec :=
    { seq := 1, primary := 0, trial := none, trialState := 0, stA := .primary, stB := .empty, window := 10, areaP := 0,
      fmtP := 1, areaT := 1, fmtT := 1 }
  old : Option BootRec := none
  run : Nat := 0
  /-- UPD_STATUS.FELLBACK and CONFIRMED. -/
  fellback : Bool := false
  confirmed : Bool := false
  /-- A fallback belongs to this boot: UPD_STATUS.TRIAL 3. -/
  fellHere : Bool := false
  minSvn : Nat := 0
  window : Nat := 10
  /-- Operating second at pipeline start of a running trial, from which the window runs. -/
  trialFrom : Option Nat := none
  session : Option Session := none
  deriving DecidableEq, Repr

end Sys2Proof.Machine
end

