-- ==== Sys2Proof/Machine/State.lean ====
section
/-! DEFINITION. The state of the block: everything the manual gives the machine, the queue of waiting commands, and the
model's own fields (the trace of what has left the block, and the counter of free values). -/

namespace Sys2Proof.Machine

/-- What the block sends out: the value a register read returns, DMA requests, MSI-X messages, frames and tandem link
frames. -/
inductive Out where
  /-- Value of a BAR0 read. -/
  | value (v : Nat)
  /-- Bytes of a BAR2 read. -/
  | room (bytes : List Byte)
  /-- A non-posted read of host memory: slice, tag, address, length (R61). -/
  | dmaRead (slice tag addr len : Nat)
  /-- A posted write to host memory (R60): slice, address, bytes. -/
  | dmaWrite (slice addr : Nat) (bytes : List Byte)
  /-- A frame's bytes placed in the buffers of receive descriptors (R92): slice, first descriptor, how many. -/
  | rxData (slice idx n : Nat) (f : Frame)
  /-- An MSI-X message (R426). -/
  | msi (vec : Nat)
  /-- A frame started on a physical port, with the PHC in 2^-16 ns at its first bit. -/
  | frame (port : Nat) (f : Frame) (stamp : Nat)
  /-- A frame on the tandem link, on both lanes: lane 2 in its header (R301). -/
  | link (hdr : LinkHdr) (body : LinkBody)
  deriving DecidableEq, Repr

/-- What waits for bus mastering to return (R90): a write or a message, or the completion of a command. -/
inductive Held where
  | out (o : Out)
  | cqe (id : CmdId)
  deriving DecidableEq, Repr

/-- Why a command, or an action of the module's own, waits for something to happen. -/
inductive WaitKind where
  /-- `admin.service.set` until its transition has run to every instance (R32). -/
  | service
  /-- `angle.domain.hold`, `angle.loop.hold`, `angle.domain.restart` (R139, R153, R155). -/
  | domHold (d : Nat)
  | loopHold (d : Nat) (hold : Bool)
  | domRestart (d : Nat)
  /-- `angle.spare.hold` until the next cycle boundary (R158). -/
  | spareHold (d j : Nat) (hold : Bool)
  /-- `sv.stream.restart` until the first matching frame (R183). -/
  | streamRestart (i : Nat)
  /-- `filter.resync` until the next placed raw sample (R201); domain 255 names every pair. -/
  | resync (ch d : Nat)
  /-- `trip.output.test` until the test ends (R279). -/
  | outTest (k : Nat)
  /-- `tandem.switchover` until the close of h + 1 (R320). -/
  | switchover
  /-- `port.gcl.set` until the change instant (R361). -/
  | gcl (p : Nat)
  /-- `switch.stocktake.run` until the pass ends (R360). -/
  | stocktake
  /-- `time.set` until the next accepted edge (R385). -/
  | timeSet
  /-- `power.holdup.test` until the result (R49). -/
  | holdup
  /-- `instance.atu.unmap` until the writes already translated have been issued (R109). -/
  | unmap
  /-- A carried change until its effect point and the partner's answer (R325). -/
  | carried (ident : Nat)
  deriving DecidableEq, Repr

/-- Something waiting, with the command it belongs to and `clk` at EXECUTING. -/
structure Wait where
  kind : WaitKind
  cmd : Option CmdId
  start : Nat
  deriving DecidableEq, Repr

/-- What a generation of the setting store holds: a value for every configurable field (R98). -/
structure Stored where
  gen : Nat
  fmt : Nat
  auto : Bool
  pwr : Cfg
  time : Cfg
  tdm : Cfg
  sw : Cfg
  ports : Tab Port
  fdb : List Fdb
  groups : Tab Group
  vlans : Tab Vlan
  vports : Tab Vport
  mirrors : Tab Cfg
  pairs : Tab RPair
  streams : Tab Stream
  chans : Tab Cfg
  dets : Tab Det
  doms : Tab Dom
  insts : Tab Inst
  outs : Tab Outp
  testPeriod : Cfg
  alarmPub : Option Pub
  recs : Tab Recorder
  recycle : Bool
  adm : Ntf
  trigFilt : Nat
  bkFilt : Nat
  notifySev : Nat
  sweepMin : Nat
  keyMode : Nat
  deriving DecidableEq, Repr

/-- The setting store: two areas in NAND (R468, R474). -/
structure Store where
  area0 : Option Stored := none
  area1 : Option Stored := none
  /-- The contents of area 0, of area 1, fail the integrity check. No command sets it: the damage comes from outside. -/
  damaged0 : Bool := false
  damaged1 : Bool := false
  /-- Area the running firmware reads and writes. -/
  active : Nat := 0
  deriving DecidableEq, Repr

end Sys2Proof.Machine

namespace Sys2Proof.Machine

/-- The state of the block. -/
structure State where
  /-- Commands waiting, first in first out (the model's queue). -/
  pending : List Instr := []
  /-- Free-running nanosecond count: TS32 is its PHC's business, timeouts and the sweep clock run on it (R245). -/
  clk : Nat := 0
  svc : SvcState := {}
  wins : Tab Window := []
  cmds : List Cmd := []
  seq : Nat := 0
  tagsMax : Nat := 0
  /-- The admin ring has been offered its fetch of the present arbitration (R110). -/
  adminOffer : Bool := false
  waits : List Wait := []
  atu : Atu := {}
  pcie : Pcie := {}
  /-- Writes and completions held while bus mastering is off, oldest first (R90). -/
  heldOut : List Held := []
  adm : Ntf := { enable := 0x7FFF, route := 0, prio := 0x4888C444400084 }
  ntfs : Tab Ntf := []
  sig : Signal := {}
  chr : Chron := {}
  pwr : Power := {}
  pins : Pins := {}
  met : Meters := {}
  sw : Switch := {}
  ports : Tab Port := []
  time : Time := {}
  trip : Trip := {}
  tdm : Tandem := {}
  sv : Sv := {}
  doms : Tab Dom := []
  filt : Filt := {}
  lanes : Lanes := {}
  logic : Engine := {}
  insts : Tab Inst := []
  arc : Arc := {}
  keys : Keys := {}
  upd : Upd := {}
  store : Store := {}
  /-- What has left the block, newest first (the model's own trace). -/
  out : List Out := []
  /-- Counter of free values drawn (the model's own). -/
  fresh : Nat := 0
  deriving DecidableEq, Repr

/-- No row of the command table ends a run of the block: a step never faults. -/
inductive Fault where
  /-- Raised by nobody: an access that the manual leaves undefined (R2) has no row of its own. Safe. -/
  | undefinedAccess
  deriving DecidableEq, Repr

/-- Why a step is refused. -/
inductive Refusal where
  /-- Raised by `exec` for a row that has no meaning yet. Safe. -/
  | notModelled (mnemonic : String)
  deriving DecidableEq, Repr

/-- The machine at the instant 12 V good is declared after a cold start: rails down, state BOOT, every field at its
reset value. -/
def State.reset : State := {}

/-- The outcome of a command. -/
abbrev Res := Host.Outcome State Fault Refusal

end Sys2Proof.Machine
end

