-- ==== Sys2Proof/Machine/Ops.lean ====
section
/-! DEFINITION. The shared operations: windows and instances, time stamps, what leaves the block, free values, address
translation, notification sources, access errors, and Chronicle entries. -/

namespace Sys2Proof.Machine

/-! ## Parts of the state -/

/-- The mailbox window of a slice. -/
def win (s : State) (n : Nat) : Window := tget {} s.wins n

/-- Change a mailbox window. -/
def updWin (n : Nat) (f : Window → Window) (s : State) : State := { s with wins := tmod {} s.wins n f }

/-- A protection instance. -/
def inst (s : State) (n : Nat) : Inst := tget {} s.insts n

/-- Change an instance. -/
def updInst (n : Nat) (f : Inst → Inst) (s : State) : State := { s with insts := tmod {} s.insts n f }

/-- A domain, a port, a trip output. -/
def dom (s : State) (d : Nat) : Dom := tget {} s.doms d

def updDom (d : Nat) (f : Dom → Dom) (s : State) : State := { s with doms := tmod {} s.doms d f }

def port (s : State) (p : Nat) : Port := tget {} s.ports p

def updPort (p : Nat) (f : Port → Port) (s : State) : State := { s with ports := tmod {} s.ports p f }

def outp (s : State) (k : Nat) : Outp := tget {} s.trip.outs k

def updOut (k : Nat) (f : Outp → Outp) (s : State) : State :=
  { s with trip := { s.trip with outs := tmod {} s.trip.outs k f } }

/-- The instances of the table, by number. -/
def instNums (s : State) : List Nat := tkeys s.insts

/-- The instances that run. -/
def runningInsts (s : State) : List Nat := (s.insts.filter fun e => e.2.st == .running).map Prod.fst

/-- The domain of an instance in effect (R129). -/
def instDom (i : Inst) : Nat := fval i.cfg iDomain

/-- Does the instance reference the stream, in effect? -/
def refsStream (i : Inst) (x : Nat) : Bool := i.streams.contains x

/-- The joiner is in a phase of its resynchronisation (R323). -/
def joining (s : State) (p : Nat) : Bool := !s.tdm.standalone && s.tdm.role == .detached && s.tdm.phase == p

/-! ## Time (R14, R15, R375, R378, R391) -/

/-- TS32 now: bits [47:16] of the PHC. -/
def ts32 (s : State) : Word := BitVec.ofNat 32 (s.time.n >>> 16)

/-- TS32 of a time in 2^-16 ns. -/
def ts32At (t : Nat) : Word := BitVec.ofNat 32 (t >>> 16)

/-- Whole seconds and nanoseconds of a time in 2^-16 ns. -/
def secOf (t : Nat) : Nat := (t >>> 16) / 1000000000

def nsOf (t : Nat) : Nat := (t >>> 16) % 1000000000

/-- Full time at an instant of the PHC, with the flag of R14. -/
def fullAt (s : State) (t : Nat) : FullTime :=
  { sec := secOf t % 2 ^ 48, ns := nsOf t, notTraceable := !s.time.traceable }

/-- Full time now. -/
def fullNow (s : State) : FullTime := fullAt s s.time.n

/-- Nanoseconds in a microsecond, a millisecond, a second. -/
def us : Nat := 1000
def ms : Nat := 1000000
def sec1 : Nat := 1000000000

/-! ## Free values -/

/-- Draw a fresh number of the model's own counter. -/
def draw (s : State) : Nat × State := (s.fresh, { s with fresh := s.fresh + 1 })

/-! ## What leaves the block (R60, R90) -/

/-- Put something on the trace of what has left the block. -/
def emit (o : Out) (s : State) : State := { s with out := o :: s.out }

/-- Bus mastering is off: Bus Master Enable 0 or D3hot (R90). -/
def busOff (s : State) : Bool := !s.pcie.bme || s.pcie.d3hot

/-- Issue a posted write or a message: held in order while bus mastering is off (R90), lost once PCIe is down (R45). -/
def post (o : Out) (s : State) : State :=
  if s.pcie.down then s
  else if busOff s then { s with heldOut := s.heldOut ++ [.out o] }
  else emit o s

/-! ## Address translation (R107, R108) -/

/-- The entry of a slice that maps an address. -/
def atuHit (s : State) (slice addr : Nat) : Option AtuEntry :=
  s.atu.entries.find? fun e => e.slice == slice && e.addr ≤ addr && addr < e.addr + 2 ^ e.log2

/-- Does an entry allow a direction? -/
def atuAllows (e : AtuEntry) (write : Bool) : Bool := if write then bitOf e.access 1 else bitOf e.access 0

/-- Walk a request page by page: 0 fault-free, else the KIND of ATU_FLT_INFO and the address that faulted. -/
def atuWalk (s : State) (slice : Nat) (write : Bool) : Nat → Nat → Nat → Bool → Option (Nat × Nat)
  | 0, _, _, _ => none
  | fuel + 1, addr, len, first =>
    if len = 0 then none
    else match atuHit s slice addr with
      | none => some (if first then 1 else 3, addr)
      | some e =>
        if !atuAllows e write then some (2, addr)
        else
          let left := e.addr + 2 ^ e.log2 - addr
          if len ≤ left then none else atuWalk s slice write fuel (addr + left) (len - left) false

/-- The bus address of a slice address. -/
def busAddr (s : State) (slice addr : Nat) : Nat :=
  if slice = 0 then addr
  else match atuHit s slice addr with
    | some e => e.bus + (addr - e.addr)
    | none => addr

/-- Why a request of a slice may not be issued, and the slice address recorded: the request faults as a whole, so its own
address is the faulting one (DEDUCED). The admin slice's DMA bypasses the ATU (R107). -/
def atuCheck (s : State) (slice addr len : Nat) (write : Bool) : Option (Nat × Nat) :=
  if slice = 0 then none else (atuWalk s slice write (len / 4096 + 2) addr len true).map fun k => (k.1, addr)

/-! ## Notification sources (R420 to R427) -/

/-- A slice's notification unit; the admin slice's is kept apart. -/
def ntf (s : State) (n : Nat) : Ntf := if n = 0 then s.adm else tget {} s.ntfs n

def updNtf (n : Nat) (f : Ntf → Ntf) (s : State) : State :=
  if n = 0 then { s with adm := f s.adm } else { s with ntfs := tmod {} s.ntfs n f }

/-- How many sources a unit has (R420, R421). -/
def ntfSources (n : Nat) : Nat := if n = 0 then 15 else 11

/-- The level conditions of a slice's unit, as a mask (R420, R421). -/
def ntfLevel (s : State) (n : Nat) : Nat :=
  if n = 0 then
    b2n (s.sig.alarm != 0) * 4 + b2n s.sig.fault * 8 + b2n s.atu.fault * 256 + b2n (s.tdm.roleChg || s.tdm.disagree) * 16384
  else b2n ((win s n).ringErr || (win s n).deniedWr) * 8

/-- The level sources of a unit. -/
def ntfLevelMask (n : Nat) : Nat := if n = 0 then 0x410C else 8

/-- The sources pending (R422): an edge source from its event to its claim, a level source while its condition holds and
it is not claimed. -/
def ntfPending (s : State) (n : Nat) : Nat :=
  let u := ntf s n
  let lv := ntfLevel s n
  let lm := ntfLevelMask n
  ((List.range (ntfSources n)).filter fun i => if bitOf lm i then bitOf lv i && !bitOf u.claimed i else bitOf u.pend i).foldl
    (fun m i => m + 2 ^ i) 0

/-- The vector within the unit that a source is routed to (R424). -/
def ntfRoute (n : Nat) (u : Ntf) (i : Nat) : Nat := if n = 0 then 0 else bitsOf u.route (2 * i) 2

/-- The group and sub-priority of a source, as one number; 0 highest (R425). -/
def ntfPrio (u : Ntf) (i : Nat) : Nat := bitsOf u.prio (4 * i) 4

/-- The sources of a vector that qualify for a claim (R422). -/
def ntfReady (s : State) (n v : Nat) : List Nat :=
  let u := ntf s n
  (bitList (ntfPending s n) (ntfSources n)).filter fun i => bitOf u.enable i && ntfRoute n u i == v

/-- The vector has work (R426). -/
def hasWork (s : State) (n v : Nat) : Bool := !(ntfReady s n v).isEmpty

/-- Some pending source of the vector is exempt from moderation (R425). -/
def ntfExempt (s : State) (n v : Nat) : Bool :=
  let u := ntf s n
  (ntfReady s n v).any fun i => ntfPrio u i / 4 < tget 1 u.bypass v

/-- MSI-X vector of a unit's vector (R66, R67). -/
def msiVec (s : State) (n v : Nat) : Nat := if n = 0 then fval (win s 0).cfg wVec else 4 * (n - 1) + v

/-- Send the message of a vector: a masked entry sets its pending bit instead (R427). -/
def ntfSend (n v : Nat) (s : State) : State :=
  let x := msiVec s n v
  if s.pcie.unmasked.contains x then
    post (.msi x) (updNtf n (fun u => { u with last := tput u.last v s.clk, held := clrBit u.held v }) s)
  else updNtf n (fun u => { u with held := clrBit u.held v }) { s with pcie := { s.pcie with pba := insNat s.pcie.pba x } }

/-- A message of a vector is due (R426): sent at once, or held for MOD_INT. -/
def ntfDue (n v : Nat) (s : State) : State :=
  let u := ntf s n
  let m := tget 0 u.modInt v * us
  match tfind u.last v with
  | some t => if m ≠ 0 ∧ s.clk < t + m ∧ !ntfExempt s n v then updNtf n (fun u => { u with held := setBit u.held v }) s
              else ntfSend n v s
  | none => ntfSend n v s

/-- Judge one vector after a change: work from none to some makes a message due; a held message goes out once an exempt
source is pending (R426). -/
def ntfJudge (before : State) (n v : Nat) (s : State) : State :=
  if hasWork s n v && !hasWork before n v then ntfDue n v s
  else if bitOf (ntf s n).held v && ntfExempt s n v then ntfSend n v s
  else s

/-- Make a change that may set or end sources of one unit, and judge its vectors. -/
def withNtf (n : Nat) (f : State → State) (s : State) : State :=
  if n = 0 then ntfJudge s 0 0 (f s)
  else ntfJudge s n 3 (ntfJudge s n 2 (ntfJudge s n 1 (ntfJudge s n 0 (f s))))

/-- The event of an edge source (R422): an event while claimed is remembered. -/
def edge (n i : Nat) (s : State) : State :=
  withNtf n (updNtf n fun u =>
    if bitOf u.claimed i then { u with again := setBit u.again i } else { u with pend := setBit u.pend i }) s

/-- Set bits of a slice window that are level sources. -/
def ringErr (n : Nat) (s : State) : State := withNtf n (updWin n fun w => { w with ringErr := true }) s

def deniedWr (n : Nat) (s : State) : State := withNtf n (updWin n fun w => { w with deniedWr := true }) s

/-- An access error (R4, R64, R415): registers of R447 and admin source 1. -/
def accessError (bar2 write : Bool) (addr : Nat) (s : State) : State :=
  edge 0 1 { s with sig := { s.sig with
    accAddr := addr, accBar2 := bar2, accWrite := write, accCount := (s.sig.accCount + 1) % 65536 } }

/-! ## ATU faults (R108) -/

/-- Record a fault in the log and count it; the slice alarm is signalled. -/
def atuFault (slice kind addr : Nat) (write : Bool) (source cid : Nat) (s : State) : State :=
  let r : AtuFault :=
    { addr := addr, slice := slice, kind := kind, write := write, source := source, cid := if source = 1 then cid else 0, ts := ts32 s }
  let log (s : State) : State := { s with atu := { s.atu with
    log := tput s.atu.log s.atu.next r, next := (s.atu.next + 1) % 16, fault := true,
    ovf := s.atu.ovf || thas s.atu.log s.atu.next } }
  edge slice 5 (updWin slice (fun w => { w with atuFaults := w.atuFaults + 1 }) (withNtf 0 log s))

/-! ## The Chronicle (R437 to R440, R445) -/

/-- Severity of an event code (R438, R476). -/
def chrSev (code : Nat) : Nat :=
  if [0x0104, 0x0105, 0x0C01, 0x0D02, 0x1001].contains code then 0
  else if [0x0101, 0x0201, 0x0203, 0x0401, 0x0403, 0x0701, 0x0702, 0x0703, 0x0704, 0x0805, 0x0806, 0x0A02, 0x0B02, 0x0D07,
    0x1004, 0x1006, 0x0E01, 0x0E03, 0x0E05, 0x0E09, 0x0F01, 0x0F03, 0x0F04, 0x0F05, 0x0F09].contains code then 1
  else if [0x0601, 0x0603, 0x0802, 0x0901, 0x0902, 0x0904, 0x0A01, 0x0D04, 0x1002, 0x1005, 0x0E06, 0x0F06,
    0x0F07].contains code then 3
  else if code = 0x0D03 then 4
  else 2

/-- No object, no slice (R437). -/
def noObj : Nat := 0xFFFF

/-- Same CODE, INSTANCE, SLICE, OBJECT and DATA (R440). -/
def sameEntry (a b : Entry) : Bool :=
  a.code == b.code && a.inst == b.inst && a.slice == b.slice && a.obj == b.obj && a.data == b.data

/-- Put an item in place of the queued item of the same accession number, or nowhere. -/
def chrReplace (e : Entry) : List ChrItem → List ChrItem
  | [] => []
  | x :: t => if x.entry.acc == e.acc then { x with entry := e } :: t else x :: chrReplace e t

/-- The newest queued new entry of the lowest severity. -/
def chrVictim (q : List ChrItem) : Option Entry :=
  q.foldl (fun best x =>
    if x.rewrite then best
    else match best with
      | none => some x.entry
      | some b => if x.entry.sev ≤ b.sev then some x.entry else some b) none

/-- Both devices have failed: the reserve is in use (R445). -/
def chrReserve (c : Chron) : Bool := !c.ok0 && !c.ok1

/-- A repeat of the newest entry (R440). -/
def chrRepeat (e : Entry) (now : Word) (c : Chron) : Chron :=
  let e' := { e with rep := e.rep + 1, lastTs := now }
  let c := { c with newest := some e' }
  if chrReserve c then { c with reserve := c.reserve.map fun x => if x.acc == e.acc then e' else x }
  else if c.queue.any fun x => x.entry.acc == e.acc then { c with queue := chrReplace e' c.queue }
  else { c with queue := c.queue ++ [{ entry := e', rewrite := true }] }

/-- A new entry takes its accession number (R439), or is dropped; the second answer says it was accepted. -/
def chrAccept (e : Entry) (displace : Bool) (c : Chron) : Chron × Bool :=
  if chrReserve c then
    let e' := { e with acc := c.next, flags := e.flags ||| 2 }
    ({ c with next := c.next + 1, newest := some e',
              reserve := if c.reserve.length < 256 then c.reserve ++ [e'] else c.reserve.drop 1 ++ [e'],
              lost := if c.reserve.length < 256 then c.lost else c.lost + 1 }, true)
  else if c.queue.length < 1024 then
    let e' := { e with acc := c.next, flags := if c.ok0 && c.ok1 then e.flags else e.flags ||| 4 }
    ({ c with next := c.next + 1, newest := some e', queue := c.queue ++ [{ entry := e', rewrite := false }] }, true)
  else
    let drop := { c with dropped := c.dropped + 1, droppedFlag := true, droppedSince := c.droppedSince + 1 }
    if displace then
      match chrVictim c.queue with
      | some v =>
        let e' := { e with acc := v.acc, flags := v.flags }
        ({ drop with queue := chrReplace e' c.queue,
                     newest := if c.newest.map (·.acc) == some v.acc then some e' else c.newest }, true)
      | none => (drop, false)
    else (drop, false)

/-- Enter an event in the Chronicle (R437 to R440). Admin source 12 follows an accepted entry at or above NOTIFY_SEV. -/
def noteAs (sev code inst slice obj : Nat) (data : List Nat) (s : State) : State :=
  let e : Entry :=
    { acc := 0, opsec := s.met.opsec, sev := sev, code := code, cycles := s.met.cycles, time := fullNow s,
      flags := 0, inst := inst, slice := slice, obj := obj, data := data.take 4, lastTs := ts32 s }
  match s.chr.newest with
  | some n =>
    if sameEntry n e && n.rep < 65535 then { s with chr := chrRepeat n (ts32 s) s.chr }
    else
      let (c, ok) := chrAccept e (sev == 4 || code == 0x1002) s.chr
      if ok && c.notifySev ≤ sev then edge 0 12 { s with chr := c } else { s with chr := c }
  | none =>
    let (c, ok) := chrAccept e (sev == 4 || code == 0x1002) s.chr
    if ok && c.notifySev ≤ sev then edge 0 12 { s with chr := c } else { s with chr := c }

/-- Enter an event with its severity of R438. -/
def note (code inst slice obj : Nat) (data : List Nat) (s : State) : State :=
  noteAs (chrSev code) code inst slice obj data s

/-- The module itself writes the entry. -/
def noteMod (code inst obj : Nat) (data : List Nat) (s : State) : State := note code inst noObj obj data s

/-- A 64-bit value as two DATA words, low word first. -/
def words64 (v : Nat) : List Nat := [v % 2 ^ 32, v / 2 ^ 32 % 2 ^ 32]

/-! ## Waiting (R80) -/

/-- Add a wait. -/
def addWait (k : WaitKind) (c : Option CmdId) (s : State) : State :=
  { s with waits := s.waits ++ [{ kind := k, cmd := c, start := s.clk }] }

/-- The waits of a kind. -/
def waitsOf (k : WaitKind) (s : State) : List Wait := s.waits.filter fun w => w.kind == k

/-- Remove the waits of a kind. -/
def dropWaits (k : WaitKind) (s : State) : State := { s with waits := s.waits.filter fun w => w.kind != k }

/-- Is something of the kind waiting? -/
def waiting (k : WaitKind) (s : State) : Bool := s.waits.any fun w => w.kind == k

/-! ## Replies (R80, R83) -/

/-- A command's reply is ready: it enters COMPLETING. -/
def reply (id : CmdId) (r : Reply) (s : State) : State :=
  { s with cmds := s.cmds.map fun c =>
      if c.id == id && c.phase != .completing then { c with phase := .completing, reply := r } else c }

/-- A reply for a command that may not exist (an action of the module's own). -/
def replyTo (id : Option CmdId) (r : Reply) (s : State) : State :=
  match id with
  | some x => reply x r s
  | none => s

/-- Answer every wait of a kind, and remove them. -/
def finishWaits (k : WaitKind) (r : Reply) (s : State) : State :=
  dropWaits k ((waitsOf k s).foldl (fun s w => replyTo w.cmd r s) s)

/-- Status codes (R75). -/
def ok : Reply := {}
def busy : Reply := { status := 1 }
def denied (d : Nat) : Reply := { status := 2, detail := d }
def badarg (d : Nat) : Reply := { status := 3, detail := d }
def nospace : Reply := { status := 4 }
def stale : Reply := { status := 5 }
def aborted (d : Nat) : Reply := { status := 6, detail := d }
def stagedR : Reply := { status := 8 }
def notlocked : Reply := { status := 9 }
def untrusted : Reply := { status := 10 }

/-- RESULT0 as one parameter entry: key and value (R71, R73). -/
def withKey (k v : Nat) (r : Reply) : Reply := { r with res0 := k + v % 2 ^ 32 * 2 ^ 32, nres := 1 }

end Sys2Proof.Machine
end

