-- ==== Sys2Proof/Machine/Operands.lean ====
section
/-! DEFINITION. The operands of a mailbox command: its parameters by key, and how a Feljo row executes a fetched command
(R71, R75, R79, R80, R108, R492). -/

namespace Sys2Proof.Machine

/-- What a command's own meaning answers: a failing status, which changes nothing (R75); its effect and reply; or that it
has started and waits. -/
inductive Ans where
  | fail (r : Reply)
  | done (s : State) (r : Reply)
  | wait (s : State)
  /-- It is past its commit point and its reply is still to come (R80). -/
  | going (s : State)

/-- The value of the first parameter with a key. -/
def arg (c : Cmd) (key : Nat) : Option Nat := (c.params.find? fun p => p.key == key).map (·.value)

/-- The value of a parameter, or a default where it is absent. -/
def argD (c : Cmd) (key dflt : Nat) : Nat := (arg c key).getD dflt

/-- The index of the first entry with a key. -/
def argIdx (c : Cmd) (key : Nat) : Nat := ((c.params.find? fun p => p.key == key).map (·.idx)).getD 0

/-- Every value of a repeated key, in entry order. -/
def args (c : Cmd) (key : Nat) : List Nat := (c.params.filter fun p => p.key == key).map (·.value)

/-- The command came from the admin slice. -/
def fromAdmin (c : Cmd) : Bool := c.id.slice == 0

/-- The instance a command means: key 0x0001 from the admin slice, else the slice's own (R128). -/
def instOf (c : Cmd) : Nat := if c.id.slice = 0 then argD c 1 0 else c.id.slice

/-- The instance or slice on whose behalf a command changes something, for the Chronicle. -/
def sliceOfCmd (c : Cmd) : Nat := c.id.slice

/-- The block a command acts on, for the order of R79: protection instances together, other blocks by opcode range and
key 0x0001. -/
def blockOf (c : Cmd) : Nat × Nat :=
  let g := c.op / 256
  if g = 2 ∨ g = 6 ∨ g = 7 ∨ (g = 8 ∧ c.op < 0x0809) ∨ (0x0307 ≤ c.op ∧ c.op ≤ 0x0309) then (2, instOf c)
  else (g, argD c 1 0)

/-- FENCE (R70, R79). -/
def fence (c : Cmd) : Bool := bitOf c.flags 0

/-- May a fetched command start (R79)? An earlier FENCE of its ring, or its own, makes it wait for retirements; commands
on one block start in the order they were fetched. -/
def startable (s : State) (c : Cmd) : Bool :=
  s.cmds.all fun x =>
    !(decide (x.seq < c.seq)) ||
      (!(x.id.slice == c.id.slice && (fence x || fence c)) &&
       !((x.phase == .fetched || x.phase == .reading) && blockOf x == blockOf c))

/-- Put a command into a phase. -/
def setPhase (id : CmdId) (p : Phase) (s : State) : State :=
  { s with cmds := s.cmds.map fun c =>
      if c.id == id && c.phase == .fetched then
        { c with phase := p, started := if c.input.isEmpty then s.clk else c.started }
      else c }

/-- A refusal's reply. DENIED for an unmet precondition names it in RESULT0 (R76); where no rule gives the name, RESULT0
is a free value. -/
def refusal (r : Reply) (s : State) : Reply :=
  if r.status = 2 ∧ r.detail = 4 ∧ r.nres = 0 then { r with res0 := Config.free 12 s.fresh % 2 ^ 64 } else r

/-- A command's answer becomes its reply. A reply too long for its buffer is NOSPACE with the bytes needed and changes
nothing (R75); BUF_LEN 0 writes none (R492); a buffer that does not translate ends the command ABORTED (R108); the data
are issued before the completion can be (R73). -/
def settle (c : Cmd) (s : State) : Ans → State
  | .fail r => reply c.id (refusal r s) { s with fresh := s.fresh + 1 }
  | .wait s' => setPhase c.id .executing s'
  | .going s' => setPhase c.id .committed s'
  | .done s' r =>
    if r.out.isEmpty || c.bufLen == 0 then reply c.id { r with out := [] } s'
    else if c.bufLen < r.out.length then reply c.id { nospace with res1 := some r.out.length } s
    else match atuCheck s c.id.slice c.bufAddr r.out.length true with
      | some (k, a) => reply c.id (aborted 5) (atuFault c.id.slice k a true 1 c.id.cid s)
      | none =>
        reply c.id { r with out := [], res1 := some (r.res1.getD r.out.length) }
          (post (.dmaWrite c.id.slice (busAddr s c.id.slice c.bufAddr) r.out) s')

/-- The outstanding command a Feljo row executes. -/
def ready (op : Nat) (r : CmdId) (s : State) : Option Cmd :=
  match s.cmds.find? fun c => c.id == r && c.op == op && c.phase == .fetched with
  | some c => if startable s c then some c else none
  | none => none

/-- Commands of the instance, element, logic and GOOSE ranges that name no instance. -/
def noInstance : List Nat := [0x0606, 0x0609, 0x060A, 0x070B, 0x070C]

/-- While an instance is RESETTING every command for it but `instance.status.get` completes BUSY (R117). -/
def heldByReset (c : Cmd) (s : State) : Bool :=
  (blockOf c).1 == 2 && !noInstance.contains c.op && c.op != 0x0201 && (inst s (instOf c)).st == .resetting &&
    !(s.svc.state == .boot || s.svc.state == .halted)

/-- A Feljo row: the named command, fetched with this opcode and free to start, runs its meaning; where no such command
is outstanding there is nothing to execute. -/
def feljo (op : Nat) (r : CmdId) (k : Cmd → State → Ans) (s : State) : Res :=
  match ready op r s with
  | some c => .next (settle c s (if heldByReset c s then .fail busy else k c s))
  | none => .next s

/-! ## Common judgements -/

/-- BOOT and HALTED. -/
def bootOrHalted (s : State) : Bool := s.svc.state == .boot || s.svc.state == .halted

/-- A rule's refusal where its condition fails. -/
def require (p : Bool) (r : Reply) (k : Ans) : Ans := if p then k else .fail r

/-- The command is refused in BOOT and HALTED (DENIED with DETAIL 0x0001). -/
def notBootHalted (s : State) (k : Ans) : Ans := require (!bootOrHalted s) (denied 1) k

/-- The command is accepted on the admin slice only (DENIED with DETAIL 0x0002). -/
def adminOnly (c : Cmd) (k : Ans) : Ans := require (fromAdmin c) (denied 2) k

/-- A change is refused on a tandem unit whose role is not ACTIVE (DENIED with DETAIL 0x0001). -/
def activeOnly (s : State) (k : Ans) : Ans := require (s.tdm.standalone || s.tdm.role == .active) (denied 1) k

/-- Two 32-bit words as RESULT0. -/
def res2 (lo hi : Nat) : Nat := lo % 2 ^ 32 + hi % 2 ^ 32 * 2 ^ 32

/-- A parameter entry of 8 bytes in a reply list, with ATTR.STAGED (R71). -/
def entryBytes (key value : Nat) (stg : Bool) : List Byte := le 2 key ++ le 2 (if stg then 2 else 0) ++ le 4 value

/-- A wide value as two entries. -/
def wideBytes (key value : Nat) (stg : Bool) : List Byte :=
  le 2 key ++ le 2 (1 + if stg then 2 else 0) ++ le 4 value ++ entryBytes key (value / 2 ^ 32) stg

/-- The keys of a block as a reply list: each as a read returns it, staged values marked (R10). -/
def keyList (ds : List Desc) (c : Cfg) : List Byte :=
  (ds.filter fun d => d.key != 0).flatMap fun d =>
    if 32 < d.width then wideBytes d.key (fread c d) (fstaged c d) else entryBytes d.key (fread c d) (fstaged c d)

/-- Reply OK, or STAGED where the block has a staged value (R10, R75). -/
def okOrStaged (stg : Bool) : Reply := if stg then stagedR else ok

/-- A reply whose data go to the buffer. -/
def withOut (b : List Byte) (r : Reply) : Reply := { r with out := b }

/-- The answer of writing keys one by one: the configuration, whether a value was staged; or the index of a refused
entry and why (class X, or a range). -/
def writeKeys (ds : List Desc) (mode : Desc → Mode) : List Param → Cfg → Bool → Except Reply (Cfg × Bool)
  | [], c, stg => .ok (c, stg)
  | p :: t, c, stg =>
    match byKey ds p.key with
    | none => writeKeys ds mode t c stg
    | some d =>
      if !inRange d p.value then .error (badarg p.idx)
      else match fwrite c d (mode d) p.value with
        | some c' => writeKeys ds mode t c' (stg || fstaged c' d)
        | none => .error (denied 3)

end Sys2Proof.Machine
end

