-- ==== Sys2Proof/Machine/SwitchOps.lean ====
section
/-! DEFINITION. Shared operations of the switch core: shelves and cells (R350 to R354), the queues, the delivery of
frames into receive descriptors (R91 to R94), the forwarding lookup (R341 to R344) and the copies it makes (R346,
R353, R358, R365, R366). -/

namespace Sys2Proof.Machine

/-! ## Ports, counters, settings -/

/-- Physical ports are 0 to 47, virtual ports 51 to 562 (R331). -/
def isPhys (p : Nat) : Bool := decide (p < 48)

def isVirt (p : Nat) : Bool := decide (50 < p)

/-- A field of a port, of the switch core, of the time function's port settings. -/
def portf (s : State) (p : Nat) (d : Desc) : Nat := fval (port s p).cfg d

def swf (s : State) (d : Desc) : Nat := fval s.sw.cfg d

def vport (s : State) (n : Nat) : Vport := tget {} s.sw.vports n

/-- Change the switch core. -/
def updSw (f : Switch → Switch) (s : State) : State := { s with sw := f s.sw }

def eg (s : State) (p : Nat) : Egress := tget {} s.sw.eg p

def updEg (p : Nat) (f : Egress → Egress) (s : State) : State := updSw (fun w => { w with eg := tmod {} w.eg p f }) s

def queueOf (s : State) (p c : Nat) : List Copy := tget [] (eg s p).queues c

def setQueue (p c : Nat) (q : List Copy) (s : State) : State := updEg p (fun e => { e with queues := tset [] e.queues c q }) s

/-- Count on a physical port (R369). -/
def count (p i : Nat) (s : State) : State :=
  if isPhys p then updPort p (fun q => { q with counts := tmod 0 q.counts i (· + 1) }) s else s

/-- Add to a 64-bit counter held as two words. -/
def countOctets (p i n : Nat) (s : State) : State :=
  if isPhys p then updPort p (fun q =>
    let v := (tget 0 q.counts i).toNat + (tget 0 q.counts (i + 1)).toNat * 2 ^ 32 + n
    { q with counts := tset 0 (tset 0 q.counts i (BitVec.ofNat 32 v)) (i + 1) (BitVec.ofNat 32 (v / 2 ^ 32)) }) s
  else s

/-- Count a frame lost to a virtual port (R93, R344). -/
def rxNobuf (n : Nat) (s : State) : State := updWin n (fun w => { w with rxNobuf := w.rxNobuf + 1 }) s

/-- The receive ring of a slice runs: its virtual port is up (R344). -/
def vportUp (s : State) (n : Nat) : Bool := fon (win s n).cfg wRxEn

/-! ## Shelves (R350 to R352) -/

/-- Charges are kept by class on a physical port, in one place on the others. -/
def chargeIdx (p c : Nat) : Nat := if isPhys p then c else 0

/-- The own shelf of a port and class. -/
def ownSize (s : State) (p c : Nat) : Nat :=
  if isPhys p then portf s p (prOwn c)
  else if p = 48 then swf s swSviOwn else if p = 49 then swf s swGseOwn else if p = 50 then swf s swMgtOwn
  else swf s swVpOwn

/-- The sum of the own shelves of a configuration of the ports and the core, `f` reading the fields. -/
def ownSum (fp : Nat → Nat → Nat) (fs : Desc → Nat) : Nat :=
  sumOf ((List.range 48).flatMap fun p => (List.range 8).map fun c => fp p c) + fs swSviOwn + fs swGseOwn + fs swMgtOwn +
    512 * fs swVpOwn

/-- SWC_OWN_TOTAL and the common shelf in effect. -/
def ownTotal (s : State) : Nat := ownSum (fun p c => portf s p (prOwn c)) (swf s)

def commonSize (s : State) : Nat := 131072 - ownTotal s

/-- The common shelf once every staged size takes effect (R354). -/
def commonStaged (s : State) : Nat :=
  131072 - ownSum (fun p c => fread (port s p).cfg (prOwn c)) (fread s.sw.cfg)

/-- Common cells one class and one port may hold; internal ports have no ceiling. -/
def ceilings (s : State) (p : Nat) : Option (Nat × Nat) :=
  if isPhys p then some (portf s p prCmax, portf s p prPmax)
  else if isVirt p then some (fval (vport s (p - 50)).cfg vpVcmax, fval (vport s (p - 50)).cfg vpVcmax)
  else none

/-- Common cells that a copy may still charge. -/
def commonLeft (s : State) (p c : Nat) : Nat :=
  let free := commonSize s - s.sw.commonUsed
  match ceilings s p with
  | some (cm, pm) => min free (min (cm - tget 0 (eg s p).comUsed (chargeIdx p c)) (pm - (eg s p).comPort))
  | none => free

/-- The own and common cells of a copy of `n` cells; none where a cell cannot be charged (R351). -/
def shelfCharge (s : State) (p c n : Nat) : Option (Nat × Nat) :=
  let o := min n (ownSize s p c - tget 0 (eg s p).ownUsed (chargeIdx p c))
  if n - o ≤ commonLeft s p c then some (o, n - o) else none

/-- Cells of a frame (R350). -/
def cellsOf (len : Nat) : Nat := ceilDiv len 256

/-- A copy takes its charges, and the stored frame one more holder; the first holder takes the cells. -/
def holdCells (p n : Nat) (q : Copy) (s : State) : State :=
  updSw (fun w =>
    { w with commonUsed := w.commonUsed + q.com, mirUsed := w.mirUsed + q.mir,
             free := if thas w.bufs q.fid then w.free else w.free - n,
             bufs := match tfind w.bufs q.fid with
               | some (m, k) => tput w.bufs q.fid (m, k + 1)
               | none => tput w.bufs q.fid (n, 1) })
    (updEg p (fun e =>
      { e with ownUsed := tmod 0 e.ownUsed (chargeIdx p q.cls) (· + q.own),
               comUsed := tmod 0 e.comUsed (chargeIdx p q.cls) (· + q.com), comPort := e.comPort + q.com }) s)

/-- A copy leaves: its charges return, and the last holder frees the cells (R352). -/
def release (p : Nat) (q : Copy) (s : State) : State :=
  updSw (fun w =>
    match tfind w.bufs q.fid with
    | some (m, k) =>
      { w with commonUsed := w.commonUsed - q.com, mirUsed := w.mirUsed - q.mir,
               free := if k ≤ 1 then w.free + m else w.free,
               bufs := if k ≤ 1 then tdel w.bufs q.fid else tput w.bufs q.fid (m, k - 1) }
    | none => { w with commonUsed := w.commonUsed - q.com, mirUsed := w.mirUsed - q.mir })
    (updEg p (fun e =>
      { e with ownUsed := tmod 0 e.ownUsed (chargeIdx p q.cls) (· - q.own),
               comUsed := tmod 0 e.comUsed (chargeIdx p q.cls) (· - q.com), comPort := e.comPort - q.com }) s)

/-- Queue a copy of a frame of `n` cells, or drop it (R351, R353). -/
def enqueue (p n : Nat) (q : Copy) (s : State) : State :=
  match shelfCharge s p q.cls n with
  | some (o, m) =>
    let q := { q with own := o, com := m }
    holdCells p n q (setQueue p q.cls (queueOf s p q.cls ++ [q]) s)
  | none => count p (24 + q.cls) s

/-- Queue a mirror copy: class 0, common cells only, within MIRROR_CAP (R358). -/
def enqueueMirror (p n : Nat) (q : Copy) (s : State) : State :=
  if n ≤ commonLeft s p 0 ∧ s.sw.mirUsed + n ≤ swf s swMirCap then
    let q := { q with cls := 0, own := 0, com := n, mir := n }
    holdCells p n q (setQueue p 0 (queueOf s p 0 ++ [q]) s)
  else count p 21 s

/-- Empty the queues of a port, each copy handled by `f` after its cells return. -/
def flushQueues (p : Nat) (f : Copy → State → State) (s : State) : State :=
  (List.range 8).foldl (fun s c =>
    (queueOf s p c).foldl (fun s q => f q (release p q s)) (setQueue p c [] s)) s

/-- Flush a physical port (R338, R357): each copy counts in FLUSHED. -/
def flushPort (p : Nat) (s : State) : State := flushQueues p (fun _ => count p 16) s

/-- Flush a virtual port whose receive ring stops (R344). -/
def flushVport (n : Nat) (s : State) : State := flushQueues (50 + n) (fun _ => rxNobuf n) s

/-- The age limit of a class in ns (R356), and whether a copy has passed it. -/
def ageLimit (c : Nat) : Nat := if 6 ≤ c then 2 * ms else 50 * ms

def aged (s : State) (q : Copy) : Bool := decide (q.arrival + ageLimit q.cls < s.clk)

/-- Take the head of a queue. -/
def popHead (p c : Nat) (s : State) : Option (Copy × State) :=
  match queueOf s p c with
  | q :: t => some (q, release p q (setQueue p c t s))
  | [] => none

/-- The oldest copy of a queue that meets a test, and the queue without it. -/
def pickOut (t : Copy → Bool) : List Copy → Option (Copy × List Copy)
  | [] => none
  | q :: r => if t q then some (q, r) else (pickOut t r).map fun x => (x.1, q :: x.2)

/-- Drop the aged copies of a queue at dequeue (R356). -/
def dropAged (p c : Nat) (s : State) : State :=
  let old := (queueOf s p c).filter fun q => aged s q
  if old.isEmpty then s
  else old.foldl (fun s q => count p (32 + c) (release p q s)) (setQueue p c ((queueOf s p c).filter fun q => !aged s q) s)

/-- Take from an internal port the oldest copy of the highest class that meets a test (R345, R355). -/
def takeFrom (p : Nat) (t : Copy → Bool) : Nat → State → Option (Copy × State)
  | 0, _ => none
  | c + 1, s =>
    let s := dropAged p c s
    match pickOut t (queueOf s p c) with
    | some (q, r) => some (q, release p q (setQueue p c r s))
    | none => takeFrom p t c s

/-! ## Receive rings (R91 to R94, R108) -/

/-- Entries of a ring from its LOG2. -/
def ringLen (log2 : Nat) : Nat := 2 ^ log2

/-- Descriptors posted and unused. -/
def rxFree (w : Window) : Nat :=
  let n := ringLen (fval w.cfg wRxLog2)
  (w.rxTail + n - w.rxHead % n) % n

/-- The address of a receive descriptor. -/
def rxAddr (w : Window) (i : Nat) : Nat := fval w.cfg wRxLo * 4096 + fval w.cfg wRxHi * 2 ^ 32 + 32 * i

def txAddr (w : Window) (i : Nat) : Nat := fval w.cfg wTxLo * 4096 + fval w.cfg wTxHi * 2 ^ 32 + 32 * i

/-- A receive write-back (R91). -/
def rxWb (placed status flags ts flen vlan ingress : Nat) : List Byte :=
  zeros 8 ++ le 2 placed ++ le 1 status ++ le 1 flags ++ le 4 ts ++ le 4 flen ++ le 2 vlan ++ le 1 ingress ++ zeros 8 ++ le 1 1

/-- The first descriptor of `k` from index `i` whose read or write-back does not translate. -/
def rxFault (s : State) (n : Nat) (w : Window) : Nat → Nat → Option (Nat × Nat × Bool)
  | _, 0 => none
  | i, k + 1 =>
    match atuCheck s n (rxAddr w i) 32 false with
    | some (kd, a) => some (kd, a, false)
    | none =>
      match atuCheck s n (rxAddr w i) 32 true with
      | some (kd, a) => some (kd, a, true)
      | none => rxFault s n w ((i + 1) % ringLen (fval w.cfg wRxLog2)) k

/-- A receive buffer that does not translate: its address is what the host wrote into the descriptor, which this model
does not hold, so it is a free value. -/
def rxBufFault (s : State) (n : Nat) : Nat → Nat → Option (Nat × Nat)
  | _, 0 => none
  | d, k + 1 =>
    match atuCheck s n (Config.free 2 d) (256 * fval (win s n).cfg wRxBuf) true with
    | some x => some x
    | none => rxBufFault s n (d + 1) k

/-- Stop a receive ring after a fault (R108). -/
def rxStop (n : Nat) (s : State) : State :=
  flushVport n (ringErr n (updWin n (fun w => { w with cfg := fset w.cfg wRxEn 0 }) s))

/-- Write back `k` descriptors from index `i`; `j` counts them from 0. -/
def rxWriteBacks (n : Nat) (f : Nat → List Byte) : Nat → Nat → Nat → State → State
  | _, _, 0, s => s
  | i, j, k + 1, s =>
    let w := win s n
    rxWriteBacks n f ((i + 1) % ringLen (fval w.cfg wRxLog2)) (j + 1) k
      (post (.dmaWrite n (busAddr s n (rxAddr w i)) (f j)) s)

/-- Deliver one copy into the ring of a slice whose port is up and has a free descriptor: placed whole, or ended at the
descriptor that is missing (R93), or by a bad tail (R94). -/
def deliverCopy (n : Nat) (q : Copy) (bad : Bool) (s : State) : State :=
  let w := win s n
  let f := q.frame
  let len := f.len - 4 - (if f.tag.isSome then 4 else 0)
  let buf := 256 * fval w.cfg wRxBuf
  let free := rxFree w
  let need := max 1 (ceilDiv len buf)
  let k := min need free
  let ring := ringLen (fval w.cfg wRxLog2)
  match rxFault s n w w.rxHead k with
  | some (kd, a, wr) => rxNobuf n (rxStop n (atuFault n kd a wr 4 0 s))
  | none =>
    match rxBufFault s n s.fresh k with
    | some (kd, a) => rxNobuf n (rxStop n (atuFault n kd a true 4 0 { s with fresh := s.fresh + k }))
    | none =>
      let s := { s with fresh := s.fresh + k }
      let s := updWin n (fun w => { w with rxHead := (w.rxHead + k) % ring }) s
      let tag := match f.tag with
        | some t => t.vid + t.pcp * 8192
        | none => 0
      let ing := if q.ingress < 48 then q.ingress else 0xFF
      let nt := b2n q.notTraceable * 4 + q.cls * 8
      let ts := (ts32At q.stamp).toNat
      if need ≤ free ∧ !bad then
        let s := post (.rxData n w.rxHead k f) s
        let s := rxWriteBacks n (fun j =>
          let last := j + 1 == need
          rxWb (if last then len - buf * j else buf) 0 (b2n (j == 0) + b2n last * 2 + nt) (if j = 0 then ts else 0)
            (if last then len else 0) tag ing) w.rxHead 0 k s
        edge n 1 (updWin n (fun w => { w with rxFrames := w.rxFrames + 1 }) s)
      else
        let st := if bad then 2 else 1
        let s := rxWriteBacks n (fun j => rxWb buf st (b2n (j == 0) + nt) (if j = 0 then ts else 0) 0 tag ing) w.rxHead 0 k s
        updWin n (fun w => if bad then { w with rxBad := w.rxBad + 1 } else { w with rxNobuf := w.rxNobuf + 1 }) s

/-- Deliver what waits at a virtual port, class 7 first, while descriptors are free (R92, R355). -/
def deliverLoop (n : Nat) : Nat → Nat → State → State
  | 0, _, s => s
  | _, 0, s => s
  | fuel + 1, c + 1, s =>
    if !vportUp s n || rxFree (win s n) == 0 || busOff s || s.pcie.down then s
    else
      let s := dropAged (50 + n) c s
      match popHead (50 + n) c s with
      | some (q, s') => deliverLoop n fuel 8 (deliverCopy n q false s')
      | none => deliverLoop n fuel c s

/-- How many copies wait at a port. -/
def waitingCopies (s : State) (p : Nat) : Nat := sumOf ((List.range 8).map fun c => (queueOf s p c).length)

def deliver (n : Nat) (s : State) : State := deliverLoop n (9 * (waitingCopies s (50 + n) + 1)) 8 s

/-! ## Roles, pairs, transcripts -/

/-- The number of a role in SWC_ROLE_MATRIX; virtual ports count as STATION, internal ports are not masked (R334). -/
def matrixRole (s : State) (p : Nat) : Option Nat :=
  if isVirt p then some 1
  else if isPhys p then (if portf s p prRole = 0 then none else some (portf s p prRole - 1))
  else none

/-- The enabled mirror sessions. -/
def mirrorsOn (s : State) : List Cfg := (s.sw.mirrors.map Prod.snd).filter fun c => fon c mrEnable

/-- A transcript port (R358). -/
def isTranscript (s : State) (p : Nat) : Bool := (mirrorsOn s).any fun c => fval c mrPort == p

/-- The enabled redundancy pair of a port, its partner and its LAN (R365, R366). -/
def pairOf (s : State) (p : Nat) : Option (Nat × RPair) :=
  s.sw.pairs.find? fun e => fon e.2.cfg rpEnable && isPhys p && (fval e.2.cfg rpFirst == p || fval e.2.cfg rpSecond == p)

def partnerOf (r : RPair) (p : Nat) : Nat := if fval r.cfg rpFirst = p then fval r.cfg rpSecond else fval r.cfg rpFirst

def lanOf (r : RPair) (p : Nat) : Nat := if fval r.cfg rpFirst = p then 0 else 1

def isHsr (r : RPair) : Bool := fon r.cfg rpMode

/-- An address of the module's own: its base address or one of a virtual port. -/
def isOwnMac (s : State) (m : Nat) : Bool := m == Config.baseMac || s.sw.vports.any fun e => e.2.macs.contains m

/-- Broadcast, and any group address. -/
def isBroadcast (m : Nat) : Bool := m == 0xFFFFFFFFFFFF

def isGroupMac (m : Nat) : Bool := bitOf (m >>> 40) 0

/-! ## VLANs and the lookup (R342) -/

/-- Is a port a member of a VLAN? A virtual port is one of each of its VLANs. -/
def vlanMember (s : State) (vid p : Nat) : Bool :=
  if isVirt p then (vport s (p - 50)).vlans.contains vid
  else match tfind s.sw.vlans vid with
    | some v => bitOf v.members p
    | none => false

/-- Does a frame of the VLAN leave a port untagged? -/
def vlanUntag (s : State) (vid p : Nat) : Bool :=
  match tfind s.sw.vlans vid with
  | some v => bitOf v.untag p
  | none => false

/-- The forwarding entry of an address. -/
def fdbFind (s : State) (vid mac : Nat) : Option Fdb := s.sw.fdb.find? fun e => e.vid == vid && e.mac == mac

/-- The ports of an entry. -/
def fdbPorts (s : State) (e : Fdb) : List Nat :=
  if e.group then
    match tfind s.sw.groups e.target with
    | some g => bitList g.ports 51 ++ g.vports
    | none => []
  else [e.target]

/-- Every port with a receive side that flooding can reach. -/
def floodPorts (s : State) : List Nat :=
  (List.range 48).filter (fun p => portf s p prFlood == 1) ++
    (s.sw.vports.filter fun e => fon e.2.cfg vpFlood).map fun e => 50 + e.1

/-- May a frame from one port reach another (R334)? -/
def mayReach (s : State) (from_ egr : Nat) : Bool :=
  from_ != egr &&
  (match matrixRole s from_, matrixRole s egr with
    | some i, some j => bitOf (swf s swMatrix) (4 * i + j)
    | _, _ => true) &&
  !(isPhys egr && (portf s egr prRole == 0 || isTranscript s egr)) &&
  !(isVirt from_ && (egr == 48 || egr == 49 || (isPhys egr && (portf s egr prRole == 1 || portf s egr prRole == 4))))

/-- Is the ingress port on the process side, whose unknown frames are not flooded? -/
def processSide (s : State) (p : Nat) : Bool := isPhys p && (portf s p prRole == 1 || portf s p prRole == 4)

/-- The destination set (R342, R334): a frame never goes back into its own pair except by ring forwarding. -/
def destinations (s : State) (ingress vid dst : Nat) : List Nat :=
  let hit := if isBroadcast dst then none else fdbFind s vid dst
  let raw := match hit with
    | some e => fdbPorts s e
    | none => if processSide s ingress then [] else floodPorts s
  let mate := match pairOf s ingress with
    | some (_, r) => [ingress, partnerOf r ingress]
    | none => [ingress]
  raw.eraseDups.filter fun p => vlanMember s vid p && mayReach s ingress p && !mate.contains p && p != 48 && p != 49

/-! ## Copies -/

/-- A frame without tag, trailer or ring tag: its length. -/
def bareLen (f : Frame) : Nat := f.len - (if f.tag.isSome then 4 else 0) - (if f.red.isSome then 6 else 0)

/-- The frame as it leaves a port. -/
def frameFor (s : State) (p vid pcp : Nat) (red : Option RedTag) (f : Frame) : Frame :=
  let tag := if isPhys p && vlanUntag s vid p then none else some { vid := vid, pcp := pcp }
  { f with tag := tag, red := red,
           len := bareLen f + (if tag.isSome then 4 else 0) + (if red.isSome then 6 else 0) }

/-- Queue a copy on one port: dropped where the port is down (R344, R357) or the copy does not fit (R346). -/
def copyTo (p n : Nat) (q : Copy) (s : State) : State :=
  if isPhys p then
    if !(port s p).link then count p 15 s
    else if portf s p prMaxFrame < q.frame.len then count p 23 s
    else enqueue p n q s
  else if isVirt p then
    if vportUp s (p - 50) then deliver (p - 50) (enqueue p n q s) else rxNobuf (p - 50) s
  else enqueue p n q s

/-- The next sequence number of a pair. -/
def pairSeq (k : Nat) (s : State) : State :=
  updSw (fun w => { w with pairs := tupd w.pairs k fun r => { r with seq := (r.seq + 1) % 65536 } }) s

/-- Send a frame into a pair: on both members, with the trailer or tag of each (R365, R366). -/
def copyPair (k : Nat) (r : RPair) (n vid pcp : Nat) (q : Copy) (s : State) : State :=
  let one (p : Nat) (s : State) : State :=
    copyTo p n { q with frame := frameFor s p vid pcp (some { hsr := isHsr r, lan := lanOf r p, seq := r.seq }) q.frame } s
  one (fval r.cfg rpSecond) (one (fval r.cfg rpFirst) (pairSeq k s))

/-- Copies to a list of ports; a pair already served is not served again. -/
def copyAll (n vid pcp : Nat) (q : Copy) : List Nat → List Nat → State → State
  | [], _, s => s
  | p :: t, served, s =>
    if served.contains p then copyAll n vid pcp q t served s
    else match pairOf s p with
      | some (k, r) => copyAll n vid pcp q t (fval r.cfg rpFirst :: fval r.cfg rpSecond :: served) (copyPair k r n vid pcp q s)
      | none => copyAll n vid pcp q t served (copyTo p n { q with frame := frameFor s p vid pcp none q.frame } s)

/-- The next frame number. -/
def newFid (s : State) : Nat × State := (s.sw.nextFid, updSw (fun w => { w with nextFid := w.nextFid + 1 }) s)

/-- Queue a frame for an internal port (R341). -/
def capture (p : Nat) (q : Copy) (s : State) : State := enqueue p (cellsOf q.frame.len) q s

/-- Mirror a frame at a mirror point: direction bit 0 ingress, 1 egress (R358). -/
def mirrorFrame (p dir : Nat) (q : Copy) (s : State) : State :=
  (mirrorsOn s).foldl (fun s c =>
    if bitOf (fval c mrSources) p && bitOf (fval c mrDir) dir && bitOf (fval c mrClasses) q.cls then
      let t := fval c mrPort
      let r := { q with tx := none, launch := none, fwStamp := false }
      if isVirt t then
        if vportUp s (t - 50) then deliver (t - 50) (enqueueMirror t (cellsOf q.frame.len) r s) else rxNobuf (t - 50) s
      else if (port s t).link then enqueueMirror t (cellsOf q.frame.len) r s else count t 15 s
    else s) s

/-- A GOOSE frame of the module's own: handed in to the switch core through GSE (R281, R341), offered to GSE itself
(R334), and forwarded by the lookup. -/
def handInGoose (vid pcp cls : Nat) (f : Frame) (launch : Option Nat) (s : State) : State :=
  let (fid, s) := newFid s
  let q : Copy :=
    { fid := fid, frame := f, cls := cls, ingress := 49, arrival := s.clk, stamp := s.time.n,
      notTraceable := !s.time.traceable, own := 0, com := 0, launch := launch }
  let s := capture 49 { q with launch := none } s
  if vlanMember s vid 49 then copyAll (cellsOf f.len) vid pcp q (destinations s 49 vid f.dst) [] s else s

/-- A frame of the management cores for one physical port, past the lookup: PTP, referee and supervision frames. -/
def handInMgt (p cls : Nat) (f : Frame) (fwStamp : Bool) (s : State) : State :=
  let (fid, s) := newFid s
  copyTo p (cellsOf f.len)
    { fid := fid, frame := f, cls := cls, ingress := 50, arrival := s.clk, stamp := s.time.n,
      notTraceable := !s.time.traceable, own := 0, com := 0, fwStamp := fwStamp } s

/-! ## Gates (R361, R362) -/

/-- The first cycle start of a list, BASE + N × CYCLE, at or after a PHC time in 2^-16 ns. -/
def firstStart (g : Gcl) (t : Nat) : Nat :=
  let b := g.base * 65536
  let c := g.cycle * 65536
  if t ≤ b then b else b + ceilDiv (t - b) c * c

/-- Gates of a port are to start at its first cycle start from now on. -/
def armGate (s : State) (p : Port) : Port :=
  match p.gcl with
  | some g => if fon p.cfg prGclEn && !p.gatesRun then { p with gateAt := some (firstStart g s.time.n) } else p
  | none => p

/-- Every gate of a port opens. -/
def openGate (p : Port) : Port := { p with gatesRun := false, gates := 0xFF, entry := 0, gateAt := none }

end Sys2Proof.Machine
end

