-- ==== Sys2Proof/Machine/Tracker.lean ====
section
/-! DEFINITION. The arithmetic of an angle domain: phase detector (R134), compensator (R136), acquisition (R142), fault
detector (R143), glide (R144), the tracker's step (R135, R139 to R141), conversions (R150), and the spare loop (R145). -/

namespace Sys2Proof.Machine

/-! ## Trigonometry -/

/-- cos(2πi/64) in Q2.30, rounded half up, for i = 0 to 16 (R222). -/
def cosQuarter : List Int :=
  [1073741824, 1068571464, 1053110176, 1027506862, 992008094, 946955747, 892783698, 830013654, 759250125, 681174602,
   596538995, 506158392, 410903207, 311690799, 209476638, 105245103, 0]

/-- C[i] of R222. -/
def cosT (i : Nat) : Int :=
  let j := i % 64
  if j ≤ 16 then cosQuarter.getD j 0
  else if j ≤ 32 then -(cosQuarter.getD (32 - j) 0)
  else if j ≤ 48 then -(cosQuarter.getD (j - 32) 0)
  else cosQuarter.getD (64 - j) 0

/-- S[i] of R222. -/
def sinT (i : Nat) : Int := cosT (i + 48)

/-- √3/2 in Q2.30, rounded half up (R223). -/
def sqrt3h : Int := 929887697

/-- arctan(2^-i) in units of 2^-40 turn. -/
def atanTab : List Int :=
  [137438953472, 81134951838, 42869480287, 21761217566, 10922836750, 5466743129, 2734038620, 1367102738, 683561799,
   341782203, 170891265, 85445653, 42722829, 21361415, 10680707, 5340354, 2670177, 1335088, 667544, 333772, 166886,
   83443, 41722, 20861, 10430, 5215, 2608, 1304, 652, 326, 163, 81, 41, 20]

/-- Rotate a vector with positive first component onto its axis, summing the angles. -/
def vectoring : List Int → Nat → Int → Int → Int → Int
  | [], _, _, _, acc => acc
  | a :: t, i, x, y, acc =>
    if 0 ≤ y then vectoring t (i + 1) (x + y / (2 ^ i : Nat)) (y - x / (2 ^ i : Nat)) (acc + a)
    else vectoring t (i + 1) (x - y / (2 ^ i : Nat)) (y + x / (2 ^ i : Nat)) (acc - a)

/-- Wrap an angle in ac to -524,288 .. 524,287 (R134). -/
def wrapAc (x : Int) : Int := (x + 524288) % 1048576 - 524288

/-- Argument of a vector computed in units of 2^-40 turn; its true value lies within a few units. -/
def argFine (re im : Int) : Int :=
  let x := re * 1048576
  let y := im * 1048576
  if 0 < re then vectoring atanTab 0 x y 0
  else if re = 0 then (if 0 < im then 274877906944 else -274877906944)
  else vectoring atanTab 0 (-x) (-y) 549755813888

/-- arg(V) in ac: the computed argument, whose rounding to 1 ac the manual leaves open (R134). The argument of a zero
vector is not stated and is free. -/
def argAc (re im : Int) : Int :=
  if re = 0 ∧ im = 0 then wrapAc (Config.argRound 0 0)
  else wrapAc (roundShift (argFine re im) 20 + clampInt (-1) 1 (Config.argRound re im))

/-! ## Phasors (R134) -/

/-- One-cycle DFT of grid values given with their positions in the cycle: (2/64) Σ x e^(-jθ) in units of 2^-35. -/
def dftRe (xs : List (Nat × Int)) : Int := (xs.map fun p => p.2 * cosT p.1).foldl (· + ·) 0

def dftIm (xs : List (Nat × Int)) : Int := (xs.map fun p => -(p.2 * sinT p.1)).foldl (· + ·) 0

/-- A set's V1 as a vector and the divisor that brings its length to peak sample units (R134). -/
structure V1 where
  re : Int
  im : Int
  den : Nat
  deriving DecidableEq, Repr

/-- V1 of a set of one or three channels, each given by its last 64 grid samples. -/
def v1Of (chs : List (List (Nat × Int))) : V1 :=
  match chs with
  | [a, b, c] =>
    let ar := dftRe a
    let ai := dftIm a
    let br := dftRe b
    let bi := dftIm b
    let cr := dftRe c
    let ci := dftIm c
    { re := 1073741824 * (2 * ar - br - cr) - 2 * sqrt3h * (bi - ci),
      im := 1073741824 * (2 * ai - bi - ci) + 2 * sqrt3h * (br - cr),
      den := 6 * 2 ^ 30 * 2 ^ 35 }
  | a :: _ => { re := dftRe a, im := dftIm a, den := 2 ^ 35 }
  | [] => { re := 0, im := 0, den := 1 }

/-- |V1| at least a number of peak sample units. -/
def V1.atLeast (v : V1) (m : Nat) : Bool := decide (((m * v.den : Nat) : Int) ^ 2 ≤ v.re ^ 2 + v.im ^ 2)

/-- |V1| in units of 2^-8 peak sample units, rounded down. -/
def V1.mag (v : V1) : Nat := isqrt ((v.re ^ 2 + v.im ^ 2).toNat) * 256 / v.den

/-- What the tracker takes from a reference set at grid sample k. -/
structure SetIn where
  /-- Every channel of the set has valid quality, without SETTLING and SIM (R133). -/
  good : Bool
  v : V1
  /-- x_k - x_{k-64} of each channel. -/
  diffs : List Int
  deriving DecidableEq, Repr

/-! ## Frequencies -/

/-- A limit in 0.01 Hz as Q8.24. -/
def rawOf (centi : Nat) : Nat := (centi * 2 ^ 24 * 2 + 100) / 200

def fminRaw (c : Cfg) : Nat := rawOf (fval c aFmin)

def fmaxRaw (c : Cfg) : Nat := rawOf (fval c aFmax)

/-- The grid period of a frequency in 2^-16 ns, rounded half up (R131). -/
def periodOf (f : Nat) : Nat := if f = 0 then 0 else (2 * 10 ^ 9 * 2 ^ 34 + f) / (2 * f)

/-! ## Compensator (R136) -/

/-- The 64-bit accumulator; a sum outside it is not stated, and is free. -/
def acc64 (x : Int) : Int := if -(2 ^ 63) ≤ x ∧ x < 2 ^ 63 then x else sext 64 (Config.free 1 (enc 64 x))

/-- u0 before the clamp. -/
def compRaw (b0 b1 b2 b3 a1 a2 a3 e0 e1 e2 e3 u1 u2 u3 : Int) : Int :=
  let acc := acc64 ((b0 * e0 + b1 * e1 + b2 * e2 + b3 * e3) * 256 - (a1 * u1 + a2 * u2 + a3 * u3))
  sat32 ((acc + 134217728) / 268435456)

/-- One update of the tracking loop at e0 (already clamped to E_CLAMP); `bumpless` sets e1 to e3 to e0 first (R139). -/
def compensate (d : Dom) (e0 : Int) : Dom :=
  let c := d.cfg
  let e1 := if d.bumpless then e0 else d.e1
  let e2 := if d.bumpless then e0 else d.e2
  let e3 := if d.bumpless then e0 else d.e3
  let three := fon c aForm
  let fnom : Int := fval c aFnom
  let u := compRaw (fvalI c (aB 0)) (fvalI c (aB 1)) (fvalI c (aB 2)) (if three then fvalI c (aB 3) else 0)
    (fvalI c (aA 0)) (fvalI c (aA 1)) (if three then fvalI c (aA 2) else 0) e0 e1 e2 e3 d.u1 d.u2 d.u3
  let lo := (fminRaw c : Int) - fnom
  let hi := (fmaxRaw c : Int) - fnom
  let u0 := clampInt lo hi u
  { d with e1 := e0, e2 := e1, e3 := e2, u1 := u0, u2 := d.u1, u3 := d.u2, f := (fnom + u0).toNat, bumpless := false,
           clamped := u0 == lo || u0 == hi }

/-! ## Glide (R144), in units of 2^-40 Hz -/

def mHz40 (v : Nat) : Int := ((v * 2 ^ 40 / 1000 : Nat) : Int)

/-- Enter GLIDE with a starting rate; a starts at 0 and LOCK is cleared (R141, R144). -/
def enterGlide (d : Dom) (r : Int) : Dom :=
  let lim := mHz40 (fval d.cfg aRate)
  { d with mode := .glide, lock := false, glideF := (d.f : Int) * 65536, glideA := 0, glideR := clampInt (-lim) lim r,
           glides := (d.glides + 1) % 65536 }

/-- The change of F over the last cycle divided by that cycle's duration, in 2^-40 Hz/s. -/
def lastRate (d : Dom) : Int :=
  match d.fHist.getLast?, d.kept.getD 63 { k := 0, angle := 0, t := 0 }, d.kept.head? with
  | some f0, old, some new =>
    if d.fHist.length < 64 ∨ new.t ≤ old.t then 0
    else ((d.f : Int) - f0) * 65536 * (10 ^ 9 * 2 ^ 16) / ((new.t - old.t : Nat) : Int)
  | _, _, _ => 0

/-- One update of the profile generator. -/
def glideStep (d : Dom) : Dom :=
  let c := d.cfg
  let p : Int := periodOf d.f
  let tick : Int := 10 ^ 9 * 2 ^ 16
  let fnom := (fval c aFnom : Int) * 65536
  let rate := mHz40 (fval c aRate)
  let accel := mHz40 (fval c aAccel)
  let jerk := mHz40 (fval c aJerk)
  let dd := fnom - d.glideF
  let mag := min rate (isqrt (accel * (dd.natAbs : Int)).toNat : Int)
  let rd := if dd < 0 then -mag else if dd = 0 then 0 else mag
  let ad := clampInt (-accel) accel (if p = 0 then 0 else (rd - d.glideR) * tick / p)
  let a := d.glideA + clampInt (-(jerk * p / tick)) (jerk * p / tick) (ad - d.glideA)
  let r := clampInt (-rate) rate (d.glideR + a * p / tick)
  let f := d.glideF + r * p / tick
  if dd.natAbs < 109951163 ∧ (r.natAbs : Int) < accel * p / tick then
    { d with f := fval c aFnom, glideF := fnom, glideR := 0, glideA := 0 }
  else { d with f := ((f + 32768) / 65536).toNat, glideF := f, glideR := r, glideA := a }

/-! ## Fault detector (R143) -/

/-- Twice 64 times |V1_pre| in 2^-8 units: the sum over the cycle that ended one cycle before k. -/
def preSum (d : Dom) : Nat := if d.fd then d.preFrozen else sumOf ((d.mags.drop 64).take 64)

/-- One grid sample of the detector: `m` is |V1_k| in 2^-8 units, `diffs` of the active set. -/
def faultDetect (d : Dom) (m : Nat) (diffs : List Int) : Dom :=
  let pre := preSum d
  let ready := d.fd || d.mags.length ≥ 128
  let big := diffs.map fun x => ready && decide (x.natAbs * 1024 * 256 * 64 > fval d.cfg aFdThresh * pre)
  let runs := (big.zip (d.fdRun ++ [0, 0, 0])).map fun p => if p.1 then p.2 + 1 else 0
  let hit := runs.any fun r => r ≥ 3
  let under := d.fd && decide (m * 1024 * 64 < fval d.cfg aFdUnderv * pre)
  if d.fd then { d with fdRun := runs, fdClear := if hit || under then 0 else d.fdClear + 1 }
  else if hit then { d with fdRun := runs, fd := true, preFrozen := pre, fdClear := 0 }
  else { d with fdRun := runs }

/-! ## The tracker's step (R135, R139 to R141) -/

/-- Start or restart of tracking at a grid sample (R140): F starts at FNOM in every mode (DEDUCED). -/
def startTracking (d : Dom) : Dom :=
  if !fon d.cfg aTrack then { d with mode := .free, f := fval d.cfg aFnom, starting := false, lock := false }
  else if d.aOk || d.bOk then
    { d with mode := .acquire, f := fval d.cfg aFnom, starting := false, lock := false, align := true, pass := 0, passN := 0, args := [],
             setB := !d.aOk && d.bOk }
  else { (enterGlide { d with f := fval d.cfg aFnom } 0) with starting := false }

/-- Enter TRACK with a bumpless resume. -/
def enterTrack (d : Dom) : Dom := { d with mode := .track, bumpless := true, lockRun := 0 }

/-- Enter ACQUIRE at its first pass (R140, R142). -/
def enterAcquire (d : Dom) (align : Bool) : Dom :=
  { d with mode := .acquire, lock := false, align := align, pass := 0, passN := 0, args := [] }

/-- COAST begins; one entered within a grid sample of a change of active set begins from the u history before the change
(R143). -/
def enterCoast (d : Dom) : Dom :=
  let d := { d with mode := .coast, coastRun := 0, coasts := (d.coasts + 1) % 65536 }
  match d.preU with
  | some (a, b, c) => { d with u1 := a, u2 := b, u3 := c, f := ((fval d.cfg aFnom : Int) + a).toNat, preU := none }
  | none => d

/-- Neither set is valid, and not through the alignment's own synchronising reset: a domain could otherwise never reach the
LOCK of R141 (DEDUCED). -/
def refsLost (d : Dom) : Bool := !(d.aOk || d.bOk) && decide (d.settleTo ≤ d.k)

/-- The mode after grid sample k: HOLD first, then COAST, then GLIDE, then the others (R140). `was` says that the detector
stood already: COAST begins at its assertion. -/
def modeStep (was : Bool) (d : Dom) : Dom :=
  let want := fon d.cfg aHold
  let any := d.aOk || d.bOk
  match d.mode with
  | .free => if d.starting then startTracking d else d
  | .hold =>
    if want then { d with holdRun := d.holdRun + 1 }
    else if d.starting then startTracking d
    else if any then (if d.holdAcq then enterAcquire d d.align else enterTrack d)
    else enterGlide d 0
  | .acquire =>
    if want then { d with mode := .hold, holdRun := 0, holdAcq := true }
    else if d.starting then startTracking d
    else if refsLost d then enterGlide d 0
    else d
  | .track =>
    if want then { d with mode := .hold, holdRun := 0, holdAcq := false }
    else if d.starting then startTracking d
    else if d.fd && !was then enterCoast d
    else if refsLost d then enterGlide d (lastRate d)
    else d
  | .coast =>
    if want then { d with mode := .hold, holdRun := 0, holdAcq := false }
    else if d.starting then startTracking d
    else { d with coastRun := d.coastRun + 1 }
  | .glide =>
    if want then { d with mode := .hold, holdRun := 0, holdAcq := false }
    else if d.starting then startTracking d
    else d

/-- F for the next interval, by mode (R140). `e` is e_k before the clamp; `act` says that the active set is valid: an
invalid one is not fed to the compensator (R133, R203; DEDUCED). -/
def freqStep (d : Dom) (e : Int) (act : Bool) : Dom :=
  match d.mode with
  | .free => { d with f := fval d.cfg aFnom }
  | .acquire =>
    if d.passN < 128 then
      { d with passN := d.passN + 1, args := if (d.passN + 1) % 16 = 0 then e :: d.args else d.args }
    else d
  | .track =>
    let d' := if act then compensate { d with preU := if d.switched then some (d.u1, d.u2, d.u3) else none, switched := false }
                (clampInt (-(fval d.cfg aEclamp : Int)) (fval d.cfg aEclamp) e)
              else { d with preU := none }
    let lim := fval d.cfg aLockE
    { d' with lockRun := if e.natAbs ≤ lim then d.lockRun + 1 else 0,
              lock := d.lock && decide (e.natAbs ≤ 4 * lim) }
  | .coast => d
  | .hold => d
  | .glide => glideStep d

/-- The tracker's step for the next grid sample k, once every reference pair has produced it (R135, R199). It fixes
T_{k+2}. The two ticks ahead are those of k and k + 1. -/
def trackerStep (d : Dom) (a b : SetIn) : Dom :=
  match d.ahead with
  | t0 :: t1 :: _ =>
    let rm := fval d.cfg aRefMin
    let aOk := a.good && a.v.atLeast rm
    let bOk := b.good && b.v.atLeast rm
    let act := if d.setB then b else a
    let e := wrapAc (argAc act.v.re act.v.im - (fval d.cfg (aRefOff (if d.setB then 1 else 0)) : Int))
    let m := act.v.mag
    let d := { d with aOk := aOk, bOk := bOk, err := e, lastAngle := t0.angle, mags := (m :: d.mags).take 192,
                      aRun := if aOk then d.aRun + 1 else 0, anyRun := if aOk || bOk then d.anyRun + 1 else 0 }
    let d := freqStep (modeStep d.fd (faultDetect d m act.diffs)) e (if d.setB then bOk else aOk)
    -- A lost with B valid: B becomes active at the next grid sample (R133)
    let d := if !d.setB && !aOk && bOk then { d with setB := true, bumpless := true, switched := true, fdRun := [] } else d
    let p := periodOf d.f
    { d with k := t0.k + 1, ahead := [t1, { k := t1.k + 1, angle := t1.angle + 16384, t := t1.t + p }],
             kept := (t0 :: d.kept).take 128, period := p, fHist := (d.f :: d.fHist).take 64 }
  | _ => d

/-- The grid starts at a time with angle 0: two ticks are fixed from FNOM, in HOLD from the F held (R130, R131, R140). -/
def startGrid (d : Dom) (t : Nat) : Dom :=
  let f := if d.mode = .hold then d.f else fval d.cfg aFnom
  let p := periodOf f
  { d with f := f, running := true, starting := true, period := p, kept := [], mags := [], fHist := [],
           ahead := [{ k := d.k, angle := 0, t := t }, { k := d.k + 1, angle := 0x4000, t := t + p }] }

/-! ## Acquisition (R142) -/

/-- Unwrap arguments oldest first. -/
def unwrap : Int → List Int → List Int
  | _, [] => []
  | prev, x :: t => let y := prev + wrapAc (x - prev); y :: unwrap y t

/-- Least-squares slope of eight arguments 16 grid samples apart, times 21 × 2^20, in cycles per grid cycle. -/
def slope8 (ys : List Int) : Int :=
  ((ys.zip [-7, -5, -3, -1, 1, 3, 5, 7]).map fun (p : Int × Int) => p.1 * p.2).foldl (· + ·) 0

/-- F after a pass: F × (1 + s), clamped to FMIN and FMAX. -/
def fitF (d : Dom) : Nat :=
  let ys := match d.args.reverse with
    | [] => []
    | x :: t => x :: unwrap x t
  let f : Int := d.f
  (clampInt (fminRaw d.cfg) (fmaxRaw d.cfg) (f + roundDiv (f * slope8 ys) (21 * 2 ^ 20))).toNat

/-- A pass has ended. -/
def passDone (d : Dom) : Bool := d.mode == .acquire && d.passN ≥ 128

/-- Alignment at completion: the stamps of k + 2 and later advance by m grid samples and T_{k+2} moves by -r P / 16,384. -/
def alignGrid (d : Dom) : Dom :=
  let m := (d.err + 8192) / 16384
  let r := d.err - m * 16384
  match d.ahead with
  | [t0, t1] =>
    { d with aligned := true, ahead :=
        [t0, { t1 with angle := t1.angle + BitVec.ofInt 32 (m * 16384),
                       t := ((t1.t : Int) + (16384 - 2 * r * (d.period : Int)) / 32768).toNat }] }
  | _ => d

/-- The end of a pass. The second answer says that the grid was aligned: a synchronising reset of the domain follows. -/
def acquirePass (d : Dom) : Dom × Bool :=
  let f' := fitF d
  let done := decide (((f' : Int) - d.f).natAbs * 20 < 2 ^ 24) || decide (d.pass ≥ 2)
  let d' := { d with f := f' }
  if done then
    let u := (f' : Int) - fval d.cfg aFnom
    let d'' := enterTrack { d' with u1 := u, u2 := u, u3 := u }
    if d.align then (alignGrid d'', true) else (d'', false)
  else ({ d' with pass := d.pass + 1, passN := 0, args := [] }, false)

/-! ## Angle and time (R150) -/

/-- The anchor: the next grid sample. -/
def anchor (d : Dom) : Option Tick := d.ahead.head?

/-- Interpolate between the two kept ticks around an angle, newest first. -/
def keptTime (a : Word) : List Tick → Option Nat
  | x :: y :: t =>
    if 0 ≤ stampDiff a y.angle ∧ stampDiff a x.angle ≤ 0 then
      let w := (stampDiff x.angle y.angle).toNat
      some (if w = 0 then y.t else (roundDiv ((y.t : Int) * w + (stampDiff a y.angle) * ((x.t : Int) - y.t)) w).toNat)
    else keptTime a (y :: t)
  | _ => none

/-- How an angle converts: a time in 2^-16 ns, or why not. -/
inductive Conv where
  | at (t : Nat)
  | tooFar
  | tooOld
  deriving DecidableEq, Repr

/-- Time of an angle (R150). -/
def angleTime (d : Dom) (a : Word) : Conv :=
  match anchor d with
  | none => .tooOld
  | some x =>
    let dist := stampDiff a x.angle
    if 16 * 1048576 < dist then .tooFar
    else if 0 ≤ dist then .at (x.t + (2 * dist.toNat * d.period + 16384) / 32768)
    else match keptTime a (x :: d.kept) with
      | some t => .at t
      | none => .tooOld

/-- Angle of a time among the kept ticks, newest first. -/
def keptAngle (t : Nat) : List Tick → Option Word
  | x :: y :: r =>
    if y.t ≤ t ∧ t ≤ x.t then
      let w := (stampDiff x.angle y.angle).toNat
      some (if x.t = y.t then y.angle else y.angle + BitVec.ofInt 32 (roundDiv ((w * (t - y.t) : Nat) : Int) (x.t - y.t)))
    else keptAngle t (y :: r)
  | _ => none

/-- How a time converts. -/
inductive ConvA where
  | at (a : Word)
  | tooFar
  | tooOld
  deriving DecidableEq, Repr

/-- Angle of a time (R150): the same pairs and extrapolation inverted, rounded to 1 ac. -/
def timeAngle (d : Dom) (t : Nat) : ConvA :=
  match anchor d with
  | none => .tooOld
  | some x =>
    if x.t ≤ t then
      let ac := if d.period = 0 then 0 else (2 * (t - x.t) * 16384 + d.period) / (2 * d.period)
      if 16 * 1048576 < ac then .tooFar else .at (x.angle + BitVec.ofNat 32 ac)
    else match keptAngle t (x :: d.kept) with
      | some a => .at a
      | none => .tooOld

/-- A conversion made now is valid: TRACK with LOCK, COAST, or a HOLD that keeps LOCK (R151). -/
def convLocked (d : Dom) : Bool :=
  match d.mode with
  | .track => d.lock
  | .coast => true
  | .hold => d.lock
  | _ => false

/-! ## Steps (R147, R148) -/

/-- The step of a domain in ac. -/
def stepAc (d : Dom) : Nat := 65536 / 2 ^ fval d.cfg aStep

/-- Grid samples per step. -/
def stepGrids (d : Dom) : Nat := 4 / 2 ^ fval d.cfg aStep

/-- Is an angle a step boundary? -/
def isBoundary (d : Dom) (a : Word) : Bool := a.toNat % stepAc d == 0

/-- The index of the step that ends at a boundary. -/
def stepIndex (d : Dom) (a : Word) : Nat := a.toNat / stepAc d

/-! ## Spare loops (R145) -/

/-- An update of a spare loop at a grid sample with angle fraction 0: `held` is HOLD, `mag` the DFT magnitude of its
channel where the channel is valid. -/
def spareStep (l : Spare) (held : Bool) (mag : Option Int) : Spare :=
  match mag with
  | none => { l with wasHeld := true, raise := false, lower := false }
  | some m =>
    if held then { l with wasHeld := true }
    else
      let c := l.cfg
      let e := fvalI c lSet - m
      let e0 := if e.natAbs ≤ fval c lDead then 0 else e
      let e1 := if l.wasHeld then e0 else l.e1
      let e2 := if l.wasHeld then e0 else l.e2
      let e3 := if l.wasHeld then e0 else l.e3
      let three := fval c lForm == 3
      let u := compRaw (fvalI c (lB 0)) (fvalI c (lB 1)) (fvalI c (lB 2)) (if three then fvalI c (lB 3) else 0)
        (fvalI c (lA 0)) (fvalI c (lA 1)) (if three then fvalI c (lA 2) else 0) e0 e1 e2 e3 l.u1 l.u2 l.u3
      let lo := fvalI c lMin
      let hi := fvalI c lMax
      let u0 := clampInt lo hi u
      { l with e1 := e0, e2 := e1, e3 := e2, u1 := u0, u2 := l.u1, u3 := l.u2, wasHeld := false,
               raise := decide ((fval c lThresh : Int) ≤ u0), lower := decide (u0 ≤ -(fval c lThresh : Int)),
               limit := u0 == lo || u0 == hi }

/-- The one-cycle DFT magnitude of a channel in peak sample units (R145). -/
def dftMag (xs : List (Nat × Int)) : Int :=
  ((2 * isqrt ((dftRe xs ^ 2 + dftIm xs ^ 2).toNat) + 2 ^ 35) / 2 ^ 36 : Nat)

end Sys2Proof.Machine
end

