-- ==== Sys2Proof/Machine/PubOps.lean ====
section
/-! DEFINITION. Shared operations of GOOSE publication: launches at an angle (R151, R276), the message of a publication
(R281 to R286), new states and hold states (R282, R284, R103), and the alarm publication (R429). -/

namespace Sys2Proof.Machine

/-! ## Launch at an angle (R151, R276) -/

/-- The first angle of the same fraction, from `a` on, whose time is at or after `t`. -/
def launchScan (d : Dom) (t : Nat) : Nat → Word → Option (Word × Nat)
  | 0, _ => none
  | k + 1, a =>
    match angleTime d a with
    | .at x => if t ≤ x then some (a, x) else launchScan d t k (a + 0x100000)
    | .tooFar => none
    | .tooOld => launchScan d t k (a + 0x100000)

/-- Freeze a conversion once its time lies within LAUNCH_LEAD of the module's time (R151). -/
def freezeLaunch (d : Dom) (now : Nat) (l : Launch) : Launch :=
  if l.frozen then l
  else if l.due ≤ now + fval d.cfg aLaunchLead * us * 65536 then { l with frozen := true, notLocked := !convLocked d }
  else l

/-- A launch at the first angle with a fraction that converts to at least 50 µs after now (R276). Where the domain cannot
convert, the launch is not locked and due at once. -/
def launchAngle (d : Dom) (frac now : Nat) : Launch :=
  match anchor d with
  | none => { due := now, notLocked := true, angle := BitVec.ofNat 32 frac, frozen := true }
  | some x =>
    let base := BitVec.ofNat 32 (x.angle.toNat / 1048576 * 1048576 + frac) - 0x200000
    match launchScan d (now + 50 * us * 65536) 20 base with
    | some (a, t) => freezeLaunch d now { due := t, notLocked := false, angle := a, frozen := false }
    | none => { due := now, notLocked := true, angle := base, frozen := true }

/-- Convert a launch again after a grid sample (R151). -/
def reconvert (d : Dom) (now : Nat) (l : Launch) : Launch :=
  if l.frozen then l
  else freezeLaunch d now (match angleTime d l.angle with
    | .at t => { l with due := t }
    | _ => l)

/-! ## The descriptor (R281) -/

/-- Fields of a publication descriptor. -/
def pdVal (u : Pub) (off n : Nat) : Nat := leAt u.desc off n

def pdName (u : Pub) (off : Nat) : List Byte := (sliceOf u.desc off 130).takeWhile fun b => b != 0

def pdNmemb (u : Pub) : Nat := pdVal u 404 1
def pdTmin (u : Pub) : Nat := pdVal u 408 2
def pdTmax (u : Pub) : Nat := pdVal u 412 4
def pdMode (u : Pub) : Nat := pdVal u 416 1

/-- The class L fields of a descriptor: offset and length. -/
def pubLive : List (Nat × Nat) := [(406, 1), (408, 2), (412, 4), (416, 1), (420, 4), (424, 4)]

/-- A key slot's current key, where it serves a purpose: bit 0 SV, 1 GOOSE, 2 LINK, 3 REF (R455). -/
def currentKey (s : State) (slot purpose : Nat) : Option Key := (tget {} s.keys.slots slot).cur.filter fun k => bitOf k.purpose purpose

/-- The keys of a slot that may verify a frame: current and next (R166, R455). -/
def verifyKeys (s : State) (slot purpose : Nat) : List Key :=
  let k := tget {} s.keys.slots slot
  (k.cur.toList ++ k.nxt.toList).filter fun k => bitOf k.purpose purpose

/-! ## The message (R283, R285) -/

/-- Interval I_n in ms (R283). -/
def pubInterval (u : Pub) (n : Nat) : Nat := if n ≤ 2 then pdTmin u else min (2 ^ (n - 2) * pdTmin u) (pdTmax u)

/-- S_n in ms. -/
def pubOffset (u : Pub) : Nat → Nat
  | 0 => 0
  | n + 1 => pubOffset u n + pubInterval u (n + 1)

/-- The dataset of a message: each member, with its Quality where QMASK says so; IEC 61850-7-3 places validity in
bits [1:0] and test in bit 11 (PRESUMED). -/
def pubEntries (u : Pub) (test : Bool) : List GooseEntry :=
  (List.range (pdNmemb u)).flatMap fun b =>
    let v := if u.hold then bitOf (pdVal u 406 1) b else bitOf u.members b
    { kind := 0, value := b2n v } ::
      (if bitOf (pdVal u 405 1) b then [{ kind := 2, value := b2n u.hold + b2n test * 2048 }] else [])

/-- The PDU of message number `n` of the present state (R283, R285). -/
def pubPdu (u : Pub) (n : Nat) (test : Bool) : GoosePdu :=
  let es := pubEntries u test
  { appid := pdVal u 396 2, sim := test, auth := none, decodes := true, gocbref := pdName u 0, datset := pdName u 130,
    goid := pdName u 260, confRev := pdVal u 400 4, stNum := u.stNum.toNat, sqNum := u.sqNum.toNat,
    tal := 2 * pubInterval u (n + 1), tSec := u.at_.sec, tNs := u.at_.ns, notSync := u.at_.notTraceable, test := test,
    ndsCom := false, nds := pdNmemb u + popCount (pdVal u 405 1) 8, entries := es }

/-- Add the IEC 62351-6 extension under the current key of a slot (R281). -/
def gooseAuth (s : State) (slot : Nat) (g : GoosePdu) : GoosePdu :=
  match currentKey s slot 1 with
  | some k => { g with auth := some { alg := k.alg, tagLen := 16, keyId := k.id, tag := Config.gooseTag k.bytes k.alg g } }
  | none => g

/-- Length of a tag, length, value triple of IEC 61850-8-1 (PRESUMED, BER). -/
def tlvLen (n : Nat) : Nat := n + 2 + (if 255 < n then 2 else if 127 < n then 1 else 0)

/-- Length of the frame of a PDU, from destination address to FCS. -/
def gooseLen (tagged : Bool) (g : GoosePdu) : Nat :=
  let intLen (v : Nat) := tlvLen (v.log2 / 8 + 1)
  let all := sumOf (g.entries.map fun e => if e.kind = 0 then tlvLen 1 else tlvLen 3)
  let body := tlvLen g.gocbref.length + intLen g.tal + tlvLen g.datset.length + tlvLen g.goid.length + tlvLen 8 +
    intLen g.stNum + intLen g.sqNum + tlvLen 1 + intLen g.confRev + tlvLen 1 + intLen g.nds + tlvLen all
  let auth := match g.auth with
    | some a => a.tagLen + 8
    | none => 0
  max 64 (14 + (if tagged then 4 else 0) + 8 + tlvLen body + auth + 4)

/-- The frame of a publication's message. -/
def pubFrame (s : State) (u : Pub) (n : Nat) (test : Bool) : Frame :=
  let g := pubPdu u n test
  let g := if bitOf (pdVal u 417 1) 0 then gooseAuth s (pdVal u 418 2) g else g
  let v := pdVal u 398 2
  { dst := unbe (sliceOf u.desc 390 6), src := Config.baseMac,
    tag := if bitOf v 15 then some { vid := bitsOf v 0 12, pcp := bitsOf v 12 3 } else none,
    len := gooseLen (bitOf v 15) g, fcs := 0, red := none, payload := .goose g }

/-- Send message `n` of a publication; a unit that is not ACTIVE builds and discards it (R286). -/
def sendPub (live test : Bool) (u : Pub) (n : Nat) (launch : Option Nat) (s : State) : State :=
  if live then
    let v := pdVal u 398 2
    handInGoose (bitsOf v 0 12) (bitsOf v 12 3) (pdVal u 407 1) (pubFrame s u n test) launch s
  else s

/-! ## States (R282, R284) -/

/-- stNum and sqNum pass from their highest value to 1. -/
def nextCount (w : Word) : Word := if w = 0xFFFFFFFF then 1 else w + 1

/-- A new state at its launch: stNum rises, sqNum is 0, the schedule starts (R283, R284). -/
def pubState (members : Nat) (hold : Bool) (at_ : FullTime) (clk : Nat) (u : Pub) : Pub :=
  { u with stNum := nextCount u.stNum, sqNum := 0, sent := if hold then none else some members, members := members,
           hold := hold, pending := none, running := true, n := 1, launchAt := clk, at_ := at_,
           sentCount := u.sentCount + 1 }

/-- The unit's own frames leave its ports (R286, R313). -/
def unitLive (s : State) : Bool := s.tdm.standalone || s.tdm.role == .active

/-- Publications leave the unit: not after the close of h in a planned switch-over (R320). -/
def pubsLive (s : State) : Bool := unitLive s && !s.tdm.pubsStopped

/-- The publications run in a service state (R26). -/
def pubState26 (svc : Nat) : Bool := 1 ≤ svc && svc ≤ 4

/-- Put a publication of an instance. -/
def putPub (n p : Nat) (u : Pub) (s : State) : State := updInst n (fun i => { i with pubs := tput i.pubs p u }) s

/-- Launch a state of a publication now. -/
def launchPub (n p : Nat) (u : Pub) (members : Nat) (hold : Bool) (launch : Option Nat) (s : State) : State :=
  let u' := pubState members hold (fullAt s (launch.getD s.time.n)) s.clk u
  sendPub (pubsLive s) ((inst s n).svc == 3) u' 0 launch (putPub n p u' s)

/-- Every publication of an instance that runs sends its hold state at once (R103, R282). -/
def holdPubs (n : Nat) (s : State) : State :=
  (inst s n).pubs.foldl (fun s e => if e.2.live then launchPub n e.1 e.2 0 true none s else s) s

/-- The publications of an instance stop. -/
def stopPubs (n : Nat) (s : State) : State :=
  updInst n (fun i => { i with pubs := tmap (fun _ u => { u with running := false, pending := none, sent := none }) i.pubs }) s

/-! ## The alarm publication (R429) -/

/-- Its five members. -/
def alarmMembers (s : State) : Nat :=
  b2n (s.sig.alarm != 0) + 2 * b2n s.sig.fault + 4 * b2n (bitOf s.sig.alarm 8) + 8 * b2n (bitOf s.sig.alarm 9) +
    16 * b2n (bitOf s.sig.alarm 10)

/-- A change of a member is a new state, in every service state but BOOT and until the power-fail warning. -/
def alarmPubJudge (s : State) : State :=
  match s.trip.alarmPub with
  | some u =>
    if u.sent == some (alarmMembers s) || s.svc.state == .boot || s.pwr.pfw != .idle then s
    else
      let u' := pubState (alarmMembers s) false (fullNow s) s.clk u
      sendPub true (s.svc.state == .test) u' 0 none { s with trip := { s.trip with alarmPub := some u' } }
  | none => s

end Sys2Proof.Machine
end

