-- ==== Sys2Proof/Machine/OutOps.lean ====
section
/-! DEFINITION. Shared operations of the local trip outputs: ownership, energising and muting (R274 to R277), and of the
module alarm, the tandem role, the referee messages and the tandem link frames (R301, R302, R313 to R316, R428). -/

namespace Sys2Proof.Machine

/-! ## Local trip outputs -/

/-- A field of an output. -/
def outf (s : State) (k : Nat) (d : Desc) : Nat := fval (outp s k).cfg d

/-- The instance that owns an output, by the `outputs` key in effect (R129). -/
def ownerOf (s : State) (k : Nat) : Option Nat :=
  (s.insts.find? fun e => e.2.st != .empty && bitOf (fval e.2.cfg iOutputs) k).map Prod.fst

/-- The unit holds its lines low: a tandem unit that is not ACTIVE (R313), one promoted that has not handed off yet
(R314), or one with a module fault (R30). -/
def muted (s : State) : Bool := !unitLive s || s.tdm.promoted || s.sig.fault

/-- The lines follow the evaluated state, unless the unit is muted; a running test drives them itself. -/
def refreshOut (k : Nat) (s : State) : State :=
  if (outp s k).test.isSome then s
  else updOut k (fun o => { o with triph := o.energised && !muted s, tripl := o.energised && !muted s }) s

def refreshOuts (s : State) : State := (List.range 8).foldl (fun s k => refreshOut k s) s

/-- A test ends without a result (R279): its command finds the output busy (DEDUCED). -/
def endTest (k : Nat) (s : State) : State :=
  if (outp s k).test.isSome then
    finishWaits (.outTest k) busy (updOut k (fun o => { o with test := none, triph := false, tripl := false }) s)
  else s

/-- Energise an output (R274). -/
def energise (k : Nat) (s : State) : State :=
  let s := endTest k s
  if (outp s k).energised then updOut k (fun o => { o with pow := none }) s
  else refreshOut k (updOut k (fun o =>
    { o with energised := true, energAt := s.clk, minDone := fval o.cfg oMinPulse == 0, energSeen := false, pow := none,
             operations := (o.operations + 1) % 65536 }) s)

/-- De-energise an output. -/
def deenergise (k : Nat) (s : State) : State :=
  refreshOut k (updOut k (fun o => { o with energised := false }) s)

/-- An output goes to its hold value (R103, R277): de-energised, a pending launch cancelled. -/
def holdOut (k : Nat) (s : State) : State :=
  deenergise k (updOut k (fun o => { o with pow := none, trip := false, powReq := false }) (endTest k s))

/-- The outputs of an instance go to their hold values. -/
def holdOuts (n : Nat) (s : State) : State :=
  (List.range 8).foldl (fun s k => if ownerOf s k == some n then holdOut k s else s) s

/-- Every output is de-energised (R277): BOOT, HALTED and the power-fail warning. -/
def dropOuts (s : State) : State :=
  (List.range 8).foldl (fun s k => holdOut k s) { s with trip := { s.trip with trigOut := 0 } }

/-- The MOD_ALERT# line (R38): the power-fail warning, a module fault or a thermal alarm stands. -/
def alertPin (s : State) : State :=
  { s with pins := { s.pins with modAlert := s.pwr.pfw != .idle || s.sig.fault || s.pwr.therm } }

/-- Set a module alarm (R428): admin source 2 and the alarm publication. -/
def setAlarm (i : Nat) (s : State) : State :=
  alarmPubJudge (withNtf 0 (fun s => { s with sig := { s.sig with alarm := setBit s.sig.alarm i } }) s)

/-- Signal a source of an owner's slice, where the output has one. -/
def edgeOwner (k i : Nat) (s : State) : State :=
  match ownerOf s k with
  | some n => edge n i s
  | none => s

/-! ## Tandem: the link and the referee -/

def updTdm (f : Tandem → Tandem) (s : State) : State := { s with tdm := f s.tdm }

def tdmf (s : State) (d : Desc) : Nat := fval s.tdm.cfg d

/-- Count on TDM_COUNT (R328). -/
def tdmCount (i : Nat) (s : State) : State := updTdm (fun t => { t with counts := tmod 0 t.counts i (· + 1) }) s

/-- The chair is the unit in position 0 (R300). -/
def isChair (s : State) : Bool := tdmf s dPosition == 0

/-- The link key (R301). -/
def linkKey (s : State) : List Byte :=
  match currentKey s (tdmf s dLinkKey) 2 with
  | some k => k.bytes
  | none => []

/-- Put a link frame on both lanes (R301). -/
def linkOut (retx : Bool) (seq : Nat) (body : LinkBody) (s : State) : State :=
  let h : LinkHdr := { lane := 2, retx := retx, session := s.tdm.session.getD 0, seq := seq, ack := s.tdm.rxSeq, ballot := s.tdm.ballot, tag := 0 }
  emit (.link { h with tag := Config.linkTag (linkKey s) h body } body) { s with tdm := { s.tdm with lastSent := s.clk } }

/-- Send a link frame of a session; it is kept until acknowledged (R302). -/
def linkSend (body : LinkBody) (s : State) : State :=
  if s.tdm.session.isSome then
    let q := s.tdm.txSeq + 1
    linkOut false q body (updTdm (fun t =>
      { t with txSeq := q, unacked := t.unacked ++ [{ seq := q, body := body, sends := 1, at_ := s.clk }] }) s)
  else s

/-- The unit decides for the pair and its partner follows (R325, R326). -/
def pairLeads (s : State) : Bool := !s.tdm.standalone && s.tdm.role == .active && s.tdm.inStep

/-- Carry a change of the unit's own, which no command asked for (R326, R457), once. -/
def sendOwn (op : Nat) (params : List (Nat × Nat)) (s : State) : State :=
  if s.tdm.carried.any fun k => k.op == op && k.params == params then s
  else
    let k : Carried := { ident := s.tdm.carryId, op := op, slice := noObj, effect := s.tdm.ballot + 8, params := params, input := [],
                         cmd := none, status := none, peer := none }
    linkSend (.carry k.ident k.op k.slice k.effect k.params k.input)
      (updTdm (fun t => { t with carried := t.carried ++ [k], carryId := t.carryId + 1 }) s)

/-- LINK of a referee message (R315). -/
def refLink (s : State) : Nat :=
  b2n s.tdm.laneA + 2 * b2n s.tdm.laneB + 4 * b2n s.tdm.session.isSome + 8 * b2n (s.tdm.peerRole == some .active) +
    16 * b2n s.tdm.ref0 + 32 * b2n s.tdm.ref1

/-- The referee key (R315). -/
def refKey (s : State) : List Byte :=
  match currentKey s (tdmf s dRefKey) 3 with
  | some k => k.bytes
  | none => []

/-- A message to the referee, without its tag. -/
def refMsg (s : State) (seq msg reason arg : Nat) : RefMsg :=
  let t := fullNow s
  { msg := msg, unit := tdmf s dPosition, pairId := tdmf s dPairId, seq := seq, gen := s.tdm.gen, ballot := s.tdm.ballot,
    sec := t.sec, ns := t.ns, notTraceable := t.notTraceable, role := s.tdm.role.code, reason := reason, link := refLink s,
    arg := arg, tag := 0 }

/-- The Ethernet frame of a referee message: 80 bytes of message, class 7, VLAN REF_VLAN (R315). -/
def refFrame (s : State) (m : RefMsg) : Frame :=
  { dst := tdmf s dRefMac, src := Config.baseMac,
    tag := if tdmf s dRefVlan = 0 then none else some { vid := tdmf s dRefVlan, pcp := 7 },
    len := 98 + (if tdmf s dRefVlan = 0 then 0 else 4), fcs := 0, red := none, payload := .referee m }

/-- Put a message on both referee paths. -/
def refOut (m : RefMsg) (s : State) : State :=
  let s := handInMgt (tdmf s dRef0) 7 (refFrame s m) false s
  let s := handInMgt (tdmf s dRef1) 7 (refFrame s m) false s
  updTdm (fun t => { t with sent0 := some m, sent1 := some m }) s

/-- Send a new message to the referee (R316). -/
def refSend (msg reason arg : Nat) (s : State) : State :=
  let q := s.tdm.refSeq + 1
  let m := refMsg s q msg reason arg
  refOut { m with tag := Config.refTag (refKey s) m } (updTdm (fun t => { t with refSeq := q }) s)

/-- Resend the last message of a kind, with its number kept (R315); a later message of another kind does not change it,
since the resend is built anew under that number. -/
def refResend (seq msg reason arg : Nat) (s : State) : State :=
  let m := refMsg s seq msg reason arg
  refOut { m with tag := Config.refTag (refKey s) m } s

/-- A change of role (R314): Chronicle, ROLE_CHG, module alarm, the lines and TRIG_OUT of a muted unit. -/
def setRole (r : Role) (cause : Nat) (s : State) : State :=
  let s := noteMod 0x0901 0 noObj [cause, s.tdm.gen] s
  let s := withNtf 0 (updTdm fun t => { t with role := r, roleCause := cause, roleChg := true, roleAt := fullNow s }) s
  let s := setAlarm 5 (refreshOuts s)
  if muted s then { s with trip := { s.trip with trigOut := 0 } } else s

end Sys2Proof.Machine
end

