-- ==== Sys2Proof/Machine/SaveOps.lean ====
section
/-! DEFINITION. What a generation of the setting store records: for every configurable field the staged value where one
is staged, and otherwise the value in effect (R98). -/

namespace Sys2Proof.Machine

/-- The descriptor of a stream as its restart would leave it: a staged descriptor, then the staged keys (R183, R188). -/
def streamDesc (x : Stream) : List Byte :=
  let d := x.descStaged.getD x.desc
  let put (d : List Byte) (f : Desc) (off n : Nat) : List Byte :=
    match tfind x.cfg.staged f.id with
    | some v => patch d off (le n v)
    | none => d
  let flag (d : List Byte) (f : Desc) (i : Nat) : List Byte :=
    match tfind x.cfg.staged f.id with
    | some v => patch d 147 (le 1 (putBit (leAt d 147 1) i (v != 0)))
    | none => d
  put (put (flag (flag (flag (put d sConfrev 140 4) sAuth 0) sSyncReq 1) sGmCheck 2) sKeySlot 150 2) sWrap 152 4

/-- The keys of a stream with nothing staged any more. -/
def streamCfg (x : Stream) : Cfg := fdropStaged (fapply streamLiveFields x.cfg)

def savePort (p : Port) : Port :=
  { cfg := fsaved portFields p.cfg, ptp := fsaved timePortFields p.ptp, gcl := p.gcl }

def saveVport (v : Vport) : Vport :=
  { cfg := fsaved vpFields v.cfg, macs := v.macsStaged.getD v.macs, vlans := v.vlansStaged.getD v.vlans }

def savePair (r : RPair) : RPair := { cfg := fsaved pairFields r.cfg }

def saveStream (x : Stream) : Stream := { desc := streamDesc x, cfg := streamCfg x }

def saveDom (d : Dom) : Dom :=
  { cfg := fsaved angFields d.cfg, spares := tmapD {} (fun _ p => { cfg := fsaved loopFields p.cfg }) d.spares }

def saveOut (o : Outp) : Outp := { cfg := fsaved outFields o.cfg }

def savePub (u : Pub) : Pub := { desc := u.staged.getD u.desc }

def saveSub (u : Sub) : Sub := { desc := u.staged.getD u.desc }

/-- An instance that is not EMPTY is recorded as one that will stand HELD. -/
def saveInst (i : Inst) : Inst :=
  { st := if i.st = .empty then .empty else .held
    cfg := fsaved instFields i.cfg
    streams := i.streamsStaged.getD i.streams
    el := { img := match i.el.staged with
              | some x => some x
              | none => i.el.img }
    lg := { prog := match i.lg.staged with
              | some x => some x
              | none => i.lg.prog }
    pubs := tmap (fun _ u => savePub u) i.pubs
    subs := tmap (fun _ u => saveSub u) i.subs }

def saveRec (r : Recorder) : Recorder := { desc := r.staged.getD r.desc }

/-- The configuration of a notification unit. -/
def saveNtf (u : Ntf) : Ntf := { enable := u.enable, route := u.route, prio := u.prio, modInt := u.modInt, bypass := u.bypass }

/-- A generation of the setting store. -/
def saveState (gen : Nat) (s : State) : Stored :=
  { gen := gen
    fmt := if s.upd.run = 0 then s.upd.bankA.storeFmt else s.upd.bankB.storeFmt
    auto := s.svc.autoStaged.getD s.svc.auto
    pwr := fsaved pwrFields s.pwr.cfg
    time := fsaved timeFields s.time.cfg
    tdm := fsaved tdmFields s.tdm.cfg
    sw := fsaved swFields s.sw.cfg
    ports := tmapD {} (fun _ p => savePort p) s.ports
    fdb := s.sw.fdb.filter fun e => e.static
    groups := s.sw.groups
    vlans := s.sw.vlans
    vports := tmapD {} (fun _ v => saveVport v) s.sw.vports
    mirrors := s.sw.mirrors
    pairs := tmapD {} (fun _ r => savePair r) s.sw.pairs
    streams := tmap (fun _ x => saveStream x) s.sv.streams
    chans := tmapD {} (fun _ c => fsaved chanFields c) s.filt.chans
    dets := tmapD {} (fun _ d => { cfg := fsaved detFields d.cfg }) s.filt.dets
    doms := tmapD {} (fun _ d => saveDom d) s.doms
    insts := tmapD {} (fun _ i => saveInst i) s.insts
    outs := tmapD {} (fun _ o => saveOut o) s.trip.outs
    testPeriod := fsaved [oTestPeriod] s.trip.testPeriod
    alarmPub := s.trip.alarmPub.map savePub
    recs := tmap (fun _ r => saveRec r) s.arc.recs
    recycle := s.arc.recycle
    adm := saveNtf s.adm
    trigFilt := s.sig.x3.trigFilt
    bkFilt := s.sig.x3.bkFilt
    notifySev := s.chr.notifySev
    sweepMin := s.logic.sweepMin
    keyMode := s.keys.modeStaged.getD s.keys.mode }

/-- The area of the setting store the running firmware uses. -/
def storedNow (s : State) : Option Stored := if s.store.active = 0 then s.store.area0 else s.store.area1

/-- Write a generation into that area. -/
def storeWrite (g : Stored) (s : State) : State :=
  if s.store.active = 0 then { s with store := { s.store with area0 := some g, damaged0 := false } }
  else { s with store := { s.store with area1 := some g, damaged1 := false } }

end Sys2Proof.Machine
end

