-- ==== Sys2Proof/Machine/ServiceOps.lean ====
section
/-! DEFINITION. Shared operations of the service states (R26 to R33), instance states (R103, R104), module faults
(R30, R428), error contexts (R434, R435), and the closing of folios (R409, R411). -/

namespace Sys2Proof.Machine

/-! ## Folios (R397, R411) -/

def updArc (f : Arc → Arc) (s : State) : State := { s with arc := f s.arc }

def updFolio (n : Nat) (f : Folio → Folio) (s : State) : State := updArc (fun a => { a with folios := tupd a.folios n f }) s

/-- Count in ARC_COUNT (R417). -/
def arcCount (i : Nat) (s : State) : State := updArc (fun a => { a with counts := tmod 0 a.counts i (· + 1) }) s

def updRec (n : Nat) (f : Recorder → Recorder) (s : State) : State := updArc (fun a => { a with recs := tupd a.recs n f }) s

/-- A folio is closed (R411): the owner's slice and the admin slice are signalled, and the first folio of a recording is
entered in the Chronicle. -/
def closeFolio (n : Nat) (s : State) : State :=
  match tfind s.arc.folios n with
  | some f =>
    let s := updFolio n (fun f => { f with closed := true, full := true }) s
    let s := if f.owner = 0 then s else edge f.owner 10 s
    let s := edge 0 9 s
    if f.recording = n then noteMod 0x0C01 f.owner f.recorder [n, f.recorder, f.cause] s else s
  | none => s

/-- A recording in progress is closed at once with TRUNCATED set, with the pre-trigger rows where its trigger row has not been
written; a segment whose rows are all written closes as it is (R397, R409). -/
def truncateRec (r : Nat) (s : State) : State :=
  match tfind s.arc.recs r with
  | some c =>
    match c.cur with
    | some x =>
      let s := if x.trigRow.isSome || x.between then s
               else let pre := c.ring.take (leAt c.desc 8 4)
                    updFolio x.folio (fun f => { f with rows := pre.map (·.bytes), trigRow := pre.length }) s
      let s := match tfind s.arc.folios x.folio with
        | some f =>
          if f.closed then s
          else closeFolio x.folio (if f.full then s else arcCount 9 (updFolio x.folio (fun f => { f with flags := setBit f.flags 1 }) s))
        | none => s
      updRec r (fun c => { c with cur := none }) s
    | none => s
  | none => s

/-- Entry to HALTED: recordings close, recorders go to HELD (R409). -/
def haltArchive (s : State) : State :=
  (tkeys s.arc.recs).foldl (fun s r => updRec r (fun c => { c with st := .held, ring := [], input := none }) (truncateRec r s)) s

/-! ## Forces (R267, R269) -/

/-- Clear every force of an instance, each entered in the Chronicle. -/
def clearForces (n : Nat) (slice : Nat) (s : State) : State :=
  let fs := (inst s n).lg.forces
  fs.foldl (fun s e => note 0x0704 n slice noObj [e.1, e.2] s) (updInst n (fun i => { i with lg := { i.lg with forces := [] } }) s)

/-- GLB_SVC_STATUS.FORCES. -/
def anyForces (s : State) : Bool := s.insts.any fun e => !e.2.lg.forces.isEmpty

/-! ## Preconditions and causes (R28, R29) -/

/-- Instances enabled for protection. -/
def protectedInsts (s : State) : List (Nat × Inst) := s.insts.filter fun e => fon e.2.cfg iProtect

/-- A gate control list is enabled on some port. -/
def anyGcl (s : State) : Bool := (List.range 48).any fun p => portf s p prGclEn == 1

/-- The IN_SERVICE preconditions in the order of R28; true where met. -/
def preconditions (s : State) : List Bool :=
  [(protectedInsts s).all fun e => e.2.el.img.isSome && e.2.lg.prog.isSome,
   (List.range 48).all fun p => portf s p prGclEn != 1 || (port s p).gcl.isSome,
   !anyGcl s || s.time.state == .locked,
   !s.sig.fault]

/-- Numbers, from 1, of the unmet preconditions. -/
def unmet (s : State) : List Nat :=
  ((preconditions s).zipIdx.filter fun p => !p.1).map fun p => p.2 + 1

/-- Instances enabled for protection in the stored configuration. -/
def storedProtected (s : State) : List Nat :=
  match storedNow s with
  | some g => (g.insts.filter fun e => fon e.2.cfg iProtect).map Prod.fst
  | none => []

/-- Judge whether the cause of the present stay in RECOVERY has cleared (R29). -/
def recJudge (s : State) : State :=
  if s.svc.state = .recovery then
    let clear :=
      if s.svc.recCause = 3 then
        s.svc.recSaved && (storedProtected s).all fun n => (inst s n).st == .running && (inst s n).el.img.isSome
      else s.time.state == .locked || !anyGcl s
    if clear then { s with svc := { s.svc with recCleared := true } } else s
  else s

/-! ## Instance states (R103, R104) -/

/-- States whose outputs stand at their hold values. -/
def holdState (x : IState) : Bool := x == .held || x == .frozen || x == .resetting

/-- An instance changes state. `quiet` is entry to BOOT or HALTED, or the power-fail warning: publications stop without a
hold state. A change between two of the hold states sends nothing further. -/
def changeInst (n : Nat) (new : IState) (cause slice : Nat) (quiet : Bool) (s : State) : State :=
  let i := inst s n
  if i.st = new then s
  else
    let left := i.st == .running
    let s := if left then holdOuts n s else s
    let s := updInst n (fun i => { i with st := new, cause := cause }) s
    let s := if quiet then stopPubs n s
             else if left && pubState26 i.svc && s.pwr.pfw == .idle then holdPubs n s else s
    let alarm := left && s.svc.state == .inService && fon i.cfg iProtect
    let s := noteAs (if alarm then 3 else 1) 0x0201 n slice noObj [i.st.code, new.code, cause] s
    let s := edge 0 6 (edge n 6 s)
    recJudge (if alarm then setAlarm 2 s else s)

/-- The handling of an error ends: its context closes and its COUNT is recorded. -/
def closeError (code obj : Nat) (s : State) : State :=
  match s.sig.ctx.find? fun e => e.2.isOpen && e.2.code == code && e.2.obj == obj with
  | some (i, c) =>
    noteMod 0x0D02 0 obj [c.count] { s with sig := { s.sig with ctx := tput s.sig.ctx i { c with isOpen := false } } }
  | none => s

/-! ## The service state (R27, R31 to R33) -/

/-- Preemption is active in COMMISSIONING, TEST and RECOVERY, once verified or forced (R364). -/
def preemptJudge (s : State) : State :=
  let on := s.svc.state == .commissioning || s.svc.state == .test || s.svc.state == .recovery
  { s with ports := tmapD {} (fun _ p =>
      { p with preemptAct := on && p.link && (p.verify == 2 || fon p.cfg prForce) }) s.ports }

/-- Every gate opens (R26, R362). -/
def openGates (s : State) : State :=
  { s with ports := tmapD {} (fun _ p => openGate p) s.ports }

/-- On entry to IN_SERVICE the gates of each port start at its first cycle start (R362). -/
def armGates (s : State) : State := { s with ports := tmapD {} (fun _ p => armGate s p) s.ports }

/-- The service state changes now: registers, Chronicle, admin source 5, gates, preemption, and the entry conditions of
IN_SERVICE and RECOVERY. -/
def svcCommit (target : Svc) (cause : Nat) (s : State) : State :=
  let old := s.svc.state
  let s := { s with svc := { s.svc with
    state := target, prev := old, cause := cause, count := s.svc.count + 1, ts32 := ts32 s, at_ := fullNow s,
    recCause := if target = .recovery then cause else s.svc.recCause,
    recCleared := if target = .recovery then false else s.svc.recCleared,
    recSaved := if target = .recovery then false else s.svc.recSaved } }
  let s := noteMod 0x0101 0 noObj [old.code, target.code, cause] s
  let s := if target = .inService then s else closeError 0x0B02 noObj s
  let s := edge 0 5 s
  let s := if old = .inService then openGates s else s
  let s := preemptJudge s
  let s := if target = .inService then armGates s else s
  let s := if target = .inService then
      (protectedInsts s).foldl (fun s e => if e.2.st == .running then s else setAlarm 2 (edge e.1 6 s)) s
    else s
  recJudge s

/-- An instance takes a service state at its step boundary (R31): forces end on entry to IN_SERVICE (R269); in TEST the
outputs without TEST_ALLOW de-energise (R277). -/
def svcInst (target : Svc) (n : Nat) (s : State) : State :=
  let s := updInst n (fun i => { i with svc := target.code }) s
  let s := if target = .inService then clearForces n noObj s else s
  if target = .test then
    (List.range 8).foldl (fun s k => if ownerOf s k == some n && outf s k oTestAllow == 0 then holdOut k s else s) s
  else s

/-- Is the automatic transition to RECOVERY due (R27)? -/
def recoveryDue (s : State) : Bool := s.svc.state == .inService && s.time.state == .lost && anyGcl s

/-- Instances that do not run take the new state with the module. -/
def svcOthers (target : Svc) (s : State) : State :=
  (instNums s).foldl (fun s n => if (inst s n).st == .running then s else svcInst target n s) s

/-- The transition has run to every instance: the state changes and the command completes OK. -/
def svcFinish (c : SvcChange) (s : State) : State :=
  let s := svcOthers c.target { s with svc := { s.svc with change := none } }
  finishWaits .service ok (replyTo c.cmd ok (svcCommit c.target c.cause s))

/-- Start a transition: it runs to each running instance at its next step boundary; with none running it ends at once
(DEDUCED). -/
def svcStart (target : Svc) (cause : Nat) (cmd : Option CmdId) (s : State) : State :=
  let todo := runningInsts s
  let c : SvcChange := { target := target, cause := cause, cmd := cmd, committed := false, todo := todo }
  if todo.isEmpty then svcFinish c s else { s with svc := { s.svc with change := some c } }

/-- The automatic transition to RECOVERY: a command still short of its commit point completes STALE (R32). -/
def recoveryStart (s : State) : State :=
  match s.svc.change with
  | some c =>
    if c.committed || c.target == .recovery then s
    else svcStart .recovery 4 none (replyTo c.cmd stale { s with svc := { s.svc with change := none } })
  | none => if s.svc.state == .recovery then s else svcStart .recovery 4 none s

/-- Take the automatic transition to RECOVERY where its trigger holds (R27, R32); after the commit point of another the
trigger waits. In a pair the ACTIVE unit alone judges it, and carries it to its partner (R326). -/
def autoRecovery (s : State) : State :=
  if recoveryDue s && unitLive s then
    if pairLeads s then (match s.svc.change with
      | some c => if c.committed || c.target == .recovery then s else sendOwn 1 [] s
      | none => sendOwn 1 [] s)
    else recoveryStart s
  else s

/-- A running instance changes at its boundary (R31, R32): the first commits the transition, the last ends it. -/
def svcBoundary (n : Nat) (s : State) : State :=
  match s.svc.change with
  | some c =>
    if c.todo.contains n then
      let c' := { c with committed := true, todo := c.todo.filter (· != n) }
      let s := svcInst c.target n { s with svc := { s.svc with change := some c' } }
      if c'.todo.isEmpty then autoRecovery (svcFinish c' s) else s
    else s
  | none => s

/-- An instance that no longer runs does not hold a transition up. -/
def svcDrop (n : Nat) (s : State) : State :=
  if (inst s n).st == .running then s else svcBoundary n s

/-- A transition in progress ends where it stands, its command STALE (R32). -/
def svcBreak (s : State) : State :=
  match s.svc.change with
  | some c => replyTo c.cmd stale { s with svc := { s.svc with change := none } }
  | none => s

/-- Entry to HALTED takes effect at once (R31): outputs de-energise, instances go to HELD, recordings close, and the
protection publications stop after the alarm publication has sent its state (R429). A transition in progress ends, its
command STALE (R32). -/
def enterHalted (cause : Nat) (s : State) : State :=
  let s := dropOuts (alarmPubJudge (svcBreak s))
  let s := (instNums s).foldl (fun s n =>
    let s := updInst n (fun i => { i with svc := 5, restart := none }) s
    if (inst s n).st == .running then changeInst n .held 7 noObj true s else stopPubs n s) s
  let s := haltArchive s
  { svcCommit .halted cause s with lanes := { s.lanes with steps := [] } }

/-! ## Module faults (R30, R428) -/

/-- Every physical transmitter turns off (R339). -/
def txOffAll (s : State) : State :=
  (List.range 48).foldl (fun s p => updPort p (fun q => { q with txOff := true }) s) s

/-- A module fault: a further one is only entered in the Chronicle; the first mutes a tandem unit, which asks for its
demotion, and halts any other. -/
def moduleFault (cause : Nat) (s : State) : State :=
  let s := noteMod 0x0D03 0 noObj [cause] s
  if s.sig.fault then s
  else
    let s := withNtf 0 (fun s => { s with sig := { s.sig with fault := true, faultCause := cause } }) s
    let s := alarmPubJudge (alertPin s)
    let s := if cause = 9 then txOffAll s else s
    if s.svc.state = .boot then enterHalted 5 { s with pwr := { s.pwr with bootFault := true } }
    else if s.svc.state = .halted then s
    else if s.tdm.standalone then enterHalted 5 s
    else
      let s := setRole .isolated 7 (svcBreak s)
      let s := linkSend (.gasp 2) s
      let s := refSend 0x0004 2 0 s
      let s := updTdm (fun t => { t with demote := 1, demoteAt := s.clk, demoteStart := s.clk, demoteSeq := t.refSeq + 1 }) s
      refSend 0x0006 0 0 s

/-! ## Error contexts (R434, R435) -/

/-- A new error: it counts in the open context of its identity, opens a free one, or, as a fifth, is a module fault. -/
def openError (code obj : Nat) (s : State) : State :=
  if s.sig.fault then s
  else
    match s.sig.ctx.find? fun e => e.2.isOpen && e.2.code == code && e.2.obj == obj with
    | some (i, c) =>
      { s with sig := { s.sig with ctx := tput s.sig.ctx i { c with count := min 65535 (c.count + 1), last := ts32 s } } }
    | none =>
      match (List.range 4).find? fun i => !(tget {} s.sig.ctx i).isOpen with
      | some i =>
        let c : ErrCtx := { code := code, obj := obj, count := 1, isOpen := true, first := ts32 s, last := ts32 s }
        let s := { s with sig := { s.sig with ctx := tput s.sig.ctx i c, opened := (s.sig.opened + 1) % 65536 } }
        edge 0 13 (noteMod 0x0D01 0 obj [code] s)
      | none => moduleFault 7 s

/-- An error whose handling ends in the step that finds it. -/
def passError (code obj : Nat) (s : State) : State := closeError code obj (openError code obj s)

end Sys2Proof.Machine
end

