-- ==== Sys2Proof/Machine/MailboxOps.lean ====
section
/-! DEFINITION. Shared operations of the mailboxes: DMA reads (R61, R62, R85, R90), arbitration of fetches (R82, R110),
reading and checking an entry (R70, R71, R490), aborting a command (R86, R88), writing a completion (R73, R74, R83, R108),
the window registers (R68, R69, R72), virtual ports (R344, R373), and the reset of the host interface (R89). -/

namespace Sys2Proof.Machine

def updPcie (f : Pcie → Pcie) (s : State) : State := { s with pcie := f s.pcie }

def updCmds (f : List Cmd → List Cmd) (s : State) : State := { s with cmds := f s.cmds }

/-! ## Rings -/

def sqLen (w : Window) : Nat := ringLen (fval w.cfg wSqLog2)

def cqLen (w : Window) : Nat := ringLen (fval w.cfg wCqLog2)

/-- Entries of the submission ring not yet fetched. -/
def unfetched (w : Window) : Nat := (w.sqTail + sqLen w - w.sqHead % sqLen w) % sqLen w

/-- Completions written and not yet consumed. -/
def unconsumed (w : Window) : Nat := (w.cqIdx + cqLen w - w.cqHead % cqLen w) % cqLen w

/-- No completion slot is free (R81). -/
def cqFull (w : Window) : Bool := decide (cqLen w - 1 ≤ unconsumed w)

def sqAddr (w : Window) (i : Nat) : Nat := fval w.cfg wSqLo * 4096 + fval w.cfg wSqHi * 2 ^ 32 + 64 * i

def cqAddr (w : Window) (i : Nat) : Nat := fval w.cfg wCqLo * 4096 + fval w.cfg wCqHi * 2 ^ 32 + 32 * i

/-- The commands of a slice that hold tags. -/
def sliceCmds (s : State) (n : Nat) : List Cmd := s.cmds.filter fun c => c.id.slice == n

/-- STATUS.ENABLED falls once the ring is stopped and its last command has retired (R72). -/
def ringSettle (n : Nat) (s : State) : State :=
  if !fon (win s n).cfg wEnable && (sliceCmds s n).isEmpty then updWin n (fun w => { w with enabled := false }) s else s

/-- Is this the read of an entry of a ring? -/
def isEntryRead (n : Nat) (r : Rd) : Bool := r.purpose == .entry n

/-- Stop a submission ring: fetching ends at once (R72). -/
def sqStop (n : Nat) (s : State) : State :=
  ringSettle n (updPcie (fun p => { p with reads := p.reads.filter fun r => !isEntryRead n r,
                                           waitReads := p.waitReads.filter fun r => !isEntryRead n r })
    (updWin n (fun w => { w with cfg := fset w.cfg wEnable 0 }) s))

/-! ## DMA reads (R61, R62, R85) -/

/-- The completion timeout (R62), in ns. -/
def cto (s : State) : Nat :=
  match s.pcie.ctoSel with
  | 1 => 100 * us
  | 2 => 10 * ms
  | 5 => 55 * ms
  | 6 => 210 * ms
  | _ => 50 * ms

/-- Non-posted reads that may be outstanding. -/
def readBound (s : State) : Nat := if s.pcie.tag10 then 1024 else 256

/-- The slice of a read. -/
def rdSlice (r : Rd) : Nat :=
  match r.purpose with
  | .entry n => n
  | .buffer id => id.slice

/-- A read whose address does not translate is not issued: an entry's ring stops, a buffer's command ends (R108). -/
def translateRead (r : Rd) (k a : Nat) (s : State) : State :=
  match r.purpose with
  | .entry n => ringErr n (sqStop n (atuFault n k a false 2 0 s))
  | .buffer id => reply id (aborted 5) (atuFault id.slice k a false 1 id.cid s)

/-- Put a read on PCIe: it is translated as it is issued (R107). -/
def sendRead (r : Rd) (s : State) : State :=
  match atuCheck s (rdSlice r) r.addr r.len false with
  | some (k, a) => translateRead r k a s
  | none =>
    let t := s.pcie.nextTag
    emit (.dmaRead (rdSlice r) t (busAddr s (rdSlice r) r.addr) r.len)
      { s with pcie := { s.pcie with nextTag := t + 1, reads := s.pcie.reads ++ [{ r with tag := t, at_ := s.clk }] } }

/-- Issue a read, or let it wait for a tag or for bus mastering. -/
def issueRead (r : Rd) (s : State) : State :=
  if busOff s || decide (readBound s ≤ s.pcie.reads.length) then updPcie (fun p => { p with waitReads := p.waitReads ++ [r] }) s
  else sendRead r s

/-- Issue waiting reads while tags are free. -/
def pumpList : List Rd → State → State
  | [], s => updPcie (fun p => { p with waitReads := [] }) s
  | r :: t, s =>
    if busOff s || s.pcie.down || decide (readBound s ≤ s.pcie.reads.length) then updPcie (fun p => { p with waitReads := r :: t }) s
    else pumpList t (sendRead r s)

def pumpReads (s : State) : State := pumpList s.pcie.waitReads s

/-! ## Arbitration (R82, R110) -/

/-- A reply of the ring waits for a slot. -/
def replyWaits (s : State) (n : Nat) : Bool :=
  cqFull (win s n) && s.cmds.any fun c => c.id.slice == n && c.phase == .completing

/-- Tags held by instance slices (R81). -/
def instTags (s : State) : Nat := (s.cmds.filter fun c => c.id.slice != 0).length

/-- STATUS.STOP_CAUSE (R68). After an instance reset it stays 4 until the ring is enabled again (R115; DEDUCED). -/
def stopCause (s : State) (n : Nat) : Nat :=
  if busOff s then 5
  else if n != 0 && ((inst s n).st == .resetting || (win s n).resetStop) then 4
  else if replyWaits s n then 3
  else if n != 0 && decide (8128 ≤ instTags s) then 2
  else if (win s n).cap ≤ (sliceCmds s n).length then 1
  else 0

/-- The ring may fetch: it runs, holds an entry, and nothing stops it. -/
def eligible (s : State) (n : Nat) : Bool :=
  fon (win s n).cfg wEnable && unfetched (win s n) != 0 && stopCause s n == 0 && !s.pcie.down &&
    !(s.pcie.reads.any (isEntryRead n)) && !(s.pcie.waitReads.any (isEntryRead n))

/-- The instance slices that may fetch. -/
def eligibles (s : State) : List Nat := (tkeys s.wins).filter fun n => n != 0 && eligible s n

/-- A new round: every eligible slice receives WEIGHT credits. -/
def newRound (s : State) : State :=
  let e := eligibles s
  (tkeys s.wins).foldl (fun s n => updWin n (fun w => { w with credit := if e.contains n then w.weight else 0 }) s) s

/-- The turn of a slice: the state with its credit spent, or none where it is not its turn. -/
def takeTurn (n : Nat) (s : State) : Option State :=
  if !eligible s n then none
  else if n = 0 then some { s with adminOffer := true }
  else if eligible s 0 && !s.adminOffer then none
  else
    let s := if (eligibles s).any fun m => (win s m).credit != 0 then s else newRound s
    if (win s n).credit = 0 then none
    else some (updWin n (fun w => { w with credit := w.credit - 1 }) { s with adminOffer := false })

/-! ## Entries (R70, R490) -/

/-- A fetched entry holds a tag from now on. -/
def addCmd (c : Cmd) (s : State) : State :=
  { s with cmds := s.cmds ++ [c], seq := s.seq + 1, tagsMax := max s.tagsMax (s.cmds.length + 1) }

/-- An entry that fails a check is completed at once. -/
def refused (c : Cmd) (r : Reply) (s : State) : State := addCmd { c with phase := .completing, reply := r } s

/-- The parameters of the entry are complete: the command may start, or fails step 6 of R490. -/
def checked (o : OpSpec) (c : Cmd) (raw : List RawParam) : Cmd :=
  match checkParams o c.id.slice raw with
  | .ok ps => { c with params := ps, phase := .fetched, inline := [] }
  | .error r => { c with phase := .completing, reply := r, inline := [] }

/-- The bytes of input a command reads from its buffer: an input buffer whole, the 48 bytes of a digest or a nonce. -/
def inputLen (o : OpSpec) (c : Cmd) : Nat :=
  match o.dir with
  | .none => c.bufLen
  | .input => c.bufLen
  | .both => min c.bufLen 48
  | .reply => 0

/-- Start the read of a command's input. A buffer that does not translate ends the command (R108). -/
def startRead (c : Cmd) (len : Nat) (s : State) : State :=
  match atuCheck s c.id.slice c.bufAddr len false with
  | some (k, a) => refused c (aborted 5) (atuFault c.id.slice k a false 1 c.id.cid s)
  | none =>
    issueRead { tag := 0, purpose := .buffer c.id, addr := c.bufAddr, len := len, attempt := 0, at_ := s.clk }
      (addCmd { c with phase := .reading, started := s.clk } s)

/-- Is the entry's form as R70 states it? -/
def wellFormed (o : OpSpec) (b : List Byte) (c : Cmd) : Bool :=
  decide (c.flags < 8) && decide (leAt b 5 1 ≤ 5) && decide (c.bufLen ≤ 1048576) &&
    (!takesList o || c.bufLen % 8 == 0) && (c.bufLen == 0 || c.bufAddr % 8 == 0)

/-- BUF_OUT agrees with the opcode (R492); an entry without a buffer has none to disagree with (DEDUCED). -/
def dirOk (o : OpSpec) (c : Cmd) : Bool := c.bufLen == 0 || bitOf c.flags 1 == writesBuffer o

/-- The inline entries as far as they can be judged before the buffer is read: a wide value may still lack its other
word. -/
def inlineNow (raw : List RawParam) (more : Bool) : List RawParam :=
  match raw.getLast? with
  | some r => if more && r.attr == 1 then raw.dropLast else raw
  | none => raw

/-- An entry has been read: the checks of R490 in their order. -/
def receiveEntry (n : Nat) (b : List Byte) (s : State) : State :=
  let b := padTo 64 b
  let c : Cmd :=
    { id := { slice := n, cid := leAt b 2 2 }, op := leAt b 0 2, seq := s.seq, flags := leAt b 4 1, timeout := leAt b 6 2,
      bufLen := leAt b 12 4, bufAddr := leAt b 16 8 }
  let epoch := leAt b 8 4
  let raw := rawParams (min 5 (leAt b 5 1)) (b.drop 24)
  if s.cmds.any fun x => x.id == c.id then refused c (badarg 0xFFFD) s
  else if n = 0 ∧ epoch ≠ 0 then refused c (badarg 0xFFFE) s
  else if n ≠ 0 ∧ epoch ≠ (win s n).epoch.toNat then refused c { status := 7 } s
  else match opSpec c.op with
    | none => refused c (badarg 0xFFFF) s
    | some o =>
      if !wellFormed o b c || !dirOk o c then refused c (badarg 0xFFFE) s
      else
        let list := takesList o && c.bufLen != 0 && !descriptorForm c.op c.bufLen
        match badParam (keysFrom o n) (joinParams 0 (inlineNow raw list)) with
        | some i => refused c (badarg i) s
        | none =>
          if list then startRead { c with inline := sliceOf b 24 (8 * raw.length) } (inputLen o c) s
          else
            let c := checked o c raw
            if c.phase == .fetched && inputLen o c != 0 then startRead c (inputLen o c) s
            else addCmd c s

/-- The input of a command has arrived. -/
def receiveInput (id : CmdId) (data : List Byte) (s : State) : State :=
  updCmds (fun l => l.map fun c =>
    if c.id == id && c.phase == .reading then
      match opSpec c.op with
      | some o =>
        if takesList o && !descriptorForm c.op c.bufLen then
          checked o { c with input := data }
            (rawParams (c.inline.length / 8) c.inline ++ rawParams (data.length / 8) data)
        else { c with input := data, phase := .fetched }
      | none => c
    else c) s

/-! ## Aborting (R84, R86, R88, R115) -/

/-- What a command past its commit point cannot be: `admin.service.set` has committed once its first instance has
changed (R32). -/
def committed (s : State) (c : Cmd) : Bool :=
  c.phase == .committed ||
    match s.svc.change with
    | some x => x.committed && x.cmd == some c.id
    | none => false

/-- Undo what a waiting command has begun. -/
def undoWait (w : Wait) (s : State) : State :=
  match w.kind with
  | .service =>
    match s.svc.change with
    | some x => if x.committed || x.cmd != w.cmd then s else { s with svc := { s.svc with change := none } }
    | none => s
  | .streamRestart i => { s with sv := { s.sv with streams := tupd s.sv.streams i fun x => { x with restart := false } } }
  | .resync ch d =>
    { s with filt := { s.filt with pairs := s.filt.pairs.map fun p =>
        if p.chan == ch && (d == 255 || p.dom == d) && p.t0.isNone then { p with t0 := some 0 } else p } }
  | .outTest k =>
    refreshOut k (updOut k (fun o => { o with test := none }) s)
  | .switchover => updTdm (fun t => { t with switchH := none }) s
  | .gcl p => updPort p (fun q => { q with gclNext := none }) s
  | .timeSet => { s with time := { s.time with setSec := none } }
  | .holdup => { s with met := { s.met with holdup := none } }
  | _ => s

/-- Forget a command that ends short of its commit point: nothing it began goes on, and no read is issued for it. -/
def cancelCmd (id : CmdId) (s : State) : State :=
  let mine := s.waits.filter fun w => w.cmd == some id
  let s := mine.foldl (fun s w => undoWait w s) { s with waits := s.waits.filter fun w => w.cmd != some id }
  let s := updPcie (fun p => { p with waitReads := p.waitReads.filter fun r => r.purpose != .buffer id }) s
  let s := { s with insts := tmapD {} (fun _ i =>
    { i with
      restart := match i.restart with
        | some r => if r.cmd == some id then none else some r
        | none => none
      holdReq := if i.holdReq == some (some id) then none else i.holdReq
      freezeReq := if i.freezeReq == some (some id) then none else i.freezeReq
      lg := { i.lg with exch := match i.lg.exch with
        | some e => if e.cmd == some id then none else some e
        | none => none } }) s.insts }
  updArc (fun a => { a with trigs := a.trigs.filter fun t => t.cmd != some id }) s

/-- Abort a command short of its commit point. -/
def abortCmd (id : CmdId) (d : Nat) (s : State) : State := reply id (aborted d) (cancelCmd id s)

/-- The effective timeout of a command, in ns (R84). -/
def effTimeout (s : State) (c : Cmd) : Nat :=
  let own := if c.timeout = 0 then fval (win s c.id.slice).cfg wTimeout else c.timeout
  max (own * ms) (max (4 * cto s + ms) (if c.op = 0x0103 then 2 * ms else 0))

/-- The command has entered EXECUTING and has not ended. -/
def executing (c : Cmd) : Bool :=
  c.phase == .reading || c.phase == .executing || (c.phase == .fetched && !c.input.isEmpty)

/-! ## Completions (R73, R74, R80) -/

/-- The 32 bytes of a completion. -/
def cqe (s : State) (c : Cmd) : List Byte :=
  let w := win s c.id.slice
  let r := c.reply
  let now := fullNow s
  let res := if r.full then le 6 now.sec ++ le 2 0 ++ le 4 now.ns else le 8 r.res0 ++ le 4 (r.res1.getD 0)
  le 2 c.id.cid ++ le 2 w.sqHead ++ le 2 r.status ++ le 2 r.detail ++ le 4 (if c.id.slice = 0 then 0 else w.epoch.toNat) ++
    le 4 (ts32 s).toNat ++ res ++ le 1 r.nres ++ le 1 0 ++
    le 1 (b2n (if r.full then now.notTraceable else r.notTraceable)) ++ le 1 (b2n w.cqPhase)

/-- Take the first command of an identity that is in a phase out of a list. -/
def dropFirst (id : CmdId) (p : Phase) : List Cmd → List Cmd
  | [] => []
  | c :: t => if c.id == id && c.phase == p then t else c :: dropFirst id p t

/-- A command retires: its tag is free. -/
def retire (id : CmdId) (s : State) : State := ringSettle id.slice (updCmds (dropFirst id .completing) s)

/-- Count a completion that is written or discarded with ABORTED. -/
def countAborted (n : Nat) (s : State) : State := updWin n (fun w => { w with cmdAborted := w.cmdAborted + 1 }) s

/-- Write a completion into its slot. -/
def writeCqe (c : Cmd) (s : State) : State :=
  let n := c.id.slice
  let w := win s n
  let wrap := (w.cqIdx + 1) % cqLen w == 0
  let s := post (.dmaWrite n (busAddr s n (cqAddr w w.cqIdx)) (cqe s c)) s
  let s := updWin n (fun w =>
    { w with cqIdx := (w.cqIdx + 1) % cqLen w, cqPhase := if wrap then !w.cqPhase else w.cqPhase, cmdDone := w.cmdDone + 1 }) s
  let s := if c.reply.status = 6 then countAborted n s else s
  let s := if c.reply.reset then { s with pwr := { s.pwr with resetDue := true } } else s
  let s := retire c.id s
  if bitOf c.flags 2 then s else edge n 0 s

/-- A completion that does not translate: both rings stop, and later completions of the ring are discarded (R108). -/
def failCq (c : Cmd) (k a : Nat) (s : State) : State :=
  let n := c.id.slice
  retire c.id (countAborted n (updWin n (fun w => { w with cqFailed := true }) (sqStop n (atuFault n k a true 3 c.id.cid s))))

/-! ## Windows (R68, R69) -/

/-- The blocks of a window's fields: a ring runs while its ENABLE bit is 1. -/
def winMode (w : Window) (d : Desc) : Mode :=
  if 8 ≤ d.id ∧ d.id ≤ 12 then (if fon w.cfg wRxEn then .run else .idle)
  else if 13 ≤ d.id ∧ d.id ≤ 16 then (if fon w.cfg wTxEn then .run else .idle)
  else if fon w.cfg wEnable then .run else .idle

/-- STATUS.ASSIGNED (R68). -/
def assigned (s : State) (n : Nat) : Bool := n == 0 || (win s n).pasid.isSome

/-- Does a write change a station-ring field? -/
def stationWrite (w : Window) (n off v : Nat) : Bool :=
  (changedFields (winFields n) w.cfg off v).any fun p => decide (8 ≤ p.1.id) && decide (p.1.id ≤ 16)

/-- The window's configuration after a register write, or none where the word is discarded with DENIED_WR (R69, R489). -/
def winWrite (n off v : Nat) (s : State) : Option Cfg :=
  let w := win s n
  if !assigned s n && stationWrite w n off v then none
  else regWrite (winFields n) (winMode w) (fun _ => true) off v w.cfg

/-- Host accesses reach the block: the window exists, the mailboxes are ready (R487) and PCIe is up. -/
def hostUp (s : State) : Bool := s.pwr.mbxReady && !s.pcie.down

/-- A window of the module. -/
def winExists (n : Nat) : Bool := decide (n ≤ 512)

/-! ## Virtual ports (R344, R373) -/

/-- The static entries of a virtual port, one for each address in each VLAN. -/
def vportEntries (n : Nat) (v : Vport) : List Fdb :=
  v.vlans.flatMap fun vid => v.macs.map fun m => { vid := vid, mac := m, static := true, group := false, target := 50 + n }

/-- Install the static entries of a virtual port in place of those it had. -/
def vportInstall (n : Nat) (s : State) : State :=
  let v := vport s n
  let new := vportEntries n v
  updSw (fun w => { w with fdb :=
    (w.fdb.filter fun e => !(e.static && !e.group && e.target == 50 + n) && !(new.any fun x => x.vid == e.vid && x.mac == e.mac))
      ++ new }) s

/-- The virtual port restarts: its staged lists take effect. -/
def vportRestart (n : Nat) (s : State) : State :=
  vportInstall n (updSw (fun w => { w with vports := tmod {} w.vports n fun v =>
    { v with macs := v.macsStaged.getD v.macs, vlans := v.vlansStaged.getD v.vlans, macsStaged := none,
             vlansStaged := none, cfg := fapply vpFields v.cfg } }) s)

/-! ## Reset of the host interface (R89) -/

/-- A window after a reset of the host interface: the epoch follows the instance. -/
def winReset (w : Window) : Window := { epoch := w.epoch }

/-- Is a command short of its commit point? -/
def uncommitted (s : State) (c : Cmd) : Bool :=
  (c.phase == .reading || c.phase == .fetched || c.phase == .executing) && !committed s c

/-- PERST# and Function Level Reset. -/
def hostReset (s : State) : State :=
  let lost := s.cmds.filter fun c => uncommitted s c
  let s := lost.foldl (fun s c => cancelCmd c.id s) s
  let s := if lost.isEmpty then s else noteMod 0x0103 0 noObj [lost.length] s
  let s := { s with
    cmds := [], heldOut := [], adminOffer := false, ntfs := [],
    waits := s.waits.map fun w => { w with cmd := none }
    svc := { s.svc with change := s.svc.change.map fun c => { c with cmd := none } }
    insts := tmapD {} (fun _ i => { i with reset := i.reset.map fun r => { r with cmd := none } }) s.insts
    tdm := { s.tdm with carried := s.tdm.carried.map fun c => { c with cmd := none } }
    atu := { s.atu with entries := [] }
    pcie := { s.pcie with reads := [], waitReads := [], latches := [], unmasked := [], pba := [], msix := [], bme := false,
                          d3hot := false }
    wins := tmapD {} (fun _ w => winReset w) s.wins }
  (List.range 512).foldl (fun s i => if waitingCopies s (51 + i) = 0 then s else flushVport (i + 1) s) s

end Sys2Proof.Machine
end

