-- ==== Sys2Proof/Machine/CarryOps.lean ====
section
/-! DEFINITION. Commands reserved to the ACTIVE unit of a pair (R114, R298, R325, R326): executed at once where the unit
stands alone, or carried to the partner and executed in both units at their effect point. -/

namespace Sys2Proof.Machine

/-- Commands whose effect point is a step boundary; the others act at the close of a ballot (R114, R237, R325). -/
def stepBased (op : Nat) : Bool := [0x0209, 0x020A, 0x020C, 0x020E, 0x020F, 0x0601, 0x0603].contains op

/-- The change as the CARRY frame carries it. -/
def carryOf (c : Cmd) (ident effect : Nat) : Carried :=
  { ident := ident, op := c.op, slice := c.id.slice, effect := effect, params := c.params.map fun p => (p.key, p.value),
    input := c.input, cmd := some c.id, status := none, peer := none }

/-- Put a change on its way to the partner. -/
def sendCarry (c : Cmd) (s : State) : State :=
  let k := carryOf c s.tdm.carryId (s.tdm.ballot + 8)
  linkSend (.carry k.ident k.op k.slice k.effect k.params k.input)
    (addWait (.carried k.ident) (some c.id)
      (updTdm (fun t => { t with carried := t.carried ++ [k], carryId := t.carryId + 1 }) s))

/-- A reserved command: refused in any role but ACTIVE, carried where the partner is in the ballot and from then on past its
commit point, and otherwise executed alone. -/
def carried (c : Cmd) (s : State) (body : Cmd → State → Ans) : Ans :=
  if s.tdm.standalone then body c s
  else if s.tdm.role != .active then .fail (denied 1)
  else if !s.tdm.inStep then body c s
  else .going (sendCarry c s)

/-- The command a carried change stands for: the ACTIVE unit's own, or on the partner one that no ring holds. -/
def carriedCmd (k : Carried) (s : State) : Cmd :=
  match s.cmds.find? fun c => k.cmd == some c.id && c.phase == .committed with
  | some c => c
  | none =>
    { id := { slice := k.slice, cid := 65536 + k.ident }, op := k.op, seq := 0, input := k.input,
      bufLen := k.input.length, params := k.params.zipIdx.map fun p =>
        { key := p.1.1, value := p.1.2, wide := false, idx := p.2 } }

end Sys2Proof.Machine
end

