-- ==== Sys2Proof/Machine/Admin.lean ====
section
/-! DEFINITION. The admin commands (R32, R88, R97, R98). -/

namespace Sys2Proof.Machine

/-- The first 36 bytes of the identity EEPROM (R37). -/
def eeprom : List Byte :=
  padTo 16 Config.partNumber ++ padTo 16 Config.serial ++ le 2 Config.hwRevision ++ le 2 (if Config.variantX then 2 else 1)

/-- The image of the running bank (R469). -/
def runBank (s : State) : Bank := if s.upd.run = 0 then s.upd.bankA else s.upd.bankB

def execAdminIdentify (r : CmdId) (s : State) : Res :=
  feljo 0x0101 r (fun _ s => .done s (withOut
    (eeprom ++ le 1 s.upd.run ++ zeros 3 ++ le 4 (runBank s).version ++ le 1 0 ++ le 1 1 ++ zeros 18) ok)) s

/-- STATE, PREV, CHANGING and CAUSE of GLB_SVC_STATUS (R33). -/
def svcWord (s : State) : Nat :=
  s.svc.state.code + s.svc.prev.code * 16 + b2n s.svc.change.isSome * 128 + s.svc.cause * 256

/-- A full time in 16 bytes: seconds, reserved, nanoseconds, flags (R97). -/
def timeBytes (t : FullTime) : List Byte := le 6 t.sec ++ le 2 0 ++ le 4 t.ns ++ le 4 (b2n t.notTraceable)

def execAdminServiceGet (r : CmdId) (s : State) : Res :=
  feljo 0x0102 r (fun _ s => .done s (withOut (timeBytes s.svc.at_) { ok with res0 := svcWord s })) s

/-- The transitions a host may command (R27). -/
def svcAllowed (a b : Svc) : Bool :=
  match a, b with
  | .commissioning, .inService => true
  | .test, .inService => true
  | .recovery, .inService => true
  | .inService, .commissioning => true
  | .commissioning, .test => true
  | .inService, .test => true
  | .test, .commissioning => true
  | .recovery, .commissioning => true
  | .boot, .halted => false
  | .halted, .halted => false
  | _, .halted => true
  | _, _ => false

/-- The reply that names an unmet condition of R28 or an uncleared cause of R29. -/
def svcPrecondition (s : State) (target : Svc) : Option Reply :=
  if target = .inService then
    if s.svc.state = .recovery ∧ s.svc.recCleared = false then some (withKey 2 s.svc.recCause (denied 4))
    else match unmet s with
      | i :: _ => some (withKey 1 i (denied 4))
      | [] => none
  else none

/-- `admin.service.set` at its effect point. -/
def serviceSet (c : Cmd) (s : State) : Ans :=
  match Svc.ofCode (argD c 2 0) with
  | none => .fail (badarg (argIdx c 2))
  | some target =>
    if s.svc.change.isSome then .fail busy
    else if s.svc.state.code ≠ argD c 1 0 then .fail stale
    else if !svcAllowed s.svc.state target then .fail (denied 1)
    else match svcPrecondition s target with
      | some r => .fail r
      | none =>
        if target = .halted then .done (enterHalted 1 s) ok
        else .wait (svcStart target 1 (some c.id) s)

def execAdminServiceSet (r : CmdId) (s : State) : Res :=
  feljo 0x0103 r (fun c s => adminOnly c (carried c s serviceSet)) s

def execAdminEcho (r : CmdId) (s : State) : Res := feljo 0x0104 r (fun _ s => .done s { ok with full := true }) s

/-- `admin.abort` (R88): a command that has not committed ends; an instance slice names only its own. -/
def adminAbort (c : Cmd) (s : State) : Ans :=
  let t : CmdId := { slice := argD c 1 0, cid := argD c 2 0 }
  if c.id.slice ≠ 0 ∧ t.slice ≠ c.id.slice then .fail (denied 2)
  else match s.cmds.find? fun x => x.id == t && x.id != c.id && uncommitted s x with
    | some _ => .done (abortCmd t 3 s) ok
    | none => .fail stale

def execAdminAbort (r : CmdId) (s : State) : Res := feljo 0x0105 r adminAbort s

def execAdminTimeoutSet (r : CmdId) (s : State) : Res :=
  feljo 0x0106 r (fun c s => .done (updWin c.id.slice (fun w => { w with cfg := fset w.cfg wTimeout (argD c 1 500) }) s) ok) s

/-- Tags and reads in use, and OUTSTANDING.COUNT of every slice. -/
def boundsBytes (s : State) : List Byte :=
  le 4 s.cmds.length ++ le 4 s.tagsMax ++ le 4 s.pcie.reads.length ++ le 4 (b2n s.pcie.tag10) ++
    ((List.range 513).flatMap fun n => le 2 (sliceCmds s n).length) ++ zeros 6

def execAdminBoundsGet (r : CmdId) (s : State) : Res :=
  feljo 0x0107 r (fun c s => adminOnly c (.done s (withOut (boundsBytes s) ok))) s

/-- The window counters at 0x080 to 0x098 (R68). -/
def winCounters (w : Window) : List Nat :=
  [w.cmdDone.toNat, w.cmdAborted.toNat, w.rxFrames.toNat, w.rxNobuf.toNat, w.rxBad.toNat, w.txFrames.toNat, w.txDrop.toNat]

def execAdminCountersGet (r : CmdId) (s : State) : Res :=
  feljo 0x0108 r (fun c s =>
    let n := argD c 1 c.id.slice
    require (fromAdmin c || n == c.id.slice) (denied 2)
      (.done s (withOut ((winCounters (win s n)).flatMap (le 4)) ok))) s

/-- `admin.config.save` (R98): a new generation; nothing is applied, and staged values stay staged. -/
def configSave (s : State) : State × Nat :=
  let gen := match storedNow s with
    | some g => g.gen + 1
    | none => 1
  let g := saveState gen s
  let s := storeWrite g { s with svc := { s.svc with auto := g.auto, autoStaged := none, recSaved := true } }
  (recJudge (noteMod 0x0104 0 noObj (words64 gen) s), gen)

def execAdminConfigSave (r : CmdId) (s : State) : Res :=
  feljo 0x0109 r (fun c s => adminOnly c (notBootHalted s
    (.done (configSave s).1 { ok with res0 := (configSave s).2 }))) s

def execAdminAutoserviceSet (r : CmdId) (s : State) : Res :=
  feljo 0x010A r (fun c s => adminOnly c
    (.done { s with svc := { s.svc with autoStaged := some (argD c 1 0 != 0) } } stagedR)) s

def execAdminVectorSet (r : CmdId) (s : State) : Res :=
  feljo 0x010B r (fun c s => adminOnly c
    (.done (updWin 0 (fun w => { w with cfg := fset w.cfg wVec (argD c 1 0x7FF) }) s) ok)) s

end Sys2Proof.Machine
end

