-- ==== Sys2Proof/Machine/Resample.lean ====
section
/-! DEFINITION. The arithmetic of the filter chain: decimation (R191), placing and computing a grid sample (R192, R193),
spans (R196), quality (R200), the post-filter (R197), settling (R202), and the threshold detector (R205, R206). -/

namespace Sys2Proof.Machine

/-! ## Rates and spans -/

/-- Samples per second of a RATE code (R162). -/
def rateOf (code : Nat) : Nat := [4000, 4800, 12800, 14400, 15360, 96000].getD code 4000

/-- Decimation factor M of a stream rate (R191). -/
def decimM (rate : Nat) : Nat := if rate ≤ 4800 then 1 else if rate ≤ 15360 then 2 else 16

/-- Stages of the decimating path, in order (R191). -/
def decimStages (rate : Nat) : List Nat := if rate ≤ 4800 then [] else if rate ≤ 15360 then [1] else [4, 3, 2, 1]

/-- Taps of a halfband stage HB1 to HB4 (R191). -/
def hbTaps (stage : Nat) : Nat := [31, 31, 23, 15, 11].getD stage 31

/-- Taps of a response at a resampler input rate (R195). -/
def respTaps (resp inRate : Nat) : Nat :=
  if inRate ≤ 4800 then [12, 64, 6].getD resp 12 else [20, 112, 8].getD resp 20

/-- Look-back of the decimating path in raw samples: half the span of each stage, at its input rate (R191). -/
def pathLook (rate : Nat) : Nat := if rate ≤ 4800 then 0 else if rate ≤ 15360 then 15 else 183

/-- H in raw samples of the stream (R196). -/
def lookRaw (rate resp : Nat) : Nat :=
  let m := decimM rate
  pathLook rate + respTaps resp (rate / m) / 2 * m

/-- H in ns (R209, R412). -/
def lookNs (rate resp : Nat) : Nat := shown 0 (lookRaw rate resp * 10 ^ 9) rate

/-- L in grid samples; DCX adds 63 (R196). -/
def spanL (rate resp post : Nat) : Nat := lookRaw rate resp * 72 * 64 / rate + 1 + (if post = 1 then 63 else 0)

/-- A time difference in 2^-16 ns is at most H. -/
def withinH (rate resp dt : Nat) : Bool := decide (dt * rate ≤ lookRaw rate resp * 10 ^ 9 * 65536)

/-! ## Coefficients -/

/-- A 20-bit Q2.18 coefficient of a response. Row 256 is row 0 moved one tap later (R193). -/
def coef (resp inRate row tap : Nat) : Int :=
  if row < 256 then sext 20 (enc 20 (Config.romCoef resp inRate row tap))
  else if tap = 0 then 0 else sext 20 (enc 20 (Config.romCoef resp inRate 0 (tap - 1)))

/-- A coefficient of a halfband stage: the FIR is symmetric (R191). -/
def hbCoef (stage tap : Nat) : Int :=
  let n := hbTaps stage
  sext 20 (enc 20 (Config.halfband stage (if tap ≤ n / 2 then tap else n - 1 - tap)))

/-! ## Decimation -/

/-- Sum a FIR: taps left, tap number, input index. -/
def firSum (stage : Nat) (x : Int → Int) : Nat → Nat → Int → Int → Int
  | 0, _, _, acc => acc
  | n + 1, t, i, acc => firSum stage x n (t + 1) (i + 1) (acc + hbCoef stage t * x i)

/-- Output j of a halfband stage, centred on input 2j, rounded half up and saturated (R191). -/
def hbOut (stage : Nat) (x : Int → Int) (j : Int) : Int :=
  sat32 ((firSum stage x (hbTaps stage) 0 (2 * j - (hbTaps stage / 2 : Nat)) 0 + 131072) / 262144)

/-- The resampler's input behind the decimating stages. -/
def decimate : List Nat → (Int → Int) → Int → Int
  | [], x => x
  | st :: t, x => decimate t (hbOut st x)

/-! ## The grid sample (R192, R193) -/

/-- Position q of T_k in the resampler's input: `dt` is T_k − W in 2^-16 ns. -/
def gridPos (dt inRate : Nat) : Nat := dt * inRate * 65536 / 10 ^ 9

/-- Sum the taps: taps left, tap number, input index. -/
def tapSum (resp inRate phi : Nat) (beta : Int) (x : Int → Int) : Nat → Nat → Int → Int → Int
  | 0, _, _, acc => acc
  | n + 1, t, i, acc =>
    let h0 := coef resp inRate phi t
    let c := h0 + (beta * (coef resp inRate (phi + 1) t - h0) + 128) / 256
    tapSum resp inRate phi beta x n (t + 1) (i + 1) (acc + c * x i)

/-- The value of a grid sample from the raw samples by index (R193). `x` gives raw samples counted from W. -/
def gridValue (rate resp dt : Nat) (x : Int → Int) : Int :=
  let inRate := rate / decimM rate
  let q := gridPos dt inRate
  let mu := q % 2 ^ 32
  let n := respTaps resp inRate
  let first : Int := ((q / 2 ^ 32 : Nat) : Int) + 1 - (n / 2 : Nat)
  sat32 ((tapSum resp inRate (mu / 2 ^ 24) ((mu / 2 ^ 16 % 256 : Nat) : Int) (decimate (decimStages rate) x) n 0 first 0
    + 131072) / 262144)

/-! ## Quality (R171, R200) -/

def csqInvalid : Nat := 1
def csqSettling : Nat := 0x80
def csqInterp : Nat := 0x20
def csqUnsync : Nat := 0x40
def csqTest : Nat := 0x08
def csqSim : Nat := 0x100

/-- The worse of two validities, in the order GOOD 0, QUESTIONABLE 3, INVALID 1. -/
def worse (a b : Nat) : Nat := if a = 1 ∨ b = 1 then 1 else if a = 3 ∨ b = 3 then 3 else 0

/-- Join two quality words: worst validity, flags ORed. -/
def csqJoin (a b : Nat) : Nat := worse (a % 4) (b % 4) + ((a / 4) ||| (b / 4)) * 4

/-- Is the validity GOOD, or at least not INVALID; are flags set? -/
def csqValid (q : Nat) : Bool := q % 4 != 1

def csqHas (q flag : Nat) : Bool := q &&& flag != 0

/-- Mark SETTLING: VALIDITY is at least QUESTIONABLE (R200). -/
def csqSettle (q : Nat) : Nat := csqJoin q (csqSettling + 3)

/-! ## The pair -/

/-- The samples of a stream as the resampler reads one channel: index from W's sample to value, zero before the reset
instant and where no final sample stands (R202). -/
def rawAt (final : List Smp) (base : Nat) (pos t0 : Nat) (i : Int) : Int :=
  match final.find? fun s => (s.n : Int) == (base : Int) + i with
  | some s => if s.t < t0 then 0 else (s.vals.getD pos { v := 0, csq := 1 }).v
  | none => 0

/-- The sample whose wrap period holds T: the latest one at or before it, else the oldest. -/
def wrapRef (final : List Smp) (t : Nat) : Option Smp :=
  match final.find? fun s => s.t ≤ t with
  | some s => some s
  | none => final.getLast?

/-- One grid sample ahead of the post-filter: value and CSQ. `t0` is the reset instant (R193, R200, R202). -/
def gridRaw (final : List Smp) (rate resp pos : Nat) (t0 t : Nat) : Int × Nat :=
  match wrapRef final t with
  | none => (0, csqInvalid)
  | some s =>
    let near := final.filter fun x => withinH rate resp (if x.t ≤ t then t - x.t else x.t - t)
    let csq := (near.map fun x => (x.vals.getD pos { v := 0, csq := 1 }).csq).foldl csqJoin
      (if near.isEmpty then csqInvalid else 0)
    (gridValue rate resp (t - s.w) (rawAt final (s.n - s.cnt) pos t0), csq)

/-- y'_k = y_k − round-half-up(Σ y_i / 64) over the last 64 values, newest first (R197). -/
def dcx (ys : List Int) : Int :=
  let sum := (ys.take 64).foldl (· + ·) 0
  sat32 (ys.headD 0 - (sum + 32) / 64)

/-- The grid sample of an instant ahead of the reset: 0 and INVALID (R202). -/
def deadGrid (tk : Tick) : Grid :=
  { k := tk.k, angle := tk.angle, t := tk.t, raw := 0, rawCsq := csqInvalid, v := 0, csq := csqInvalid }

/-- Produce a pair's next grid sample at a tick, given its channel's samples and filter (R198 to R202). Before the reset
instant, or while it is not known, the sample is 0 and INVALID. -/
def pairStep (p : Pair) (tk : Tick) (final : List Smp) (rate resp post pos : Nat) : Pair :=
  let before := match p.t0 with
    | none => true
    | some t0 => decide (tk.t < t0)
  if before then
    { p with next := p.next + 1, hist := (deadGrid tk :: p.hist).take 128 }
  else
    let r := gridRaw final rate resp pos (p.t0.getD 0) tk.t
        let prev := (p.hist.filter fun g => decide ((p.t0.getD 0) ≤ g.t)).take 63
    let q0 := if post = 1 then (prev.map (·.rawCsq)).foldl csqJoin r.2 else r.2
    let v := if post = 1 then dcx (r.1 :: prev.map (·.raw)) else r.1
    let q := if p.settling = 0 then q0 else csqSettle q0
    { p with next := p.next + 1, settling := p.settling - 1,
             hist := ({ k := tk.k, angle := tk.angle, t := tk.t, raw := r.1, rawCsq := r.2, v := v, csq := q } :: p.hist).take 128 }

/-- A synchronising reset at t0 (R201, R202): the chain state clears and the SETTLING count starts again. -/
def pairReset (p : Pair) (t0 : Nat) (l : Nat) : Pair := { p with t0 := some t0, settling := l }

/-- A synchronising reset whose t0 is the next placed raw sample. -/
def pairWait (p : Pair) : Pair := { p with t0 := none, settling := 0 }

/-! ## Threshold detectors (R205, R206) -/

/-- The window of a measure, newest first: INST 1, RMS 64, DELTA the ends of 65. -/
def detWindow (measure : Nat) (h : List Grid) : Option (List Grid) :=
  match measure with
  | 0 => if h.length < 1 then none else some (h.take 1)
  | 1 => if h.length < 64 then none else some (h.take 64)
  | _ => if h.length < 65 then none else some (h.take 1 ++ (h.drop 64).take 1)

/-- The square root of a number rounded to nearest, halves up. -/
def roundSqrt64 (s : Nat) : Nat :=
  -- largest r with (2r - 1)^2 * 64 ≤ 4 s
  (isqrt (4 * s / 64) + 1) / 2

/-- m_k of a measure (R205). -/
def detMeasure (measure : Nat) (w : List Grid) : Nat :=
  match measure with
  | 0 => (w.headD { k := 0, angle := 0, t := 0, raw := 0, rawCsq := 1, v := 0, csq := 1 }).v.natAbs
  | 1 => roundSqrt64 ((w.map fun g => (g.v ^ 2).toNat).foldl (· + ·) 0)
  | _ => match w with
    | [a, b] => (a.v - b.v).natAbs
    | _ => 0

/-- The window is valid: no sample INVALID, SETTLING or SIM (R206). -/
def detValid (w : List Grid) : Bool := w.all fun g => csqValid g.csq && !csqHas g.csq csqSettling && !csqHas g.csq csqSim

/-- One evaluation of a detector; an event is kept until it is sent (R206, R207). -/
def detStep (d : Det) (h : List Grid) : Det :=
  match h with
  | [] => d
  | g :: _ =>
    let d := { d with lastK := some g.k }
    match detWindow (fval d.cfg tdMeasure) h with
    | none => { d with run := 0, suppressed := d.suppressed + 1 }
    | some w =>
      if !detValid w then { d with run := 0, suppressed := d.suppressed + 1 }
      else
        let m : Int := detMeasure (fval d.cfg tdMeasure) w
        let lv : Int := fval d.cfg tdLevel
        let hy : Int := fval d.cfg tdHyst
        let above := fval d.cfg tdDir == 0
        let on := if above then decide (lv < m) else decide (m < lv)
        let off := if above then decide (m < lv - hy) else decide (lv + hy < m)
        let cnt := fval d.cfg tdCount
        if !d.state then
          let r := if on then d.run + 1 else 0
          if cnt ≤ r then
            { d with state := true, run := 0, asserts := d.asserts + 1, event := some (true, g.angle, g.t) }
          else { d with run := r }
        else
          let r := if off then d.run + 1 else 0
          if cnt ≤ r then
            { d with state := false, run := 0, deasserts := d.deasserts + 1,
                     event := if fon d.cfg tdEdges then some (false, g.angle, g.t) else d.event }
          else { d with run := r }

end Sys2Proof.Machine
end

