-- ==== Sys2Proof/Machine/GridOps.lean ====
section
/-! DEFINITION. Shared operations of the angle grid: streams and their channels (R162), the resampling pairs and who needs
them (R189, R190), synchronising resets (R201), production of grid samples (R198, R199), the tracker's step with what
hangs on it (R133, R135, R145, R151), and the threshold detectors (R206). -/

namespace Sys2Proof.Machine

/-! ## Streams and channels (R162) -/

def updStream (x : Nat) (f : Stream → Stream) (s : State) : State :=
  { s with sv := { s.sv with streams := tupd s.sv.streams x f } }

def updFilt (f : Filt → Filt) (s : State) : State := { s with filt := f s.filt }

def sdRate (d : List Byte) : Nat := rateOf (leAt d 144 1)
def sdNoAsdu (d : List Byte) : Nat := leAt d 145 1
def sdChannels (d : List Byte) : Nat := leAt d 146 1
def sdFlag (d : List Byte) (i : Nat) : Bool := bitOf (leAt d 147 1) i
def sdBase (d : List Byte) : Nat := leAt d 148 2
def sdKeySlot (d : List Byte) : Nat := leAt d 150 2

/-- SMPCNT_WRAP, or its default. -/
def sdWrap (d : List Byte) : Nat :=
  let w := leAt d 152 4
  if w ≠ 0 then w else if sdRate d = 96000 then 48000 else sdRate d

/-- The channels of a stream. -/
def streamChans (x : Stream) : List Nat := (List.range (sdChannels x.desc)).map (· + sdBase x.desc)

/-- The stream that carries a global channel. -/
def streamOfChan (s : State) (c : Nat) : Option (Nat × Stream) :=
  s.sv.streams.find? fun e => decide (sdBase e.2.desc ≤ c) && decide (c < sdBase e.2.desc + sdChannels e.2.desc)

/-- The filter of a channel. -/
def chanCfg (s : State) (c : Nat) : Cfg := tget {} s.filt.chans c

/-- The span L of a channel under its stream's rate and its filter (R196). -/
def chanSpan (s : State) (c : Nat) : Nat :=
  match streamOfChan s c with
  | some (_, x) => spanL (sdRate x.desc) (fval (chanCfg s c) cResponse) (fval (chanCfg s c) cPost)
  | none => 0

/-- Nominal sample period in 2^-16 ns. -/
def smpPeriod (x : Stream) : Nat := 65536 * 10 ^ 9 / sdRate x.desc

/-- The PHC time, in 2^-16 ns, of an instant of the free-running count. -/
def phcOf (s : State) (c : Nat) : Nat := s.time.n - (s.clk - c) * 65536

/-! ## Users of pairs (R189) -/

/-- The channels an instance needs, its references in effect and staged. -/
def instChans (s : State) (i : Inst) : List Nat :=
  (i.streams ++ i.streamsStaged.getD []).eraseDups.flatMap fun x =>
    match tfind s.sv.streams x with
    | some t => streamChans t
    | none => []

/-- The domains of an instance, in effect and staged. -/
def instDoms (i : Inst) : List Nat := [fval i.cfg iDomain, fread i.cfg iDomain].eraseDups

/-- The channels of a domain's reference sets, in effect and staged. -/
def refUse (d : Dom) : List Nat :=
  ([0, 1].flatMap fun s => [0, 1, 2].flatMap fun i => [fval d.cfg (aRef s i), fread d.cfg (aRef s i)]).filter (· != 0x3FFF)

/-- The channels of a domain's spare loops. -/
def spareUse (d : Dom) : List Nat :=
  (d.spares.flatMap fun e => [fval e.2.cfg lChan, fread e.2.cfg lChan]).filter (· != 0x3FFF)

/-- The channels of a GRID recorder's descriptor, with its domain (R419). -/
def gridUse (desc : List Byte) : List (Nat × Nat) :=
  if leAt desc 0 1 = 1 then (List.range (leAt desc 4 2)).map fun i => (leAt desc (40 + 2 * i) 2, leAt desc 1 1) else []

/-- The pairs that instances need. -/
def instPairs (s : State) : List (Nat × Nat) :=
  s.insts.flatMap fun (e : Nat × Inst) =>
    if e.2.st = .empty then [] else (instDoms e.2).flatMap fun d => (instChans s e.2).map fun c => (c, d)

/-- The pairs that reference sets and spare loops need. -/
def domPairs (s : State) : List (Nat × Nat) :=
  s.doms.flatMap fun (e : Nat × Dom) => (refUse e.2 ++ spareUse e.2).map fun c => (c, e.1)

/-- The pairs that enabled detectors need. -/
def detPairs (s : State) : List (Nat × Nat) :=
  s.filt.dets.flatMap fun (e : Nat × Det) => if fon e.2.cfg tdEnable then [(fval e.2.cfg tdChan, fval e.2.cfg tdDomain)] else []

/-- The pairs that armed GRID recorders need (R407). -/
def recPairs (s : State) : List (Nat × Nat) :=
  s.arc.recs.flatMap fun (e : Nat × Recorder) => if e.2.st = .held then [] else gridUse e.2.desc

/-- Every (channel, domain) in need, without repeats. -/
def needPairs (s : State) : List (Nat × Nat) := (instPairs s ++ domPairs s ++ detPairs s ++ recPairs s).eraseDups

/-- The pairs the module provides (R190). -/
def pairCap : Nat := 20480

def pairsFit (s : State) : Bool := decide ((needPairs s).length ≤ pairCap)

/-- A new pair begins with a synchronising reset at its stream's next placed sample. -/
def newPair (s : State) (p : Nat × Nat) : Pair := { chan := p.1, dom := p.2, next := (dom s p.2).k, t0 := none }

/-- Bring the pairs in line with their users: a pair with no user goes, a pair in need begins. -/
def syncPairs (s : State) : State :=
  let need := needPairs s
  let keep := s.filt.pairs.filter fun p => need.contains (p.chan, p.dom)
  let new := need.filter fun n => !(keep.any fun p => p.chan == n.1 && p.dom == n.2)
  updFilt (fun f => { f with pairs := keep ++ new.map (newPair s) }) s

/-- A change that may need new pairs: refused NOSPACE beyond the number the module provides (R190). -/
def withPairs (s : State) (r : Reply) : Ans :=
  if pairsFit s then .done (syncPairs s) r else .fail nospace

/-- The pair of a channel in a domain. -/
def pairAt (s : State) (c d : Nat) : Option Pair := s.filt.pairs.find? fun p => p.chan == c && p.dom == d

/-- Change the pairs that meet a test. -/
def mapPairs (t : Pair → Bool) (f : Pair → Pair) (s : State) : State :=
  updFilt (fun w => { w with pairs := w.pairs.map fun p => if t p then f p else p }) s

/-! ## Synchronising resets (R201) -/

/-- Every pair of a stream waits for its next placed sample. -/
def streamAwait (x : Stream) (s : State) : State := mapPairs (fun p => (streamChans x).contains p.chan) pairWait s

/-- A sample of a stream has been placed at t0: the pairs that wait for one are reset there; with `all`, every pair of the
stream's channels is. -/
def streamReset (x : Stream) (all : Bool) (t0 : Nat) (s : State) : State :=
  let done := (s.filt.pairs.filter fun p => p.t0.isNone && (streamChans x).contains p.chan).map fun p => (p.chan, p.dom)
  let s := mapPairs (fun p => (streamChans x).contains p.chan && (all || p.t0.isNone)) (fun p => pairReset p t0 (chanSpan s p.chan)) s
  done.foldl (fun s p => finishWaits (.resync p.1 255) ok (finishWaits (.resync p.1 p.2) ok s)) s

/-- Every pair of a domain is reset at t0. -/
def domReset (d t0 : Nat) (s : State) : State :=
  mapPairs (fun p => p.dom == d) (fun p => pairReset p t0 (chanSpan s p.chan)) s

/-! ## Production (R198, R199) -/

/-- The instant of a grid sample that is fixed. -/
def tickAt (d : Dom) (k : Nat) : Option Tick := (d.ahead ++ d.kept).find? fun t => t.k == k

/-- Every raw sample within H of an instant has been placed or resolved. -/
def covered (x : Stream) (resp t : Nat) : Bool :=
  match x.final.head? with
  | some f => decide (t < f.t + smpPeriod x) && !withinH (sdRate x.desc) resp (f.t + smpPeriod x - t)
  | none => false

/-- Where a stream does not run, the samples expected become final ALIGN_MAX after their nominal time. -/
def lapsed (s : State) (x : Stream) (resp t : Nat) : Bool :=
  x.state != .running &&
    decide (t + lookNs (sdRate x.desc) resp * 65536 + fval x.cfg sAlignMax * us * 65536 ≤ s.time.n)

/-- What a pair reads: its stream's samples, rate, response, post-filter and position; and whether its inputs are final. -/
def pairInput (s : State) (p : Pair) (t : Nat) : Option (List Smp × Nat × Nat × Nat × Nat × Bool) :=
  let resp := fval (chanCfg s p.chan) cResponse
  let post := fval (chanCfg s p.chan) cPost
  match streamOfChan s p.chan with
  | none => if t ≤ s.time.n then some ([], 4000, resp, post, 0, false) else none
  | some (_, x) =>
    let ok := covered x resp t
    if ok || lapsed s x resp t then some (x.final, sdRate x.desc, resp, post, p.chan - sdBase x.desc, ok) else none

/-- A grid sample made without every sample it expects is INVALID. -/
def spoilHead (p : Pair) : Pair :=
  match p.hist with
  | g :: t => { p with hist := { g with rawCsq := csqJoin g.rawCsq csqInvalid, csq := csqJoin g.csq csqInvalid } :: t }
  | [] => p

/-- Produce the next grid sample of a pair, where its instant is fixed and its inputs are final. -/
def producePair (s : State) (p : Pair) : Option Pair :=
  match tickAt (dom s p.dom) p.next with
  | none => none
  | some tk =>
    match pairInput s p tk.t with
    | none => none
    | some (fin, rate, resp, post, pos, okay) =>
      let q := pairStep p tk fin rate resp post pos
      some (if okay then q else spoilHead q)

/-! ## Reference sets (R133, R134) -/

/-- The channels of a set in effect; a malformed set never becomes valid. -/
def setChansOf (d : Dom) (x : Nat) : List Nat := ([0, 1, 2].map fun i => fval d.cfg (aRef x i)).filter (· != 0x3FFF)

/-- A pair's grid samples up to index k, newest first. -/
def upTo (p : Pair) (k : Nat) : List Grid := p.hist.dropWhile fun g => decide (k < g.k)

/-- The grid samples of a channel up to index k. -/
def chanHist (s : State) (d k c : Nat) : List Grid :=
  match pairAt s c d with
  | some p => upTo p k
  | none => []

/-- Positions and values of the last 64 grid samples. -/
def cycleOf (h : List Grid) : List (Nat × Int) := (h.take 64).map fun g => (gridPosn64 g.angle, g.v)
where
  /-- Position of a grid sample in its cycle. -/
  gridPosn64 (a : Word) : Nat := a.toNat / 16384 % 64

/-- Does the latest sample have valid quality and no SIM, with no SETTLING in the cycle that the phasor takes in (R133, R203;
DEDUCED)? -/
def headGood (h : List Grid) : Bool :=
  match h with
  | g :: _ => csqValid g.csq && !csqHas g.csq csqSim && (h.take 64).all fun g => !csqHas g.csq csqSettling
  | [] => false

/-- What the tracker takes from a set at grid sample k. -/
def setIn (s : State) (d : Nat) (x : Nat) : SetIn :=
  let dm := dom s d
  let hs := (setChansOf dm x).map (chanHist s d dm.k)
  { good := !hs.isEmpty && hs.all headGood, v := v1Of (hs.map cycleOf),
    diffs := hs.map fun h => (h.head?.map (·.v)).getD 0 - ((h.getD 64 (deadGrid { k := 0, angle := 0, t := 0 })).v) }

/-- The reference pairs of a domain, by channel. -/
def refChans (d : Dom) : List Nat := setChansOf d 0 ++ setChansOf d 1

/-- Has every reference pair produced grid sample k? A channel without a pair has nothing to produce. -/
def refsReady (s : State) (d : Nat) : Bool :=
  (refChans (dom s d)).all fun c => match pairAt s c d with
    | some p => decide ((dom s d).k < p.next)
    | none => true

/-! ## What hangs on the tracker's step -/

/-- The owner of a spare loop (R129). -/
def spareOwner (s : State) (d j : Nat) : Option Nat :=
  (s.insts.find? fun e => e.2.st != .empty && instDom e.2 == d && bitOf (fval e.2.cfg iSpare) j).map Prod.fst

/-- The HOLD signal of a spare loop in its owner's space (R249). -/
def spareSignal (s : State) (d j : Nat) : Bool :=
  match spareOwner s d j with
  | some n => bitOf (inst s n).lg.space (1603 + 4 * j)
  | none => false

/-- Run the spare loops of a domain at a cycle boundary, and answer the holds that wait for one (R145, R158). -/
def spareRun (d k : Nat) (s : State) : State :=
  let s := (List.range 4).foldl (fun s j =>
    finishWaits (.spareHold d j true) ok (finishWaits (.spareHold d j false) ok (
      match waitsOf (.spareHold d j true) s, waitsOf (.spareHold d j false) s with
      | [], [] => s
      | _, [] => updDom d (fun x => { x with spares := tmod {} x.spares j fun l => { l with holdCmd := true } }) s
      | _, _ => updDom d (fun x => { x with spares := tmod {} x.spares j fun l => { l with holdCmd := false } }) s))) s
  updDom d (fun x => { x with spares := tmapD {} (fun j l =>
    let h := chanHist s d k (fval l.cfg lChan)
    let valid := match h with
      | g :: _ => csqValid g.csq && !csqHas g.csq csqSettling
      | [] => false
    spareStep l (l.holdCmd || spareSignal s d j) (if valid then some (dftMag (cycleOf h)) else none)) x.spares }) s

/-- A publication's launch at an angle, converted again. -/
def rePub (d : Dom) (now : Nat) (u : Pub) : Pub :=
  let go (l : Launch) : Launch := if pdMode u = 2 then reconvert d now l else l
  { u with pending := u.pending.map fun p => (p.1, go p.2) }

def reInst (d : Dom) (now : Nat) (i : Inst) : Inst := { i with pubs := tmap (fun _ u => rePub d now u) i.pubs }

/-- Launches of the domain's instances are converted again at each grid sample (R151). -/
def relaunch (d : Nat) (s : State) : State :=
  let dm := dom s d
  let s := { s with insts := tmapD {} (fun _ i => if instDom i = d then reInst dm s.time.n i else i) s.insts }
  (List.range 8).foldl (fun s k =>
    match ownerOf s k with
    | some n => if instDom (inst s n) = d then updOut k (fun o => { o with pow := o.pow.map (reconvert dm s.time.n) }) s else s
    | none => s) s

/-- A domain that no instance references and that has no reference channels is FREE (R132). -/
def idleDomain (s : State) (d : Nat) : Bool :=
  (refChans (dom s d)).isEmpty && !(s.insts.any fun e => e.2.st != .empty && instDom e.2 == d)

/-- A restart of the domain is due at the next grid sample (R155). -/
def domRestartDue (s : State) (d : Nat) : Bool :=
  match waitsOf (.domRestart d) s, (dom s d).ahead with
  | w :: _, t :: _ => t.angle.toNat % 1048576 == 0 && decide (phcOf s w.start + 100 * us * 65536 ≤ t.t)
  | _, _ => false

/-- One step of the tracker and what hangs on it. -/
def trackOne (d : Nat) (s : State) : State :=
  let dm := dom s d
  let tk := dm.ahead.headD { k := 0, angle := 0, t := 0 }
  let a := setIn s d 0
  let b := setIn s d 1
  let free := idleDomain s d
  let s := updDom d (fun x =>
    let x := trackerStep x a b
    let x := if free then { x with mode := .free, f := fval x.cfg aFnom, lock := false } else x
    { x with held := x.held || waiting (.domHold d) s,
             boundary := if isBoundary x tk.angle && !x.held then x.boundary ++ [tk] else x.boundary }) s
  let s := finishWaits (.domHold d) ok (finishWaits (.loopHold d true) ok (finishWaits (.loopHold d false) ok s))
  let s := if tk.angle.toNat % 1048576 = 0 then spareRun d tk.k s else s
  relaunch d s

/-- May the tracker take its next step? An acquisition pass that has ended and a restart that is due come first; a domain
without reference channels keeps pace with time. -/
def trackReady (s : State) (d : Nat) : Bool :=
  let dm := dom s d
  dm.running && dm.ahead.length == 2 && !passDone dm && !domRestartDue s d && refsReady s d &&
    (!(refChans dm).isEmpty || match dm.ahead with
      | t :: _ => decide (t.t ≤ s.time.n)
      | [] => false)

/-- Run the tracker as far as it can go: the reference pairs are at most one grid sample ahead. -/
def trackRun (d : Nat) : Nat → State → State
  | 0, s => s
  | n + 1, s => if trackReady s d then trackRun d n (trackOne d s) else s

/-! ## Threshold detectors (R205 to R207) -/

/-- Evaluate the detectors of a pair at its new grid sample. -/
def runDets (p : Pair) (s : State) : State :=
  updFilt (fun f => { f with dets := tmapD {} (fun _ x =>
    if fon x.cfg tdEnable && fval x.cfg tdChan == p.chan && fval x.cfg tdDomain == p.dom then detStep x p.hist else x) f.dets }) s

end Sys2Proof.Machine
end

