-- ==== Sys2Proof/Machine/Element.lean ====
section
/-! DEFINITION. The element catalogue (R229, R230), the setting-set image and its checks (R234, R235), the measurement on
the angle grid (R222 to R224), and the evaluation of a slot (R225 to R228). -/

namespace Sys2Proof.Machine

/-! ## The catalogue (R229, R230) -/

/-- A parameter of a type: range and class. -/
structure PSpec where
  lo : Nat
  hi : Nat
  cls : Cls
  deriving DecidableEq, Repr

/-- A row of the catalogue. -/
structure CatRow where
  /-- Current and voltage channels; with `one` the type takes 3 or 1 by its SRC parameter at that index. -/
  i : Nat
  v : Nat
  one : Option Nat
  cost : Nat
  nbay : Nat
  trip : Bool
  /-- Output bits of R228 beyond OPERATE and PICKUP. -/
  outs : Nat
  /-- On block the state holds (H) instead of resetting (R). -/
  holds : Bool
  bytes : Nat
  params : List PSpec
  deriving DecidableEq, Repr

def pPu : PSpec := ⟨1, 2147483647, .live⟩
def pGs : PSpec := ⟨0, 6400, .live⟩
def pAc : PSpec := ⟨0, 1048575, .live⟩
def pBit : PSpec := ⟨0, 1, .staged⟩
def pMem : PSpec := ⟨0, 16, .staged⟩
def pOhm : PSpec := ⟨1, 1000000, .live⟩
def pL (lo hi : Nat) : PSpec := ⟨lo, hi, .live⟩
def pS (lo hi : Nat) : PSpec := ⟨lo, hi, .staged⟩

/-- The catalogue row of a type, 0x01 to 0x1C. -/
def catalogue (type : Nat) : Option CatRow :=
  match type with
  | 0x01 => some ⟨3, 0, none, 420, 0, true, 0x070, false, 16, [pPu, pGs]⟩
  | 0x02 => some ⟨3, 0, none, 560, 0, true, 0x070, false, 16, [pPu, pS 0 7, pL 0 60000, pBit]⟩
  | 0x03 => some ⟨3, 0, some 2, 460, 0, true, 0x080, false, 16, [pPu, pGs, pBit]⟩
  | 0x04 => some ⟨3, 0, some 4, 600, 0, true, 0x080, false, 16, [pPu, pS 0 7, pL 0 60000, pBit, pBit]⟩
  | 0x05 => some ⟨3, 0, none, 620, 0, true, 0x000, false, 16, [pPu, pGs]⟩
  | 0x06 => some ⟨3, 3, none, 900, 0, true, 0x370, false, 24, [pPu, pAc, pBit, pGs, pMem]⟩
  | 0x07 => some ⟨3, 3, none, 820, 0, true, 0x380, false, 16, [pPu, pPu, pAc, pBit, pGs]⟩
  | 0x08 => some ⟨3, 3, none, 1400, 0, true, 0x070, false, 24, [pOhm, pAc, pBit, pGs, pMem]⟩
  | 0x09 => some ⟨3, 3, none, 1600, 0, true, 0x0F0, false, 24, [pOhm, pOhm, pL 0 10000, pAc, pBit, pGs, pMem]⟩
  | 0x0A => some ⟨6, 0, none, 1150, 0, true, 0x070, false, 16, [pPu, pL 100 1000, pL 300 2000, pPu]⟩
  | 0x0B => some ⟨6, 0, none, 2400, 0, true, 0xC70, false, 16,
      [pPu, pL 100 1000, pL 300 2000, pPu, pL 50 500, pL 50 500, pS 0 11, pPu]⟩
  | 0x0C => some ⟨0, 0, none, 1000, 400, true, 0x070, false, 16, [pS 2 8, pPu, pL 100 1000, pBit]⟩
  | 0x0D => some ⟨4, 0, none, 900, 0, true, 0x080, false, 16, [pPu, pL 100 1000]⟩
  | 0x0E => some ⟨0, 3, none, 420, 0, true, 0x070, false, 16, [pPu, pGs, pBit, pPu]⟩
  | 0x0F => some ⟨0, 3, none, 420, 0, true, 0x070, false, 16, [pPu, pGs, pBit]⟩
  | 0x10 => some ⟨0, 3, some 2, 380, 0, true, 0x080, false, 16, [pPu, pGs, pBit]⟩
  | 0x11 => some ⟨0, 1, none, 220, 0, true, 0x000, false, 16, [pL 4000 7200, pBit, pGs, pPu]⟩
  | 0x12 => some ⟨0, 1, none, 260, 0, true, 0x000, false, 16, [pL 10 10000, pS 0 2, pS 2 64, pGs, pPu]⟩
  | 0x13 => some ⟨3, 0, none, 450, 0, true, 0x400, true, 16, [pPu, pL 1000 1500, pS 1 36000, pL 500 1000]⟩
  | 0x14 => some ⟨3, 0, none, 380, 0, true, 0x470, false, 16, [pPu, pGs, pGs]⟩
  | 0x15 => some ⟨3, 3, none, 700, 0, true, 0x000, false, 16, [pPu, pPu, pL 50 2000]⟩
  | 0x16 => some ⟨3, 3, none, 1300, 0, false, 0x400, false, 24, [pOhm, pOhm, pGs, pL 0 10000]⟩
  | 0x17 => some ⟨3, 3, none, 800, 0, false, 0x000, true, 16, [pPu, pPu, pGs]⟩
  | 0x18 => some ⟨4, 0, none, 560, 0, false, 0x070, true, 16, [pPu, pGs]⟩
  | 0x19 => some ⟨0, 2, none, 420, 0, false, 0xC00, false, 24, [pPu, pAc, pL 10 1000, pPu]⟩
  | 0x1A => some ⟨3, 0, none, 900, 0, false, 0xC70, false, 16, [pPu, pL 50 500, pL 50 500]⟩
  | 0x1B => some ⟨3, 0, none, 600, 0, true, 0x000, false, 16, [pL 50 1000, pPu, pGs]⟩
  | 0x1C => some ⟨3, 3, none, 850, 0, true, 0x300, false, 16, [pPu, pBit, pBit, pGs]⟩
  | _ => none

/-- Channels a slot needs: current then voltage (R229). -/
def slotChannels (type : Nat) (p : List Nat) : Nat × Nat :=
  match catalogue type with
  | none => (0, 0)
  | some r =>
    if type = 0x0C then (3 * p.getD 0 0, 0)
    else match r.one with
      | some x => if p.getD x 0 = 1 then (if 0 < r.i then (1, 0) else (0, 1)) else (r.i, r.v)
      | none => (r.i, r.v)

/-- Lane cycles per due step: twice the cost for a trip-capable type; DIFF_BUS grows with NBAY (R229, R232). -/
def slotLoad (type : Nat) (p : List Nat) : Nat :=
  match catalogue type with
  | none => 0
  | some r => (if r.trip then 2 else 1) * (r.cost + r.nbay * p.getD 0 0)

/-- Is a parameter in range? The multiplier of an inverse curve is 10 to 10,000 but for curve 7; ZIN lies below ZOUT. -/
def paramOk (type i : Nat) (p : List Nat) : Bool :=
  match catalogue type with
  | none => false
  | some r =>
    match r.params[i]? with
    | none => p.getD i 0 == 0
    | some s =>
      let v := p.getD i 0
      decide (s.lo ≤ v) && decide (v ≤ s.hi) &&
        (if (type = 0x02 ∨ type = 0x04) ∧ i = 2 ∧ p.getD 1 0 ≠ 7 then decide (10 ≤ v) && decide (v ≤ 10000)
         else if type = 0x16 ∧ i = 1 then decide (v < p.getD 0 0)
         else true)

/-! ## The setting-set image (R234) -/

def setNch (img : List Byte) : Nat := leAt img 12 2
def setNslot (img : List Byte) : Nat := leAt img 14 2
def setRot (img : List Byte) : Bool := bitOf (leAt img 6 2) 0

/-- A channel-table entry: global channel, kind, gain. -/
def setChan (img : List Byte) (i : Nat) : Nat × Nat × Int :=
  (leAt img (64 + 8 * i) 2, leAt img (66 + 8 * i) 1, sext 32 (leAt img (68 + 8 * i) 4))

/-- The global channels of the channel table. -/
def setChannels (img : List Byte) : List Nat := (List.range (setNch img)).map fun i => (setChan img i).1

/-- Offset of a slot record. -/
def recOff (img : List Byte) (j : Nat) : Nat := 64 + 8 * setNch img + 80 * j

/-- The slot records, 80 bytes each. -/
def setRecs (img : List Byte) : List (List Byte) := (List.range (setNslot img)).map fun j => sliceOf img (recOff img j) 80

def rSlot (r : List Byte) : Nat := leAt r 0 1
def rType (r : List Byte) : Nat := leAt r 1 1
def rEvery (r : List Byte) : Nat := leAt r 2 1
def rOffset (r : List Byte) : Nat := leAt r 3 1
def rFlags (r : List Byte) : Nat := leAt r 4 1
def rHalf (r : List Byte) : Bool := bitOf (rFlags r) 0
def rQblock (r : List Byte) : Bool := bitOf (rFlags r) 1
def rNeedlock (r : List Byte) : Bool := bitOf (rFlags r) 2
def rNch (r : List Byte) : Nat := leAt r 5 1
def rBlock (r : List Byte) : Nat := leAt r 6 2
def rStart (r : List Byte) : Nat := leAt r 8 2
def rParams (r : List Byte) : List Nat := (List.range 8).map fun i => leAt r (40 + 4 * i) 4
def rChans (r : List Byte) : List Nat := (List.range (rNch r)).map fun i => leAt r (16 + i) 1

/-- A signal bit, or 0xFFFF for none. -/
def sigOk (v : Nat) : Bool := decide (v ≤ 4095) || v == 0xFFFF

/-- The checks of a slot record, each with the offset of its field within the image (R235). `prev` is the slot number
before it. -/
def recChecks (img : List Byte) (j : Nat) (prev : Option Nat) : List (Nat × Bool) :=
  let b := recOff img j
  let r := sliceOf img b 80
  let p := rParams r
  let need := slotChannels (rType r) p
  let n := need.1 + need.2
  [(b, decide (rSlot r ≤ 63) && (match prev with | some x => decide (x < rSlot r) | none => true)),
   (b + 1, (catalogue (rType r)).isSome), (b + 2, [1, 2, 4, 8, 16].contains (rEvery r)),
   (b + 3, decide (rOffset r < rEvery r)), (b + 4, decide (rFlags r < 8)), (b + 5, rNch r == n),
   (b + 6, sigOk (rBlock r)), (b + 8, if rType r = 0x14 then sigOk (rStart r) else rStart r == 0xFFFF),
   (b + 10, zerosAt r 10 6)] ++
  ((List.range 24).map fun i =>
    let c := leAt r (16 + i) 1
    (b + 16 + i, if i < n then decide (c < setNch img) && (setChan img c).2.1 == (if i < need.1 then 0 else 1)
                 else c == 0xFF)) ++
  ((List.range 8).map fun i => (b + 40 + 4 * i, paramOk (rType r) i p)) ++ [(b + 72, zerosAt r 72 8)]

/-- Checks of the records in order. -/
def recsChecks (img : List Byte) : Nat → Nat → Option Nat → List (Nat × Bool)
  | 0, _, _ => []
  | n + 1, j, prev => recChecks img j prev ++ recsChecks img n (j + 1) (some (rSlot (sliceOf img (recOff img j) 80)))

/-- Offset of the first field that fails, or none (R235). -/
def setBad (img : List Byte) : Option Nat :=
  let nch := setNch img
  let ns := setNslot img
  let head : List (Nat × Bool) :=
    [(0, leAt img 0 4 == 0x53535053), (4, leAt img 4 2 == 1), (6, decide (leAt img 6 2 < 2)),
     (8, leAt img 8 4 == img.length && img.length == 64 + 8 * nch + 80 * ns + 48), (12, decide (nch ≤ 255)),
     (14, decide (ns ≤ 64)), (24, zerosAt img 24 40)]
  let chs := (List.range nch).flatMap fun i =>
    [(64 + 8 * i, decide ((setChan img i).1 < 16384)), (66 + 8 * i, decide ((setChan img i).2.1 ≤ 1)),
     (67 + 8 * i, leAt img (67 + 8 * i) 1 == 0)]
  let hdr := (head ++ chs).find? fun c => !c.2
  match hdr with
  | some c => some c.1
  | none => ((recsChecks img ns 0 none).find? fun c => !c.2).map Prod.fst

/-- The trailer: SHA-384 over every preceding byte. -/
def sealed (img : List Byte) : Bool :=
  decide (48 ≤ img.length) && img.drop (img.length - 48) == sha384 (img.take (img.length - 48))

/-- An image with its trailer made anew. -/
def reseal (img : List Byte) : List Byte :=
  let body := img.take (img.length - 48)
  body ++ sha384 body

/-- Replace bytes at an offset. -/
def putAt (l : List Byte) (off : Nat) (b : List Byte) : List Byte := l.take off ++ b ++ l.drop (off + b.length)

/-- The record of a local slot, with its offset. -/
def findRec (img : List Byte) (slot : Nat) : Option (Nat × List Byte) :=
  ((List.range (setNslot img)).map fun j => (recOff img j, sliceOf img (recOff img j) 80)).find? fun p => rSlot p.2 == slot

/-! ## Measurement (R222 to R224) -/

/-- A channel value after the gain (R222). -/
def gained (g x : Int) : Int := sat32 ((g * x + 8388608) / 16777216)

/-- Position of a grid sample in its cycle. -/
def gridPosn (a : Word) : Nat := a.toNat / 16384 % 64

/-- Phasor of a harmonic over a window of scaled values, newest first, in units of 2^-8 (R222). -/
def phasor (h : Nat) (ys : List (Nat × Int)) : Int × Int :=
  let re := (ys.map fun p => p.2 * cosT (h * p.1 % 64)).foldl (· + ·) 0
  let im := (ys.map fun p => -(p.2 * sinT (h * p.1 % 64))).foldl (· + ·) 0
  let sh := if ys.length = 64 then 2 ^ 27 else 2 ^ 26
  ((re + (sh / 2 : Nat)) / (sh : Nat), (im + (sh / 2 : Nat)) / (sh : Nat))

def cAdd (a b : Int × Int) : Int × Int := (a.1 + b.1, a.2 + b.2)

/-- Round half up of x / 2^30. -/
def q30 (x : Int) : Int := (x + 536870912) / 1073741824

/-- Round half up of x / 3. -/
def third (x : Int) : Int := (2 * x + 3) / 6

/-- a X with a = -1/2 + j √3/2; each product is rounded half up (R223). -/
def rotA (x : Int × Int) : Int × Int :=
  ((-x.1 + 1) / 2 - q30 (sqrt3h * x.2), (-x.2 + 1) / 2 + q30 (sqrt3h * x.1))

/-- a² X. -/
def rotA2 (x : Int × Int) : Int × Int :=
  ((-x.1 + 1) / 2 + q30 (sqrt3h * x.2), (-x.2 + 1) / 2 - q30 (sqrt3h * x.1))

/-- Residual and negative sequence of three phasors (R223). -/
def residual (a b c : Int × Int) : Int × Int := cAdd a (cAdd b c)

def negSeq (a b c : Int × Int) : Int × Int :=
  let s := cAdd a (cAdd (rotA2 b) (rotA c))
  (third s.1, third s.2)

/-- |X|² of a phasor. -/
def sq (x : Int × Int) : Int := x.1 ^ 2 + x.2 ^ 2

/-- 2 × (256 × PU)² (R224). -/
def puSq (pu : Nat) : Int := 2 * ((256 * pu : Nat) : Int) ^ 2

/-- An over-element's pickup, with its reset below 95 % (R224). -/
def overPu (was : Bool) (x : Int × Int) (pu : Nat) : Bool :=
  if was then decide (361 * puSq pu ≤ 400 * sq x) else decide (puSq pu ≤ sq x)

/-- An under-element's pickup, with its reset above 105 % (R224). -/
def underPu (was : Bool) (x : Int × Int) (pu : Nat) : Bool :=
  if was then decide (400 * sq x ≤ 441 * puSq pu) else decide (sq x < puSq pu)

/-! ## Evaluation (R225 to R228) -/

/-- What an evaluation reads beside its slot's state. -/
structure EvalIn where
  type : Nat
  params : List Nat
  /-- Fundamental phasors in channel order, B and C exchanged under ROT 1. -/
  ph : List (Int × Int)
  /-- Scaled window values, for the types whose algorithm is not stated. -/
  ys : List Int
  /-- EVERY × grid samples per step (R225). -/
  gs : Nat
  /-- ΔT in ns (R225). -/
  dt : Nat
  freq : Nat
  start : Bool
  deriving DecidableEq, Repr

/-- What an evaluation gives: output bits, state, and the latched pickups. -/
structure EvalOut where
  word : Nat
  rs : ElRec
  above : Nat
  deriving DecidableEq, Repr

def evPh (e : EvalIn) (i : Nat) : Int × Int := e.ph.getD i (0, 0)
def evP (e : EvalIn) (i : Nat) : Nat := e.params.getD i 0

/-- The definite delay in grid samples (R225): the counter, and OPERATE. -/
def delayGs (had pickup : Bool) (counter gs dly : Nat) : Nat × Bool :=
  if !pickup then (0, false)
  else
    let c := if had then counter + gs else 0
    (c, decide (dly ≤ c))

/-- OPERATE, PICKUP and output bits as a word. -/
def outWord (op pick : Bool) (outs : Nat) : Nat := b2n op + 2 * b2n pick + outs

/-- Definite-time element over phases. -/
def defPhases (s : SlotSt) (e : EvalIn) (pick : List Bool) (all : Bool) (dly : Nat) : EvalOut :=
  let p := if all then pick.all id else pick.any id
  let d := delayGs (bitOf s.word 1) p s.rs.delay e.gs dly
  let m := b2n (pick.getD 0 false) + 2 * b2n (pick.getD 1 false) + 4 * b2n (pick.getD 2 false)
  { word := outWord d.2 p (if p then 16 * m else 0), rs := { s.rs with delay := d.1 }, above := m }

/-- Definite-time element over one quantity. -/
def defOne (s : SlotSt) (e : EvalIn) (pick : Bool) (outs dly : Nat) : EvalOut :=
  let d := delayGs (bitOf s.word 1) pick s.rs.delay e.gs dly
  { word := outWord d.2 pick (if pick then outs else 0), rs := { s.rs with delay := d.1 }, above := b2n pick }

/-- Progress of an inverse-time element in Q2.30: curve 7 counts real time against its delay in ms; the curves of
IEC 60255-151 are those of the standard (R225). -/
def curveAcc (curve tms reset : Nat) (pick : Bool) (x : Int × Int) (pu : Nat) (acc : Int) (dt : Nat) : Int :=
  if curve = 7 then (if pick then acc + (if tms = 0 then 2 ^ 30 else dt * 2 ^ 30 / (tms * 1000000) : Nat) else 0)
  else if pick then Config.curve curve tms (sq x) (puSq pu) reset acc dt
  else if reset = 0 then 0 else Config.curve curve tms (sq x) (puSq pu) reset acc dt

/-- Inverse-time element over the largest of some quantities. -/
def inverse (s : SlotSt) (e : EvalIn) (pick : List Bool) (xs : List (Int × Int)) (curve tms reset pu outs : Nat) : EvalOut :=
  let p := pick.any id
  let x := xs.foldl (fun a b => if sq a < sq b then b else a) (0, 0)
  let first := curve = 7 ∧ p ∧ !bitOf s.word 1
  let acc := if first then (if tms = 0 then 2 ^ 30 else 0) else curveAcc curve tms reset p x pu s.rs.acc e.dt
  let m := b2n (pick.getD 0 false) + 2 * b2n (pick.getD 1 false) + 4 * b2n (pick.getD 2 false)
  { word := outWord (p && decide (2 ^ 30 ≤ acc)) p (if p then outs else 0), rs := { s.rs with acc := sat32 acc }, above := m }

/-- Three phase pickups. -/
def three (f : Bool → Int × Int → Bool) (s : SlotSt) (e : EvalIn) : List Bool :=
  [f (bitOf s.above 0) (evPh e 0), f (bitOf s.above 1) (evPh e 1), f (bitOf s.above 2) (evPh e 2)]

/-- Phase bits of a pickup mask. -/
def phaseBits (ps : List Bool) : Nat := 16 * (b2n (ps.getD 0 false) + 2 * b2n (ps.getD 1 false) + 4 * b2n (ps.getD 2 false))

/-- The residual of a type with SRC: derived from three phases, or measured. -/
def srcRes (e : EvalIn) (src : Nat) : Int × Int :=
  if src = 1 then evPh e 0 else residual (evPh e 0) (evPh e 1) (evPh e 2)

/-- Parameter that is a delay in grid samples, of a type whose algorithm the manual does not state (R230). -/
def openDelay : Nat → Option Nat
  | 0x06 => some 3
  | 0x07 => some 4
  | 0x08 => some 3
  | 0x09 => some 5
  | 0x12 => some 3
  | 0x17 => some 2
  | 0x18 => some 1
  | 0x1B => some 2
  | 0x1C => some 3
  | _ => none

/-- A type whose algorithm the manual does not state: free outputs within the bits its catalogue row names, a free state
of its record's size. OPERATE of a type with a delay in grid samples follows from its PICKUP (R225), and SYNC never
operates in its first evaluation (R230). -/
def openElement (s : SlotSt) (e : EvalIn) (r : CatRow) : EvalOut :=
  let o := Config.element e.type e.params e.ys [s.rs.delay, s.rs.acc, s.rs.aux, s.rs.mem0, s.rs.mem1, b2n e.start] e.dt
  let pick := bitOf o.1 1
  let d := match openDelay e.type with
    | some i => delayGs (bitOf s.word 1) pick s.rs.delay e.gs (evP e i)
    | none => (enc 32 (o.2.getD 0 0), bitOf o.1 0 && !(e.type == 0x19 && !s.seen))
  { word := outWord d.2 pick (o.1 &&& r.outs), above := 0,
    rs := { delay := d.1, acc := sat32 (o.2.getD 1 0), aux := enc 32 (o.2.getD 2 0),
            mem0 := if r.bytes = 24 then sat32 (o.2.getD 3 0) else 0, mem1 := if r.bytes = 24 then sat32 (o.2.getD 4 0) else 0 } }

/-- The evaluation of a slot that is not blocked. -/
def evalElement (s : SlotSt) (e : EvalIn) (r : CatRow) : EvalOut :=
  match e.type with
  | 0x01 => defPhases s e (three (fun w x => overPu w x (evP e 0)) s e) false (evP e 1)
  | 0x02 =>
    let ps := three (fun w x => overPu w x (evP e 0)) s e
    inverse s e ps [evPh e 0, evPh e 1, evPh e 2] (evP e 1) (evP e 2) (evP e 3) (evP e 0) (phaseBits ps)
  | 0x03 => defOne s e (overPu (bitOf s.above 0) (srcRes e (evP e 2)) (evP e 0)) 0x80 (evP e 1)
  | 0x04 =>
    let x := srcRes e (evP e 4)
    inverse s e [overPu (bitOf s.above 0) x (evP e 0)] [x] (evP e 1) (evP e 2) (evP e 3) (evP e 0) 0x80
  | 0x05 => defOne s e (overPu (bitOf s.above 0) (negSeq (evPh e 0) (evPh e 1) (evPh e 2)) (evP e 0)) 0 (evP e 1)
  | 0x0E => defPhases s e (three (fun w x => underPu w x (evP e 0) && decide (puSq (evP e 3) ≤ sq x)) s e) (evP e 2 == 1) (evP e 1)
  | 0x0F => defPhases s e (three (fun w x => overPu w x (evP e 0)) s e) (evP e 2 == 1) (evP e 1)
  | 0x10 => defOne s e (overPu (bitOf s.above 0) (srcRes e (evP e 2)) (evP e 0)) 0x80 (evP e 1)
  | 0x11 =>
    let f := e.freq * 100
    let lim := evP e 0 * 2 ^ 24
    let hit := if evP e 1 = 0 then decide (f < lim) else decide (lim < f)
    defOne s e (hit && decide (puSq (evP e 3) ≤ sq (evPh e 0))) 0 (evP e 2)
  | 0x14 =>
    let ps := three (fun w x => overPu w x (evP e 0)) s e
    let p := e.start && ps.any id
    let d1 := delayGs (bitOf s.word 1) p s.rs.delay e.gs (evP e 1)
    let d2 := delayGs (bitOf s.word 1) p s.rs.aux e.gs (evP e 2)
    { word := outWord d2.2 p (if p then phaseBits ps + 0x400 * b2n d1.2 else 0),
      rs := { s.rs with delay := d1.1, aux := d2.1 },
      above := b2n (ps.getD 0 false) + 2 * b2n (ps.getD 1 false) + 4 * b2n (ps.getD 2 false) }
  | _ => openElement s e r

/-- Bits of the output word (R228). -/
def wBLOCKED : Nat := 4
def wQUAL : Nat := 8
def wMISMATCH : Nat := 0x1000
def wOVERRUN : Nat := 0x2000
def wEVAL : Nat := 0x4000
def wPRESENT : Nat := 0x8000

/-- The state of a blocked slot by its On-block column (R227). -/
def blockedState (r : CatRow) (x : ElRec) : ElRec := if r.holds then x else {}

end Sys2Proof.Machine
end

