-- ==== Sys2Proof/Machine/LogicVm.lean ====
section
/-! DEFINITION. The scheme logic engine: program images and their checks (R252, R258, R259), the signal space (R247), the
instructions (R253 to R256), initialisation (R257), and the translation of an on-line exchange (R263, R264, R268). -/

namespace Sys2Proof.Machine

/-! ## Program images (R258) -/

def pgNinstr (img : List Byte) : Nat := leAt img 12 4
def pgNstate (img : List Byte) : Nat := leAt img 16 2
def pgNsig (img : List Byte) : Nat := leAt img 18 2
def pgStateOff (img : List Byte) : Nat := 64 + 4 * pgNinstr img
def pgSigOff (img : List Byte) : Nat := pgStateOff img + 16 * pgNstate img

/-- Read an image whose counts fit it. -/
def readProg (img : List Byte) : Prog :=
  { img := img,
    code := wordsOf (pgNinstr img) (img.drop 64),
    states := (List.range (pgNstate img)).map fun i =>
      let o := pgStateOff img + 16 * i
      (leAt img o 4, leAt img (o + 4) 1, leAt img (o + 8) 4),
    sigs := (List.range (pgNsig img)).map fun i =>
      let o := pgSigOff img + 8 * i
      (leAt img o 4, leAt img (o + 4) 2, leAt img (o + 6) 2) }

/-! ## Instructions (R252, R253) -/

def opOf (w : Nat) : Nat := bitsOf w 26 6
def nOf (w : Nat) : Bool := bitOf w 25
def wOf (w : Nat) : Bool := bitOf w 24
def idxOf (w : Nat) : Nat := bitsOf w 12 10
def adrOf (w : Nat) : Nat := bitsOf w 0 12

/-- The opcodes of R253. -/
def opKnown (op : Nat) : Bool :=
  decide (op ≤ 0x0D) || [0x10, 0x11, 0x12, 0x13, 0x14, 0x18, 0x19, 0x1A].contains op

def opState (op : Nat) : Bool := [0x10, 0x11, 0x12, 0x13, 0x14, 0x18, 0x19, 0x1A].contains op

/-- The opcode takes an operand address. -/
def opOperand (op : Nat) : Bool := [1, 2, 3, 4, 5, 6, 7, 8, 9, 10].contains op

/-- The instruction writes a bit. -/
def opWrites (w : Nat) : Bool := [5, 6, 7].contains (opOf w) || (opState (opOf w) && wOf w)

/-- The instruction reads a bit. -/
def opReads (w : Nat) : Bool := [1, 2, 3, 4, 8, 9, 10].contains (opOf w)

/-- A bit a program may write (R247). -/
def writable (a : Nat) : Bool :=
  (decide (1792 ≤ a) && decide (a < 4096)) || [1603, 1607, 1611, 1615].contains a

/-- FUNC of the state record an opcode must name (R259); CRST may name either counter. -/
def funcFits (op func : Nat) : Bool :=
  if op = 0x1A then func == 0x18 || func == 0x19 else func == op

/-- Stack depth after an instruction, or none where the stack is violated (R253). -/
def stackStep (w : Nat) (d : Nat) : Option Nat :=
  if [8, 9, 10].contains (opOf w) then (if d < 8 then some (d + 1) else none)
  else if opOf w = 11 then (if 0 < d then some (d - 1) else none)
  else some d

/-- The instruction checks of R259. -/
def instrOk (states : List (Nat × Nat × Nat)) (w : Nat) : Bool :=
  let op := opOf w
  opKnown op && bitsOf w 22 2 == 0 &&
    (if opOperand op then true
     else if opState op then (wOf w || adrOf w == 0)
     else adrOf w == 0) &&
    ((op != 6 && op != 7) || !nOf w) &&
    (if opState op then
       (match states[idxOf w]? with
        | some s => funcFits op s.2.1
        | none => false)
     else idxOf w == 0 && !wOf w) &&
    (!opWrites w || writable (adrOf w))

/-- Offset of the first instruction that fails, stack included; the end of the program with a stack not empty counts at
its last instruction. -/
def codeBad (states : List (Nat × Nat × Nat)) : List Nat → Nat → Nat → Option Nat
  | [], off, d => if d = 0 then none else some (off - 4)
  | w :: t, off, d =>
    if instrOk states w then
      match stackStep w d with
      | some d' => codeBad states t (off + 4) d'
      | none => some off
    else some off

/-- The general-region addresses a program uses, and those it writes. -/
def usedBits (code : List Nat) : List Nat := (code.filter fun w => opReads w || opWrites w).map adrOf

def writtenBits (code : List Nat) : List Nat := (code.filter opWrites).map adrOf

/-- The table checks in order of offset: state entries, then signal entries (R259). -/
def stateBad : List (Nat × Nat × Nat) → List Nat → List Byte → Nat → Option Nat
  | [], _, _, _ => none
  | (id, func, preset) :: t, seen, img, off =>
    if id = 0 ∨ 0x7FFFFFFF < id ∨ seen.contains id then some off
    else if !([0x10, 0x11, 0x12, 0x13, 0x14, 0x18, 0x19].contains func) then some (off + 4)
    else if leAt img (off + 5) 3 ≠ 0 then some (off + 5)
    else if func = 0x14 ∧ preset = 0 then some (off + 8)
    else if leAt img (off + 12) 4 ≠ 0 then some (off + 12)
    else stateBad t (id :: seen) img (off + 16)

def sigBad : List (Nat × Nat × Nat) → List Nat → List Nat → List Nat → Nat → Option Nat
  | [], _, _, _, _ => none
  | (id, adr, fl) :: t, ids, adrs, written, off =>
    if id = 0 ∨ 0x7FFFFFFF < id ∨ ids.contains id then some off
    else if adr < 2112 ∨ 4095 < adr ∨ adrs.contains adr then some (off + 4)
    else if fl ≥ 2 ∨ (fl = 1) ≠ written.contains adr then some (off + 6)
    else sigBad t (id :: ids) (adr :: adrs) written (off + 8)

/-- The first instruction that uses a general-region bit without a signal-table entry. -/
def unlisted (sigs : List (Nat × Nat × Nat)) : List Nat → Nat → Option Nat
  | [], _ => none
  | w :: t, off =>
    if (opReads w || opWrites w) && decide (2112 ≤ adrOf w) && !(sigs.any fun s => s.2.1 == adrOf w) then some off
    else unlisted sigs t (off + 4)

/-- Offset of the first offending field of a program image, or none (R259). -/
def progBad (img : List Byte) : Option Nat :=
  let ni := pgNinstr img
  let nst := pgNstate img
  let nsg := pgNsig img
  let head : List (Nat × Bool) :=
    [(0, leAt img 0 4 == 0x474C5053), (4, leAt img 4 2 == 1), (6, leAt img 6 2 == 0),
     (8, leAt img 8 4 == img.length && img.length == 64 + 4 * ni + 16 * nst + 8 * nsg + 48),
     (12, decide (1 ≤ ni) && decide (ni ≤ 16384)), (16, decide (nst ≤ 1024)), (18, decide (nsg ≤ 1984)),
     (24, zerosAt img 24 40)]
  match head.find? fun c => !c.2 with
  | some c => some c.1
  | none =>
    let p := readProg img
    let code := match codeBad p.states p.code 64 0, unlisted p.sigs p.code 64 with
      | some a, some b => some (min a b)
      | some a, none => some a
      | none, b => b
    match code with
    | some o => some o
    | none =>
      match stateBad p.states [] img (pgStateOff img) with
      | some o => some o
      | none => sigBad p.sigs [] [] (writtenBits p.code) (pgSigOff img)

/-! ## State records (R254 to R257) -/

/-- A record as R257 initialises it: a CTD counter starts at its preset. -/
def initRec (e : Nat × Nat × Nat) : StRec :=
  { ident := e.1, func := e.2.1, preset := e.2.2, val := if e.2.1 = 0x19 then e.2.2 else 0 }

def initRecs (p : Prog) : List StRec := p.states.map initRec

/-- The kind of a record (R258): 1 timer, 2 counter, 3 edge memory. -/
def kindOf (func : Nat) : Nat := if 0x12 ≤ func ∧ func ≤ 0x14 then 1 else if func ≥ 0x18 then 2 else 3

/-- Saturate at 2^32 - 1. -/
def satU (v : Nat) : Nat := min v 0xFFFFFFFF

/-- Timers (R254). -/
def timerStep (r : StRec) (inp : Bool) (dt : Nat) : StRec × Bool :=
  match r.func with
  | 0x12 =>
    let r' := if !inp then { r with run := false, val := 0 }
      else if !r.run then { r with run := true, val := 0 }
      else { r with val := satU (r.val + dt) }
    (r', r'.run && decide (r'.preset ≤ r'.val))
  | 0x13 =>
    let r' := if inp then { r with run := true, val := 0 }
      else if r.run then
        let v := satU (r.val + dt)
        { r with val := v, run := !decide (r.preset ≤ v) }
      else r
    (r', r'.run)
  | _ =>
    let r' := if r.run then
        let v := satU (r.val + dt)
        { r with val := v, run := !decide (r.preset ≤ v) }
      else if !inp then { r with val := 0 }
      else if r.val = 0 then { r with run := true }
      else r
    (r', r'.run)

/-- Counters (R255). -/
def counterStep (op : Nat) (r : StRec) (inp : Bool) : StRec × Bool :=
  match op with
  | 0x18 =>
    let r' := if inp then { r with val := satU (r.val + 1) } else r
    (r', decide (r'.preset ≤ r'.val))
  | 0x19 =>
    let r' := if inp && decide (0 < r.val) then { r with val := r.val - 1 } else r
    (r', r'.val == 0)
  | _ =>
    let r' := if inp then { r with val := if r.func = 0x18 then 0 else r.preset } else r
    (r', if r'.func = 0x18 then decide (r'.preset ≤ r'.val) else r'.val == 0)

/-- Edge memories (R256). -/
def edgeStep (r : StRec) (inp : Bool) : StRec × Bool :=
  if !r.init then ({ r with prev := inp, init := true }, false)
  else ({ r with prev := inp }, if r.func = 0x10 then inp && !r.prev else !inp && r.prev)

/-- A state instruction. -/
def stateStep (op : Nat) (r : StRec) (inp : Bool) (dt : Nat) : StRec × Bool :=
  if op ≤ 0x11 then edgeStep r inp
  else if op ≤ 0x14 then timerStep r inp dt
  else counterStep op r inp

/-! ## The engine (R253) -/

/-- The engine while it runs a program: accumulator, stack of (value, operation), space, records. -/
structure Eng where
  acc : Bool := false
  stack : List (Bool × Nat) := []
  space : Nat
  recs : List StRec
  deriving DecidableEq, Repr

/-- Write a bit: a forced bit keeps its forced value (R267). `forced` pairs addresses with values. -/
def writeBit (forced : List (Nat × Bool)) (a : Nat) (v : Bool) (space : Nat) : Nat :=
  match forced.find? fun f => f.1 == a with
  | some f => putBit space a f.2
  | none => putBit space a v

/-- Join by the operation of a stack entry: 8 AND, 9 OR, 10 XOR. -/
def joinBit (op : Nat) (a b : Bool) : Bool := if op = 8 then a && b else if op = 9 then a || b else xor a b

/-- One instruction. -/
def engStep (forced : List (Nat × Bool)) (dt : Nat) (e : Eng) (w : Nat) : Eng :=
  let op := opOf w
  let a := adrOf w
  let x := xor (bitOf e.space a) (nOf w)
  if opState op then
    match e.recs[idxOf w]? with
    | none => e
    | some r =>
      let (r', q) := stateStep op r e.acc dt
      { e with acc := q, recs := e.recs.set (idxOf w) r',
               space := if wOf w then writeBit forced a (xor q (nOf w)) e.space else e.space }
  else match op with
  | 1 => { e with acc := x }
  | 2 => { e with acc := e.acc && x }
  | 3 => { e with acc := e.acc || x }
  | 4 => { e with acc := xor e.acc x }
  | 5 => { e with space := writeBit forced a (xor e.acc (nOf w)) e.space }
  | 6 => if e.acc then { e with space := writeBit forced a true e.space } else e
  | 7 => if e.acc then { e with space := writeBit forced a false e.space } else e
  | 8 => { e with stack := (e.acc, 8) :: e.stack, acc := x }
  | 9 => { e with stack := (e.acc, 9) :: e.stack, acc := x }
  | 10 => { e with stack := (e.acc, 10) :: e.stack, acc := x }
  | 11 => match e.stack with
    | (v, o) :: t => { e with acc := joinBit o v e.acc, stack := t }
    | [] => e
  | 12 => { e with acc := !e.acc }
  | 13 => { e with acc := nOf w }
  | _ => e

/-- A program's execution in one sweep: ACC 0 and the stack empty at its start. -/
def runProg (forced : List (Nat × Bool)) (dt : Nat) (code : List Nat) (space : Nat) (recs : List StRec) : Eng :=
  code.foldl (engStep forced dt) { space := space, recs := recs }

/-! ## Regions and identities (R247, R251) -/

/-- Put a field of bits into the space. -/
def putField (space lo n v : Nat) : Nat :=
  let hi := space / 2 ^ (lo + n)
  space % 2 ^ lo + (v % 2 ^ n) * 2 ^ lo + hi * 2 ^ (lo + n)

/-- The address of an identity in a program: fixed below 2,112, else through the signal table (R251). -/
def identAddr (p : Option Prog) (id : Nat) : Option Nat :=
  if 0x80000000 ≤ id then (if id - 0x80000000 < 2112 then some (id - 0x80000000) else none)
  else match p with
    | none => none
    | some p => (p.sigs.find? fun s => s.1 == id).map fun s => s.2.1

/-- The forces of an instance as addresses and values. -/
def forceAddrs (p : Option Prog) (f : Tab Nat) : List (Nat × Bool) :=
  f.filterMap fun e => (identAddr p e.1).map fun a => (a, e.2 != 0)

/-- The space with every force applied. -/
def applyForces (forced : List (Nat × Bool)) (space : Nat) : Nat :=
  forced.foldl (fun s f => putBit s f.1 f.2) space

/-- HOLD bits of the spare loops (R249). -/
def holdBits : List Nat := [1603, 1607, 1611, 1615]

/-- Logic as a restart initialises it (R257): forces and host controls are kept; the report of an exchange is not. -/
def initLogic (l : Logic) : Logic :=
  { l with recs := match l.prog with
      | some p => initRecs p
      | none => [],
           space := putField (holdBits.foldl clrBit l.space) 1792 2304 0, first := true, dtZero := true, report := none,
           handed := 0 }

/-! ## On-line exchange (R263 to R268) -/

/-- The state of a record of the new program (R263): carried, or new. -/
def carryRec (old : List StRec) (e : Nat × Nat × Nat) : StRec × Bool :=
  match old.find? fun r => r.ident == e.1 && kindOf r.func == kindOf e.2.1 && (kindOf r.func != 1 || r.func == e.2.1) with
  | some r => ({ r with func := e.2.1, preset := e.2.2 }, true)
  | none => (initRec e, false)

/-- Identities of the old program's records that are not carried, in table order. -/
def discarded (old : List StRec) (new : List (Nat × Nat × Nat)) : List Nat :=
  (old.filter fun r => !(new.any fun e =>
    e.1 == r.ident && kindOf r.func == kindOf e.2.1 && (kindOf r.func != 1 || r.func == e.2.1))).map (·.ident)

/-- The signal space at the switch (R264). -/
def carrySpace (old new : Prog) (space : Nat) : Nat :=
  let gen := new.sigs.foldl (fun s e =>
    match old.sigs.find? fun o => o.1 == e.1 with
    | some o => putBit s e.2.1 (bitOf space o.2.1)
    | none => s) (putField space 2112 1984 0)
  let w := writtenBits new.code
  let outs := ((List.range 320).map (· + 1792)) ++ holdBits
  outs.foldl (fun s a => if w.contains a then s else clrBit s a) gen

/-- The forces a new program keeps: fixed identities and those its table lists (R268). -/
def keptForces (new : Prog) (f : Tab Nat) : Tab Nat := f.filter fun e => (identAddr (some new) e.1).isSome

/-- A force as `logic.force.list` writes it (R272). -/
def forceRec (p : Option Prog) (e : Nat × Nat) : List Byte :=
  le 4 e.1 ++ le 2 ((identAddr p e.1).getD 0) ++ le 1 e.2 ++ [0]

/-- The switch of an exchange: the logic after it, with its report (R265) and its counts: carried, discarded, new, forces
dropped. -/
def exchange (l : Logic) (x : Exch) (sweep : Nat) : Logic × (Nat × Nat × Nat × Nat) :=
  let old := l.prog.getD x.prog
  let recs := x.prog.states.map (carryRec l.recs)
  let gone := discarded l.recs x.prog.states
  let carried := (recs.filter (·.2)).length
  let newN := recs.length - carried
  let keep := keptForces x.prog l.forces
  let dropped := l.forces.filter fun e => !(thas keep e.1)
  let report := le 2 carried ++ le 2 gone.length ++ le 2 newN ++ le 2 keep.length ++ le 2 dropped.length ++ zeros 2 ++
    le 8 sweep ++ gone.flatMap (le 4) ++ dropped.flatMap (forceRec l.prog)
  ({ l with prog := some x.prog, bank := x.bank, recs := recs.map (·.1), space := carrySpace old x.prog l.space,
            forces := keep, exch := none, report := some report, first := true },
   (carried, gone.length, newN, dropped.length))

/-! ## Banks (R241, R260) -/

/-- Instructions placed in a bank: the programs in effect and the shadows. -/
def bankUse (insts : Tab Inst) (shadows : Bool) (b : Nat) : Nat :=
  sumOf (insts.map fun e =>
    (match e.2.lg.prog with
     | some p => if e.2.lg.bank = b then p.code.length else 0
     | none => 0) +
    (match e.2.lg.exch with
     | some x => if shadows ∧ x.bank = b then x.prog.code.length else 0
     | none => 0))

/-- State records in use, shadows included. -/
def recUse (insts : Tab Inst) : Nat :=
  sumOf (insts.map fun e => e.2.lg.recs.length + (match e.2.lg.exch with | some x => x.prog.states.length | none => 0))

/-- The bank with the most free space, the lowest-numbered of equals (R241). -/
def bestBank (insts : Tab Inst) : Nat :=
  ((List.range 8).foldl (fun (best : Nat × Nat) b =>
    let u := bankUse insts true b
    if u < best.2 then (b, u) else best) (0, bankUse insts true 0)).1

/-- The bank a program of a size goes to, or none (R260). -/
def placeProg (insts : Tab Inst) (p : Prog) : Option Nat :=
  let b := bestBank insts
  if bankUse insts true b + p.code.length ≤ 131072 ∧ recUse insts + p.states.length ≤ 131072 then some b else none

/-- B_max over the banks, shadows left out (R241, R242). -/
def bMax (insts : Tab Inst) : Nat := maxOf ((List.range 8).map (bankUse insts false))

/-- T_sw in ns: (B_max + 128) / 800 MHz, rounded up (R242). -/
def sweepNs (insts : Tab Inst) : Nat := ((bMax insts + 128) * 5 + 3) / 4

end Sys2Proof.Machine
end

