-- ==== Sys2Proof/Machine/ArchiveOps.lean ====
section
/-! DEFINITION. Shared operations of the Archive: the recorder's descriptor (R408, R419), space and bandwidth (R406,
R407), rows (R396, R413), triggers and their meetings (R399 to R405), and folios (R412). -/

namespace Sys2Proof.Machine

/-! ## The descriptor (R419) -/

def rdKind (d : List Byte) : Nat := leAt d 0 1
def rdDomain (d : List Byte) : Nat := leAt d 1 1
def rdStream (d : List Byte) : Nat := leAt d 2 2
def rdNch (d : List Byte) : Nat := leAt d 4 2
def rdNsig (d : List Byte) : Nat := leAt d 6 2
def rdPre (d : List Byte) : Nat := leAt d 8 4
def rdPost (d : List Byte) : Nat := leAt d 12 4
def rdSegs (d : List Byte) : Nat := leAt d 16 2
def rdFlag (d : List Byte) (i : Nat) : Bool := bitOf (leAt d 18 1) i
def rdNtrig (d : List Byte) : Nat := leAt d 19 1
def rdAuto (d : List Byte) : Nat := leAt d 20 4
def rdTargets (d : List Byte) : List Nat := ([0, 1, 2, 3].map fun i => leAt d (24 + 2 * i) 2).filter (· != 0xFFFF)
def rdOwner (d : List Byte) : Nat := leAt d 32 2
def rdMaskAct (d : List Byte) : Nat := leAt d 34 1
def rdMaskN (d : List Byte) : Nat := leAt d 35 1
def rdChan (d : List Byte) (i : Nat) : Nat := leAt d (40 + 2 * i) 2

/-- Offsets of the signals, the triggers and the mask. -/
def rdSigOff (d : List Byte) : Nat := 40 + (2 * rdNch d + 3) / 4 * 4
def rdTrigOff (d : List Byte) : Nat := rdSigOff d + 4 * rdNsig d
def rdMaskOff (d : List Byte) : Nat := rdTrigOff d + 8 * rdNtrig d

/-- Signal j: instance and bit. -/
def rdSig (d : List Byte) (j : Nat) : Nat × Nat := (leAt d (rdSigOff d + 4 * j) 2, leAt d (rdSigOff d + 4 * j + 2) 2)

def rdMch (d : List Byte) : Nat := leAt d (rdMaskOff d) 2

/-- Mask entry m: channel position, and LO and HI at a grid position. -/
def rdMaskAt (d : List Byte) (m : Nat) : Nat := rdMaskOff d + 4 + 516 * m
def rdMaskPos (d : List Byte) (m : Nat) : Nat := leAt d (rdMaskAt d m) 2
def rdLo (d : List Byte) (m g : Nat) : Int := sext 32 (leAt d (rdMaskAt d m + 4 + 8 * g) 4)
def rdHi (d : List Byte) (m g : Nat) : Int := sext 32 (leAt d (rdMaskAt d m + 8 + 8 * g) 4)

/-- Length of a descriptor. -/
def rdLen (d : List Byte) : Nat := rdMaskOff d + 4 + 516 * rdMch d

/-- Type, edge and argument of trigger entry i. -/
def rdTrig (d : List Byte) (i : Nat) : Nat × Nat × Nat :=
  (leAt d (rdTrigOff d + 8 * i) 1, leAt d (rdTrigOff d + 8 * i + 1) 1, leAt d (rdTrigOff d + 8 * i + 4) 4)

/-- The parameters of a trigger entry are in range (R399). -/
def trigOk (x : Nat × Nat × Nat) : Bool :=
  decide (1 ≤ x.2.1) && decide (x.2.1 ≤ 3) &&
    match x.1 with
    | 0 => decide (x.2.2 ≤ 3)
    | 1 => decide (x.2.2 < 2 ^ 19) && decide (1 ≤ bitsOf x.2.2 0 10) && decide (bitsOf x.2.2 0 10 ≤ 512) && decide (bitsOf x.2.2 16 3 ≤ 6)
    | 2 => decide (x.2.2 < 2 ^ 22) && decide (1 ≤ bitsOf x.2.2 0 10) && decide (bitsOf x.2.2 0 10 ≤ 512)
    | 3 => decide (x.2.2 ≤ 1023)
    | _ => false

/-- The checks of a descriptor as offset and outcome, in byte order: ranges of R395 and R419. -/
def rdChecks (r : Nat) (d : List Byte) : List (Nat × Bool) :=
  let inr (lo hi v : Nat) : Bool := decide (lo ≤ v) && decide (v ≤ hi)
  [(0, inr 0 1 (rdKind d)), (1, rdKind d == 0 || inr 0 15 (rdDomain d)), (2, rdKind d == 1 || inr 0 2047 (rdStream d)),
   (4, inr 1 64 (rdNch d)), (6, inr 0 64 (rdNsig d)), (8, inr 1 65536 (rdPre d)), (12, inr 1 1048576 (rdPost d)),
   (16, inr 1 4096 (rdSegs d)), (18, inr 0 31 (leAt d 18 1)), (19, inr 0 8 (rdNtrig d)), (20, inr 10 3600000 (rdAuto d)),
   (24, (rdTargets d).all fun x => decide (x ≤ 255) && x != r), (32, inr 0 512 (rdOwner d)),
   (34, inr 0 (if rdKind d = 1 then 2 else 0) (rdMaskAct d)), (35, inr 1 64 (rdMaskN d)), (36, leAt d 36 4 == 0)]

/-- The checks of what follows byte 40, once the counts are in range. -/
def rdTables (s : State) (d : List Byte) : List (Nat × Bool) :=
  let owned (n : Nat) : Bool := rdOwner d == 0 || rdOwner d == n
  let chanOk (c : Nat) : Bool :=
    decide (c < 16384) &&
      match streamOfChan s c with
      | some (x, _) => (rdKind d == 1 || x == rdStream d) && (rdOwner d == 0 || (inst s (rdOwner d)).streams.contains x)
      | none => rdKind d == 1 && rdOwner d == 0
  let tgOk (x : Nat × Nat × Nat) : Bool :=
    trigOk x &&
      match x.1 with
      | 1 => owned (bitsOf x.2.2 0 10)
      | 2 => owned (bitsOf x.2.2 0 10)
      | 3 => rdOwner d == 0 || fval (tget {} s.filt.dets x.2.2).cfg tdOwner == rdOwner d
      | _ => true
  let targetOk (r : Nat) : Bool :=
    rdOwner d == 0 || match tfind s.arc.recs r with
      | some x => rdOwner x.desc == rdOwner d
      | none => false
  (24, (rdTargets d).all targetOk) ::
    ((List.range (rdNch d)).map fun i => (40 + 2 * i, chanOk (rdChan d i))) ++
    ((List.range (rdNsig d)).map fun j =>
      (rdSigOff d + 4 * j, decide (1 ≤ (rdSig d j).1) && decide ((rdSig d j).1 ≤ 512) && decide ((rdSig d j).2 < 4096) && owned (rdSig d j).1)) ++
    ((List.range (rdNtrig d)).map fun i => (rdTrigOff d + 8 * i, tgOk (rdTrig d i))) ++
    [(rdMaskOff d, decide (rdMch d ≤ (if rdKind d = 1 then 8 else 0)))] ++
    ((List.range (min 8 (rdMch d))).map fun m =>
      (rdMaskAt d m, decide (rdMaskPos d m < rdNch d) && (List.range 64).all fun g => decide (rdLo d m g ≤ rdHi d m g))) ++
    [(rdLen d, decide (rdLen d = d.length))]

/-- Offset of the first offending field of a descriptor, or none. -/
def rdBad (s : State) (r : Nat) (d : List Byte) : Option Nat :=
  if d.length < 44 then some d.length
  else match (rdChecks r d).find? fun c => !c.2 with
    | some c => some c.1
    | none => ((rdTables s d).find? fun c => !c.2).map Prod.fst

/-! ## Sizes (R406, R407, R413) -/

def rowBytes (d : List Byte) : Nat := (8 + 6 * rdNch d + (rdNsig d + 7) / 8 + 7) / 8 * 8

/-- TOTAL_LEN of a folio of `n` rows. -/
def totalLen (nch nsig rowB n : Nat) : Nat := 256 + 16 * nch + 8 * nsig + rowB * n + 8

def pagesOf (bytes : Nat) : Nat := ceilDiv bytes 65536

def ringPages (d : List Byte) : Nat := pagesOf ((rdPre d + 256) * rowBytes d)

/-- The recorder runs (R397). -/
def recRuns (r : Recorder) : Bool := r.st != .held

def pagesRing (s : State) : Nat := sumOf ((s.arc.recs.filter fun e => recRuns e.2).map fun e => ringPages e.2.desc)

def pagesFree (s : State) : Nat := 262144 - (pagesRing s + sumOf (s.arc.folios.map fun e => e.2.pages))

/-- Rows per second × 100 of a recorder. -/
def rowRate (s : State) (d : List Byte) : Nat :=
  if rdKind d = 1 then fval (dom s (rdDomain d)).cfg aFmax * 64
  else match tfind s.sv.streams (rdStream d) with
    | some x => sdRate x.desc * 100
    | none => 0

/-- The write budget in use, in bytes per second × 100. -/
def arcLoad (s : State) (ds : List (List Byte)) : Nat := sumOf (ds.map fun d => 3 * rowBytes d * rowRate s d)

/-- Descriptors of the armed recorders. -/
def armedDescs (s : State) : List (List Byte) := (s.arc.recs.filter fun e => recRuns e.2).map fun e => e.2.desc

/-- 12,800 MB/s, × 100. -/
def arcCeiling : Nat := 12800000000 * 100

/-- Recordings in progress. -/
def inProgress (s : State) : Nat := (s.arc.recs.filter fun e => e.2.cur.isSome).length

/-! ## Arming (R407) -/

/-- The first grid sample that every channel of a GRID descriptor still has to produce. -/
def gridFrom (s : State) (d : List Byte) : Nat :=
  maxOf ((List.range (rdNch d)).map fun i => ((pairAt s (rdChan d i) (rdDomain d)).map (·.next)).getD 0)

/-- Why a recorder cannot be armed: 1 pages, 2 pairs, 3 bandwidth; else the state with it FILLING. -/
def armRec (r : Nat) (s : State) : Except Nat State :=
  match tfind s.arc.recs r with
  | none => .error 1
  | some c =>
    let d := c.staged.getD c.desc
    let pushed := match tfind s.sv.streams (rdStream d) with
      | some x => x.pushed
      | none => 0
    if pagesFree s < ringPages d then .error 1
    else
      let t := updRec r (fun c =>
        { c with desc := d, staged := none, st := .filling, maskStop := false, segment := 0, ring := [], next := 0, gone := none,
                 input := some pushed, cur := none, maskRun := 0 }) s
      if !pairsFit t then .error 2
      else if arcCeiling < arcLoad t (armedDescs t) then .error 3
      else
        let t := syncPairs t
        .ok (if rdKind d = 0 then t else updRec r (fun c => { c with input := some (gridFrom t d) }) t)

/-- A raise of FMAX keeps the write budget (R407). -/
def arcFits (s : State) (d : Nat) (cfg : Cfg) : Bool :=
  let t := updDom d (fun x => { x with cfg := cfg }) s
  decide (fval cfg aFmax ≤ fval (dom s d).cfg aFmax) || decide (arcLoad t (armedDescs t) ≤ arcCeiling)

/-- Hold a recorder (R397). -/
def holdRec (r : Nat) (s : State) : State :=
  syncPairs (updRec r (fun c => { c with st := .held, ring := [], input := none, segment := 0 }) (truncateRec r s))

/-- The recorders of a domain that starts anew fill again (R397). -/
def refillRecs (d : Nat) (s : State) : State :=
  ((s.arc.recs.filter fun e => recRuns e.2 && rdKind e.2.desc == 1 && rdDomain e.2.desc == d).map Prod.fst).foldl
    (fun s r => updRec r (fun c => { c with st := .filling, ring := [], next := 0, gone := none, input := some (dom s d).k, maskRun := 0,
                                                segment := 0 })
      (truncateRec r s)) s

/-- The recorders and folios of an instance that a reset of kind CLEAR releases (R409). -/
def clearRecs (n : Nat) (s : State) : State :=
  let mine := (s.arc.recs.filter fun e => rdOwner e.2.desc == n).map Prod.fst
  let s := mine.foldl (fun s r => updArc (fun a => { a with recs := tdel a.recs r }) (holdRec r s)) s
  updArc (fun a => { a with folios := tmap (fun _ f => if f.owner = n then { f with owner := 0 } else f) a.folios }) s

/-! ## Rows (R396, R413) -/

/-- The value of a recorded signal at the end of the last sweep: an instance that does not run carries the hold values,
its local outputs 0 (R409). -/
def recSignal (s : State) (x : Nat × Nat) : Bool :=
  let i := inst s x.1
  bitOf i.lg.space x.2 && (i.st == .running || !(decide (1792 ≤ x.2) && decide (x.2 < 2112)))

/-- The signal bytes of a row. -/
def sigBytes (s : State) (d : List Byte) : List Byte :=
  let n := rdNsig d
  let m := (List.range n).foldl (fun v j => v + b2n (recSignal s (rdSig d j)) * 2 ^ j) 0
  le ((n + 7) / 8) m

/-- The bytes of a row: head, values, quality words, signals, padding. -/
def rowOf (s : State) (d : List Byte) (head : List Byte) (vals : List Val) : List Byte :=
  padTo (rowBytes d) (head ++ (vals.flatMap fun v => le 4 (enc 32 v.v)) ++ (vals.flatMap fun v => le 2 v.csq) ++ sigBytes s d)

/-- The next RAW row: instant, head and values of the next sample that has become final. -/
def rawRow (s : State) (c : Recorder) : Option (Nat × Nat × Word × List Byte × List Val) :=
  match tfind s.sv.streams (rdStream c.desc) with
  | none => none
  | some x =>
    let j := max (c.input.getD x.pushed) (x.pushed - x.final.length)
    if x.pushed ≤ j then none
    else match x.final[x.pushed - 1 - j]? with
      | none => none
      | some m =>
        let base := sdBase x.desc
        some (j + 1, m.t, 0, le 4 (ts32At m.t).toNat ++ le 2 m.cnt ++ zeros 2,
          (List.range (rdNch c.desc)).map fun i => m.vals.getD (rdChan c.desc i - base) { v := 0, csq := csqInvalid })

/-- Does the pair hold grid sample k? -/
def gridAt (p : Pair) (k : Nat) : Option Grid := p.hist.find? fun g => g.k == k

/-- The next GRID row: the first grid sample at or after the recorder's that every channel's pair has produced. -/
def gridRow (s : State) (c : Recorder) : Option (Nat × Nat × Word × List Byte × List Val) :=
  let d := rdDomain c.desc
  let ps := (List.range (rdNch c.desc)).map fun i => pairAt s (rdChan c.desc i) d
  match ps with
  | some p :: _ =>
    let ks := (p.hist.map (·.k)).reverse.filter fun k => decide (c.input.getD 0 ≤ k)
    let ready (k : Nat) : Bool := ps.all fun o => match o with
      | some q => (gridAt q k).isSome
      | none => false
    match ks.find? ready with
    | some k =>
      match gridAt p k with
      | some g =>
        some (k + 1, g.t, g.angle, le 4 g.angle.toNat ++ le 4 (ts32At g.t).toNat,
          ps.map fun o => match o.bind fun q => gridAt q k with
            | some x => { v := x.v, csq := x.csq }
            | none => { v := 0, csq := csqInvalid })
      | none => none
    | none => none
  | _ => none

/-! ## Folios (R406, R412) -/

/-- Is a folio open in a window? -/
def openInRoom (s : State) (n : Nat) : Bool := s.arc.room.any fun w => w.2.folio == n

/-- The next folio number: on wrap it skips 0 and numbers still held. -/
def nextNumber (s : State) : Nat → Nat → Nat
  | 0, n => n
  | f + 1, n => if n = 0 || thas s.arc.folios n then nextNumber s f ((n + 1) % 2 ^ 32) else n

def folioNumber (s : State) : Nat := nextNumber s (s.arc.folios.length + 2) s.arc.nextFolio

/-- Folios that may be discarded, oldest first. -/
def discardable (s : State) : List (Nat × Folio) := s.arc.folios.filter fun e => e.2.closed && !e.2.keep && !openInRoom s e.1

/-- Discard folios until pages and an index entry are free (R406). -/
def discardFor (pages : Nat) (index : Bool) : List (Nat × Folio) → State → Option State
  | l, s =>
    let ok := decide (pages ≤ pagesFree s) && (!index || decide (s.arc.folios.length < 65536))
    if ok then some s
    else match l with
      | [] => none
      | e :: t =>
        discardFor pages index t (arcCount 6 (updArc (fun a => { a with folios := tdel a.folios e.1, recycled := true }) s))

/-- Make room: with RECYCLE 0 what is free must do. -/
def makeRoom (pages : Nat) (index : Bool) (s : State) : Option State :=
  discardFor pages index (if s.arc.recycle then discardable s else []) s

/-- The channel table of a folio. -/
def chanTable (s : State) (d : List Byte) : List Byte :=
  (List.range (rdNch d)).flatMap fun i =>
    let c := rdChan d i
    let cfg := chanCfg s c
    let (x, pos, h) := match streamOfChan s c with
      | some (x, t) => (x, c - sdBase t.desc, lookNs (sdRate t.desc) (fval cfg cResponse))
      | none => (0xFFFF, 0, 0)
    let grid := rdKind d == 1
    le 2 c ++ le 2 x ++ le 1 pos ++ le 1 (if grid then fval cfg cResponse else 0xFF) ++ le 1 (fval cfg cPost) ++ zeros 1 ++
      le 4 (if grid then h else 0) ++ zeros 4

/-- The identity of a signal (R251): its address where it is fixed, else its entry of the signal table. -/
def signalIdent (s : State) (x : Nat × Nat) : Nat :=
  if x.2 < 2112 then x.2
  else match (inst s x.1).lg.prog with
    | some p => ((p.sigs.find? fun e => e.2.1 == x.2).map Prod.fst).getD x.2
    | none => x.2

def sigTable (s : State) (d : List Byte) : List Byte :=
  (List.range (rdNsig d)).flatMap fun j => le 2 (rdSig d j).1 ++ le 2 (rdSig d j).2 ++ le 4 (signalIdent s (rdSig d j))

/-- A new folio of a recorder, at its trigger. -/
def newFolio (s : State) (r : Nat) (c : Recorder) (num first seg pages : Nat) (t : Trig) : Folio :=
  let d := c.desc
  let grid := rdKind d == 1
  let rate := match tfind s.sv.streams (rdStream d) with
    | some x => leAt x.desc 144 1
    | none => 0
  { recorder := r, segment := seg, recording := if seg = 0 then num else first, owner := rdOwner d, kind := rdKind d,
    domain := if grid then rdDomain d else 0xFF, rate := if grid then 0xFF else rate,
    stream := if grid then 0xFFFF else rdStream d,
    flags := b2n t.notTraceable + b2n (decide (1 < rdSegs d)) * 4 + rdKind d * 64, cause := 2 ^ t.cause, trigRow := 0,
    trigTs := ts32At t.t, trigSec := secOf t.t % 2 ^ 48, trigNs := nsOf t.t, trigAngle := 0, f := 0,
    fnom := if grid then fval (dom s (rdDomain d)).cfg aFnom else 0, maskRow := 0xFFFFFFFF, opsec := s.met.opsec,
    cycles := s.met.cycles, service := s.svc.state.code, role := if s.tdm.standalone then 0xFF else s.tdm.role.code,
    nch := rdNch d, nsig := rdNsig d, rowBytes := rowBytes d, chans := chanTable s d, sigs := sigTable s d, rows := [],
    start := 0, pages := pages, keep := rdFlag d 3, full := false, closed := false }

/-- The bytes of a folio ahead of its trailer. -/
def folioBody (n : Nat) (f : Folio) : List Byte :=
  padTo 256
    (le 4 0x4F465053 ++ le 2 1 ++ le 2 f.flags ++ le 4 (totalLen f.nch f.nsig f.rowBytes f.rows.length) ++ le 4 n ++ le 2 f.recorder ++
      le 2 f.segment ++ le 4 f.recording ++ le 2 f.nch ++ le 2 f.nsig ++ le 4 f.rows.length ++ le 4 f.trigRow ++
      le 2 f.rowBytes ++ le 1 f.domain ++ le 1 f.rate ++ le 2 f.stream ++ le 2 f.owner ++ le 4 f.cause ++
      le 4 f.trigTs.toNat ++ le 6 f.trigSec ++ zeros 2 ++ le 4 f.trigNs ++ le 4 f.trigAngle.toNat ++ le 4 f.f ++
      le 4 f.fnom ++ le 4 f.maskRow ++ le 5 f.opsec ++ zeros 3 ++ le 4 f.cycles ++ padTo 16 Config.serial ++
      le 1 f.service ++ le 1 f.role) ++ f.chans ++ f.sigs ++ f.rows.reverse.flatten

/-- A folio's bytes with the CRC-64 of its trailer. -/
def folioBytes (n : Nat) (f : Folio) : List Byte := folioBody n f ++ le 8 (crc64 (folioBody n f))

/-! ## Triggers (R399 to R404) -/

/-- Offer a trigger to the targets of a recorder (R402). -/
def offerTargets (c : Recorder) (t : Trig) (s : State) : State :=
  if t.cause = 9 then s
  else updArc (fun a => { a with trigs := a.trigs ++ (rdTargets c.desc).map fun x => { t with recorder := x, cause := 9, cmd := none } }) s

/-- A trigger is ignored under R401. -/
def ignoreTrig (i : Nat) (s : State) : State := arcCount i (updArc (fun a => { a with ignored := true }) s)

/-- No pages or no index entry (R401, R406). -/
def noRoom (s : State) : State := ignoreTrig 2 (updArc (fun a => { a with full := true }) s)

/-- The first row at or after an instant, oldest row first. -/
def rowAt (c : Recorder) (t : Nat) : Option Row := c.ring.reverse.find? fun x => decide (t ≤ x.t)

/-- The rows of a segment are complete: the folio may close, and a segmented recording awaits its next trigger. -/
def segFull (r : Nat) (x : Recording) (s : State) : State :=
  updRec r (fun c => { c with segment := x.segs + 1, cur := some { x with segs := x.segs + 1, between := true } })
    (updFolio x.folio (fun f => { f with full := true }) s)

/-- Fix the trigger row once a row at or after the trigger instant stands in the ring (R400): the rows before it that the
ring still holds go into the folio. -/
def resolveTrig (r : Nat) (s : State) : State :=
  match tfind s.arc.recs r with
  | some c =>
    match c.cur with
    | some x =>
      if x.trigRow.isSome then s
      else match rowAt c x.trigT with
        | some w =>
          let oldest := (c.ring.getLast?.map (·.no)).getD w.no
          let late := match c.gone with
            | some t => decide (x.trigT ≤ t)
            | none => false
          let start := max oldest (w.no - rdPre c.desc)
          let stop := w.no + rdPost c.desc
          let rows := (c.ring.filter fun y => decide (start ≤ y.no) && decide (y.no < stop)).map (·.bytes)
          let s := updFolio x.folio (fun f =>
            { f with rows := rows, start := start, trigRow := w.no - start, trigAngle := w.angle, f := w.f,
                     flags := if late then setBit f.flags 5 else f.flags }) s
          let s := match x.maskNo with
            | some n => updFolio x.folio (fun f => { f with maskRow := if start ≤ n then n - start else f.maskRow }) s
            | none => s
          let x := { x with trigRow := some w.no, startRow := start, endRow := stop }
          let s := updRec r (fun c => { c with cur := some x }) s
          if stop ≤ c.next then segFull r x s else s
        | none => s
    | none => s
  | none => s

/-- Begin a folio: the first of a recording, or the next segment's. -/
def beginFolio (r : Nat) (c : Recorder) (t : Trig) (first seg : Nat) (s : State) : Option State :=
  let pages := pagesOf (totalLen (rdNch c.desc) (rdNsig c.desc) (rowBytes c.desc) (rdPre c.desc + rdPost c.desc))
  match makeRoom pages true s with
  | some s =>
    let n := folioNumber s
    let f := newFolio s r c n first seg pages t
    let s := updArc (fun a => { a with folios := tput a.folios n f, nextFolio := (n + 1) % 2 ^ 32, full := false }) s
    let x : Recording := { first := if seg = 0 then n else first, folio := n, trigT := t.t, segs := seg }
    some (resolveTrig r (updRec r (fun c => { c with st := .recording, cur := some x }) s))
  | none => none

/-- A recording has closed: the recorder is ARMED again, or HELD (R397). -/
def endRecording (r : Nat) (s : State) : State :=
  match tfind s.arc.recs r with
  | some c =>
    let stop := match c.cur with
      | some x => x.stop
      | none => false
    let s := updRec r (fun c => { c with cur := none, segment := 0, st := .armed, quietFrom := s.clk }) s
    if stop then updRec r (fun c => { c with maskStop := true }) (holdRec r s)
    else if rdFlag c.desc 0 then holdRec r s
    else s
  | none => s

/-- A trigger at an ARMED recorder (R401). -/
def acceptArmed (r : Nat) (c : Recorder) (t : Trig) (s : State) : State :=
  if 64 ≤ inProgress s then
    let s := ignoreTrig 1 s
    let fresh := match c.boundLog with
      | some x => decide (x + 60 * sec1 ≤ s.clk)
      | none => true
    if fresh then noteMod 0x0C02 (rdOwner c.desc) r [] (updRec r (fun c => { c with boundLog := some s.clk }) s) else s
  else match beginFolio r c t 0 0 s with
    | some s => offerTargets c t (arcCount 0 s)
    | none => noRoom s

/-- An extension (R401): POST rows afresh from the new trigger row, up to the limit of R395. -/
def extendRec (r : Nat) (c : Recorder) (x : Recording) (row first : Nat) (t : Trig) (s : State) : State :=
  let stop := max x.endRow (min (row + rdPost c.desc) (first + 1048576))
  let need := pagesOf (totalLen (rdNch c.desc) (rdNsig c.desc) (rowBytes c.desc) (rdPre c.desc + (stop - first)))
  let have_ := match tfind s.arc.folios x.folio with
    | some f => f.pages
    | none => 0
  match makeRoom (need - have_) false s with
  | some s =>
    let s := updFolio x.folio (fun f => { f with pages := max f.pages need, flags := setBit f.flags 4, cause := f.cause ||| 2 ^ t.cause }) s
    offerTargets c t (arcCount 0 (arcCount 5 (updRec r (fun c => { c with cur := some { x with endRow := stop } }) s)))
  | none => noRoom s

/-- A trigger while RECORDING, whose trigger row is `row`, or lies beyond the rows written (R401, R404). -/
def acceptBusy (r : Nat) (c : Recorder) (x : Recording) (row : Option Nat) (t : Trig) (s : State) : State :=
  if x.between then
    if rdSegs c.desc ≤ x.segs || x.stop || (match row with
      | some n => decide (n < x.endRow)
      | none => false) then ignoreTrig 4 s
    else match beginFolio r c t x.first x.segs s with
      | some s => offerTargets c t (arcCount 0 s)
      | none => endRecording r (updFolio x.folio (fun f => { f with flags := setBit f.flags 1 }) (arcCount 9 (noRoom s)))
  else match row, x.trigRow with
    | some n, some m =>
      if n = m then offerTargets c t (updFolio x.folio (fun f => { f with cause := f.cause ||| 2 ^ t.cause }) s)
      else if rdSegs c.desc = 1 && rdFlag c.desc 1 then extendRec r c x n m t s
      else ignoreTrig 4 s
    | _, _ => ignoreTrig 4 s

/-- Can a trigger be judged now? While a segment is written, its trigger row must be known. -/
def judgeable (s : State) (t : Trig) : Bool :=
  match tfind s.arc.recs t.recorder with
  | some c =>
    match c.cur with
    | some x => x.between || (x.trigRow.isSome && (rowAt c t.t).isSome)
    | none => true
  | none => true

/-- A trigger reaches its recorder (R398, R401). -/
def acceptTrig (t : Trig) (s : State) : State :=
  match tfind s.arc.recs t.recorder with
  | some c =>
    match c.st with
    | .held => s
    | .filling => arcCount 3 s
    | .armed => acceptArmed t.recorder c t s
    | .recording =>
      match c.cur with
      | some x => acceptBusy t.recorder c x ((rowAt c t.t).map (·.no)) t s
      | none => s
  | none => s

/-- Does an entry match an event: type, argument, edge? -/
def entryMatches (type arg : Nat) (rising : Bool) (e : Nat × Nat × Nat) : Bool :=
  e.1 == type && e.2.2 == arg && bitOf e.2.1 (if rising then 0 else 1)

/-- An event is on its way to every recorder with an entry for it (R399). -/
def offerEvent (type arg : Nat) (rising : Bool) (t : Nat) (nt : Bool) (s : State) : State :=
  let of (e : Nat × Recorder) : List Trig :=
    if recRuns e.2 then
      ((List.range (rdNtrig e.2.desc)).filter fun i => entryMatches type arg rising (rdTrig e.2.desc i)).map fun i =>
        { recorder := e.1, cause := i, t := t, notTraceable := nt }
    else []
  let new := s.arc.recs.flatMap of
  if new.isEmpty then s else updArc (fun a => { a with trigs := a.trigs ++ new }) s

/-! ## The mask (R405) -/

/-- Does a row violate the mask? Only GOOD values without SETTLING are tested. -/
def maskHit (d : List Byte) (angle : Word) (vals : List Val) : Bool :=
  let g := angle.toNat / 16384 % 64
  (List.range (rdMch d)).any fun m =>
    let v := vals.getD (rdMaskPos d m) { v := 0, csq := csqInvalid }
    v.csq % 4 == 0 && !csqHas v.csq csqSettling && (decide (v.v < rdLo d m g) || decide (rdHi d m g < v.v))

/-- A violation at a row acts (R405). -/
def maskAct (r : Nat) (c : Recorder) (w : Row) (s : State) : State :=
  let s := arcCount 7 s
  let t : Trig := { recorder := r, cause := 10, t := w.t, notTraceable := !s.time.traceable }
  match rdMaskAct c.desc with
  | 1 => updArc (fun a => { a with trigs := a.trigs ++ [t] }) s
  | 2 =>
    let s := if c.st = .armed then acceptTrig t s else s
    match (tfind s.arc.recs r).bind (·.cur) with
    | some x =>
      let s := updRec r (fun c => { c with cur := some { x with stop := true, maskNo := some w.no } }) s
      if x.between then endRecording r s
      else updFolio x.folio (fun f =>
        { f with flags := setBit f.flags 3, maskRow := if x.trigRow.isSome then w.no - x.startRow else f.maskRow }) s
    | none => updRec r (fun c => { c with maskStop := true }) (holdRec r s)
  | _ => s

/-- Test a row of an ARMED or RECORDING recorder. -/
def maskTest (r : Nat) (w : Row) (vals : List Val) (s : State) : State :=
  match tfind s.arc.recs r with
  | some c =>
    if (c.st = .armed ∨ c.st = .recording) ∧ rdMch c.desc ≠ 0 then
      let run := if maskHit c.desc w.angle vals then c.maskRun + 1 else 0
      if rdMaskN c.desc ≤ run then maskAct r c w (updRec r (fun c => { c with maskRun := 0 }) s)
      else updRec r (fun c => { c with maskRun := run }) s
    else s
  | none => s

/-! ## Writing a row (R396, R398) -/

/-- The row goes into the folio being written. -/
def folioRow (r : Nat) (w : Row) (s : State) : State :=
  match (tfind s.arc.recs r).bind (·.cur) with
  | some x =>
    if x.between then s
    else if x.trigRow.isNone then resolveTrig r s
    else
      let s := updFolio x.folio (fun f => { f with rows := w.bytes :: f.rows }) s
      if x.endRow ≤ w.no + 1 then segFull r x s else s
  | none => s

/-- Write a row of a recorder: the ring, the state, the folio, the mask. -/
def writeRow (r : Nat) (c : Recorder) (x : Nat × Nat × Word × List Byte × List Val) (s : State) : State :=
  let (inp, t, angle, head, vals) := x
  let w : Row :=
    { no := c.next, t := t, angle := angle, f := if rdKind c.desc = 1 then (dom s (rdDomain c.desc)).f else 0,
      bytes := rowOf s c.desc head vals }
  let all := w :: c.ring
  let ring := all.take (rdPre c.desc + 256)
  let gone := match all[rdPre c.desc + 256]? with
    | some y => some y.t
    | none => c.gone
  let arm := c.st == .filling && decide (rdPre c.desc ≤ ring.length)
  let s := updRec r (fun c =>
    { c with ring := ring, gone := gone, next := c.next + 1, input := some inp, st := if arm then .armed else c.st,
             quietFrom := if arm then s.clk else c.quietFrom }) s
  maskTest r w vals (folioRow r w s)

end Sys2Proof.Machine
end

