-- ==== Sys2Proof/Machine/ElementOps.lean ====
section
/-! DEFINITION. Shared operations of the element lanes: capacity and admission (R212, R231 to R233), dispatch (R214,
R226, R227), completion, charges and retirement (R219 to R221), and the commit of a step (R217, R218, R228). -/

namespace Sys2Proof.Machine

def updLanes (f : Lanes → Lanes) (s : State) : State := { s with lanes := f s.lanes }

def lane (s : State) (l : Nat) : Lane := tget {} s.lanes.lanes l

def updLane (l : Nat) (f : Lane → Lane) (s : State) : State := updLanes (fun p => { p with lanes := tmod {} p.lanes l f }) s

/-! ## Capacity and load (R212, R232) -/

/-- The lanes of a group, 0 A or 1 B, that are not retired. -/
def groupLanes (s : State) (g : Nat) : List Nat := ((List.range 32).map (· + 32 * g)).filter fun l => !(lane s l).retired

/-- Λ in cycles per second. -/
def laneCap (s : State) : Nat := 1200000000 * min (groupLanes s 0).length (groupLanes s 1).length

/-- The reserved slots of a domain. -/
def reservedIn (insts : Tab Inst) (d : Nat) : List Reserve :=
  insts.flatMap fun (e : Nat × Inst) => if e.2.el.resDom = d then e.2.el.reserved else []

/-- L_d(p). -/
def loadAt (rs : List Reserve) (p : Nat) : Nat := sumOf ((rs.filter fun r => p % r.every == r.offset).map (·.load))

/-- C_d. -/
def peakLoad (rs : List Reserve) : Nat := maxOf ((List.range 16).map (loadAt rs))

/-- R_d in hundredths of a step per second: FMAX counts hundredths of a hertz. -/
def stepRate (fmax step : Nat) : Nat := fmax * (16 * 2 ^ step)

/-- U in hundredths of a cycle per second, with FMAX and STEP of each domain given. -/
def loadU (insts : Tab Inst) (fmax step : Nat → Nat) : Nat :=
  sumOf ((List.range 16).map fun d => peakLoad (reservedIn insts d) * stepRate (fmax d) (step d))

/-- FMAX and STEP in effect. -/
def fmaxOf (s : State) (d : Nat) : Nat := fval (dom s d).cfg aFmax

def stepOf (s : State) (d : Nat) : Nat := fval (dom s d).cfg aStep

/-- U ≤ 0.85 Λ. -/
def loadFits (s : State) (insts : Tab Inst) (fmax step : Nat → Nat) : Bool :=
  decide (loadU insts fmax step ≤ 85 * laneCap s)

/-! ## Admission (R231) -/

/-- The first `k` global slots that are free, lowest first. -/
def freeSlots (used : List Nat) : Nat → Nat → Nat → List Nat
  | 0, _, _ => []
  | _, 0, _ => []
  | fuel + 1, k + 1, g => if used.contains g then freeSlots used fuel (k + 1) (g + 1) else g :: freeSlots used fuel k (g + 1)

/-- The global slots that other instances hold. -/
def usedSlots (s : State) (n : Nat) : List Nat :=
  s.insts.flatMap fun (e : Nat × Inst) => if e.1 = n then [] else e.2.el.reserved.map (·.gslot)

/-- The reservation of a setting set: one record per slot. -/
def planSlots (s : State) (n : Nat) (img : List Byte) : List Reserve :=
  let g := freeSlots (usedSlots s n) 8192 (setNslot img) 0
  ((setRecs img).zip g).map fun p =>
    { slot := rSlot p.1, gslot := p.2, type := rType p.1, load := slotLoad (rType p.1) (rParams p.1), every := rEvery p.1,
      offset := rOffset p.1 }

/-- The channels of the streams an instance references in effect. -/
def refChannels (s : State) (i : Inst) : List Nat :=
  i.streams.flatMap fun x => match tfind s.sv.streams x with
    | some t => streamChans t
    | none => []

/-- Admission of instance `n` as it stands in `s` with a setting set: the reservation, or the reason it fails. -/
def admitSet (s : State) (n : Nat) (img : Option (List Byte)) : Except Nat (List Reserve) :=
  match img with
  | none => .error 5
  | some g =>
    let plan := planSlots s n g
    let chans := refChannels s (inst s n)
    let after := tmod {} s.insts n fun i => { i with el := { i.el with reserved := plan, resDom := instDom i } }
    if leAt g 16 4 ≠ 1 then .error 6
    else if !((setChannels g).all fun c => chans.contains c) then .error 4
    else if plan.length < setNslot g then .error 2
    else if !pairsFit s then .error 3
    else if !loadFits s after (fmaxOf s) (stepOf s) then .error 1
    else .ok plan

/-- U after a change of reservation, in hundredths of a per cent of Λ. -/
def loadShare (s : State) (u : Nat) : Nat := if laneCap s = 0 then 0 else shown 1 (u * 100) (laneCap s)

/-! ## Dispatch (R214, R215, R226) -/

/-- Slots of an instance's reservation that are due at a step. -/
def dueSlots (i : Inst) (j : Nat) : List Reserve := i.el.reserved.filter fun r => (j + r.every - r.offset) % r.every == 0

/-- The record of a slot in the set in effect. -/
def slotRec (i : Inst) (slot : Nat) : List Byte :=
  match i.el.img with
  | some g => ((findRec g slot).map (·.2)).getD []
  | none => []

/-- Global channels of a slot, in the type's order. -/
def slotChans (i : Inst) (r : List Byte) : List (Nat × Int) :=
  let g := i.el.img.getD []
  (rChans r).map fun x => ((setChan g x).1, (setChan g x).2.2)

/-- Every channel that the due slots of a domain's running instances consume has its grid sample at the boundary. -/
def inputsReady (s : State) (d k j : Nat) : Bool :=
  s.insts.all fun (e : Nat × Inst) =>
    e.2.st != .running || instDom e.2 != d || (dueSlots e.2 j).all fun r =>
      (slotChans e.2 (slotRec e.2 r.slot)).all fun c => match pairAt s c.1 d with
        | some p => decide (k < p.next)
        | none => true

/-- The window of a channel: up to 64 or 32 grid samples that end at the boundary. -/
def slotWindow (s : State) (d k : Nat) (half : Bool) (c : Nat) : List Grid := (chanHist s d k c).take (if half then 32 else 64)

/-- Is a signal bit set? 0xFFFF names none. -/
def sigSet (i : Inst) (a : Nat) : Bool := a != 0xFFFF && bitOf i.lg.space a

/-- A slot is blocked at a step by its inputs, the domain or its block signal (R226). -/
def slotBlocked (s : State) (i : Inst) (d : Nat) (r : List Byte) (ws : List (List Grid)) : Bool :=
  let type := rType r
  let any (f : Grid → Bool) : Bool := ws.any fun w => w.any f
  ws.any (fun w => w.length < (if rHalf r then 32 else 64)) || any (fun g => !csqValid g.csq) || any (fun g => csqHas g.csq csqSettling) ||
    (any (fun g => csqHas g.csq csqSim) && !fon i.cfg iSim) ||
    (any (fun g => csqHas g.csq csqTest) && (i.svc == 2 || i.svc == 4)) ||
    (any (fun g => csqHas g.csq csqUnsync) && [0x0A, 0x0B, 0x0C, 0x0D, 0x19].contains type) ||
    (any (fun g => g.csq % 4 == 3) && rQblock r) ||
    (([0x11, 0x12, 0x19].contains type || rNeedlock r) && !(dom s d).lock) || sigSet i (rBlock r)

/-- QUAL: a sample of the windows is QUESTIONABLE or INTERP. -/
def slotQual (ws : List (List Grid)) : Bool := ws.any fun w => w.any fun g => g.csq % 4 == 3 || csqHas g.csq csqInterp

/-- Channel windows after the gain, with their positions. -/
def scaled (c : Int) (w : List Grid) : List (Nat × Int) := w.map fun g => (gridPosn g.angle, gained c g.v)

/-- ΔT of an evaluation in ns: the time from the boundary EVERY steps earlier (R225). -/
def stepDt (s : State) (d t every : Nat) : Nat :=
  match (tget [] s.lanes.bounds d).getD (every - 1) (0, t) with
  | (_, t0) => (t - t0) / 65536

/-- Exchange B and C of each group of three (R223). -/
def swapBC (rot : Bool) : List (Int × Int) → List (Int × Int)
  | a :: b :: c :: t => if rot then a :: c :: b :: swapBC rot t else a :: b :: c :: swapBC rot t
  | l => l

/-- The evaluation of a slot at a step, as the lanes will compute it. -/
def makeJob (s : State) (n d : Nat) (tk : Tick) (r : Reserve) : Job :=
  let i := inst s n
  let x := slotRec i r.slot
  let cs := slotChans i x
  let ws := cs.map fun c => slotWindow s d tk.k (rHalf x) c.1
  let st := tget {} i.el.slots r.slot
  let row := (catalogue r.type).getD ⟨0, 0, none, 0, 0, false, 0, false, 16, []⟩
  let base := wEVAL + wPRESENT
  let ys := (cs.zip ws).map fun p => scaled p.1.2 p.2
  let out : EvalOut :=
    if slotBlocked s i d x ws then { word := base + wBLOCKED, rs := blockedState row st.rs, above := if row.holds then st.above else 0 }
    else
      let need := slotChannels r.type (rParams x)
      let ph := ys.map (phasor 1)
      let rot := setRot (i.el.img.getD [])
      let e := evalElement st
        { type := r.type, params := rParams x, ph := swapBC rot (ph.take need.1) ++ swapBC rot (ph.drop need.1),
          ys := ys.flatMap fun w => w.map (·.2), gs := r.every * stepGrids (dom s d), dt := stepDt s d tk.t r.every,
          freq := (dom s d).f, start := sigSet i (rStart x) } row
      { e with word := e.word + base + (if slotQual ws then wQUAL else 0) }
  { inst := n, slot := r.slot, gslot := r.gslot, epoch := (win s n).epoch, trip := row.trip, word := out.word, rs := out.rs,
    above := out.above, chans := cs.map (·.1) }

/-- Insert a job in global slot order. -/
def insJob (x : Job) : List Job → List Job
  | [] => [x]
  | y :: t => if x.gslot ≤ y.gslot then x :: y :: t else y :: insJob x t

/-- The jobs of a step, in global slot order. -/
def stepJobs (s : State) (d : Nat) (tk : Tick) (j : Nat) : List Job :=
  (s.insts.flatMap fun (e : Nat × Inst) =>
    if e.2.st = .running ∧ instDom e.2 = d then (dueSlots e.2 j).map (makeJob s e.1 d tk) else []).foldl (fun l x => insJob x l) []

/-- Dispatch a step (R214). -/
def dispatchStep (d : Nat) (tk : Tick) (s : State) : State :=
  let j := stepIndex (dom s d) tk.angle
  let run : StepRun := { index := j, angle := tk.angle, t := tk.t, k := tk.k, at_ := s.clk, jobs := stepJobs s d tk j }
  updDom d (fun x => { x with boundary := x.boundary.drop 1, stepOpen := true, stepAngle := tk.angle, stepAt := s.clk })
    (updLanes (fun p => { p with steps := tput p.steps d run,
                                 bounds := tput p.bounds d (((j, tk.t) :: tget [] p.bounds d).take 16) }) s)

/-! ## Completion, charges, retirement (R219 to R221) -/

/-- A charge against a lane; three within 1 s make it due for retirement. -/
def charge (l : Nat) (s : State) : State :=
  updLane l (fun x =>
    let c := s.clk :: x.charges.filter fun t => decide (s.clk ≤ t + sec1)
    { x with charges := c, due := x.due || decide (3 ≤ c.length) }) s

/-- The lane an evaluation ran on: a free choice among those in service. -/
def pickLane (ls : List Nat) (s : State) : Nat × State :=
  ((ls.getD (Config.lane s.fresh % ls.length) 0), { s with fresh := s.fresh + 1 })

/-- Retire the lanes that are due (R221). -/
def retireLanes (s : State) : State :=
  let due := (List.range 64).filter fun l => (lane s l).due && !(lane s l).retired
  if due.isEmpty then s
  else
    let s := due.foldl (fun s l =>
      setAlarm 1 (noteMod 0x0603 0 l [l] (updLane l (fun x => { x with retired := true, due := false }) s))) s
    if (groupLanes s 0).isEmpty || (groupLanes s 1).isEmpty || !loadFits s s.insts (fmaxOf s) (stepOf s) then moduleFault 5 s else s

/-- The evaluation of a slot in the open step of its instance's domain. -/
def jobAt (s : State) (n slot : Nat) : Option (Nat × Job) :=
  match s.lanes.steps.find? fun e => e.2.jobs.any fun x => x.inst == n && x.slot == slot && !x.complete with
  | some (d, r) => (r.jobs.find? fun x => x.inst == n && x.slot == slot && !x.complete).map fun x => (d, x)
  | none => none

/-- Complete the evaluation of a slot. -/
def completeJob (d n slot : Nat) (mismatch : Bool) (s : State) : State :=
  updLanes (fun p => { p with steps := tupd p.steps d fun r => { r with jobs := r.jobs.map fun x =>
    if x.inst == n && x.slot == slot && !x.complete then { x with complete := true, mismatch := mismatch } else x } }) s

/-- A result of a lane counts for it. -/
def countEval (l : Nat) (s : State) : State := updLane l (fun x => { x with evals := x.evals + 1 }) s

/-- An evaluation ends, as computed or with an upset of one copy (R219, R220). -/
def endEval (d : Nat) (x : Job) (upset : LaneUpset) (s : State) : State :=
  if x.trip then
    let (a, s) := pickLane (groupLanes s 0) s
    let (b, s) := pickLane (groupLanes s 1) s
    let s := countEval b (countEval a s)
    completeJob d x.inst x.slot (upset != .none) (if upset = .none then s else charge b (charge a s))
  else
    let (a, s) := pickLane (groupLanes s 0 ++ groupLanes s 1) s
    completeJob d x.inst x.slot (upset == .primary) (if upset = .primary then charge a (countEval a s) else countEval a s)

/-! ## Commit (R217, R218, R227, R228) -/

def updSlot (n slot : Nat) (f : SlotSt → SlotSt) (s : State) : State :=
  updInst n (fun i => { i with el := { i.el with slots := tupd i.el.slots slot f } }) s

/-- Commit one slot of a step. -/
def commitJob (angle : Word) (x : Job) (s : State) : State :=
  let st := tget {} (inst s x.inst).el.slots x.slot
  if !x.complete then
    noteMod 0x0601 x.inst x.slot [x.gslot] (updSlot x.inst x.slot (fun y =>
      { y with word := wPRESENT + wBLOCKED + wOVERRUN, overrun := y.overrun + 1, blocked := y.blocked + 1 }) s)
  else if x.mismatch then
    let old := match st.logAt with
      | some t => decide (s.clk < t + 60 * sec1)
      | none => false
    let s := updSlot x.inst x.slot (fun y =>
      { y with word := wPRESENT + wEVAL + wBLOCKED + wMISMATCH, mismatch := y.mismatch + 1, blocked := y.blocked + 1,
               lastAngle := angle, logAt := if old then y.logAt else some s.clk }) s
    if old then s else noteMod 0x0602 x.inst x.slot [x.gslot] s
  else
    updSlot x.inst x.slot (fun y =>
      { y with word := x.word, rs := x.rs, above := x.above, evals := y.evals + 1, lastAngle := angle,
               blocked := if bitOf x.word 2 then y.blocked + 1 else y.blocked, seen := y.seen || !bitOf x.word 2 }) s

/-- The EVAL bits of an instance's slots fall; those of the step's slots rise again with their commit. -/
def clearEval (n : Nat) (s : State) : State :=
  updInst n (fun i => { i with el := { i.el with slots := tmap (fun _ y => { y with word := clrBit y.word 14 }) i.el.slots } }) s

/-- The jobs of a step that still count: their epoch is current and their instance runs. -/
def liveJobs (s : State) (r : StepRun) : List Job :=
  r.jobs.filter fun x => (win s x.inst).epoch == x.epoch && (inst s x.inst).st == .running

/-- Protected channel-samples that the slots evaluated at a step add (R23). -/
def countPcs (t : Nat) (chans : List Nat) (s : State) : State :=
  chans.foldl (fun s c =>
    match streamOfChan s c with
    | some (_, x) =>
      let n := (x.final.filter fun y => y.auth && decide (tget 0 s.met.pcsAt c < y.t) && decide (y.t ≤ t)).length
      { s with met := { s.met with pcs := s.met.pcs + n, pcsAt := tput s.met.pcsAt c (max t (tget 0 s.met.pcsAt c)) } }
    | none => s) s

/-- The element record of a step: each instance's words, instance number first (R217, R310). -/
def stepRecord (s : State) (ns : List Nat) : List Byte :=
  ns.flatMap fun n => le 2 n ++ ((inst s n).el.slots.flatMap fun (e : Nat × SlotSt) => le 2 e.2.word)

/-- Commit a closed step for every instance with a due slot (R217); a second overrun within 1 s is a module fault. -/
def commitStep (r : StepRun) (s : State) : State :=
  let jobs := liveJobs s r
  let ns := (jobs.map (·.inst)).foldl insNat []
  let s := ns.foldl (fun s n =>
    let s := updInst n (fun i => { i with lastStep := r.angle }) (clearEval n s)
    (jobs.filter fun x => x.inst == n).foldl (fun s x => commitJob r.angle x s) s) s
  let s := countPcs r.t ((jobs.filter fun x => x.complete && !x.mismatch).flatMap (·.chans)).eraseDups s
  (jobs.filter fun x => !x.complete).foldl (fun s _ =>
    let again := match s.lanes.lastOverrun with
      | some t => decide (s.clk ≤ t + sec1)
      | none => false
    let s := updLanes (fun p => { p with lastOverrun := some s.clk }) s
    if again then moduleFault 4 s else s) s

end Sys2Proof.Machine
end

