-- ==== Sys2Proof/Machine/InstOps.lean ====
section
/-! DEFINITION. Shared operations of the protection instances: restart, thaw and restore boundaries (R112, R121 to R124),
holds and freezes (R103, R118), the saved state (R120, R146, R238, R271), and the reset of an instance (R115, R116). -/

namespace Sys2Proof.Machine

def updLogic (n : Nat) (f : Logic → Logic) (s : State) : State := updInst n (fun i => { i with lg := f i.lg }) s

/-- Drop a pending exchange, its command ABORTED (R266). -/
def dropExch (n d : Nat) (s : State) : State :=
  match (inst s n).lg.exch with
  | some x => replyTo x.cmd (aborted d) (updLogic n (fun l => { l with exch := none }) s)
  | none => s

/-- Drop a pending restart, its command ABORTED (R113). -/
def dropRestart (n d : Nat) (s : State) : State :=
  match (inst s n).restart with
  | some r => replyTo r.cmd (aborted d) (updInst n (fun i => { i with restart := none }) s)
  | none => s

/-! ## The saved state (R120) -/

/-- Pad to a multiple of 8 bytes. -/
def pad8 (b : List Byte) : List Byte := padTo ((b.length + 7) / 8 * 8) b

/-- SHA-384 of an image, or zeros where there is none. -/
def digestOf (b : Option (List Byte)) : List Byte := match b with
  | some x => sha384 x
  | none => zeros 48

/-- The table entry of a stream: svID, APPID, destination MAC, channel count. -/
def streamEntry (s : State) (x : Nat) : List Byte :=
  match tfind s.sv.streams x with
  | some t => sliceOf t.desc 0 130 ++ sliceOf t.desc 136 2 ++ sliceOf t.desc 130 6 ++ le 2 (sdChannels t.desc) ++ zeros 4
  | none => zeros 144

/-- A logic-state record (R271). -/
def logicRec (r : StRec) : List Byte :=
  let k := kindOf r.func
  le 4 r.ident ++ le 1 k ++ le 1 (if k = 1 then b2n r.run else if k = 3 then b2n r.init else 0) ++ le 2 0 ++
    le 4 (if k = 3 then b2n r.prev else r.val) ++ le 4 r.preset

/-- The state bytes of a slot (R238). -/
def slotBytes (type : Nat) (x : SlotSt) : List Byte :=
  let n := ((catalogue type).map (·.bytes)).getD 16
  (le 2 x.word ++ le 2 0 ++ le 4 x.rs.delay ++ le 4 (enc 32 x.rs.acc) ++ le 4 x.rs.aux ++ le 4 (enc 32 x.rs.mem0) ++
    le 4 (enc 32 x.rs.mem1)).take n

/-- An element-state record of R120. -/
def slotEntry (i : Inst) (r : Reserve) : List Byte :=
  let b := slotBytes r.type (tget {} i.el.slots r.slot)
  le 2 r.slot ++ le 2 r.type ++ le 4 b.length ++ b

/-- A spare loop's record of 32 bytes (R146). -/
def spareRec (j : Nat) (l : Spare) : List Byte :=
  le 1 j ++ le 1 (fval l.cfg lForm) ++ le 2 (b2n (l.holdCmd || l.wasHeld) + 2 * b2n l.limit) ++
    ([l.e1, l.e2, l.e3, l.u1, l.u2, l.u3].flatMap fun x => le 4 (enc 32 x)) ++ zeros 4

/-- The loops of its domain that an instance owns. -/
def ownLoops (i : Inst) : List Nat := bitList (fval i.cfg iSpare) 4

/-- The sections: type, record count, bytes. -/
def sections (s : State) (n : Nat) : List (Nat × Nat × List Byte) :=
  let i := inst s n
  let loops := ownLoops i
  [(1, 1, (List.range 512).map fun k => BitVec.ofNat 8 (i.lg.space >>> (8 * k))),
   (2, i.lg.recs.length, i.lg.recs.flatMap logicRec),
   (3, i.el.reserved.length, i.el.reserved.flatMap (slotEntry i)),
   (4, i.pubs.length, i.pubs.flatMap fun (e : Nat × Pub) => le 2 e.1 ++ zeros 2 ++ le 4 e.2.stNum.toNat ++ le 4 e.2.sqNum.toNat ++ zeros 4),
   (5, loops.length, loops.flatMap fun j => spareRec j (tget {} (dom s (instDom i)).spares j))]

/-- Section table and sections laid out from an offset. -/
def layout : Nat → List (Nat × Nat × List Byte) → List Byte × List Byte
  | _, [] => ([], [])
  | off, (t, c, b) :: r =>
    let p := pad8 b
    let (tab, dat) := layout (off + p.length) r
    (le 2 t ++ zeros 2 ++ le 4 off ++ le 4 b.length ++ le 4 c ++ tab, p ++ dat)

/-- The saved state of an instance at a freeze angle. -/
def savedState (s : State) (n : Nat) (angle : Word) : List Byte :=
  let i := inst s n
  let t := fullNow s
  let secs := sections s n
  let ns := i.streams.length
  let (tab, dat) := layout (192 + 144 * ns + 16 * secs.length) secs
  let body := (i.streams.flatMap (streamEntry s)) ++ tab ++ dat
  let total := 192 + body.length + 48
  let head := le 4 0x56535053 ++ le 2 1 ++ le 2 (b2n t.notTraceable) ++ le 4 total ++ le 2 n ++ le 1 (instDom i) ++
    le 1 (stepOf s (instDom i)) ++ le 4 (win s n).epoch.toNat ++ le 4 angle.toNat ++ le 6 t.sec ++ le 2 0 ++ le 4 t.ns ++
    padTo 16 Config.serial ++ digestOf i.el.img ++ digestOf (i.lg.prog.map (·.img)) ++ le 2 ns ++ le 2 secs.length ++ zeros 40
  let all := head ++ body
  all ++ sha384 all

/-- Bytes of a section of a saved state, and its record count. -/
def sectionOf (img : List Byte) (type : Nat) : List Byte × Nat :=
  let base := 192 + 144 * leAt img 148 2
  match (List.range (leAt img 150 2)).find? fun k => leAt img (base + 16 * k) 2 == type with
  | some k => (sliceOf img (leAt img (base + 16 * k + 4) 4) (leAt img (base + 16 * k + 8) 4), leAt img (base + 16 * k + 12) 4)
  | none => ([], 0)

/-- Check 1 of R121. -/
def savedOk (img : List Byte) : Bool :=
  leAt img 0 4 == 0x56535053 && leAt img 4 2 == 1 && leAt img 8 4 == img.length && sealed img

/-- The first position at which the stream tables differ (R121, check 4). -/
def streamMismatch (s : State) (i : Inst) (img : List Byte) : Option Nat :=
  let ns := leAt img 148 2
  let n := i.streams.length
  match (List.range (min ns n)).find? fun k =>
      sliceOf img (192 + 144 * k) 140 != (streamEntry s (i.streams.getD k 0)).take 140 with
  | some k => some k
  | none => if ns = n then none else some (min ns n)

/-- The checks of a saved state in their order (R121). -/
def restoreCheck (s : State) (n : Nat) (img : List Byte) : Option Reply :=
  let i := inst s n
  if !savedOk img then some untrusted
  else if sliceOf img 52 48 != digestOf i.el.img || sliceOf img 100 48 != digestOf (i.lg.prog.map (·.img)) then some stale
  else if leAt img 15 1 ≠ stepOf s (instDom i) then some stale
  else match streamMismatch s i img with
    | some k => some { stale with res0 := k, nres := 1 }
    | none => none

/-- Apply a logic-state record to the record of the same identity. -/
def applyLogicRec (b : List Byte) (recs : List StRec) : List StRec :=
  recs.map fun r =>
    if r.ident = leAt b 0 4 then
      let k := kindOf r.func
      { r with run := if k = 1 then bitOf (leAt b 5 1) 0 else r.run, init := if k = 3 then bitOf (leAt b 5 1) 0 else r.init,
               prev := if k = 3 then leAt b 8 4 != 0 else r.prev, val := if k = 3 then r.val else leAt b 8 4 }
    else r

/-- Records of a fixed length. -/
def chunks (len : Nat) : Nat → List Byte → List (List Byte)
  | 0, _ => []
  | n + 1, b => b.take len :: chunks len n (b.drop len)

/-- The element-state records of a section. -/
def elemRecs : Nat → List Byte → List (Nat × List Byte)
  | 0, _ => []
  | n + 1, b =>
    let len := leAt b 4 4
    (leAt b 0 2, sliceOf b 8 len) :: elemRecs n (b.drop (8 + len))

/-- Apply an element-state record to a slot. -/
def applySlot (b : List Byte) (x : SlotSt) : SlotSt :=
  { x with word := leAt b 0 2, seen := true,
           rs := { delay := leAt b 4 4, acc := sext 32 (leAt b 8 4), aux := leAt b 12 4, mem0 := sext 32 (leAt b 16 4),
                   mem1 := sext 32 (leAt b 20 4) } }

/-- Apply the saved logic state: every region but the latched ones, and the records (R271). -/
def applyLogic (img : List Byte) (l : Logic) : Logic :=
  let sp := unle (sectionOf img 1).1
  let space := putField l.space 1664 128 (bitsOf sp 1664 128)
  let space := putField space 1792 2304 (bitsOf sp 1792 2304)
  let space := holdBits.foldl (fun s a => putBit s a (bitOf sp a)) space
  { l with space := space, controls := bitsOf sp 1664 128, handed := bitsOf sp 1792 320,
           recs := (chunks 16 (sectionOf img 2).2 (sectionOf img 2).1).foldl (fun rs b => applyLogicRec b rs) l.recs }

/-- Apply a saved state to an instance (R122, R123, R146). -/
def applySaved (n : Nat) (img : List Byte) (s : State) : State :=
  let i := inst s n
  let pubs := chunks 16 (sectionOf img 4).2 (sectionOf img 4).1
  let loops := chunks 32 (sectionOf img 5).2 (sectionOf img 5).1
  let own := ownLoops i
  let s := updInst n (fun i =>
    { i with
      lg := applyLogic img i.lg
      el := { i.el with slots := (elemRecs (sectionOf img 3).2 (sectionOf img 3).1).foldl (fun t e => tupd t e.1 (applySlot e.2)) i.el.slots }
      pubs := pubs.foldl (fun t b => tupd t (leAt b 0 2) fun u =>
        { u with stNum := BitVec.ofNat 32 (leAt b 4 4), sqNum := BitVec.ofNat 32 (leAt b 8 4), sent := none }) i.pubs }) s
  let s := updDom (instDom i) (fun d => { d with spares := (loops.filter fun b => own.contains (leAt b 0 1)).foldl (fun t b =>
    let v (k : Nat) : Int := sext 32 (leAt b (4 + 4 * k) 4)
    tmod {} t (leAt b 0 1) fun l => { l with e1 := v 0, e2 := v 1, e3 := v 2, u1 := v 3, u2 := v 4, u3 := v 5, wasHeld := true,
                                             limit := bitOf (leAt b 2 2) 1 }) d.spares }) s
  let gone := (loops.filter fun b => !own.contains (leAt b 0 1)).length
  if gone = 0 then s else noteMod 0x0203 n noObj [gone] s

/-! ## Restart boundaries (R112, R121, R122, R124) -/

/-- Has every channel of the instance's streams been resampled for two cycles, without gap, SETTLING or INVALID (R122)? -/
def warmInputs (s : State) (n : Nat) : Bool :=
  let i := inst s n
  (refChannels s i).all fun c => match pairAt s c (instDom i) with
    | some p => decide (128 ≤ p.hist.length) && p.hist.all fun g => csqValid g.csq && !csqHas g.csq csqSettling
    | none => false

/-- A publication at a restart: a staged descriptor takes effect, and the next state is a new one (R281, R284). -/
def startPub (u : Pub) : Pub :=
  { u with desc := u.staged.getD u.desc, staged := none, live := true, sent := none, pending := none, hold := false, running := false }

/-- A subscription at a restart: a staged descriptor starts it anew. -/
def startSub (u : Sub) : Sub :=
  match u.staged with
  | some d => { desc := d, live := true }
  | none => { u with live := true }

/-- The element slots of a set as a restart makes them: state zero and word 0x8000, counters kept (R228, R238). -/
def startSlots (old : Tab SlotSt) (rs : List Reserve) : Tab SlotSt :=
  rs.foldl (fun t r =>
    let o := tget {} old r.slot
    tput t r.slot { evals := o.evals, blocked := o.blocked, mismatch := o.mismatch, overrun := o.overrun, logAt := o.logAt }) []

/-- An instance with its staged writes in effect (R9). -/
def applyStaged (i : Inst) : Inst :=
  { i with
    cfg := fdropStaged (fapply instFields i.cfg)
    streams := i.streamsStaged.getD i.streams
    streamsStaged := none
    el := { i.el with img := (match i.el.staged with
                        | some x => some x
                        | none => i.el.img), staged := none }
    pubs := tmap (fun _ u => startPub u) i.pubs
    subs := tmap (fun _ u => startSub u) i.subs }

/-- Place the staged program, the old one freed first (R260); none where no bank has room. -/
def placeStaged (s : State) (n : Nat) : Option Logic :=
  let l := (inst s n).lg
  match l.staged with
  | none => some l
  | some p =>
    let without := tmod {} s.insts n fun i => { i with lg := { i.lg with prog := none, recs := [] } }
    (placeProg without p).map fun b => { l with prog := some p, bank := b, staged := none, report := none }

/-- The staged class S keys of the spare loops an instance owns take effect at its restart (R160). -/
def startLoops (n : Nat) (s : State) : State :=
  let i := inst s n
  updDom (instDom i) (fun d => { d with spares := tmapD {} (fun j l =>
    if bitOf (fval i.cfg iSpare) j then { l with cfg := fapply loopFields l.cfg } else l) d.spares }) s

/-- Writes to the outputs of an instance that waited for its restart take effect (R9, R297). -/
def startOutputs (n : Nat) (s : State) : State :=
  (List.range 8).foldl (fun s k =>
    if ownerOf s k == some n && anyStaged (outp s k).cfg then updOut k (fun o => { o with cfg := fapply outFields o.cfg }) s else s) s

/-- The cause code of SLC_INST_STATUS (R127). -/
def restartCause (k : RestartKind) : Nat := match k with
  | .restart => 2
  | .boot => 2
  | .thaw => 5
  | .restore => 6

/-- The requesting slice of a change of state (R104, R437): the slice of the command behind it, else the module itself. -/
def askedBy (cmd : Option CmdId) : Nat := (cmd.map (·.slice)).getD noObj

/-- The instance runs from this boundary: staged writes in effect, the set admitted, logic and slots initialised, a saved
state applied; or the reason it is not admitted, with the state unchanged. -/
def startInst (n : Nat) (k : RestartKind) (img : List Byte) (slice : Nat) (s : State) : Except Nat State :=
  match placeStaged s n with
  | none => .error 2
  | some lg =>
    let t := updInst n (fun i => applyStaged { i with lg := lg }) s
    match admitSet t n (inst t n).el.img with
    | .error e => .error e
    | .ok plan =>
      let warm := k == .restore && (dom t (instDom (inst t n))).lock && warmInputs t n
      let resume := k == .thaw || k == .restore
      let t := updInst n (fun i =>
        { i with warm := warm, restart := none, captured := none, saved := false, svc := t.svc.state.code
                 el := { i.el with reserved := plan, resDom := instDom i, slots := startSlots i.el.slots plan }
                 lg := initLogic i.lg }) t
      let t := startOutputs n (startLoops n (syncPairs t))
      let t := if resume then applySaved n img t else t
      .ok (changeInst n .running (restartCause k) slice false t)

/-- The boundary a pending restart, thaw or restore acts at, where it is the next one to be dispatched. -/
def restartDue (s : State) (n : Nat) : Option (Restart × Tick) :=
  let i := inst s n
  match i.restart with
  | none => none
  | some r =>
    match (dom s (fread i.cfg iDomain)).boundary with
    | t :: _ =>
      if (match r.target with
          | some a => t.angle == a
          | none => decide (phcOf s r.start + 100 * us * 65536 ≤ t.t)) then some (r, t) else none
    | [] => none

/-- A restart boundary (R112). At pipeline start a failure leaves the instance HELD and is entered in the Chronicle
(R105). -/
def restartBoundary (n : Nat) (r : Restart) (s : State) : State :=
  match startInst n r.kind r.image (askedBy r.cmd) s with
  | .ok t =>
    let rep : Reply := if r.kind = .restore then withKey 1 (b2n (inst t n).warm) ok else ok
    replyTo r.cmd rep t
  | .error e =>
    let s := updInst n (fun i => { i with restart := none }) s
    let s := if r.kind = .boot then noteMod 0x0202 n noObj [e] (updInst n (fun i => { i with cause := 8 }) s) else s
    replyTo r.cmd (withKey 2 e nospace) s

/-! ## Hold and freeze (R103, R113, R118) -/

/-- The instance goes to HELD at the close of its step. -/
def holdInst (n : Nat) (cmd : Option CmdId) (s : State) : State :=
  replyTo cmd ok (changeInst n .held 1 (askedBy cmd) false (updInst n (fun i => { i with holdReq := none }) s))

/-- The freeze boundary: the instance goes to FROZEN and its state is captured. -/
def freezeInst (n : Nat) (angle : Word) (cmd : Option CmdId) (s : State) : State :=
  let s := changeInst n .frozen 4 (askedBy cmd) false s
  let b := savedState s n angle
  replyTo cmd { ok with res1 := some angle.toNat }
    (updInst n (fun i => { i with freezeReq := none, freezeAt := none, captured := some b, saved := false }) s)

/-- Holds that wait for the close of a step of a domain take effect. -/
def closeHolds (d : Nat) (s : State) : State :=
  (instNums s).foldl (fun s n =>
    match (inst s n).holdReq with
    | some c => if instDom (inst s n) = d ∧ (inst s n).st = .running then holdInst n c s else s
    | none => s) s

/-! ## Reset (R115, R116) -/

/-- The epoch after a reset. -/
def nextEpoch (w : Word) : Word := if w = 0xFFFFFFFF then 1 else w + 1

/-- The commands of a slice that a reset aborts. -/
def abortList (s : State) (n : Nat) : List CmdId := ((sliceCmds s n).filter (uncommitted s)).map (·.id)

/-- Commands from other slices that act on the instance: their freeze, save or restore ends (R117). -/
def dropOthers (n : Nat) (s : State) : State :=
  let s := dropExch n 1 (dropRestart n 1 s)
  let s := match (inst s n).freezeReq with
    | some c => replyTo c (aborted 1) (updInst n (fun i => { i with freezeReq := none, freezeAt := none }) s)
    | none => s
  match (inst s n).holdReq with
  | some c => replyTo c (aborted 1) (updInst n (fun i => { i with holdReq := none }) s)
  | none => s

/-- The evaluations of an instance in flight are discarded. -/
def dropJobs (n : Nat) (s : State) : State :=
  updLanes (fun p => { p with steps := tmap (fun _ r => { r with jobs := r.jobs.filter fun x => x.inst != n }) p.steps }) s

/-- A data write or ring write-back of a slice that has not been issued. -/
def heldData (n : Nat) (h : Held) : Bool :=
  match h with
  | .out (.dmaWrite m _ _) => m == n
  | .out (.rxData m _ _ _) => m == n
  | _ => false

/-- t0 of a reset: epoch, RESETTING, hold values, the slice's commands ABORTED, forces cleared. -/
def resetInst (n : Nat) (clear : Bool) (cmd : Option CmdId) (slice : Nat) (s : State) : State :=
  let s := updWin n (fun w => { w with epoch := nextEpoch w.epoch, resetStop := true }) s
  let ids := abortList s n
  let s := ids.foldl (fun s id => abortCmd id 1 s) (dropOthers n s)
  let s := dropJobs n (clearForces n slice { s with heldOut := s.heldOut.filter fun h => !heldData n h })
  let s := updInst n (fun i => { i with captured := none, saved := false,
                                        reset := some { clear := clear, start := s.clk, cmd := cmd, aborted := ids.length, unwritten := 0 } }) s
  edge n 4 (svcDrop n (changeInst n .resetting 3 slice false s))

/-- Completions of a slice that wait for a slot are discarded (R115 at t0 + 1 ms). -/
def discardWaiting (n : Nat) (s : State) : State :=
  let w := (sliceCmds s n).filter fun c => c.phase == .completing
  let s := w.foldl (fun s c => retire c.id (if c.reply.status = 6 then countAborted n s else s)) s
  updInst n (fun i => { i with reset := i.reset.map fun r => { r with unwritten := r.unwritten + w.length } }) s

/-- Every tag of the slice retires: what has committed keeps its effect, its completion unwritten. -/
def retireAll (n : Nat) (s : State) : State :=
  let k := (sliceCmds s n).length
  let s := (sliceCmds s n).foldl (fun s c => if committed s c then s else cancelCmd c.id s) s
  let s := { s with waits := s.waits.map fun w =>
    match w.cmd with
    | some c => if c.slice = n then { w with cmd := none } else w
    | none => w }
  let s := updCmds (fun l => l.filter fun c => c.id.slice != n) s
  updInst n (fun i => { i with reset := i.reset.map fun r => { r with unwritten := r.unwritten + k } }) s

/-- All four rings of a slice stop, and its translations go. -/
def clearSlice (n : Nat) (s : State) : State :=
  let lostTx := (win s n).txTail != (win s n).txHead
  let s := sqStop n (flushVport n s)
  let s := updWin n (fun w => { w with cfg := fset (fset w.cfg wRxEn 0) wTxEn 0, enabled := false,
                                       txDrop := if lostTx then w.txDrop + 1 else w.txDrop }) s
  let gone (r : Rd) : Bool := rdSlice r == n
  let s := updPcie (fun p => { p with reads := p.reads.filter fun r => !gone r, waitReads := p.waitReads.filter fun r => !gone r }) s
  { s with atu := { s.atu with entries := s.atu.entries.filter fun e => e.slice != n } }

/-- Kind CLEAR releases what the instance owns but its use of a domain (R100, R115, R207, R409); its loops return to their reset values (R146). -/
def releaseAll (n : Nat) (s : State) : State :=
  let i := inst s n
  let s := (List.range 8).foldl (fun s k => if bitOf (fval i.cfg iOutputs) k then holdOut k s else s) s
  let s := updDom (instDom i) (fun d => { d with spares := (ownLoops i).foldl (fun t j => tdel t j) d.spares }) s
  let s := updFilt (fun f => { f with dets := tmapD {} (fun _ x =>
    if fval x.cfg tdOwner = n then { x with cfg := fset x.cfg tdEnable 0, state := false, run := 0, event := none } else x) f.dets }) s
  syncPairs (clearRecs n (updInst n (fun i =>
    { reset := i.reset, st := i.st, cause := i.cause, cfg := fset {} iDomain (instDom i) }) s))

/-- The end of a reset (R115). -/
def resetEnd (n : Nat) (r : ResetRun) (s : State) : State :=
  let configured := (inst s n).st != .empty && !r.clear
  let s := clearSlice n (retireAll n s)
  let un := match (inst s n).reset with
    | some x => x.unwritten
    | none => 0
  let s := if r.clear then releaseAll n s else s
  let s := updInst n (fun i => { i with reset := none }) s
  let s := changeInst n (if configured then .held else .empty) 3 (askedBy r.cmd) false s
  replyTo r.cmd { withKey 1 (r.aborted % 65536 + un % 65536 * 65536) ok with res1 := some (win s n).epoch.toNat } s

end Sys2Proof.Machine
end

