-- ==== Sys2Proof/Machine/Angle.lean ====
section
/-! DEFINITION. The angle commands (R139, R145, R150 to R160), the write of ANG_CTRL, and the events of a domain
(R133, R141 to R143, R155). -/

namespace Sys2Proof.Machine

/-! ## Writes to a domain's fields (R152, R156, R159, R233) -/

/-- Change class: the domain runs, or is HELD and every write waits. -/
def domMode (d : Dom) : Mode := if d.held then .held else .run

/-- FMIN ≤ FNOM ≤ FMAX, of the values in effect and of those a read returns (R130). -/
def limitsOk (c : Cfg) : Bool :=
  decide (rawOf (fval c aFmin) ≤ fval c aFnom) && decide (fval c aFnom ≤ rawOf (fval c aFmax)) &&
    decide (rawOf (fread c aFmin) ≤ fread c aFnom) && decide (fread c aFnom ≤ rawOf (fread c aFmax))

/-- The first entry, written in order, that breaks it. -/
def limitsBad (mode : Desc → Mode) : List Param → Cfg → Option Nat
  | [], _ => none
  | p :: t, c =>
    match writeKeys angFields mode [p] c false with
    | .ok (c', _) => if limitsOk c' then limitsBad mode t c' else some p.idx
    | .error _ => none

/-- A raised FMAX leaves the reserved load within the rule of R232. -/
def fmaxFits (s : State) (d : Nat) (c : Cfg) : Bool :=
  decide (fread c aFmax ≤ fread (dom s d).cfg aFmax) ||
    loadFits s s.insts (fun x => if x = d then fread c aFmax else fmaxOf s x) (stepOf s)

/-- ANG_STATUS (R157). -/
def angStatus (s : State) (n : Nat) : Nat :=
  let d := dom s n
  d.mode.code + b2n d.lock * 8 + b2n d.fd * 16 + b2n d.setB * 32 + b2n d.aOk * 64 + b2n d.bOk * 128 + b2n d.clamped * 256 +
    b2n d.held * 512 + b2n (anyStaged d.cfg) * 1024 + b2n (waiting (.domRestart n) s) * 2048 + b2n d.wrDenied * 4096 +
    b2n d.coastTimeout * 8192 + b2n d.aligned * 16384

/-- A write to a word of a domain's block: RW fields as one word, or W1C bits of STATUS. In a pair the fields cannot be
written so (R156). -/
def angWrite (n off v : Nat) (s : State) : State :=
  let d := dom s n
  if off = 4 then
    updDom n (fun d => { d with wrDenied := d.wrDenied && !bitOf v 12, coastTimeout := d.coastTimeout && !bitOf v 13,
                                aligned := d.aligned && !bitOf v 14 }) s
  else if (changedFields angFields d.cfg off v).isEmpty then s
  else if !s.tdm.standalone then updDom n (fun d => { d with wrDenied := true }) s
  else match regWrite angFields (fun _ => domMode d) (fun c => limitsOk c && fmaxFits s n c && arcFits s n c) off v d.cfg with
    | some c =>
      let s' := updDom n (fun d => { d with cfg := c }) s
      if pairsFit s' then syncPairs s' else updDom n (fun d => { d with wrDenied := true }) s
    | none => updDom n (fun d => { d with wrDenied := true }) s

def execAngCtrlHold (d value : Nat) (s : State) : Res :=
  .next (if hostUp s && decide (d < 16) then angWrite d 0 value s else s)

/-! ## Domain commands -/

/-- An instance slice may name its own domain only. -/
def ownDomain (s : State) (c : Cmd) (k : Ans) : Ans :=
  require (fromAdmin c || instDom (inst s c.id.slice) == argD c 1 0) (denied 2) k

def execAngleDomainGet (r : CmdId) (s : State) : Res :=
  feljo 0x0301 r (fun c s => ownDomain s c
    (.done s (withOut (keyList angFields (dom s (argD c 1 0)).cfg) { okOrStaged (anyStaged (dom s (argD c 1 0)).cfg) with res0 := angStatus s (argD c 1 0) }))) s

def domainSet (c : Cmd) (s : State) : Ans :=
  let n := argD c 1 0
  let d := dom s n
  match writeKeys angFields (fun _ => domMode d) (c.params.filter fun p => p.key != 1) d.cfg false with
  | .error r => .fail r
  | .ok (cfg, stg) =>
    match limitsBad (fun _ => domMode d) (c.params.filter fun p => p.key != 1) d.cfg with
    | some i => .fail (badarg i)
    | none =>
    if !fmaxFits s n cfg || !arcFits s n cfg then .fail nospace
    else withPairs (updDom n (fun d => { d with cfg := cfg }) s) (okOrStaged stg)

def execAngleDomainSet (r : CmdId) (s : State) : Res :=
  feljo 0x0302 r (fun c s => adminOnly c (notBootHalted s (carried c s domainSet))) s

/-- Does an instance of the domain run, or wait for a boundary (R153)? -/
def domBusy (s : State) (n : Nat) : Bool :=
  s.insts.any fun e => (instDoms e.2).contains n && (e.2.st == .running || e.2.restart.isSome)

def domainHold (c : Cmd) (s : State) : Ans :=
  let n := argD c 1 0
  require (!domBusy s n) (denied 4)
    (if (dom s n).held then .done s ok else .wait (addWait (.domHold n) (some c.id) s))

def execAngleDomainHold (r : CmdId) (s : State) : Res :=
  feljo 0x0303 r (fun c s => adminOnly c (notBootHalted s (carried c s domainHold))) s

/-- The first position of a reference set that leaves it malformed (R133), judged on the values a read returns. -/
def setMalformed (c : Cfg) (x : Nat) : Option Nat :=
  let named (i : Nat) : Bool := fread c (aRef x i) != 0x3FFF
  if named 0 then (if named 1 = named 2 then none else some 2)
  else if named 1 then some 1 else if named 2 then some 2 else none

/-- Set and position of the first offence. -/
def refsMalformed (c : Cfg) : Option (Nat × Nat) :=
  match setMalformed c 0 with
  | some i => some (0, i)
  | none => (setMalformed c 1).map fun i => (1, i)

def domainRestart (c : Cmd) (s : State) : Ans :=
  let n := argD c 1 0
  let cfg := (dom s n).cfg
  if waiting (.domRestart n) s then .fail busy
  else match refsMalformed cfg with
    | some (x, i) => .fail (withKey (aRef x i).key (fread cfg (aRef x i)) (badarg (argIdx c 1)))
    | none =>
      require (fval cfg aStep == fread cfg aStep ||
          loadFits s s.insts (fmaxOf s) (fun x => if x = n then fread cfg aStep else stepOf s x)) nospace
        (.wait (addWait (.domRestart n) (some c.id) s))

def execAngleDomainRestart (r : CmdId) (s : State) : Res :=
  feljo 0x0304 r (fun c s => adminOnly c (notBootHalted s (carried c s domainRestart))) s

def loopHold (c : Cmd) (s : State) : Ans :=
  let n := argD c 1 0
  let h := argD c 2 0
  .wait (addWait (.loopHold n (h == 1)) (some c.id) (updDom n (fun d => { d with cfg := fset d.cfg aHold h }) s))

def execAngleLoopHold (r : CmdId) (s : State) : Res :=
  feljo 0x0305 r (fun c s => adminOnly c (notBootHalted s (carried c s loopHold))) s

/-! ## Conversion (R150, R151) -/

/-- The time nearest to now whose TS32 is given, in 2^-16 ns. -/
def nearTs (s : State) (w : Word) : Nat := (((s.time.n / 65536 : Nat) : Int) + stampDiff w (ts32 s)).toNat * 65536

/-- The status of a conversion: NOTLOCKED keeps its result. -/
def convStatus (d : Dom) (r : Reply) : Reply := if convLocked d then r else { r with status := 9 }

def angleConvert (c : Cmd) (s : State) : Ans :=
  let d := dom s (argD c 1 0)
  let w := BitVec.ofNat 32 (argD c 3 0)
  if argD c 2 0 = 0 then
    match angleTime d w with
    | .at t =>
      let f := fullAt s t
      .done s (convStatus d { res0 := f.sec, res1 := some f.ns, notTraceable := f.notTraceable })
    | .tooFar => .fail (badarg (argIdx c 3))
    | .tooOld => .fail stale
  else
    match timeAngle d (nearTs s w) with
    | .at a => .done s (convStatus d { res0 := a.toNat })
    | .tooFar => .fail (badarg (argIdx c 3))
    | .tooOld => .fail stale

def execAngleConvert (r : CmdId) (s : State) : Res := feljo 0x0306 r (fun c s => ownDomain s c (angleConvert c s)) s

/-! ## Spare loops (R145, R158, R160) -/

/-- The loop of an instance, or DENIED where the instance does not own it. -/
def ownLoop (s : State) (c : Cmd) (k : Ans) : Ans :=
  require (bitOf (fval (inst s (instOf c)).cfg iSpare) (argD c 2 0)) (denied 4) k

def spareAt (s : State) (c : Cmd) : Spare := tget {} (dom s (instDom (inst s (instOf c)))).spares (argD c 2 0)

def updSpare (d j : Nat) (f : Spare → Spare) (s : State) : State :=
  updDom d (fun x => { x with spares := tmod {} x.spares j f }) s

/-- Is the loop's channel one of a stream its instance references? -/
def loopChanOk (s : State) (n : Nat) (cfg : Cfg) : Bool :=
  fread cfg lChan == 0x3FFF || (instChans s (inst s n)).contains (fread cfg lChan)

/-- The block of a loop's class S keys is the owning instance; its class L keys act at once (R138, R160). -/
def loopMode (i : Inst) (d : Desc) : Mode := if d.cls = .staged ∧ i.st ≠ .running then .held else .run

def spareSet (c : Cmd) (s : State) : Ans :=
  let n := instOf c
  let i := inst s n
  let l := spareAt s c
  ownLoop s c
    (match writeKeys loopFields (loopMode i) (c.params.filter fun p => 2 < p.key) l.cfg false with
    | .error r => .fail r
    | .ok (cfg, stg) =>
      if !loopChanOk s n cfg then .fail (badarg (argIdx c 3))
      else if sext 32 (fread cfg lMax) ≤ sext 32 (fread cfg lMin) then
        .fail (badarg (if arg c 0x0E = none then argIdx c 0x0F else argIdx c 0x0E))
      else withPairs (updSpare (instDom i) (argD c 2 0) (fun l => { l with cfg := cfg }) s) (okOrStaged stg))

def execAngleSpareSet (r : CmdId) (s : State) : Res :=
  feljo 0x0307 r (fun c s => notBootHalted s (carried c s spareSet)) s

def execAngleSpareGet (r : CmdId) (s : State) : Res :=
  feljo 0x0308 r (fun c s => ownLoop s c
    (.done s (withOut (spareRec (argD c 2 0) (spareAt s c) ++ keyList loopFields (spareAt s c).cfg) (okOrStaged (anyStaged (spareAt s c).cfg))))) s

def spareHold (c : Cmd) (s : State) : Ans :=
  ownLoop s c (.wait (addWait (.spareHold (instDom (inst s (instOf c))) (argD c 2 0) (argD c 3 0 == 1)) (some c.id) s))

def execAngleSpareHold (r : CmdId) (s : State) : Res :=
  feljo 0x0309 r (fun c s => notBootHalted s (carried c s spareHold)) s

/-! ## Events of a domain -/

/-- A restart whose target angle lies in a domain whose grid is aligned completes STALE (R142). -/
def staleTargets (d : Nat) (s : State) : State :=
  (instNums s).foldl (fun s n =>
    match (inst s n).restart with
    | some r =>
      if r.target.isSome && fread (inst s n).cfg iDomain == d then replyTo r.cmd stale (updInst n (fun i => { i with restart := none }) s)
      else s
    | none => s) s

/-- The end of an acquisition pass (R142): an alignment resets every pair of the domain. -/
def execAcquisitionPass (d : Nat) (s : State) : Res :=
  let x := dom s d
  if passDone x then
    let (y, aligned) := acquirePass x
    let span := ((s.filt.pairs.filter fun p => p.dom == d).map fun p => chanSpan s p.chan).foldl max 0
    let next := (y.ahead.getLast?.map (·.k)).getD 0
    let s := updDom d (fun _ => if aligned then { y with settleTo := next + 63 + span } else y) s
    .next (if aligned then domReset d ((y.ahead.getLast?.map (·.t)).getD 0) (staleTargets d s) else s)
  else .next s

/-- Eight cycles in TRACK within LOCK_E (R141). -/
def execLockSet (d : Nat) (s : State) : Res :=
  let x := dom s d
  .next (if x.mode == .track && !x.lock && decide (512 ≤ x.lockRun) then
    updDom d (fun x => { x with lock := true, everLock := true }) s else s)

/-- A HOLD of COAST_MAX cycles loses LOCK (R141). -/
def execHoldLockTimeout (d : Nat) (s : State) : Res :=
  let x := dom s d
  .next (if x.mode == .hold && x.lock && decide (fval x.cfg aCoastMax * 64 ≤ x.holdRun) then
    updDom d (fun x => { x with lock := false }) s else s)

/-- COAST ends: TRACK with a set valid, else GLIDE (R140). -/
def endCoast (x : Dom) : Dom := if x.aOk || x.bOk then enterTrack x else enterGlide x (lastRate x)

/-- COAST_MAX cycles in COAST (R143); the detector goes on. -/
def execCoastTimeout (d : Nat) (s : State) : Res :=
  let x := dom s d
  .next (if x.mode == .coast && decide (fval x.cfg aCoastMax * 64 ≤ x.coastRun) then
    updDom d (fun x => endCoast { x with coastTimeout := true }) s else s)

/-- The detector has been clear for HOLDOFF cycles (R143). -/
def execHoldoffExpiry (d : Nat) (s : State) : Res :=
  let x := dom s d
  .next (if x.fd && decide (fval x.cfg aHoldoff * 64 ≤ x.fdClear) then
    updDom d (fun x =>
      let y := { x with fd := false, fdRun := [], fdClear := 0 }
      if x.mode == .coast then endCoast y else y) s else s)

/-- Set A has been valid for a cycle (R133), or a set for a cycle in GLIDE (R140). -/
def execRefSetResume (d : Nat) (s : State) : Res :=
  let x := dom s d
  .next (if x.setB && decide (64 ≤ x.aRun) then updDom d (fun x => { x with setB := false, bumpless := true, switched := true, fdRun := [] }) s
    else if x.mode == .glide && decide (64 ≤ x.anyRun) then updDom d (fun x => enterAcquire x (!x.everLock)) s
    else s)

/-- The fields whose change starts a domain anew (R155). -/
def anewFields : List Desc :=
  [aTrack, aRef 0 0, aRef 0 1, aRef 0 2, aRef 1 0, aRef 1 1, aRef 1 2, aRefOff 0, aRefOff 1]

/-- A domain restart takes effect at its cycle boundary. -/
def restartDomain (d : Nat) (s : State) : State :=
  let x := dom s d
  let changed (f : Desc) : Bool := fread x.cfg f != fval x.cfg f
  let anew := anewFields.any changed
  let form := changed aForm
  let t := (x.ahead.head?.map (·.t)).getD s.time.n
  let y := { x with cfg := fdropStaged (fapply angFields x.cfg), held := false }
  let s :=
    if anew then
      refillRecs d <| domReset d t (updDom d (fun _ => { startGrid y t with boundary := [], everLock := false })
        (updLanes (fun p => { p with bounds := tdel p.bounds d }) s))
    else updDom d (fun _ => { y with bumpless := y.bumpless || form, f := if y.mode = .free then fval y.cfg aFnom else y.f }) s
  finishWaits (.domRestart d) ok (syncPairs s)

def execDomainRestartBoundary (d : Nat) (s : State) : Res := .next (if domRestartDue s d then restartDomain d s else s)

end Sys2Proof.Machine
end

