-- ==== Sys2Proof/Machine/Archive.lean ====
section
/-! DEFINITION. The Archive commands (R418, R419) and events (R396 to R416). -/

namespace Sys2Proof.Machine

/-! ## Judgements -/

/-- Accepted in every service state but BOOT; of those that are not, HALTED refuses what is neither a read nor a folio or
room command (R418). -/
def arcService (s : State) (halted : Bool) (k : Ans) : Ans :=
  require (s.svc.state != .boot && (halted || s.svc.state != .halted)) (denied 1) k

/-- The recorder exists and belongs to the slice (R418). -/
def withRec (c : Cmd) (s : State) (missing : Reply) (k : Recorder → Ans) : Ans :=
  match tfind s.arc.recs (argD c 1 0) with
  | some r => if fromAdmin c || rdOwner r.desc == c.id.slice then k r else .fail (denied 2)
  | none => .fail missing

/-- The folio is closed and may be read by the slice. -/
def folioOk (c : Cmd) (s : State) (n : Nat) : Except Reply Folio :=
  match tfind s.arc.folios n with
  | some f => if !f.closed then .error stale else if fromAdmin c || f.owner == c.id.slice then .ok f else .error (denied 2)
  | none => .error stale

/-! ## Recorders -/

/-- The bytes of the class X fields. -/
def rdLocked (d : List Byte) : List Byte := d.take 12 ++ sliceOf d 32 2 ++ sliceOf d 40 (rdTrigOff d - 40)

/-- POST, SEGS and FLAGS: class S. -/
def rdStaged (d : List Byte) : List Byte := sliceOf d 12 7

/-- A descriptor for a running recorder: class L in effect at once, class S at the next arm. -/
def recWrite (old : Recorder) (d : List Byte) : Recorder :=
  if rdStaged d = rdStaged old.desc then { old with desc := d, staged := none }
  else { old with desc := patch d 12 (rdStaged old.desc), staged := some d }

def recorderSet (c : Cmd) (s : State) : Ans :=
  let r := argD c 1 0
  let d := c.input
  let old := tfind s.arc.recs r
  let mine := match old with
    | some o => fromAdmin c || rdOwner o.desc == c.id.slice
    | none => true
  if !mine then .fail (denied 2)
  else match rdBad s r d with
    | some _ => .fail (badarg 0xFFFE)
    | none =>
      if !fromAdmin c && rdOwner d != c.id.slice then .fail (badarg 0xFFFE)
      else match old with
        | none => .done (updArc (fun a => { a with recs := tput a.recs r { desc := d } }) s) ok
        | some o =>
          if o.st = .held then .done (updRec r (fun x => { x with staged := some d }) s) stagedR
          else if rdLocked d ≠ rdLocked o.desc then .fail (denied 3)
          else .done (updRec r (fun _ => recWrite o d) s) (okOrStaged (recWrite o d).staged.isSome)

def execArchiveRecorderSet (r : CmdId) (s : State) : Res :=
  feljo 0x0C01 r (fun c s => arcService s false (recorderSet c s)) s

def execArchiveRecorderGet (r : CmdId) (s : State) : Res :=
  feljo 0x0C02 r (fun c s => arcService s true
    (withRec c s stale fun x => .done s (withOut (x.staged.getD x.desc) (okOrStaged x.staged.isSome)))) s

def execArchiveRecorderArm (r : CmdId) (s : State) : Res :=
  feljo 0x0C03 r (fun c s => arcService s false
    (withRec c s stale fun x => require (x.st == .held) stale
      (match armRec (argD c 1 0) s with
        | .ok s' => .done s' ok
        | .error k => .fail (withKey 2 k nospace)))) s

def execArchiveRecorderHold (r : CmdId) (s : State) : Res :=
  feljo 0x0C04 r (fun c s => arcService s false (withRec c s stale fun _ => .done (holdRec (argD c 1 0) s) ok)) s

def execArchiveRecorderDelete (r : CmdId) (s : State) : Res :=
  feljo 0x0C05 r (fun c s => arcService s false
    (withRec c s (denied 4) fun x => require (x.st == .held) (denied 4)
      (.done (updArc (fun a => { a with recs := tdel a.recs (argD c 1 0) }) s) ok))) s

/-- `archive.trigger`: a trigger of type 4 whose instant is the command's execution. A trigger that finds no capacity
fails NOSPACE and, as every failing command, leaves no trace (R75). -/
def archiveTrigger (c : Cmd) (s : State) : Ans :=
  let r := argD c 1 0
  withRec c s stale fun x => require (x.st == .armed) stale
    (let t : Trig := { recorder := r, cause := 8, t := s.time.n, notTraceable := !s.time.traceable }
     let s' := acceptTrig t s
     match (tfind s'.arc.recs r).bind (·.cur) with
     | some y => .done s' { ok with res0 := y.folio }
     | none => .fail nospace)

def execArchiveTrigger (r : CmdId) (s : State) : Res :=
  feljo 0x0C06 r (fun c s => arcService s false (archiveTrigger c s)) s

/-! ## Status (R417) -/

/-- ARC_STATUS. -/
def arcStatus (s : State) : Nat :=
  inProgress s % 128 + (s.arc.recs.filter fun e => recRuns e.2).length % 512 * 256 + b2n s.arc.full * 131072 +
    b2n s.arc.ignored * 262144 + b2n s.arc.recycled * 524288 + b2n s.arc.wrDenied * 1048576

/-- Closed folios held. -/
def foliosHeld (s : State) : Nat := (s.arc.folios.filter fun e => e.2.closed).length

/-- ARC_BW: the budget in use in MB/s, and the ceiling. -/
def arcBw (s : State) : Nat := shown 2 (arcLoad s (armedDescs s)) 100000000 % 65536 + 0x3200 * 65536

def arcCounts (s : State) : List Nat := (List.range 10).map fun i => (tget 0 s.arc.counts i).toNat

def execArchiveStatusGet (r : CmdId) (s : State) : Res :=
  feljo 0x0C07 r (fun _ s => arcService s true
    (.done s (withOut (([pagesFree s, foliosHeld s, arcBw s] ++ arcCounts s).flatMap (le 4)) { ok with res0 := arcStatus s }))) s

/-! ## Folios and the reading room (R415, R416) -/

/-- A record of `archive.folio.list`: bytes 12 to 35 and 44 to 47 of the folio, and a word. -/
def listRec (s : State) (n : Nat) (f : Folio) : List Byte :=
  let b := folioBody n { f with rows := [] }
  let rows := le 4 f.rows.length
  sliceOf (patch b 28 rows) 12 24 ++ sliceOf b 44 4 ++ le 4 (b2n f.keep + b2n (openInRoom s n) * 2)

def execArchiveFolioList (r : CmdId) (s : State) : Res :=
  feljo 0x0C08 r (fun c s => arcService s true
    (let l := s.arc.folios.filter fun e => e.2.closed && decide (argD c 2 0 ≤ e.1) && (fromAdmin c || e.2.owner == c.id.slice)
     .done s (withOut ((l.take (argD c 3 1)).flatMap fun (e : Nat × Folio) => listRec s e.1 e.2) ok))) s

def folioRelease (c : Cmd) (s : State) : Ans :=
  let ns := (List.range (argD c 3 1)).map fun i => argD c 2 0 + i
  let bad := ns.findSome? fun n => match folioOk c s n with
    | .error e => some e
    | .ok _ => none
  match bad with
  | some e => .fail e
  | none =>
    if ns.any (openInRoom s) then .fail busy
    else .done (updArc (fun a => { a with folios := ns.foldl (fun t n => tdel t n) a.folios }) s) ok

def execArchiveFolioRelease (r : CmdId) (s : State) : Res :=
  feljo 0x0C09 r (fun c s => arcService s true (folioRelease c s)) s

def execArchiveFolioKeep (r : CmdId) (s : State) : Res :=
  feljo 0x0C0A r (fun c s => arcService s true
    (match folioOk c s (argD c 2 0) with
      | .ok _ => .done (updFolio (argD c 2 0) (fun f => { f with keep := argD c 3 0 == 1 }) s) ok
      | .error e => .fail e)) s

/-- Total length of a folio held. -/
def folioLen (f : Folio) : Nat := totalLen f.nch f.nsig f.rowBytes f.rows.length

def roomOpen (c : Cmd) (s : State) : Ans :=
  let w := argD c 2 0
  let o := argD c 4 0
  if thas s.arc.room w then .fail busy
  else match folioOk c s (argD c 3 0) with
    | .error e => .fail e
    | .ok f =>
      if folioLen f ≤ o * 65536 then .fail (badarg (argIdx c 4))
      else .done (updArc (fun a => { a with room := tput a.room w { folio := argD c 3 0, off := o, slice := c.id.slice } }) s)
        { ok with res0 := min (folioLen f - o * 65536) 0x1000000 }

def execArchiveRoomOpen (r : CmdId) (s : State) : Res :=
  feljo 0x0C0B r (fun c s => arcService s true (roomOpen c s)) s

def execArchiveRoomClose (r : CmdId) (s : State) : Res :=
  feljo 0x0C0C r (fun c s => arcService s true
    (match tfind s.arc.room (argD c 2 0) with
      | some w => require (fromAdmin c || w.slice == c.id.slice) (denied 2)
          (.done (updArc (fun a => { a with room := tdel a.room (argD c 2 0) }) s) ok)
      | none => .done s ok)) s

def execArchiveConfigSet (r : CmdId) (s : State) : Res :=
  feljo 0x0C0D r (fun c s => adminOnly c (arcService s false
    (.done (updArc (fun a => { a with recycle := argD c 2 0 == 1 }) s) ok))) s

def execArchiveCountersClear (r : CmdId) (s : State) : Res :=
  feljo 0x0C0E r (fun c s => adminOnly c (arcService s false (.done (updArc (fun a => { a with counts := [] }) s) ok))) s

/-! ## Events -/

/-- A row is written once its inputs are final (R396). -/
def archiveRow (r : Nat) (s : State) : State :=
  match tfind s.arc.recs r with
  | some c =>
    if !recRuns c then s
    else match if rdKind c.desc = 0 then rawRow s c else gridRow s c with
      | some x => writeRow r c x s
      | none => s
  | none => s

def execArchiveRow (rec_ : Nat) (s : State) : Res := .next (archiveRow rec_ s)

/-- The oldest trigger that can be judged reaches its recorder (R399, R401). -/
def execTriggerAccept (s : State) : Res :=
  .next (match pickTrig s s.arc.trigs with
    | some (t, rest) => acceptTrig t (updArc (fun a => { a with trigs := rest }) s)
    | none => s)
where
  /-- The first judgeable trigger, and the others. -/
  pickTrig (s : State) : List Trig → Option (Trig × List Trig)
    | [] => none
    | t :: l => if judgeable s t then some (t, l) else (pickTrig s l).map fun x => (x.1, t :: x.2)

/-- An ARMED recorder quiet for AUTO_TIMEOUT triggers itself with type 7 (R403). -/
def autoTrigger (r : Nat) (s : State) : State :=
  match tfind s.arc.recs r with
  | some c =>
    if c.st = .armed ∧ rdFlag c.desc 2 ∧ c.quietFrom + rdAuto c.desc * ms ≤ s.clk then
      let s := arcCount 8 (updRec r (fun c => { c with quietFrom := s.clk }) s)
      acceptTrig { recorder := r, cause := 11, t := s.time.n, notTraceable := !s.time.traceable } s
    else s
  | none => s

def execAutoTimeout (rec_ : Nat) (s : State) : Res := .next (autoTrigger rec_ s)

/-- The recorder whose recording's last folio this is: it ends with the folio, unless further segments may come. -/
def folioEnds (s : State) (n : Nat) : Option Nat :=
  (s.arc.recs.find? fun e => match e.2.cur with
    | some x => x.folio == n && x.between && (decide (rdSegs e.2.desc ≤ x.segs) || x.stop)
    | none => false).map Prod.fst

def execFolioClose (folio : Nat) (s : State) : Res :=
  .next (match tfind s.arc.folios folio with
    | some f =>
      if f.full && !f.closed then
        let s := closeFolio folio s
        match folioEnds s folio with
        | some r => endRecording r s
        | none => s
      else s
    | none => s)

/-- A read of 4 bytes of BAR2 (R415): folio bytes through an open window, all ones and an access error where none is open
or the read crosses a 4 KiB boundary. -/
def roomRead (off : Nat) (s : State) : State :=
  match tfind s.arc.room (off / 0x1000000) with
  | some w =>
    if 4092 < off % 4096 then emit (.room (List.replicate 4 255)) (accessError true false off s)
    else match tfind s.arc.folios w.folio with
      | some f => emit (.room (padTo 4 (sliceOf (folioBytes w.folio f) (w.off * 65536 + off % 0x1000000) 4))) s
      | none => emit (.room (zeros 4)) s
  | none => emit (.room (List.replicate 4 255)) (accessError true false off s)

def execReadingRoomRead (off : Nat) (s : State) : Res := .next (if hostUp s then roomRead off s else s)

/-- The event of a threshold detector reaches the Archive (R207, R399). -/
def execThresholdDetectorEvent (i : Nat) (s : State) : Res :=
  .next (match tfind s.filt.dets i with
    | some d =>
      match d.event with
      | some (up, _, t) =>
        offerEvent 3 i up t (!s.time.traceable) (updFilt (fun f => { f with dets := tmod {} f.dets i fun d => { d with event := none } }) s)
      | none => s
    | none => s)

end Sys2Proof.Machine
end

