-- ==== Sys2Proof/Machine/PortOps.lean ====
section
/-! DEFINITION. Shared operations of the transmit rings (R95, R96, R108, R388) and of a port's link (R338, R357). -/

namespace Sys2Proof.Machine

/-! ## Transmit write-backs (R95) -/

/-- Bytes 16 to 31 of a write-back; bytes 0 to 15 stand unchanged. -/
def txWb (status flags reason ts : Nat) : List Byte := le 1 status ++ le 1 flags ++ le 2 reason ++ le 4 ts ++ zeros 7 ++ le 1 1

/-- Stop a transmit ring after a fault (R108). -/
def txStop (n : Nat) (s : State) : State := ringErr n (updWin n (fun w => { w with cfg := fset w.cfg wTxEn 0 }) s)

/-- Write back one descriptor. -/
def txWriteBack (n i : Nat) (b : List Byte) (s : State) : State :=
  let a := txAddr (win s n) i + 16
  match atuCheck s n a 16 true with
  | some (k, x) => txStop n (atuFault n k x true 5 0 s)
  | none => post (.dmaWrite n (busAddr s n a) b) s

/-- Write back `k` descriptors from index `i`: the last carries the frame's result, the others DONE alone. -/
def txWriteBacks (n : Nat) (last : List Byte) : Nat → Nat → State → State
  | _, 0, s => s
  | i, 1, s => txWriteBack n i last s
  | i, k + 1, s => txWriteBacks n last ((i + 1) % ringLen (fval (win s n).cfg wTxLog2)) k (txWriteBack n i (txWb 0 0 0 0) s)

/-- A transmit frame's descriptors are done. -/
def txDone (n i k : Nat) (last : List Byte) (s : State) : State := edge n 2 (txWriteBacks n last i k s)

/-- A transmit frame is dropped (R96). -/
def txDrop (n i k reason : Nat) (s : State) : State :=
  txDone n i k (txWb 1 0 reason 0) (updWin n (fun w => { w with txDrop := w.txDrop + 1 }) s)

/-- Does a copy belong to a transmit descriptor? -/
def ofTx (r : TxRef) (q : Copy) : Bool := q.tx == some r

/-- Is a physical copy of the descriptor's frame queued? -/
def txQueued (s : State) (r : TxRef) : Bool :=
  s.sw.eg.any fun e => decide (e.1 < 48) && e.2.queues.any fun q => q.2.any (ofTx r)

/-- The descriptor's stamp has reached it, or will not: its write-back (R388). -/
def txAnswer (r : TxRef) (stamp : Option (Nat × Bool)) (s : State) : State :=
  let b := match stamp with
    | some (t, nt) => txWb 0 (1 + b2n nt * 2) 0 (ts32At t).toNat
    | none => txWb 0 0 0 0
  txDone r.slice r.idx 1 b (updSw (fun w => { w with txWait := w.txWait.filter fun x => x != r }) s)

/-- Descriptors whose frames have lost every physical copy unsent are written back without a stamp. -/
def txSettle (s : State) : State :=
  (s.sw.txWait.filter fun r => !txQueued s r).foldl (fun s r => txAnswer r none s) s

/-! ## Link -/

/-- Time of one byte at a resolved speed, in 0.1 ns. -/
def byteTime (speed : Nat) : Nat :=
  match speed with
  | 0 => 800
  | 1 => 80
  | 2 => 32
  | _ => 8

/-- Time of `n` bytes on a port, in ns, rounded up. -/
def wireTime (s : State) (p n : Nat) : Nat := ceilDiv (n * byteTime (port s p).speedAct) 10

/-- The transmitter of a port sends a frame (R357, R361). -/
def busyTx (s : State) (p : Nat) : Bool := decide (s.clk < (port s p).busyUntil) || decide (s.clk < (port s p).exprUntil)

/-- The link goes down (R357): the queues freeze, and a copy in transmission is lost and counted in LINKDOWN. -/
def linkLost (p : Nat) (s : State) : State :=
  if (port s p).link then
    let s := if busyTx s p then count p 15 s else s
    updPort p (fun q =>
      { q with link := false, frozen := true, frozenAt := s.clk, paused := false, verify := 0, preemptAct := false,
               busyUntil := 0, exprUntil := 0 }) s
  else s

end Sys2Proof.Machine
end

