-- ==== Sys2Proof/Machine/Ports.lean ====
section
/-! DEFINITION. The port commands (R361, R371 to R373) and the shared operations of port configuration. -/

namespace Sys2Proof.Machine

/-! ## Judgements of a port's configuration -/

/-- A lane mode and a speed that R332 permits. -/
def laneOk (lane speed : Nat) : Bool :=
  match lane with
  | 0 => decide (speed ≤ 1)
  | 1 => speed == 2
  | 2 => true
  | _ => speed == 3

/-- The lane mode and speed of a configuration as reads return them. -/
def portLaneOk (c : Cfg) : Bool := laneOk (fread c prLane) (fread c prSpeed)

/-- The common shelf keeps its floor once every staged size takes effect (R354). -/
def floorOk (s : State) : Bool := decide (16384 ≤ commonStaged s)

/-- The mode of a port block. -/
def portMode (p : Port) (_ : Desc) : Mode := if p.held then .held else .run

/-- What a change of a port's live fields brings with it: preemption, gates, and the conditions of R27 and R29. -/
def portEffects (p : Nat) (s : State) : State :=
  let s := preemptJudge s
  let s := if portf s p prGclEn = 0 then updPort p openGate s
           else if s.svc.state = .inService then updPort p (armGate s) s else s
  autoRecovery (recJudge s)

/-- The fields a parameter of `port.config.set` writes; keys 0x000E and 0x0015 carry several (R372). -/
def portFieldsOf (p : Param) : List (Desc × Nat) :=
  if p.key = 0x0E then (List.range 8).map fun c => (prOwn c, bitsOf p.value (8 * c) 8)
  else if p.key = 0x15 then
    [(prVerifyEn, bitsOf p.value 0 1), (prForce, bitsOf p.value 1 1), (prVerifyTime, bitsOf p.value 16 8)]
  else match byKey portFields p.key with
    | some d => [(d, p.value)]
    | none => []

/-- Is the value of a parameter in range? Bits beside the fields of key 0x0015 are 0. -/
def portParamOk (p : Param) : Bool :=
  (portFieldsOf p).all (fun x => inRange x.1 x.2) && (p.key != 0x15 || p.value == bitsOf p.value 0 2 + bitsOf p.value 16 8 * 65536)

/-- Write the parameters of `port.config.set`. -/
def portWrite (m : Mode) : List Param → Cfg → Except Reply Cfg
  | [], c => .ok c
  | p :: t, c =>
    if portParamOk p then
      match fwriteAll (fun _ => m) (portFieldsOf p) c with
      | some c' => portWrite m t c'
      | none => .error (denied 3)
    else .error (badarg p.idx)

/-- Did the parameters leave a staged value behind? -/
def stagedAny (ps : List Param) (c : Cfg) : Bool := ps.any fun p => (portFieldsOf p).any fun x => fstaged c x.1

/-- Accepted in every service state but BOOT. -/
def notBoot (s : State) (k : Ans) : Ans := require (s.svc.state != .boot) (denied 1) k

def portConfigSet (c : Cmd) (s : State) : Ans :=
  let p := argD c 1 0
  match portWrite (if (port s p).held then .held else .run) c.params (port s p).cfg with
  | .error r => .fail r
  | .ok cfg =>
    if !portLaneOk cfg then .fail (badarg (if (arg c 3).isSome then argIdx c 3 else argIdx c 4))
    else
      let s' := updPort p (fun q => { q with cfg := cfg }) s
      if (arg c 0x0E).isSome && !floorOk s' then .fail nospace
      else .done (portEffects p s') (okOrStaged (stagedAny c.params cfg))

def execPortConfigSet (r : CmdId) (s : State) : Res :=
  feljo 0x0A01 r (fun c s => adminOnly c (notBoot s (portConfigSet c s))) s

/-- The keys of R372 as reads return them. -/
def portKeys (c : Cfg) : List Byte :=
  let own := (List.range 8).foldl (fun v i => v + fread c (prOwn i) * 2 ^ (8 * i)) 0
  let ownS := (List.range 8).any fun i => fstaged c (prOwn i)
  let vf := fread c prVerifyEn + fread c prForce * 2 + fread c prVerifyTime * 65536
  let vfS := fstaged c prVerifyEn || fstaged c prForce || fstaged c prVerifyTime
  keyList portFields c ++ wideBytes 0x0E own ownS ++ entryBytes 0x15 vf vfS

def execPortConfigGet (r : CmdId) (s : State) : Res :=
  feljo 0x0A02 r (fun c s => adminOnly c (notBoot s (.done s (withOut (portKeys (port s (argD c 1 0)).cfg)
    (okOrStaged (anyStaged (port s (argD c 1 0)).cfg)))))) s

/-- PRT_STATUS (R369). -/
def portStatus (s : State) (p : Nat) : Nat :=
  let q := port s p
  let pair := pairOf s p
  let partner := match pair with
    | some (_, r) => partnerOf r p
    | none => 0x3F
  let hsr := match pair with
    | some (_, r) => isHsr r
    | none => false
  b2n q.link + q.speedAct % 4 * 2 + b2n q.held * 8 + b2n (anyStaged q.cfg) * 16 + b2n q.paused * 32 + b2n q.pauseWd * 64 +
    b2n q.wdActive * 128 + b2n q.wake * 256 + b2n q.preemptAct * 512 + q.verify % 4 * 1024 + b2n q.gatesRun * 4096 +
    b2n q.frozen * 8192 + b2n q.wrDenied * 16384 + b2n (isTranscript s p) * 32768 + partner % 64 * 65536 + b2n hsr * 4194304

def execPortStatusGet (r : CmdId) (s : State) : Res :=
  feljo 0x0A03 r (fun c s => notBoot s (
    let p := argD c 1 0
    .done s (withOut ((List.range 40).flatMap fun i => le 4 (tget 0 (port s p).counts i).toNat)
      { ok with res0 := portStatus s p, nres := 0 }))) s

/-! ## Hold, restart, counters -/

/-- `port.hold` (R338): the link drops with the transmitter off, and the queues flush at once. -/
def portHold (p : Nat) (s : State) : State :=
  let s := txSettle (flushPort p (linkLost p s))
  updPort p (fun q => { q with held := true, frozen := false }) s

def execPortHold (r : CmdId) (s : State) : Res :=
  feljo 0x0A04 r (fun c s => adminOnly c (notBoot s (.done (portHold (argD c 1 0) s) ok))) s

/-- The members a pair has, as reads return them. -/
def pairMembers (c : Cfg) : List Nat := [fread c rpFirst, fread c rpSecond]

/-- A member restarts: once both have, the pair's staged fields take effect (R365). -/
def pairRestart (p : Nat) (r : RPair) : RPair :=
  if anyStaged r.cfg && (pairMembers r.cfg).contains p then
    let d := insNat r.done p
    if (pairMembers r.cfg).all d.contains then { r with cfg := fapply pairFields r.cfg, done := [] } else { r with done := d }
  else r

/-- The restart of a port (R338): staged fields of the port, of its PTP side and of its pair take effect, and the port
comes up again once its link is trained. -/
def portRestart (p : Nat) (s : State) : State :=
  let s := linkLost p s
  let s := updPort p (fun q =>
    { q with cfg := fapply portFields q.cfg, ptp := fapply timePortFields q.ptp, held := false,
             pstate := if fval (fapply timePortFields q.ptp) tpEn = 1 then 3 else 0, announce := none, sync := none }) s
  portEffects p (updSw (fun w => { w with pairs := tmap (fun _ r => pairRestart p r) w.pairs }) s)

def execPortRestart (r : CmdId) (s : State) : Res :=
  feljo 0x0A05 r (fun c s => adminOnly c (notBoot s (.done (portRestart (argD c 1 0) s) ok))) s

def execPortCountersClear (r : CmdId) (s : State) : Res :=
  feljo 0x0A06 r (fun c s => adminOnly c (notBoot s (
    if argD c 1 0 = 0xFF then .done { s with ports := tmapD {} (fun _ p => { p with counts := [] }) s.ports } ok
    else .done (updPort (argD c 1 0) (fun p => { p with counts := [] }) s) ok))) s

/-! ## Gate control lists (R361) -/

/-- The entries of a list in their 8-byte form. -/
def gclEntries : Nat → List Byte → List (Nat × Nat)
  | 0, _ => []
  | n + 1, b => (leAt b 0 1, leAt b 4 4) :: gclEntries n (b.drop 8)

/-- A gate control list that keeps every rule of R361. -/
def readGcl (b : List Byte) : Option Gcl :=
  let n := leAt b 16 2
  let g : Gcl := { base := leAt b 0 6 * 1000000000 + leAt b 8 4, cycle := leAt b 12 4, entries := gclEntries n (b.drop 24) }
  if decide (24 ≤ b.length) && decide (1 ≤ n) && decide (n ≤ 256) && b.length == 24 + 8 * n && leAt b 6 2 == 0 &&
      leAt b 18 6 == 0 && decide (leAt b 8 4 < 1000000000) && decide (10000 ≤ g.cycle) && decide (g.cycle ≤ 1000000000) &&
      ((List.range n).all fun i => leAt b (25 + 8 * i) 3 == 0) && (g.entries.all fun e => decide (500 ≤ e.2)) &&
      sumOf (g.entries.map Prod.snd) == g.cycle
  then some g else none

/-- The bytes of a list. -/
def gclBytes (g : Gcl) : List Byte :=
  le 6 (g.base / 1000000000) ++ zeros 2 ++ le 4 (g.base % 1000000000) ++ le 4 g.cycle ++ le 2 g.entries.length ++ zeros 6 ++
    g.entries.flatMap fun e => le 1 e.1 ++ zeros 3 ++ le 4 e.2

def portGclSet (c : Cmd) (s : State) : Ans :=
  let p := argD c 1 0
  if (port s p).gclNext.isSome then .fail busy
  else match readGcl c.input with
    | none => .fail (badarg 0xFFFE)
    | some g =>
      .wait (addWait (.gcl p) (some c.id)
        (updPort p (fun q => { q with gclNext := some (g, firstStart g (s.time.n + ms * 65536)) }) s))

def execPortGclSet (r : CmdId) (s : State) : Res :=
  feljo 0x0A07 r (fun c s => adminOnly c (notBoot s (portGclSet c s))) s

def execPortGclGet (r : CmdId) (s : State) : Res :=
  feljo 0x0A08 r (fun c s => adminOnly c (notBoot s (
    let q := port s (argD c 1 0)
    match if argD c 2 0 = 0 then q.gcl else q.gclNext.map Prod.fst with
    | some g => .done s (withOut (gclBytes g) ok)
    | none => .fail stale))) s

/-! ## Virtual ports (R344, R373) -/

/-- Static entries a virtual port needs once its staged lists take effect. -/
def vportNeed (v : Vport) : Nat := (v.macsStaged.getD v.macs).length * (v.vlansStaged.getD v.vlans).length

/-- Is an entry one that the module installed for a virtual port? -/
def vportEntry (s : State) (e : Fdb) : Bool := e.static && !e.group && decide (50 < e.target) &&
  (vport s (e.target - 50)).macs.contains e.mac && (vport s (e.target - 50)).vlans.contains e.vid

/-- Static entries in use once every staged list takes effect. -/
def staticUsed (s : State) : Nat :=
  (s.sw.fdb.filter fun e => e.static && !vportEntry s e).length + sumOf (s.sw.vports.map fun e => vportNeed e.2)

/-- The index of the entry that is one too many of a repeated key. -/
def tooMany (c : Cmd) (key most : Nat) : Option Nat :=
  ((c.params.filter fun p => p.key == key).drop most).head?.map (·.idx)

def portVportSet (c : Cmd) (s : State) : Ans :=
  let n := argD c 1 1
  match tooMany c 2 4, tooMany c 3 16 with
  | some i, _ => .fail (badarg i)
  | _, some i => .fail (badarg i)
  | none, none =>
    match writeKeys vpFields (fun _ => .run) c.params (vport s n).cfg false with
    | .error r => .fail r
    | .ok (cfg, _) =>
      let v := vport s n
      let macs := if args c 2 = [] then v.macsStaged else some (args c 2)
      let vlans := if args c 3 = [] then v.vlansStaged else some (args c 3)
      let v := { v with cfg := cfg, macsStaged := macs, vlansStaged := vlans }
      let s' := updSw (fun w => { w with vports := tset {} w.vports n v }) s
      if 16384 < staticUsed s' then .fail nospace
      else .done s' (okOrStaged (!(args c 2).isEmpty || !(args c 3).isEmpty))

def execPortVportSet (r : CmdId) (s : State) : Res :=
  feljo 0x0A09 r (fun c s => adminOnly c (notBoot s (portVportSet c s))) s

/-- The keys of R373 as reads return them. -/
def vportKeys (v : Vport) : List Byte :=
  ((v.macsStaged.getD v.macs).flatMap fun m => wideBytes 2 m v.macsStaged.isSome) ++
    ((v.vlansStaged.getD v.vlans).flatMap fun x => entryBytes 3 x v.vlansStaged.isSome) ++ keyList vpFields v.cfg

def execPortVportGet (r : CmdId) (s : State) : Res :=
  feljo 0x0A0A r (fun c s => notBoot s (
    require (fromAdmin c || argD c 1 0 == c.id.slice) (denied 2)
      (.done s (withOut (vportKeys (vport s (argD c 1 1)))
        (okOrStaged ((vport s (argD c 1 1)).macsStaged.isSome || (vport s (argD c 1 1)).vlansStaged.isSome)))))) s

end Sys2Proof.Machine
end

