-- ==== Sys2Proof/Machine/SvOps.lean ====
section
/-! DEFINITION. Shared operations of sampled-value ingest: descriptors and figures (R161 to R163), states (R180, R185),
quality (R171), placement (R172 to R176, R493), and the resolution of missing samples (R177 to R180). -/

namespace Sys2Proof.Machine

/-! ## Descriptors and figures (R161 to R163) -/

/-- Offset of the first field of a descriptor that is out of range (R162, R191). -/
def descBad (d : List Byte) : Option Nat :=
  let name := (sliceOf d 0 130).takeWhile fun b => b != 0
  let rate := sdRate d
  let checks : List (Nat × Bool) :=
    [(0, d.length == 160), (0, decide (1 ≤ name.length) && decide (name.length ≤ 129) && name.all fun b => decide (b.toNat < 128)),
     (0, ((sliceOf d 0 130).drop name.length).all fun b => b == 0),
     (136, decide (0x4000 ≤ leAt d 136 2) && decide (leAt d 136 2 ≤ 0x7FFF)),
     (138, decide (bitsOf (leAt d 138 2) 0 12 ≤ 4094) && bitsOf (leAt d 138 2) 12 3 == 0),
     (144, decide (leAt d 144 1 ≤ 5)), (145, decide (1 ≤ sdNoAsdu d) && decide (sdNoAsdu d ≤ 8)),
     (146, decide (1 ≤ sdChannels d) && decide (sdChannels d ≤ 32)), (147, decide (leAt d 147 1 < 8)),
     (148, decide (sdBase d + sdChannels d ≤ 16384)), (150, decide (sdKeySlot d ≤ 1023)),
     (152, decide (sdWrap d ≤ 65536) && rate % sdWrap d == 0 && sdWrap d % decimM rate == 0), (156, zerosAt d 156 4)]
  (checks.find? fun c => !c.2).map Prod.fst

/-- A VLAN match: any, or one VID. -/
def vlanMatch (a b : List Byte) : Bool :=
  let x := leAt a 138 2
  let y := leAt b 138 2
  bitOf x 15 || bitOf y 15 || bitsOf x 0 12 == bitsOf y 0 12

/-- Another stream whose frames the descriptor would match too (R161). -/
def matchClash (s : State) (x : Nat) (d : List Byte) : Option Nat :=
  (s.sv.streams.find? fun e => e.1 != x && sliceOf e.2.desc 130 8 == sliceOf d 130 8 && vlanMatch e.2.desc d).map Prod.fst

/-- Another stream whose channels the descriptor would take. -/
def chanClash (s : State) (x : Nat) (d : List Byte) : Bool :=
  s.sv.streams.any fun e => e.1 != x && decide (sdBase e.2.desc < sdBase d + sdChannels d) &&
    decide (sdBase d < sdBase e.2.desc + sdChannels e.2.desc)

/-- The figures of R163 over some descriptors. -/
def svFigures (ds : List (List Byte)) : List Nat :=
  [ds.length, (ds.filter fun d => leAt d 144 1 == 5).length, sumOf (ds.map sdChannels), sumOf (ds.map fun d => sdChannels d * sdRate d),
   sumOf (ds.map fun d => ceilDiv (sdRate d) (sdNoAsdu d))]

def svCeilings : List Nat := [2048, 64, 16384, 98304000, 16384000]

/-- Every descriptor with one of an index put in place. -/
def descsWith (s : State) (x : Nat) (d : List Byte) : List (List Byte) :=
  d :: (s.sv.streams.filter fun e => e.1 != x).map fun e => e.2.desc

/-- The first figure that would exceed its ceiling: its key and its value. -/
def svExceeded (s : State) (x : Nat) (d : List Byte) : Option (Nat × Nat) :=
  let f := (svFigures (descsWith s x d)).zip svCeilings
  match (List.range 5).find? fun i => (f.getD i (0, 0)).2 < (f.getD i (0, 0)).1 with
  | some i => some (i + 1, (f.getD i (0, 0)).1)
  | none => none

/-- The judgement of a descriptor for an index. -/
def descJudge (s : State) (x : Nat) (d : List Byte) : Option Reply :=
  match descBad d with
  | some _ => some (badarg 0xFFFE)
  | none =>
    match matchClash s x d with
    | some y => some (withKey 1 y (badarg 0xFFFE))
    | none =>
      if chanClash s x d then some (badarg 0xFFFE)
      else match svExceeded s x d with
        | some (k, v) => some (withKey k v nospace)
        | none => none

/-! ## Counters, states (R180, R185, R186) -/

def strCount (x i : Nat) (s : State) : State := updStream x (fun t => { t with counts := tmod 0 t.counts i (· + 1) }) s

/-- The instances that reference a stream, in effect or staged. -/
def referers (s : State) (x : Nat) : List Nat :=
  (s.insts.filter fun e => e.2.st != .empty && (e.2.streams.contains x || (e.2.streamsStaged.getD []).contains x)).map Prod.fst

/-- Signal the slices of a stream's instances and the admin slice. -/
def streamEdges (x : Nat) (s : State) : State := edge 0 7 ((referers s x).foldl (fun s n => edge n 7 s) s)

/-- A change of stream state. -/
def setStream (x : Nat) (st : StrState) (s : State) : State :=
  match tfind s.sv.streams x with
  | some t =>
    if t.state = st then s
    else streamEdges x (noteMod 0x0401 0 x [t.state.code, st.code] (updStream x (fun t => { t with state := st }) s))
  | none => s

/-- SIM_ACTIVE starts or ends (R169). -/
def setSim (x : Nat) (on : Bool) (s : State) : State :=
  match tfind s.sv.streams x with
  | some t =>
    if t.simActive = on then s
    else streamEdges x (noteMod (if on then 0x0402 else 0x0403) 0 x []
      (updStream x (fun t => { t with simActive := on, resetNext := t.resetNext || !on }) s))
  | none => s

/-- Does an instance that references the stream accept simulation, in effect? -/
def simAccepted (s : State) (x : Nat) : Bool := s.insts.any fun e => e.2.st != .empty && e.2.streams.contains x && fon e.2.cfg iSim

/-- SIM_ACTIVE ends where no instance that references the stream accepts simulation any longer (R169). -/
def simEnd (s : State) : State :=
  s.sv.streams.foldl (fun s (e : Nat × Stream) => if e.2.simActive && !simAccepted s e.1 then setSim e.1 false s else s) s

/-! ## Resolution (R177 to R180, R198) -/

/-- Samples kept for the resampler, the Archive and the count of R23. -/
def finalKeep : Nat := 4096

def pushFinal (x : Nat) (m : Smp) (s : State) : State := updStream x (fun t => { t with final := (m :: t.final).take finalKeep, pushed := t.pushed + 1 }) s

/-- The nominal time of a sample from one whose time is known, in 2^-16 ns. -/
def timeFrom (t : Stream) (k : Smp) (n : Nat) : Nat :=
  (((k.t : Nat) : Int) + ((n : Int) - k.n) * (65536 * 10 ^ 9) / sdRate t.desc).toNat

/-- A sample that has no value: INVALID and 0 in every channel. -/
def deadSmp (t : Stream) (k : Smp) (n : Nat) : Smp :=
  let w := sdWrap t.desc
  let cnt := ((k.cnt : Int) + ((n : Int) - k.n)) % (w : Int)
  { n := n, t := timeFrom t k n, w := timeFrom t k (n - cnt.toNat), cnt := cnt.toNat,
    vals := List.replicate (sdChannels t.desc) { v := 0, csq := csqInvalid }, real := false }

/-- A sample as it becomes final while its stream does not run (R180). -/
def voided (m : Smp) : Smp := { m with vals := m.vals.map fun _ => { v := 0, csq := csqInvalid }, auth := false }

/-- One channel between its neighbours (R178). -/
def between (a b : Val) (i n : Nat) : Val :=
  { v := a.v + (2 * (b.v - a.v) * i + n) / (2 * n),
    csq := worse (a.csq % 4) (b.csq % 4) + (((a.csq ||| b.csq) &&& 0x15C) ||| csqInterp) }

/-- The interpolated sample `i` of a run between two samples. -/
def interpSmp (t : Stream) (a b : Smp) (i : Nat) : Smp :=
  { deadSmp t a (a.n + i) with vals := (a.vals.zip b.vals).map fun p => between p.1 p.2 i (b.n - a.n) }

/-- End the run of missing samples as INVALID. -/
def voidRun (x : Nat) (s : State) : State :=
  match tfind s.sv.streams x with
  | some t =>
    match t.next, t.prev with
    | some n, some k =>
      let s := (List.range t.run).foldl (fun s i => if t.run ≤ 2 then pushFinal x (deadSmp t k (n - t.run + i)) s else s) s
      updStream x (fun t => { t with run := 0 }) s
    | _, _ => updStream x (fun t => { t with run := 0 }) s
  | none => s

/-- A placed sample is resolved: the run before it is interpolated, or a gap ends and every channel is reset there (R179). -/
def resolvePlaced (x : Nat) (t : Stream) (m : Smp) (s : State) : State :=
  let s := match t.prev with
    | some a =>
      if 1 ≤ t.run ∧ t.run ≤ 2 then
        (List.range t.run).foldl (fun s i => strCount x 13 (pushFinal x (interpSmp t a m (i + 1)) s)) s
      else s
    | none => s
  let s := pushFinal x m (if 3 ≤ t.run then streamReset t true m.t s else s)
  updStream x (fun t => { t with next := some (m.n + 1), run := 0, prev := some m, ahead := tdel t.ahead m.n, aheadAt := tdel t.aheadAt m.n }) s

/-- A missing sample is resolved: it lengthens the run, and the third makes a gap (R179). -/
def resolveMissing (x : Nat) (t : Stream) (n : Nat) (s : State) : State :=
  let s := updStream x (fun t => { t with next := some (n + 1), run := t.run + 1, streak := 0, ahead := tdel t.ahead n }) s
  match t.prev with
  | some k =>
    if t.run + 1 = 3 then
      let s := (List.range 3).foldl (fun s i => pushFinal x (deadSmp t k (n - 2 + i)) s) s
      if t.state = .running then strCount x 14 s else s
    else if 3 < t.run + 1 then pushFinal x (deadSmp t k n) s
    else s
  | none => s

/-- Resolve samples in order as far as they are known. -/
def drain (x : Nat) : Nat → State → State
  | 0, s => s
  | f + 1, s =>
    match tfind s.sv.streams x with
    | some t =>
      match t.next with
      | some n =>
        match tfind t.ahead n with
        | some (.placed m) => drain x f (resolvePlaced x t m s)
        | some .missing => drain x f (resolveMissing x t n s)
        | none => s
      | none => s
    | none => s

/-- The stream leaves RUNNING (R180): the run is resolved and the sequence ends. -/
def endSequence (x : Nat) (s : State) : State :=
  updStream x (fun t => { t with next := none, ahead := [], aheadAt := [], prev := none, streak := 0, run := 0 }) (voidRun x s)

/-- A stream placed by SmpCnt, after a step of the timescale. -/
def stepStream (t : Stream) : Stream :=
  if t.basis = .global then { t with next := none, ahead := [], aheadAt := [], run := 0, prev := none, resetNext := true } else t

/-- The timescale has been stepped (R175): the sequence of every stream placed by SmpCnt starts again. -/
def svTimeStep (s : State) : State := { s with sv := { s.sv with streams := tmap (fun _ t => stepStream t) s.sv.streams } }

/-! ## Quality (R171) -/

def csqOf (q : Nat) (unsync sim : Bool) : Nat :=
  let v := if q % 4 = 1 ∨ q % 4 = 2 ∨ bitOf q 12 then 1 else q % 4
  v + b2n (bitOf q 10) * 4 + b2n (bitOf q 11) * 8 + b2n (bitOf q 13) * 16 + b2n unsync * 64 + b2n sim * 256

/-! ## Placement (R172 to R176, R493) -/

/-- The wrap period in 2^-16 ns. -/
def wrapPeriod (d : List Byte) : Nat := sdWrap d * 65536 * 10 ^ 9 / sdRate d

/-- SmpCnt × 10^9 / rate in 2^-16 ns. -/
def cntOff (d : List Byte) (cnt : Nat) : Nat := cnt * 65536 * 10 ^ 9 / sdRate d

/-- The whole multiple of P that brings W + off to −ADV ≤ A − T < P − ADV, from a start of W. P itself need not be a whole
number of units: the multiple is rounded, not P. -/
def moveWrap (d : List Byte) (a off adv : Nat) (w : Int) : Int :=
  let p : Int := sdWrap d * 65536 * 10 ^ 9
  w + p * (((a : Int) + adv - off - w) * sdRate d / p) / sdRate d

/-- Insert into a rising list. -/
def insInt (x : Int) : List Int → List Int
  | [] => [x]
  | y :: t => if x ≤ y then x :: y :: t else y :: insInt x t

/-- The lower median. -/
def lowMedian (l : List Int) : Int := (l.foldl (fun t x => insInt x t) []).getD ((l.length - 1) / 2) 0

/-- W' of R493 before it is moved: `vs` are the values of the last second, the present one last. -/
def arrivalWrap (vs : List Int) (v : Int) (p : Nat) : Int :=
  let shift (u : Int) : Int := u - (p : Int) * ((2 * (u - v) + p) / (2 * (p : Int)))
  lowMedian (vs.map shift) - (100 * us * 65536 : Nat)

/-- Where an ASDU is placed: basis, start of wrap, time; and the stream's arrivals after it. -/
def placeOf (s : State) (t : Stream) (a : SvAsdu) (arr : Nat) : Basis × Int × List (Int × Nat) :=
  let p := wrapPeriod t.desc
  let off := cntOff t.desc a.smpCnt
  let adv := fval t.cfg sAlignAdv * us * 65536
  let v : Int := (arr : Int) - off
  let old := if t.basis = .arrival then t.arrivals else []
  let hist := ((v, s.clk) :: old.filter fun e => decide (s.clk ≤ e.2 + sec1)).take 100000
  let wrongGm := sdFlag t.desc 2 && (match a.gmId with
    | some g => g != s.time.gmId
    | none => false)
  if a.smpSynch = 2 ∧ !wrongGm then (.global, moveWrap t.desc arr off adv 0, hist)
  else (.arrival, moveWrap t.desc arr off adv (arrivalWrap (hist.map Prod.fst) v p), hist)

/-- The sequence number of a sample: counted from the epoch of the timescale, or for an arrival-placed stream from the
last one placed. -/
def seqOf (t : Stream) (b : Basis) (w : Int) (cnt time : Nat) : Nat :=
  let wrap := sdWrap t.desc
  let fresh := (w / (wrapPeriod t.desc : Int)).toNat * wrap + cnt
  if b = .global then fresh
  else match t.prev with
    | some k =>
      let est := (k.n : Int) + ((time : Int) - k.t) * sdRate t.desc / (65536 * 10 ^ 9)
      let rest := ((k.n : Int) + cnt - k.cnt - est) % wrap
      (est + (if rest * 2 ≤ wrap then rest else rest - wrap)).toNat
    | none => fresh

/-- A placed sample enters the sequence of a stream that runs. -/
def placeRunning (x : Nat) (t : Stream) (m : Smp) (s : State) : State :=
  let first := t.next.getD m.n
  let known := tfind t.ahead m.n
  if m.n < first ∨ known.isSome then
    let dup := (t.final.any fun f => f.n == m.n && f.real) || (match known with
      | some (.placed _) => true
      | _ => false)
    strCount x (if dup then 12 else 11) s
  else
    let s := strCount x 1 (updStream x (fun t =>
      { t with next := some first, ahead := tput t.ahead m.n (.placed m), aheadAt := tput t.aheadAt m.n s.clk,
               lastCnt := m.cnt, lastTs := ts32 s, lastAt := s.clk, notTraceable := !s.time.traceable, resetNext := false }) s)
    drain x 70000 (streamReset t t.resetNext m.t s)

/-- A placed sample of a stream that waits or is lost: INVALID, and counted toward RECOVER_N. What is missing before it is
INVALID too, not interpolated. -/
def placeWaiting (x : Nat) (t : Stream) (m : Smp) (s : State) : State :=
  if t.final.any fun f => f.n == m.n && f.real && f.n + 65536 > m.n then strCount x 12 s
  else
    let streak := if t.next.all (· == m.n) then t.streak + 1 else 1
    let s := strCount x 1 (pushFinal x (voided m) (voidRun x s))
    let s := updStream x (fun t =>
      { t with next := some (m.n + 1), prev := some m, streak := streak, lastCnt := m.cnt, lastTs := ts32 s, lastAt := s.clk,
               notTraceable := !s.time.traceable, ahead := [], aheadAt := [], run := 0 }) s
    let s := streamReset t false m.t s
    if fval t.cfg sRecoverN ≤ streak then setStream x .running (updStream x (fun t => { t with resetNext := true }) s) else s

/-- Place one ASDU (R172 to R176). `auth` says it passed authentication. -/
def placeAsdu (x : Nat) (a : SvAsdu) (sim auth : Bool) (arr : Nat) (s : State) : State :=
  match tfind s.sv.streams x with
  | none => s
  | some t =>
    let (b, w, hist) := placeOf s t a arr
    let s := updStream x (fun t => { t with arrivals := hist }) s
    let time : Int := w + cntOff t.desc a.smpCnt
    if b = .arrival ∧ sdFlag t.desc 1 then strCount x 9 s
    else if time < 0 then strCount x 10 s
    else if (fval t.cfg sAlignMax * us * 65536 : Nat) < (arr : Int) - time then strCount x 11 s
    else
      let fresh := t.basis != b
      let s := if fresh then updStream x (fun t =>
        { t with basis := b, next := none, ahead := [], aheadAt := [], prev := none, resetNext := true }) (voidRun x s) else s
      match tfind s.sv.streams x with
      | none => s
      | some t =>
        let n := seqOf t b w a.smpCnt time.toNat
        let m : Smp := { n := n, t := time.toNat, w := w.toNat, cnt := a.smpCnt, auth := auth && sdFlag t.desc 0,
                         vals := (a.values.zip a.quality).map fun p => { v := sat32 p.1, csq := csqOf p.2 (b == .arrival) sim } }
        match t.state with
        | .running => placeRunning x t m s
        | .held => s
        | _ => placeWaiting x t m s

/-! ## Declaring samples missing (R177) -/

/-- The lowest sample that is neither placed nor declared missing. -/
def nextUnknown (t : Stream) : Option Nat := t.next.bind fun n => tfree t.ahead n 4096

/-- Is it due to be declared missing? -/
def missingDue (s : State) (t : Stream) (n : Nat) : Bool :=
  (match t.final.head? with
   | some k => decide (timeFrom t k n + fval t.cfg sAlignMax * us * 65536 ≤ s.time.n)
   | none => false) ||
  (t.aheadAt.any fun e => decide (n < e.1) && decide (e.1 < n + 2 * sdWrap t.desc) && decide (e.2 + fval t.cfg sSkewWait * us ≤ s.clk))

/-- Declare a sample missing. -/
def declareMissing (x n : Nat) (s : State) : State :=
  drain x 70000 (updStream x (fun t => { t with ahead := tput t.ahead n .missing, streak := 0 }) s)

end Sys2Proof.Machine
end

