-- ==== Sys2Proof/Machine/TimeOps.lean ====
section
/-! DEFINITION. Shared operations of network time: clock states and traceability (R377, R378), steps and slews (R379),
source selection (R381 to R383), peer delay, and the module's own PTP messages (R380, R387). The protocol of IEEE 1588
itself, which the manual names without stating it, is PRESUMED from the standard (log entry 40). -/

namespace Sys2Proof.Machine

def updTime (f : Time → Time) (s : State) : State := { s with time := f s.time }

/-- A field of the time function. -/
def timef (s : State) (d : Desc) : Nat := fval s.time.cfg d

/-- The units of 2^-16 ns in a nanosecond, and of 2^-16 ns × 10^-12 in 2^-16 ns. -/
def nsU : Nat := 65536
def picoU : Nat := 1000000000000

/-! ## The restart of the clock state (R375) -/

/-- The clock state after a soft reset or `time.restart`: traceability is unchanged. -/
def clockRestart (clk : Nat) (t : Time) : Time :=
  let goes (x : Clk) (h : Nat) : Time :=
    { t with state := x, holdAt := h, stateAt := if x = t.state then t.stateAt else clk, source := 0, slavePort := 0x3F,
             slew := 0, within := 0, above := 0, rejects := 0, setSec := none }
  match t.state with
  | .locked => goes .holdover clk
  | .holdover => goes .holdover t.holdAt
  | .lost => goes .lost t.holdAt
  | .acquiring => if t.everLocked then goes .holdover clk else goes .free t.holdAt
  | .free => goes .free t.holdAt

/-- What a soft reset leaves of the time function: the count, the frequency adjustment in force, the clock state
restarted, and the counts since the cold start; the registers return to reset (R375, R486). -/
def timeSoft (clk : Nat) (t : Time) : Time :=
  let r := clockRestart clk t
  { n := r.n, frac := r.frac, freqAdj := r.freqAdj, state := r.state, holdAt := r.holdAt, stateAt := r.stateAt,
    everLocked := r.everLocked, traceable := r.traceable, steps := r.steps, gmClass := r.gmClass,
    ppsTraceable := r.ppsTraceable }

/-! ## Clock states (R377, R378) -/

/-- Traceability of a state (R378): HOLDOVER keeps what the LOCKED state it came from had. -/
def traceOf (t : Time) : Bool :=
  match t.state with
  | .locked => (t.source == 1 && (t.gmClass == 6 || t.gmClass == 7)) || (t.source == 2 && t.ppsTraceable)
  | .holdover => t.traceable
  | _ => false

def traceJudge (s : State) : State := updTime (fun t => { t with traceable := traceOf t }) s

/-- The clock changes state: the Chronicle, admin source 11, the conditions of R27 to R29, and traceability. -/
def setClk (x : Clk) (s : State) : State :=
  let old := s.time.state
  if old = x then s
  else
    let s := traceJudge (updTime (fun t =>
      { t with state := x, stateAt := s.clk, holdAt := if x = .holdover then s.clk else t.holdAt, within := 0, above := 0,
               everLocked := t.everLocked || x == .locked, acqFirst := x == .acquiring }) s)
    autoRecovery (recJudge (edge 0 11 (noteMod 0x0B02 0 noObj [old.code, x.code] s)))

/-- The source is lost (R377). -/
def loseSource (s : State) : State :=
  let s := updTime (fun t => { t with source := 0, slavePort := 0x3F, slew := 0, rejects := 0 }) s
  match s.time.state with
  | .locked => setClk .holdover s
  | .acquiring => setClk (if s.time.everLocked then .holdover else .free) s
  | _ => s

/-- A source is selected (R377): a clock that follows none begins to acquire. -/
def selectSource (src sp : Nat) (s : State) : State :=
  let s := updTime (fun t => { t with source := src, slavePort := sp, within := 0, above := 0, rejects := 0 }) s
  match s.time.state with
  | .free => setClk .acquiring s
  | .holdover => setClk .acquiring s
  | .lost => setClk .acquiring s
  | _ => traceJudge s

/-! ## Steps and slews (R379, R389) -/

/-- A launch that a step has moved more than 500 ms ahead. -/
def tooFarAhead (s : State) (launch : Nat) : Bool := decide (s.time.n + 500 * ms * nsU < launch)

/-- Drop the queued copies of a port and class that a step has moved too far ahead. -/
def dropFar (p c : Nat) (s : State) : State :=
  let far (q : Copy) : Bool := match q.launch with
    | some l => tooFarAhead s l
    | none => false
  ((queueOf s p c).filter far).foldl (fun s q =>
      let s := release p q s
      match q.tx with
      | some r => if s.sw.txWait.contains r then
          txDrop r.slice r.idx 1 4 (updSw (fun w => { w with txWait := w.txWait.filter fun x => x != r }) s) else s
      | none => s)
    (if (queueOf s p c).any far then setQueue p c ((queueOf s p c).filter fun q => !far q) s else s)

/-- A step moves every pending launch with TS32 (R389). -/
def stepLaunches (s : State) : State :=
  let far := s.sw.launchWait.filter fun l => tooFarAhead s l.launch
  let s := far.foldl (fun s l => txDrop l.slice l.first l.num 4 s)
    (updSw (fun w => { w with launchWait := w.launchWait.filter fun l => !tooFarAhead s l.launch }) s)
  (List.range 48).foldl (fun s p => (List.range 8).foldl (fun s c => dropFar p c s) s) s

/-- Step the PHC by `d` in 2^-16 ns (R375, R379): counted, entered in the Chronicle with its size in ns, and the streams
placed by SmpCnt start again (R175). -/
def stepPhc (d : Int) (s : State) : State :=
  let s := updTime (fun t =>
    { t with n := ((t.n : Int) + d).toNat, steps := t.steps + 1, stepped := true, lastStep := d, slew := 0 }) s
  let s := edge 0 11 (noteMod 0x0B01 0 noObj (words64 (enc 64 (roundDiv d nsU))) s)
  stepLaunches (svTimeStep s)

/-- May an offset be stepped (R379)? -/
def mayStep (off : Int) (s : State) : Bool :=
  decide (timef s tStepThresh * us * nsU < off.natAbs) &&
    (s.time.state == .acquiring || timef s tStepInSvc == 1 || !(s.svc.state == .inService || s.svc.state == .recovery))

/-- The firmware's servo is no rule of the manual: the frequency adjustment it chooses is a free value within SLEW_MAX. -/
def servo (s : State) : State :=
  let m := timef s tSlewMax * 1000
  updTime (fun t => { t with freqAdj := (Config.free 7 s.fresh % (2 * m + 1) : Nat) - (m : Int) }) { s with fresh := s.fresh + 1 }

/-- An offset measurement (R377, R379): `off` is PHC less source, in 2^-16 ns. -/
def measure (off : Int) (s : State) : State :=
  let lim := timef s tLockNs * nsU
  let s := updTime (fun t =>
    { t with offset := off, within := if off.natAbs ≤ lim then t.within + 1 else 0,
             above := if 4 * lim < off.natAbs then t.above + 1 else 0 }) s
  let s := if s.time.state = .acquiring ∧ 4 ≤ s.time.within then setClk .locked s
           else if s.time.state = .locked ∧ 4 ≤ s.time.above then setClk .acquiring s
           else s
  let s := servo s
  if mayStep off s then stepPhc (-off) s else updTime (fun t => { t with slew := -off * picoU }) s

/-- One nanosecond of the PHC: its frequency adjustment, and the slew at no more than SLEW_MAX. -/
def advance (t : Time) : Time :=
  let most : Int := (fval t.cfg tSlewMax * 1000 * nsU : Nat)
  let d := clampInt (-most) most t.slew
  let x := t.frac + t.freqAdj * nsU + d
  { t with n := t.n + ((nsU : Int) + x / picoU).toNat, frac := x % picoU, slew := t.slew - d }

/-! ## PTP ports and frames (R380, R383) -/

/-- The clock identity: the EUI-64 of the base MAC address. -/
def clockId : Nat := Config.baseMac / 2 ^ 24 * 2 ^ 40 + 0xFFFE * 2 ^ 24 + Config.baseMac % 2 ^ 24

/-- A PTP port: enabled, and in a role that receives (R392). -/
def ptpPort (s : State) (p : Nat) : Bool := fon (port s p).ptp tpEn && portf s p prRole != 0 && !(port s p).held

def ptpPorts (s : State) : List Nat := (List.range 48).filter (ptpPort s)

/-- The domain in use: 254 under IEEE C37.238 (R380). -/
def ptpDomain (s : State) : Nat := if timef s tProfile = 1 then 254 else timef s tDomain

/-- Length of a message's frame from the destination address to the FCS (PRESUMED, IEEE 1588 Annex F): the body of the
message and the IEEE_C37_238 TLV of an Announce of that profile. -/
def ptpLen (s : State) (m : PtpMsg) (tagged : Bool) : Nat :=
  let body := match m.kind with
    | .announce => 64 + (if timef s tProfile = 1 then 28 else 0)
    | .sync => 44
    | .followUp => 44
    | _ => 54
  max 64 (18 + body + (if tagged then 4 else 0))

/-- The frame of a message on a port: peer-delay messages go to 01-80-C2-00-00-0E, the others to 01-1B-19-00-00-00; tagged
frames are priority-tagged with PCP 4 (R380). -/
def ptpFrame (s : State) (p : Nat) (m : PtpMsg) : Frame :=
  let pd := m.kind == .pdelayReq || m.kind == .pdelayResp || m.kind == .pdelayRespFollowUp
  let tagged := timef s tProfile == 1 || fon (port s p).ptp tpTagged
  { dst := if pd then 0x0180C200000E else 0x011B19000000, src := Config.baseMac,
    tag := if tagged then some { vid := 0, pcp := 4 } else none, len := ptpLen s m tagged, fcs := 0, red := none,
    payload := .ptp m }

/-- Hand a message in at a port, class 6 (R341, R380). An event message asks for its stamp. -/
def ptpSend (p : Nat) (m : PtpMsg) (s : State) : State :=
  let event := m.kind == .sync || m.kind == .pdelayReq || m.kind == .pdelayResp
  handInMgt p 6 (ptpFrame s p m) event s

/-- A message of the module's own. -/
def ownMsg (s : State) (p : Nat) (k : PtpKind) (seq : Nat) : PtpMsg :=
  { kind := k, domain := ptpDomain s, seq := seq, srcId := clockId, srcPort := p + 1, twoStep := false, correction := 0,
    origin := 0 }

/-- clockClass and clockAccuracy the module announces as grandmaster (R383). -/
def ownClass (s : State) : Nat × Nat :=
  if s.time.state = .locked ∧ s.time.source = 2 ∧ s.time.traceable then (6, 0x21)
  else if s.time.state = .holdover ∧ s.time.traceable then (7, 0x22)
  else (248, 0xFE)

/-! ## The best master (R377, R381 to R383) -/

/-- The order of two data sets: the first number that differs decides. -/
def lexLt : List Nat → List Nat → Bool
  | a :: s, b :: t => decide (a < b) || (a == b && lexLt s t)
  | _, _ => false

/-- The data set of an Announce received on a port. -/
def annKey (p : Nat) (m : PtpMsg) : List Nat :=
  [m.prio1, m.gmClass, m.gmAccuracy, m.prio2, m.gmId, m.steps, m.srcId, m.srcPort, p]

/-- The data set of the module's own clock. -/
def ownKey (s : State) : List Nat :=
  [timef s tPrio1, (ownClass s).1, (ownClass s).2, timef s tPrio2, clockId, 0, clockId, 0, 0]

/-- The Announce in force on a port: none after announceReceiptTimeout, 3 intervals of 1 s. -/
def annOf (s : State) (p : Nat) : Option PtpMsg :=
  match (port s p).announce with
  | some (m, t) => if ptpPort s p && decide (s.clk < t + 3 * sec1) then some m else none
  | none => none

/-- The port with the best Announce. -/
def bestPort (s : State) : List Nat → Option (Nat × PtpMsg)
  | [] => none
  | p :: t =>
    match annOf s p, bestPort s t with
    | some m, some (q, x) => if lexLt (annKey q x) (annKey p m) then some (q, x) else some (p, m)
    | some m, none => some (p, m)
    | none, b => b

/-- The module can be grandmaster (R383). -/
def canMaster (s : State) : Bool := timef s tSlaveOnly == 0 && timef s tPpsInEn == 1 && timef s tType != 2

/-- The master to follow: of two members of a pair with one grandmaster, the member selected first stays (R382). -/
def chosenMaster (s : State) : Option (Nat × PtpMsg) :=
  match bestPort s (ptpPorts s) with
  | some (p, m) =>
    let keep := match pairOf s p, annOf s s.time.slavePort with
      | some (_, r), some x => if partnerOf r p == s.time.slavePort && x.gmId == m.gmId then some (s.time.slavePort, x) else none
      | _, _ => none
    match keep with
    | some x => some x
    | none => if canMaster s && lexLt (ownKey s) (annKey p m) then none else some (p, m)
  | none => none

/-- The state of a PTP port (PSTATE): 8 SLAVE, 6 PASSIVE, 5 MASTER, 3 LISTENING. -/
def portState (s : State) (best : Option (Nat × PtpMsg)) (p : Nat) : Nat :=
  let slave := match best with
    | some (q, _) => q == p
    | none => false
  let master := timef s tType != 2 && timef s tSlaveOnly == 0 && (canMaster s || best.isSome)
  if slave then 8
  else match annOf s p, best with
    | some m, some (_, x) => if m.gmId == x.gmId && (pairOf s p).isSome then 6
                             else if lexLt (annKey p m) (annKey 0 { x with steps := x.steps + 1 }) then 6
                             else if master then 5 else 3
    | some m, none => if lexLt (annKey p m) (ownKey s) then 6 else if master then 5 else 3
    | none, _ => if master then 5 else 3

/-- Run the best master clock algorithm: port states, the source, and the grandmaster's data. -/
def bmca (s : State) : State :=
  let best := chosenMaster s
  let s := (List.range 48).foldl (fun s p =>
    updPort p (fun q => { q with pstate := if ptpPort s p then portState s best p else if fon q.ptp tpEn then 2 else 0 }) s) s
  match best with
  | some (p, m) =>
    let s := updTime (fun t => { t with gmId := m.gmId, gmClass := m.gmClass, gmAccuracy := m.gmAccuracy, gmSteps := m.steps + 1,
                                        altOffset := m.altOffset.getD t.altOffset }) s
    if s.time.source = 1 ∧ s.time.slavePort = p then traceJudge s
    else selectSource 1 p (updTime (fun t => { t with lastSync := s.clk }) s)
  | none => if s.time.source = 1 then loseSource s else s

/-- The parent of the slave port: the sender of its Announce. -/
def fromParent (s : State) (p : Nat) (m : PtpMsg) : Bool :=
  s.time.source == 1 && s.time.slavePort == p &&
    match (port s p).announce with
    | some (a, _) => a.srcId == m.srcId && a.srcPort == m.srcPort
    | none => false

end Sys2Proof.Machine
end

