-- ==== Sys2Proof/Machine/PowerOps.lean ====
section
/-! DEFINITION. Shared operations of power and start-up: what survives each kind of reset (R47, R56, R486), the phases of
start-up (R55, R491), the Chronicle devices and counter slots (R57, R446), and the boot-select record (R470, R471). -/

namespace Sys2Proof.Machine

def updPwr (f : Power → Power) (s : State) : State := { s with pwr := f s.pwr }

def updMet (f : Meters → Meters) (s : State) : State := { s with met := f s.met }

def updUpd (f : Upd → Upd) (s : State) : State := { s with upd := f s.upd }

def updChr (f : Chron → Chron) (s : State) : State := { s with chr := f s.chr }

/-! ## The Chronicle devices -/

/-- The place of an accession in the circular log (R436). -/
def chrSlots : Nat := 65472

/-- Write an entry into a device's log: its place holds no older entry any more. -/
def chrPut (e : Entry) (d : Tab Entry) : Tab Entry :=
  tput (tfilter (fun a _ => !(a + chrSlots == e.acc)) d) e.acc e

/-- Write an entry to the devices that are in use, marked SINGLE where only one is (R444). -/
def chrWrite (e : Entry) (c : Chron) : Chron :=
  let e := if c.ok0 && c.ok1 then e else { e with flags := setBit e.flags 2 }
  { c with dev0 := if c.ok0 then chrPut e c.dev0 else c.dev0, dev1 := if c.ok1 then chrPut e c.dev1 else c.dev1,
           first := max c.first (e.acc + 1 - chrSlots) }

/-- Write every queued item (R439, R45). -/
def chrDrain (c : Chron) : Chron := c.queue.foldl (fun c x => chrWrite x.entry c) { c with queue := [] }

/-- The highest accession of a log, and of a header's record of the last clear. -/
def chrHigh (d : Tab Entry) : Nat := maxOf (tkeys d)

/-- Entries that one device holds and the other lacks. -/
def chrMissing (a b : Tab Entry) : Tab Entry := a.filter fun e => !thas b e.1

/-- The scan of both devices at boot (R446): each is completed from the other. An accession between the first and the last
that neither holds is lost. -/
def chrScan (c : Chron) : Chron :=
  let all := (chrMissing c.dev1 c.dev0).foldl (fun d e => tput d e.1 e.2) c.dev0
  let next := max (chrHigh all + 1) c.clearRec
  let first := max c.clearRec (next - chrSlots)
  let lost := (next - first) - (all.filter fun e => first ≤ e.1).length
  { dev0 := all, dev1 := all, clearRec := c.clearRec, first := first, next := next, newest := tfind all (next - 1),
    repaired := BitVec.ofNat 32 ((chrMissing c.dev1 c.dev0).length + (chrMissing c.dev0 c.dev1).length),
    repairedFlag := !(chrMissing c.dev1 c.dev0).isEmpty || !(chrMissing c.dev0 c.dev1).isEmpty,
    lost := BitVec.ofNat 32 lost, notifySev := c.notifySev }

/-! ## Counters (R57, R58) -/

/-- The valid slot with the highest sequence number. -/
def bestSlot (l : List CounterSlot) : Option CounterSlot :=
  l.foldl (fun m x => match m with
    | some y => if y.seq < x.seq then some x else some y
    | none => some x) none

/-- Persist the counters into the alternate slot of each device in use. -/
def persist (s : State) : State :=
  let q := s.met.seq + 1
  let x : CounterSlot := { seq := q, opsec := s.met.opsec, cycles := s.met.cycles }
  updMet (fun m => { m with seq := q, slots0 := if s.chr.ok0 then tput m.slots0 (q % 2) x else m.slots0,
                            slots1 := if s.chr.ok1 then tput m.slots1 (q % 2) x else m.slots1 }) s

/-- Restore the counters at boot. -/
def restoreCounters (s : State) : State :=
  match bestSlot ((s.met.slots0 ++ s.met.slots1).map Prod.snd) with
  | some x => updMet (fun m => { m with opsec := x.opsec, cycles := x.cycles, seq := x.seq }) s
  | none => s

/-! ## What each reset leaves (R47, R56, R486) -/

/-- What is kept without power: the FRAM devices and counter slots, the setting stores, the key store, the banks, the
boot-select record and the fuses. The levels on the X3 pins, the model's queue, clock and trace are no state of the
module's own. -/
def nonVolatile (s : State) : State :=
  { pending := s.pending, clk := s.clk, out := s.out, fresh := s.fresh
    sig := { x3 := { pins := s.sig.x3.pins } }
    chr := { dev0 := s.chr.dev0, dev1 := s.chr.dev1, clearRec := s.chr.clearRec }
    met := { slots0 := s.met.slots0, slots1 := s.met.slots1, seq := s.met.seq }
    store := { s.store with active := 0 }
    keys := { store := s.keys.store, slots := s.keys.store.slots }
    upd := { bankA := s.upd.bankA, bankB := s.upd.bankB, boot := s.upd.boot, old := s.upd.old, minSvn := s.upd.minSvn } }

/-- A cold start begins: 12 V good with everything at its reset value (R43, R56). -/
def coldStart (s : State) : State := nonVolatile s

/-- The module is held off or in reset: nothing runs and no host access reaches it (R38, R43, R46). -/
def powerOff (modEn : Bool) (s : State) : State :=
  let t := nonVolatile s
  { t with pwr := { t.pwr with good := false, modEn := modEn }, pcie := { t.pcie with down := true } }

/-- A soft reset begins (R56, R491): kept are the RWS fields, the meters, the counters, the PHC count, the PCIe link with
its configuration space and MSI-X table, the rails and the hold-up store's own bits. The Chronicle's queue is written out
first. -/
def softReset (s : State) : State :=
  let t := nonVolatile s
  let c := chrDrain s.chr
  let t := { t with
    pwr := { t.pwr with rails := s.pwr.rails, holdupReady := s.pwr.holdupReady, holdupFail := s.pwr.holdupFail,
                        dbg := s.pwr.dbg, pfwArmed := true, soft := true, vin := s.pwr.vin, iin := s.pwr.iin,
                        trpTemp := s.pwr.trpTemp, dieTemp := s.pwr.dieTemp }
    met := { t.met with energy := s.met.energy, pcs := s.met.pcs, opsec := s.met.opsec, cycles := s.met.cycles,
                        interval := s.met.interval.map fun i => { i with soft := true } }
    time := timeSoft s.clk s.time
    pcie := { ctoSel := s.pcie.ctoSel, tag10 := s.pcie.tag10, bme := s.pcie.bme, d3hot := s.pcie.d3hot,
              unmasked := s.pcie.unmasked, pba := s.pcie.pba, msix := s.pcie.msix, nextTag := s.pcie.nextTag }
    tagsMax := s.tagsMax
    tdm := { cfg := fsoftReset tdmFields s.tdm.cfg }
    chr := { c with dropped := 0, repaired := 0, lost := 0, droppedFlag := false, repairedFlag := false, notifySev := 2 }
    svc := { prev := s.svc.state, cause := 7, ts32 := ts32 s, at_ := fullNow s } }
  noteMod 0x0101 0 noObj [s.svc.state.code, 0, 7] (noteMod 0x1004 0 noObj [] t)

/-! ## Start-up phases (R55, R491) -/

/-- The rails, the mailbox and the pipeline come in the order of R55. -/
def phaseIs (n : Nat) (s : State) : Bool := s.pwr.good && s.pwr.pfw == .idle && !s.pwr.fail && s.pwr.phase == n

def setPhaseTo (n : Nat) (s : State) : State := updPwr (fun p => { p with phase := n }) s

/-- Start-up itself has failed: HALTED with FAIL (R44, R471). -/
def bootFailed (s : State) : State := enterHalted 6 (updPwr (fun p => { p with fail := true }) s)

/-! ## The boot-select record (R470, R471) -/

def bankOf (s : State) (b : Nat) : Bank := if b = 0 then s.upd.bankA else s.upd.bankB

def recState (r : BootRec) (b : Nat) : BankSt := if b = 0 then r.stA else r.stB

def recPut (b : Nat) (x : BankSt) (r : BootRec) : BootRec := if b = 0 then { r with stA := x } else { r with stB := x }

/-- Write the record: the older copy is replaced, with SEQ one above the other's. -/
def writeRec (r : BootRec) (s : State) : State :=
  updUpd (fun u => { u with boot := { r with seq := u.boot.seq + 1 }, old := some u.boot }) s

/-- `verify(b)`: colophon signature, BODY_DIGEST and SVN. The image the module is delivered with is not held by the model
and counts as verified. -/
def verifyBank (s : State) (b : Nat) : Bool :=
  let k := bankOf s b
  decide (s.upd.minSvn ≤ k.svn) &&
    (k.image.isEmpty ||
      (let n := k.image.length - 256
       let colo := k.image.drop n
       sliceOf colo 8 48 == sha384 (k.image.take n) &&
         Config.verify (Config.firmwareRoot (leAt colo 6 1)) (colo.take 64) (sliceOf colo 64 96)))

/-- Start a bank: its own setting-store area, and the fuse advanced to the primary's SVN. -/
def startBank (b : Nat) (s : State) : State :=
  let trial := s.upd.boot.trial == some b && s.upd.boot.trialState == 2
  let area := if trial then s.upd.boot.areaT else s.upd.boot.areaP
  let s := { s with store := { s.store with active := area } }
  setPhaseTo 5 (updPwr (fun p => { p with bankB := b == 1 })
    (updUpd (fun u => { u with run := b, minSvn := max u.minSvn (bankOf s u.boot.primary).svn }) s))

/-- `boot(b)`. -/
def bootBank (b : Nat) (s : State) : State :=
  let o := 1 - b
  if verifyBank s b then startBank b s
  else if recState s.upd.boot o == .loaded && verifyBank s o then
    startBank o (writeRec (recPut b .rejected (recPut o .primary { s.upd.boot with primary := o })) s)
  else bootFailed s

/-- An interrupted deposit is emptied. -/
def emptyLoading (b : Nat) (s : State) : State :=
  if recState s.upd.boot b == .loading then
    noteMod 0x0F08 0 b [] (updUpd (fun u => if b = 0 then { u with bankA := {} } else { u with bankB := {} })
      (writeRec (recPut b .empty s.upd.boot) s))
  else s

/-- A trial ends unconfirmed: its bank is rejected and the primary boots. -/
def fallBack (t code : Nat) (s : State) : State :=
  let s := writeRec { recPut t .rejected s.upd.boot with trial := none, trialState := 0 } s
  updUpd (fun u => { u with fellback := true, fellHere := true }) (bootBank s.upd.boot.primary (noteMod code 0 t [] s))

/-- The first boot of a trial converts the primary's setting store into the other area (R474). -/
def convertStore (s : State) : State :=
  let g := if s.upd.boot.areaP = 0 then s.store.area0 else s.store.area1
  let bad := if s.upd.boot.areaP = 0 then s.store.damaged0 else s.store.damaged1
  let g := g.map fun x => { x with fmt := s.upd.boot.fmtT }
  if s.upd.boot.areaT = 0 then { s with store := { s.store with area0 := g, damaged0 := bad } }
  else { s with store := { s.store with area1 := g, damaged1 := bad } }

/-- The boot ROM selects a bank (R471). -/
def bankSelect (s : State) : State :=
  let s := emptyLoading 1 (emptyLoading 0 s)
  match s.upd.boot.trial with
  | some t =>
    if s.upd.boot.trialState = 1 then
      if verifyBank s t then
        let s := writeRec { recPut t .trial s.upd.boot with trialState := 2 } s
        bootBank t (noteMod 0x0F04 0 t [] (convertStore s))
      else fallBack t 0x0F07 s
    else fallBack t 0x0F06 s
  | none => bootBank s.upd.boot.primary s

/-! ## The power-fail sequence (R45) -/

/-- Is a time after PFW reached at a step of the sequence? -/
def pfwAt (p : PfwStep) (t : Nat) (s : State) : Bool := s.pwr.pfw == p && decide (s.pwr.pfwAt + t ≤ s.clk)

def setPfw (p : PfwStep) (s : State) : State := updPwr (fun w => { w with pfw := p }) s

/-- A port that stays up until t0 + 600 µs: a referee port of a tandem unit (R45, R315). -/
def refPort (s : State) (p : Nat) : Bool := !s.tdm.standalone && (tdmf s dRef0 == p || tdmf s dRef1 == p)

/-- The processing blocks lose power at t0 + 100 µs: every step, grid, lane and sweep ends, and the X3 filters stop with
their latches armed (R430, R431). -/
def pipelineOff (s : State) : State :=
  { s with
    doms := tmapD {} (fun _ d => { d with running := false, boundary := [], stepOpen := false, ahead := [] }) s.doms
    lanes := { s.lanes with steps := [] }
    logic := { s.logic with lastStart := none }
    sig := { s.sig with x3 := { s.sig.x3 with running := false, rise := 0, fall := 0 } }
    ports := tmapD {} (fun p q => if refPort s p then q else { q with link := false, txOff := true }) s.ports }

/-- Every instance is HELD by the warning, with CAUSE 9. -/
def holdAll (s : State) : State :=
  (instNums s).foldl (fun s n =>
    let s := updInst n (fun i => { i with restart := none, holdReq := none, freezeReq := none, reset := none }) s
    if (inst s n).st == .empty then s
    else updInst n (fun i => { i with cause := 9 }) (changeInst n .held 9 noObj true (stopPubs n s))) s

/-- The alarm publication stops with the warning (R429). -/
def stopAlarmPub (s : State) : State :=
  { s with trip := { s.trip with alarmPub := s.trip.alarmPub.map fun u => { u with running := false, pending := none } } }

/-- PCIe goes down: commands past their commit point keep their effect, the rest are abandoned. -/
def pcieOff (s : State) : State :=
  let s := (s.cmds.filter fun c => uncommitted s c).foldl (fun s c => cancelCmd c.id s) s
  { s with cmds := [], heldOut := [], waits := s.waits.map fun w => { w with cmd := none },
           pcie := { s.pcie with down := true, reads := [], waitReads := [] } }

/-! ## Meters (R53) -/

/-- Bring the meters up to date: what the twelve blocks have drawn since the last reading is a free value for each; the
input is their sum. Meter 10 is kept as a difference, so meters 0 to 9 and 11 are stored. -/
def readMeters (s : State) : State :=
  let inc (b : Nat) : Nat := Config.free (64 + b) s.fresh
  let e := (List.range 10).foldl (fun e b => tmod 0 e b (· + inc b)) s.met.energy
  let e := tmod 0 e 11 (· + sumOf ((List.range 11).map inc))
  { s with fresh := s.fresh + 1, met := { s.met with energy := e } }

/-- A meter; meter 10 is the conversion loss. -/
def meter (e : Tab Nat) (b : Nat) : Nat :=
  if b = 10 then tget 0 e 11 - sumOf ((List.range 10).map fun i => tget 0 e i) else tget 0 e b

end Sys2Proof.Machine
end

