-- ==== Sys2Proof/Machine/Sv.lean ====
section
/-! DEFINITION. The stream commands (R163, R183 to R188) and the loss of a stream (R180). -/

namespace Sys2Proof.Machine

/-- The stream a command names. -/
def streamIx (c : Cmd) : Nat := argD c 1 0

/-- The command's stream, or STALE where the index is not subscribed. -/
def withStream (c : Cmd) (s : State) (k : Stream → Ans) : Ans :=
  match tfind s.sv.streams (streamIx c) with
  | some t => k t
  | none => .fail stale

/-- A command of the admin slice, or of an instance that references the stream. -/
def referenced (c : Cmd) (s : State) (k : Ans) : Ans :=
  require (fromAdmin c || (referers s (streamIx c)).contains c.id.slice) (denied 2) k

/-- Reserved to the admin slice, refused in BOOT and HALTED, carried in a pair (R184, R187). -/
def svReserved (c : Cmd) (s : State) (body : Cmd → State → Ans) : Ans :=
  adminOnly c (notBootHalted s (carried c s body))

def streamSubscribe (c : Cmd) (s : State) : Ans :=
  let x := streamIx c
  if thas s.sv.streams x then .fail stale
  else match descJudge s x c.input with
    | some r => .fail r
    | none => withPairs { s with sv := { s.sv with streams := tput s.sv.streams x { desc := c.input } } } ok

def execSvStreamSubscribe (r : CmdId) (s : State) : Res := feljo 0x0401 r (fun c s => svReserved c s streamSubscribe) s

/-- Does a domain's reference set name a channel of the stream? -/
def refNamed (s : State) (t : Stream) : Bool := s.doms.any fun e => (refUse e.2).any fun c => (streamChans t).contains c

def streamUnsubscribe (c : Cmd) (s : State) : Ans :=
  withStream c s fun t =>
    require ((referers s (streamIx c)).isEmpty && !refNamed s t) (denied 4)
      (.done (syncPairs (finishWaits (.streamRestart (streamIx c)) stale
        { s with sv := { s.sv with streams := tdel s.sv.streams (streamIx c) } })) ok)

def execSvStreamUnsubscribe (r : CmdId) (s : State) : Res := feljo 0x0402 r (fun c s => svReserved c s streamUnsubscribe) s

/-- Does the stream's SMPCNT_WRAP divide its rate and hold whole decimator groups (R162)? -/
def wrapOk (d : List Byte) : Bool := sdRate d % sdWrap d == 0 && sdWrap d % decimM (sdRate d) == 0

/-- A descriptor replaces every field of R162, those a key has staged among them. -/
def stageDesc (d : List Byte) (t : Stream) : Stream :=
  { t with descStaged := some d,
           cfg := { t.cfg with staged := tfilter (fun i _ => streamLiveFields.any fun f => f.id == i) t.cfg.staged } }

/-- The keys of one command on a stream. -/
def setKeys (c : Cmd) (t : Stream) : Except Reply (Stream × Bool) :=
  match writeKeys streamFields (fun _ => if t.state = .held then .held else .run) (c.params.filter fun p => p.key != 1) t.cfg false with
  | .error r => .error r
  | .ok (cfg, stg) =>
    let t' := { t with cfg := cfg }
    if (arg c 7).isSome && !wrapOk (streamDesc t') then .error (badarg (argIdx c 7))
    else if fread cfg sAlignMax ≤ fread cfg sSkewWait then .error (badarg (if (arg c 0x0A).isSome then argIdx c 0x0A else argIdx c 8))
    else .ok (t', stg)

/-- AUTH as the stream's restart would leave it. -/
def authNext (t : Stream) : Bool := sdFlag (streamDesc t) 0

def streamSetAs (c : Cmd) (s : State) (old t : Stream) (stg : Bool) : Ans :=
  match setKeys c t with
  | .error r => .fail r
  | .ok (t', k) =>
    let s' := updStream (streamIx c) (fun _ => t') s
    .done (if authNext t' = authNext old then s' else note 0x0405 0 c.id.slice (streamIx c) [b2n (authNext t')] s') (okOrStaged (stg || k))

def streamSet (c : Cmd) (s : State) : Ans :=
  withStream c s fun t =>
    if descriptorForm c.op c.bufLen then
      if t.state ≠ .held then .fail (denied 3)
      else match descJudge s (streamIx c) c.input with
        | some r => .fail r
        | none => streamSetAs c s t (stageDesc c.input t) true
    else streamSetAs c s t t false

def execSvStreamSet (r : CmdId) (s : State) : Res := feljo 0x0403 r (fun c s => svReserved c s streamSet) s

/-- The six keys that stand in the descriptor, as its bytes have them. -/
def descKeys (t : Stream) : List Byte :=
  let d := streamDesc t
  let e (f : Desc) (v : Nat) : List Byte := entryBytes f.key v (fstaged t.cfg f || t.descStaged.isSome)
  e sConfrev (leAt d 140 4) ++ e sAuth (b2n (sdFlag d 0)) ++ e sSyncReq (b2n (sdFlag d 1)) ++ e sGmCheck (b2n (sdFlag d 2)) ++
    e sKeySlot (sdKeySlot d) ++ e sWrap (leAt d 152 4)

def streamGet (c : Cmd) (s : State) : Ans :=
  withStream c s fun t => referenced c s (.done s (withOut (streamDesc t ++ descKeys t ++ keyList streamLiveFields t.cfg)
    (okOrStaged (anyStaged t.cfg || t.descStaged.isSome))))

def execSvStreamGet (r : CmdId) (s : State) : Res := feljo 0x0404 r streamGet s

/-- An instance that runs or is about to hinders the hold of its streams (R183). -/
def streamBusy (s : State) (x : Nat) : Bool :=
  (referers s x).any fun n => (inst s n).st == .running || (inst s n).restart.isSome

def streamHold (c : Cmd) (s : State) : Ans :=
  withStream c s fun _ =>
    require (!streamBusy s (streamIx c)) (denied 4) (.done (setStream (streamIx c) .held (endSequence (streamIx c) s)) ok)

def execSvStreamHold (r : CmdId) (s : State) : Res := feljo 0x0405 r (fun c s => svReserved c s streamHold) s

def streamRestart (c : Cmd) (s : State) : Ans :=
  withStream c s fun t =>
    if t.state ≠ .held then .fail (denied 4)
    else if t.restart then .fail busy
    else .wait (addWait (.streamRestart (streamIx c)) (some c.id) (updStream (streamIx c) (fun t => { t with restart := true }) s))

def execSvStreamRestart (r : CmdId) (s : State) : Res := feljo 0x0406 r (fun c s => svReserved c s streamRestart) s

/-- Sixteen counters, 4 bytes each (R186). -/
def counterBytes (n : Nat) (t : Tab Word) : List Byte := (List.range n).flatMap fun i => le 4 (tget 0 t i).toNat

def streamStatus (c : Cmd) (s : State) : Ans :=
  withStream c s fun t => referenced c s
    (.done s (withOut (counterBytes 16 t.counts)
      { ok with res0 := t.state.code + b2n t.simActive * 4 + b2n t.notTraceable * 8 + t.lastCnt % 65536 * 65536,
                res1 := some t.lastTs.toNat }))

def execSvStreamStatus (r : CmdId) (s : State) : Res := feljo 0x0407 r streamStatus s

/-- Each figure of R163 with its ceiling, then UNKNOWN. -/
def loadBytes (s : State) : List Byte :=
  ((svFigures (s.sv.streams.map fun e => e.2.desc)).zip svCeilings).flatMap (fun p => le 8 p.1 ++ le 8 p.2) ++ le 8 s.sv.unknown.toNat

def execSvLoadGet (r : CmdId) (s : State) : Res := feljo 0x0408 r (fun c s => adminOnly c (.done s (withOut (loadBytes s) ok))) s

def simReset (c : Cmd) (s : State) : Ans :=
  withStream c s fun t => require t.simActive stale (.done (setSim (streamIx c) false s) ok)

def execSvSimReset (r : CmdId) (s : State) : Res := feljo 0x0409 r (fun c s => svReserved c s simReset) s

def svClear (c : Cmd) (s : State) : Ans :=
  if streamIx c = 0xFFFF then
    .done { s with sv := { streams := tmap (fun _ t => { t with counts := [] }) s.sv.streams, unknown := 0 } } ok
  else withStream c s fun _ => .done (updStream (streamIx c) (fun t => { t with counts := [] }) s) ok

def execSvCountersClear (r : CmdId) (s : State) : Res := feljo 0x040A r (fun c s => adminOnly c (notBootHalted s (svClear c s))) s

/-- No sample has been placed for STREAM_TIMEOUT (R180). -/
def execStreamTimeout (x : Nat) (s : State) : Res :=
  match tfind s.sv.streams x with
  | some t =>
    .next (if t.state == .running && decide (t.lastAt + fval t.cfg sTimeout * ms ≤ s.clk) then
      setStream x .lost (strCount x 15 (endSequence x s)) else s)
  | none => .next s

end Sys2Proof.Machine
end

