-- ==== Sys2Proof/Machine/Filter.lean ====
section
/-! DEFINITION. The filter commands (R194, R195, R201, R204 to R211). -/

namespace Sys2Proof.Machine

/-- The channel a command names. -/
def chanIx (c : Cmd) : Nat := argD c 1 0

/-- A command of the admin slice, or of an instance that references the channel's stream. -/
def chanReferenced (c : Cmd) (s : State) (k : Ans) : Ans :=
  let own := match streamOfChan s (chanIx c) with
    | some (x, _) => (referers s x).contains c.id.slice
    | none => false
  require (fromAdmin c || own) (denied 2) k

/-- Stage the keys a command gives. -/
def stageKeys (ds : List Desc) (c : Cmd) (cfg : Cfg) : Cfg :=
  ds.foldl (fun g d => match arg c d.key with
    | some v => fstage g d v
    | none => g) cfg

/-- The index of the key that makes a single-cycle-settling channel impossible (R204): scs where the command sets it, else
the response or post-filter refused (DEDUCED). -/
def scsBad (c : Cmd) (g : Cfg) : Option Nat :=
  if fread g cScs = 1 ∧ (fread g cResponse ≠ 2 ∨ fread g cPost = 1) then
    some (argIdx c (if (arg c 4).isSome then 4 else if fread g cResponse ≠ 2 ∧ (arg c 2).isSome then 2 else 3))
  else none

def channelSet (c : Cmd) (s : State) : Ans :=
  let g := stageKeys chanFields c (chanCfg s (chanIx c))
  match scsBad c g with
  | some i => .fail (badarg i)
  | none => .done (updFilt (fun f => { f with chans := tset {} f.chans (chanIx c) g }) s) stagedR

def execFilterChannelSet (r : CmdId) (s : State) : Res := feljo 0x0501 r (fun c s => svReserved c s channelSet) s

/-- The pairs of a channel. -/
def pairsOf (s : State) (ch : Nat) : List Pair := s.filt.pairs.filter fun p => p.chan == ch

/-- L of a pair and H in ns. -/
def pairBytes (s : State) (p : Pair) : List Byte :=
  let h := match streamOfChan s p.chan with
    | some (_, x) => lookNs (sdRate x.desc) (fval (chanCfg s p.chan) cResponse)
    | none => 0
  le 1 p.dom ++ le 1 (chanSpan s p.chan) ++ zeros 2 ++ le 4 h

def channelGet (c : Cmd) (s : State) : Ans :=
  chanReferenced c s (.done s (withOut
    (keyList chanFields (chanCfg s (chanIx c)) ++ (pairsOf s (chanIx c)).flatMap (pairBytes s))
    { okOrStaged (anyStaged (chanCfg s (chanIx c))) with res0 := (pairsOf s (chanIx c)).length }))

def execFilterChannelGet (r : CmdId) (s : State) : Res := feljo 0x0502 r channelGet s

/-- The resampler input rates (R191). -/
def inRates : List Nat := [4000, 4800, 6000, 6400, 7200, 7680]

/-- The coefficients of a response at an input rate, or of a decimator stage. -/
def romBytes (resp x : Nat) : List Byte :=
  if resp = 3 then le 4 (hbTaps x) ++ (List.range (hbTaps x)).flatMap fun i => le 4 (enc 32 (hbCoef x i))
  else le 4 (respTaps resp x) ++ (List.range 257).flatMap fun row =>
    (List.range (respTaps resp x)).flatMap fun i => le 4 (enc 32 (coef resp x row i))

def romGet (c : Cmd) (s : State) : Ans :=
  let resp := argD c 1 0
  let x := argD c 2 0
  require (if resp = 3 then decide (1 ≤ x) && decide (x ≤ 4) else inRates.contains x) (badarg (argIdx c 2))
    (.done s (withOut (romBytes resp x) ok))

def execFilterRomGet (r : CmdId) (s : State) : Res := feljo 0x0503 r romGet s

def pairsGet (s : State) : List Byte :=
  le 4 s.filt.pairs.length ++ le 4 pairCap ++
    (List.range 16).flatMap fun d => le 2 (s.filt.pairs.filter fun p => p.dom == d).length

def execFilterPairsGet (r : CmdId) (s : State) : Res := feljo 0x0504 r (fun c s => adminOnly c (.done s (withOut (pairsGet s) ok))) s

/-- A grid record of 12 bytes. -/
def gridBytes (g : Grid) : List Byte := le 4 g.angle.toNat ++ le 4 (enc 32 g.v) ++ le 2 g.csq ++ zeros 2

def gridRead (c : Cmd) (s : State) : Ans :=
  chanReferenced c s (match pairAt s (chanIx c) (argD c 2 0) with
    | some p => .done s (withOut ((p.hist.take (argD c 3 1)).reverse.flatMap gridBytes) ok)
    | none => .fail stale)

def execFilterGridRead (r : CmdId) (s : State) : Res := feljo 0x0505 r gridRead s

/-- `filter.resync`: the pairs wait for the stream's next placed sample. -/
def resync (c : Cmd) (s : State) : Ans :=
  let ch := chanIx c
  let d := argD c 2 0
  let hit (p : Pair) : Bool := p.chan == ch && (d == 0xFF || p.dom == d)
  require (s.svc.state == .commissioning || s.svc.state == .test) (denied 1)
    (require (s.filt.pairs.any hit) stale (.wait (addWait (.resync ch d) (some c.id) (mapPairs hit pairWait s))))

def execFilterResync (r : CmdId) (s : State) : Res := feljo 0x0506 r (fun c s => svReserved c s resync) s

/-! ## Threshold detectors -/

def det (s : State) (i : Nat) : Det := tget {} s.filt.dets i

def updDet (i : Nat) (f : Det → Det) (s : State) : State := updFilt (fun w => { w with dets := tmod {} w.dets i f }) s

/-- An owner is an instance in the detector's domain that references the stream of its channel (R211). -/
def ownerOk (s : State) (g : Cfg) : Bool :=
  fval g tdOwner == 0 ||
    (match streamOfChan s (fval g tdChan) with
     | some (x, _) => (referers s x).contains (fval g tdOwner) && instDom (inst s (fval g tdOwner)) == fval g tdDomain
     | none => false)

/-- The index of the first given key of a list. -/
def firstIdx (c : Cmd) (ks : List Nat) : Nat := argIdx c ((ks.find? fun k => (arg c k).isSome).getD 0)

def detectorSet (c : Cmd) (s : State) : Ans :=
  let i := argD c 1 0
  let d := det s i
  match writeKeys detFields (fun _ => if fon d.cfg tdEnable then .run else .idle) (c.params.filter fun p => p.key != 1) d.cfg false with
  | .error r => .fail r
  | .ok (g, _) =>
    if fval g tdLevel < fval g tdHyst then .fail (badarg (firstIdx c [7, 6]))
    else if !ownerOk s g then .fail (badarg (firstIdx c [9, 2, 3]))
    else
      let start := fon g tdEnable && !fon d.cfg tdEnable
      let s' := updDet i (fun d => if start then { d with cfg := g, state := false, run := 0, lastK := none, event := none } else { d with cfg := g }) s
      withPairs s' ok

def execFilterDetectorSet (r : CmdId) (s : State) : Res := feljo 0x0507 r (fun c s => svReserved c s detectorSet) s

def detectorGet (c : Cmd) (s : State) : Ans :=
  let d := det s (argD c 1 0)
  require (fromAdmin c || fval d.cfg tdOwner == c.id.slice) (denied 2)
    (notBootHalted s (.done s (withOut
      (keyList detFields d.cfg ++ le 4 d.asserts.toNat ++ le 4 d.deasserts.toNat ++ le 4 d.suppressed.toNat)
      { okOrStaged (anyStaged d.cfg) with res0 := b2n d.state + fval d.cfg tdEnable * 2 + d.run * 4 })))

def execFilterDetectorGet (r : CmdId) (s : State) : Res := feljo 0x0508 r detectorGet s

def clearDet (d : Det) : Det := { d with asserts := 0, deasserts := 0, suppressed := 0 }

def detectorClear (c : Cmd) (s : State) : Ans :=
  let i := argD c 1 0
  .done (if i = 0xFFFF then updFilt (fun f => { f with dets := tmapD {} (fun _ d => clearDet d) f.dets }) s
    else updDet i clearDet s) ok

def execFilterDetectorClear (r : CmdId) (s : State) : Res :=
  feljo 0x0509 r (fun c s => adminOnly c (notBootHalted s (detectorClear c s))) s

end Sys2Proof.Machine
end

