-- ==== Sys2Proof/Machine/ElementCmds.lean ====
section
/-! DEFINITION. The element commands (R231 to R240), the end of an evaluation (R219, R220) and the self-test of the lanes
(R221). -/

namespace Sys2Proof.Machine

/-! ## Setting sets -/

def updEl (n : Nat) (f : Elems → Elems) (s : State) : State := updInst n (fun i => { i with el := f i.el }) s

/-- An instance's own command, refused in BOOT and HALTED. -/
def ownReady (s : State) (k : Ans) : Ans := notBootHalted s k

def setLoad (c : Cmd) (s : State) : Ans :=
  let n := instOf c
  if (inst s n).st = .resetting then .fail busy
  else if !sealed c.input then .fail untrusted
  else match setBad c.input with
    | some o => .fail (withKey 2 o (badarg 0xFFFE))
    | none => .done (updEl n (fun e => { e with staged := some c.input, fieldsOnly := false }) s) stagedR

def execElementSetLoad (r : CmdId) (s : State) : Res := feljo 0x0601 r (fun c s => ownReady s (carried c s setLoad)) s

def setGet (c : Cmd) (s : State) : Ans :=
  let e := (inst s (instOf c)).el
  match (if argD c 3 0 = 0 then e.img else e.staged) with
  | some g => .done s (withOut g ok)
  | none => .fail stale

def execElementSetGet (r : CmdId) (s : State) : Res := feljo 0x0602 r setGet s

/-! ## One field of one slot (R236, R240) -/

/-- Place and bytes of a key's field in a slot record. -/
def fieldOf (r : List Byte) (key v : Nat) : Nat × List Byte :=
  let flag (i : Nat) : Nat × List Byte := (4, le 1 (putBit (rFlags r) i (v != 0)))
  match key with
  | 3 => (6, le 2 v)
  | 4 => (8, le 2 v)
  | 5 => flag 1
  | 6 => flag 2
  | 7 => (2, le 1 v)
  | 8 => (3, le 1 v)
  | 9 => flag 0
  | k => (40 + 4 * (k - 16), le 4 v)

/-- The class of a key for a type; none for a parameter the type does not have. The start signal is a parameter of BF
(0x14) alone (R234; DEDUCED for R240). -/
def keyClass (type key : Nat) : Option Cls :=
  if key = 4 ∧ type ≠ 0x14 then none
  else if key ≤ 6 then some .live
  else if key ≤ 9 then some .staged
  else match catalogue type with
    | some r => (r.params[key - 16]?).map (·.cls)
    | none => none

/-- Write a key of a slot into an image. -/
def putField1 (img : List Byte) (slot : Nat) (p : Param) : List Byte :=
  match findRec img slot with
  | some (o, r) => putAt img (o + (fieldOf r p.key p.value).1) (fieldOf r p.key p.value).2
  | none => img

def putFields (img : List Byte) (slot : Nat) (ps : List Param) : List Byte :=
  if ps.isEmpty then img else reseal (ps.foldl (fun g p => putField1 g slot p) img)

/-- The index of the first entry whose field the slot's record refuses. -/
def fieldBad (img : List Byte) (slot : Nat) (ps : List Param) : Option Nat :=
  let g := ps.foldl (fun g p => putField1 g slot p) img
  match findRec g slot with
  | none => none
  | some (o, r) =>
    let j := (o - recOff g 0) / 80
    let bad := (recChecks g j none).filter fun x => !x.2
    match bad with
    | [] => none
    | _ =>
      some ((ps.find? fun p => bad.any fun x => x.1 == o + (fieldOf r p.key p.value).1).map (·.idx) |>.getD ((ps.head?.map (·.idx)).getD 0))

def paramSet (c : Cmd) (s : State) : Ans :=
  let n := instOf c
  let i := inst s n
  let slot := argD c 2 0
  let ps := c.params.filter fun p => 2 < p.key
  let base := match i.el.staged with
    | some g => some g
    | none => i.el.img
  if i.st = .resetting then .fail busy
  else match base.bind fun g => (findRec g slot).map fun r => (g, r.2) with
    | none => .fail stale
    | some (g, r) =>
      let cls (p : Param) : Option Cls := keyClass (rType r) p.key
      match ps.find? fun p => (cls p).isNone with
      | some p => .fail (badarg p.idx)
      | none =>
        match fieldBad g slot ps with
        | some k => .fail (badarg k)
        | none =>
          if ps.any fun p => cls p == some .locked then .fail (denied 3)
          else if i.el.staged.isSome && !i.el.fieldsOnly then
            .done (updEl n (fun e => { e with staged := some (putFields g slot ps) }) s) stagedR
          else
            let live := if i.st = .running then ps.filter fun p => cls p == some .live else []
            let wait := if i.st = .running then ps.filter fun p => cls p == some .staged else ps
            .done (updEl n (fun e => { e with
                img := e.img.map fun m => putFields m slot live
                staged := if wait.isEmpty && e.staged.isNone then none else some (putFields g slot ps)
                fieldsOnly := true }) s)
              (okOrStaged (!wait.isEmpty))

def execElementParamSet (r : CmdId) (s : State) : Res := feljo 0x0603 r (fun c s => ownReady s (carried c s paramSet)) s

/-- The keys of a slot's record, in key order. -/
def slotKeys (r : List Byte) : List (Nat × Nat) :=
  [(3, rBlock r)] ++ (if rType r = 0x14 then [(4, rStart r)] else []) ++ [(5, b2n (rQblock r)), (6, b2n (rNeedlock r)), (7, rEvery r), (8, rOffset r), (9, b2n (rHalf r))] ++
    ((List.range ((catalogue (rType r)).map (·.params.length) |>.getD 0)).map fun i => (0x10 + i, (rParams r).getD i 0))

def paramGet (c : Cmd) (s : State) : Ans :=
  let e := (inst s (instOf c)).el
  let cur := (e.img.bind fun g => findRec g (argD c 2 0)).map (·.2)
  let stg := (e.staged.bind fun g => findRec g (argD c 2 0)).map (·.2)
  match stg, cur with
  | some r, old =>
    let olds := (old.map slotKeys).getD []
    .done s (withOut ((slotKeys r).flatMap fun p => entryBytes p.1 p.2 (!(olds.contains p))) stagedR)
  | none, some r => .done s (withOut ((slotKeys r).flatMap fun p => entryBytes p.1 p.2 false) ok)
  | none, none => .fail stale

def execElementParamGet (r : CmdId) (s : State) : Res := feljo 0x0604 r paramGet s

/-! ## Admission and load -/

/-- Admission of what the next restart would bring into effect (DEDUCED where nothing is staged), without applying it. -/
def admitCheck (c : Cmd) (s : State) : Ans :=
  let n := instOf c
  let t := updInst n applyStaged s
  let u (rs : List Reserve) : Nat := loadShare s (loadU (tmod {} t.insts n fun i => { i with el := { i.el with reserved := rs, resDom := instDom i } }) (fmaxOf s) (stepOf s))
  let plan := planSlots t n ((inst t n).el.img.getD [])
  match admitSet t n (inst t n).el.img with
  | .ok rs => .done s { ok with res1 := some (u rs) }
  | .error e => .fail { withKey 2 e nospace with res1 := some (u plan) }

def execElementAdmitCheck (r : CmdId) (s : State) : Res := feljo 0x0605 r (fun c s => ownReady s (admitCheck c s)) s

def elLoadBytes (s : State) : List Byte :=
  le 1 (groupLanes s 0).length ++ le 1 (groupLanes s 1).length ++ zeros 2 ++ le 8 (laneCap s) ++
    le 8 (loadU s.insts (fmaxOf s) (stepOf s) / 100) ++
    (List.range 16).flatMap fun d => le 4 (peakLoad (reservedIn s.insts d)) ++ le 4 (stepRate (fmaxOf s d) (stepOf s d) / 100)

def execElementLoadGet (r : CmdId) (s : State) : Res :=
  feljo 0x0606 r (fun c s => adminOnly c (.done s (withOut (elLoadBytes s) ok))) s

/-! ## Slots, lanes, catalogue -/

/-- A reserved slot of the command's instance. -/
def withSlot (c : Cmd) (s : State) (k : Reserve → SlotSt → Ans) : Ans :=
  let e := (inst s (instOf c)).el
  match e.reserved.find? fun r => r.slot == argD c 2 0 with
  | some r => k r (tget {} e.slots r.slot)
  | none => .fail stale

def slotStatus (c : Cmd) (s : State) : Ans :=
  withSlot c s fun r x =>
    .done s (withOut (le 4 x.evals.toNat ++ le 4 x.blocked.toNat ++ le 4 x.mismatch.toNat ++ le 4 x.overrun.toNat)
      { ok with res0 := x.word + r.gslot * 65536, res1 := some x.lastAngle.toNat })

def execElementSlotStatus (r : CmdId) (s : State) : Res := feljo 0x0607 r slotStatus s

def stateGet (c : Cmd) (s : State) : Ans := withSlot c s fun r x => .done s (withOut (slotBytes r.type x) ok)

def execElementStateGet (r : CmdId) (s : State) : Res := feljo 0x0608 r stateGet s

/-- Charges of a lane in the last second. -/
def recentCharges (s : State) (x : Lane) : Nat := (x.charges.filter fun t => decide (s.clk ≤ t + sec1)).length

def laneStatus (c : Cmd) (s : State) : Ans :=
  let x := lane s (argD c 3 0)
  .done s { ok with res0 := b2n x.retired + b2n x.failed * 2 + recentCharges s x * 4, res1 := some x.evals.toNat }

def execElementLaneStatus (r : CmdId) (s : State) : Res := feljo 0x0609 r (fun c s => adminOnly c (laneStatus c s)) s

/-- The code of a class in a catalogue reply (DESIGN CHOICE). -/
def clsCode : Cls → Nat
  | .live => 0
  | .staged => 1
  | .locked => 2

/-- The catalogue entry of a type as 80 bytes; the sizes of its fields are a DESIGN CHOICE. -/
def catBytes (r : CatRow) : List Byte :=
  le 2 r.cost ++ le 2 r.nbay ++ le 1 r.i ++ le 1 r.v ++ le 1 (b2n r.trip) ++ le 1 r.bytes ++
    (List.range 8).flatMap fun i => match r.params[i]? with
      | some p => le 4 p.lo ++ le 4 p.hi ++ le 1 (clsCode p.cls)
      | none => zeros 9

def catalogueGet (c : Cmd) (s : State) : Ans :=
  match catalogue (argD c 3 0) with
  | some r => .done s (withOut (catBytes r) ok)
  | none => .fail (badarg (argIdx c 3))

def execElementCatalogueGet (r : CmdId) (s : State) : Res := feljo 0x060A r catalogueGet s

def clearSlot (x : SlotSt) : SlotSt := { x with evals := 0, blocked := 0, mismatch := 0, overrun := 0 }

def elementClear (c : Cmd) (s : State) : Ans :=
  let k := argD c 2 0
  .done (updEl (instOf c) (fun e => { e with slots := tmap (fun i x => if k = 0xFF ∨ i = k then clearSlot x else x) e.slots }) s) ok

def execElementCountersClear (r : CmdId) (s : State) : Res :=
  feljo 0x060B r (fun c s => adminOnly c (notBootHalted s (elementClear c s))) s

/-! ## Events -/

/-- An evaluation of the step in progress ends. -/
def execLaneEvaluationComplete (n slot : Nat) (upset : LaneUpset) (s : State) : Res :=
  match jobAt s n slot with
  | some (d, x) => .next (endEval d x upset s)
  | none => .next s

/-- The lanes in service of a list fail their self-test. -/
def failLanes (failed : List Nat) (s : State) : State :=
  ((List.range 64).filter fun l => failed.contains l && !(lane s l).retired).foldl
    (fun s l => updLane l (fun x => { x with failed := true, due := true }) s) (updLanes (fun p => { p with testAt := s.clk }) s)

/-- Lanes that are due retire at once where no step is in progress (R221, DEDUCED). -/
def retireIdle (s : State) : State := if s.lanes.steps.isEmpty then retireLanes s else s

/-- Every 10 s each lane in service runs its self-test; a lane that fails is due for retirement at the close of the step in
progress. -/
def execLaneSelftest (failed : List Nat) (s : State) : Res :=
  .next (if s.lanes.testAt + 10 * sec1 ≤ s.clk then retireIdle (failLanes failed s) else s)

end Sys2Proof.Machine
end

