-- ==== Sys2Proof/Machine/LogicCmds.lean ====
section
/-! DEFINITION. The logic commands (R259 to R272) and the end of an exchange's preparation (R262). -/

namespace Sys2Proof.Machine

/-! ## Programs -/

/-- The ballot whose sweep switches an exchange in a pair: 2 ms after its effect point (R262, R270). -/
def exchBallot (s : State) : Option Nat := if s.tdm.inStep then some (s.tdm.ballot + 8) else none

def startExchange (c : Cmd) (p : Prog) (s : State) : Ans :=
  let n := instOf c
  let l := (inst s n).lg
  if (inst s n).st ≠ .running ∨ l.prog.isNone then .fail (denied 4)
  else match placeProg s.insts p with
    | none => .fail nospace
    | some b =>
      .wait (updLogic n (fun l => { l with exch := some { prog := p, bank := b, start := s.clk, ballot := exchBallot s, cmd := some c.id } }) s)

def programLoad (c : Cmd) (s : State) : Ans :=
  let n := instOf c
  if (inst s n).st = .resetting ∨ (inst s n).lg.exch.isSome then .fail busy
  else if !sealed c.input then .fail untrusted
  else match progBad c.input with
    | some o => .fail (withKey 2 o (badarg 0xFFFE))
    | none =>
      let p := readProg c.input
      if argD c 2 0 = 0 then .done (updLogic n (fun l => { l with staged := some p }) s) stagedR
      else startExchange c p s

def execLogicProgramLoad (r : CmdId) (s : State) : Res := feljo 0x0701 r (fun c s => ownReady s (carried c s programLoad)) s

def programGet (c : Cmd) (s : State) : Ans :=
  let l := (inst s (instOf c)).lg
  match (if argD c 3 0 = 0 then l.prog else l.staged) with
  | some p => .done s (withOut p.img ok)
  | none => .fail stale

def execLogicProgramGet (r : CmdId) (s : State) : Res := feljo 0x0702 r programGet s

def programInfo (c : Cmd) (s : State) : Ans :=
  let l := (inst s (instOf c)).lg
  match l.prog with
  | some p =>
    .done s (withOut (le 1 l.bank ++ zeros 3 ++ le 4 p.code.length ++ le 4 p.states.length ++ le 4 p.sigs.length ++ sha384 p.img) ok)
  | none => .fail stale

def execLogicProgramInfo (r : CmdId) (s : State) : Res := feljo 0x0703 r programInfo s

/-! ## Signals and controls -/

/-- Bits of a space as bytes, the first in bit 0 of byte 0. -/
def spaceBytes (space first n : Nat) : List Byte := le ((n + 7) / 8) (bitsOf space first n)

def signalRead (c : Cmd) (s : State) : Ans :=
  let f := argD c 3 0
  let n := argD c 4 1
  require (decide (f + n ≤ 4096)) (badarg (argIdx c 4))
    (.done s (withOut (spaceBytes (inst s (instOf c)).lg.space f n) { ok with res1 := some (s.logic.sweep % 2 ^ 32) }))

def execLogicSignalRead (r : CmdId) (s : State) : Res := feljo 0x0704 r signalRead s

def controlWrite (c : Cmd) (s : State) : Ans :=
  let n := instOf c
  let bs := args c 3
  let vs := args c 4
  if (inst s n).st = .resetting then .fail busy
  else if bs.isEmpty ∨ bs.length ≠ vs.length ∨ 32 < bs.length then .fail (badarg 0xFFFE)
  else .done (updLogic n (fun l => { l with controls := (bs.zip vs).foldl (fun m p => putBit m (p.1 - 1664) (p.2 != 0)) l.controls }) s) ok

def execLogicControlWrite (r : CmdId) (s : State) : Res := feljo 0x0705 r (fun c s => ownReady s (carried c s controlWrite)) s

/-! ## Forces (R267 to R269) -/

def forceSet (c : Cmd) (s : State) : Ans :=
  let n := instOf c
  let l := (inst s n).lg
  let id := argD c 3 0
  if !(s.svc.state == .commissioning || s.svc.state == .test) then .fail (denied 1)
  else if (inst s n).st = .resetting then .fail busy
  else if (identAddr l.prog id).isNone then .fail stale
  else if 64 ≤ l.forces.length ∧ !thas l.forces id then .fail nospace
  else .done (note 0x0703 n c.id.slice noObj [id, argD c 4 0]
    (updLogic n (fun l => { l with forces := tput l.forces id (argD c 4 0) }) s)) ok

def execLogicForceSet (r : CmdId) (s : State) : Res := feljo 0x0706 r (fun c s => ownReady s (carried c s forceSet)) s

def forceClear (c : Cmd) (s : State) : Ans :=
  let n := instOf c
  let id := argD c 3 0
  if id = 0xFFFFFFFF then .done (clearForces n c.id.slice s) ok
  else match tfind (inst s n).lg.forces id with
    | some v => .done (note 0x0704 n c.id.slice noObj [id, v] (updLogic n (fun l => { l with forces := tdel l.forces id }) s)) ok
    | none => .fail stale

def execLogicForceClear (r : CmdId) (s : State) : Res := feljo 0x0707 r (fun c s => ownReady s (carried c s forceClear)) s

def forceList (c : Cmd) (s : State) : Ans :=
  let l := (inst s (instOf c)).lg
  .done s (withOut (l.forces.flatMap (forceRec l.prog)) ok)

def execLogicForceList (r : CmdId) (s : State) : Res := feljo 0x0708 r forceList s

/-! ## State, report, engines -/

def logicState (c : Cmd) (s : State) : Ans :=
  match (inst s (instOf c)).lg.recs.find? fun r => r.ident == argD c 3 0 with
  | some r => .done s (withOut (logicRec r) ok)
  | none => .fail stale

def execLogicStateGet (r : CmdId) (s : State) : Res := feljo 0x0709 r logicState s

def exchangeReport (c : Cmd) (s : State) : Ans :=
  match (inst s (instOf c)).lg.report with
  | some b => .done s (withOut b ok)
  | none => .fail stale

def execLogicExchangeReport (r : CmdId) (s : State) : Res := feljo 0x070A r exchangeReport s

/-- The sweep period in force, in ns (R243, R244). -/
def sweepPeriod (s : State) : Nat := if s.tdm.standalone then max (sweepNs s.insts) (s.logic.sweepMin * us) else 250 * us

def sweepBytes (s : State) : List Byte :=
  le 4 (sweepNs s.insts) ++ le 4 (sweepPeriod s) ++ le 8 s.logic.sweep ++
    (List.range 8).flatMap (fun b => le 4 (bankUse s.insts false b)) ++
    le 4 (sumOf ((List.range 8).map (bankUse s.insts true))) ++ le 4 (recUse s.insts) ++ le 4 s.logic.ecc.toNat ++ zeros 4

def execLogicSweepGet (r : CmdId) (s : State) : Res := feljo 0x070B r (fun c s => adminOnly c (.done s (withOut (sweepBytes s) ok))) s

def execLogicEngineSet (r : CmdId) (s : State) : Res :=
  feljo 0x070C r (fun c s => adminOnly c (notBootHalted s
    (.done { s with logic := { s.logic with sweepMin := argD c 2 25 } } ok))) s

/-- The shadow has been checked, placed and mapped (R262). -/
def execExchangeShadowReady (n : Nat) (s : State) : Res :=
  .next (updLogic n (fun l => { l with exch := l.exch.map fun x => { x with ready := true } }) s)

end Sys2Proof.Machine
end

