-- ==== Sys2Proof/Machine/GooseOps.lean ====
section
/-! DEFINITION. Shared operations of GOOSE: the checks of descriptors (R281, R287), the verification of frames (R165,
R288), the judgement of messages (R289, R290), and the state of a subscription (R247, R291). -/

namespace Sys2Proof.Machine

/-! ## Descriptors -/

/-- An ASCII name of at most 129 characters, zero-padded to 130 bytes (DEDUCED: a terminating zero as in R162). -/
def nameOk (b : List Byte) : Bool :=
  let name := b.takeWhile fun x => x != 0
  decide (1 ≤ name.length) && decide (name.length ≤ 129) && name.all (fun x => decide (x.toNat < 128)) &&
    (b.drop name.length).all fun x => x == 0

/-- The offset of the first offending field of a publication descriptor (R281). -/
def pubBad (d : List Byte) : Option Nat :=
  let checks : List (Nat × Bool) :=
    [(0, d.length == 432), (0, nameOk (sliceOf d 0 130)), (130, nameOk (sliceOf d 130 130)), (260, nameOk (sliceOf d 260 130)),
     (396, decide (leAt d 396 2 ≤ 0x3FFF)), (398, decide (bitsOf (leAt d 398 2) 0 12 ≤ 4094)),
     (404, decide (1 ≤ leAt d 404 1) && decide (leAt d 404 1 ≤ 8)), (407, decide (leAt d 407 1 ≤ 7)),
     (408, decide (1 ≤ leAt d 408 2) && decide (leAt d 408 2 ≤ 100)), (410, zerosAt d 410 2),
     (412, decide (100 ≤ leAt d 412 4) && decide (leAt d 412 4 ≤ 60000) && decide (4 * leAt d 408 2 ≤ leAt d 412 4)),
     (416, decide (leAt d 416 1 ≤ 2)), (417, decide (leAt d 417 1 < 2)), (418, decide (leAt d 418 2 ≤ 1023)),
     (420, decide (leAt d 420 4 ≤ 1000000)), (424, decide (leAt d 424 4 ≤ 1048575)), (428, zerosAt d 428 4)]
  (checks.find? fun c => !c.2).map Prod.fst

/-- The offset of the first offending field of a subscription descriptor (R287). -/
def subBad (d : List Byte) : Option Nat :=
  let checks : List (Nat × Bool) :=
    [(0, d.length == 296), (0, nameOk (sliceOf d 0 130)), (130, nameOk (sliceOf d 130 130)),
     (266, decide (leAt d 266 2 ≤ 0x3FFF)), (268, decide (bitsOf (leAt d 268 2) 0 12 ≤ 4094) && bitsOf (leAt d 268 2) 12 3 == 0),
     (274, decide (leAt d 274 1 < 2)), (275, decide (1 ≤ leAt d 275 1) && decide (leAt d 275 1 ≤ 64)),
     (276, decide (leAt d 276 2 ≤ 1023))] ++
    ((List.range 6).map fun i => (278 + i, decide (leAt d (278 + i) 1 ≤ 63) || leAt d (278 + i) 1 == 0xFF)) ++
    ((List.range 6).map fun i => (284 + i, decide (leAt d (284 + i) 1 ≤ 3))) ++
    [(291, zerosAt d 291 1), (292, decide (leAt d 292 4 ≤ 10000))]
  (checks.find? fun c => !c.2).map Prod.fst

/-- The class L fields of a subscription: offset and length. -/
def subLive : List (Nat × Nat) := [(290, 1), (292, 4)]

/-- A descriptor with the class L fields of another. -/
def takeLive (fs : List (Nat × Nat)) (new old : List Byte) : List Byte :=
  fs.foldl (fun d f => patch d f.1 (sliceOf new f.1 f.2)) old

/-- A descriptor written to a block: what takes effect now, and what waits for the restart of the instance. -/
def writeDesc (fs : List (Nat × Nat)) (run : Bool) (new old : List Byte) : List Byte × Option (List Byte) :=
  let now := if run then takeLive fs new old else old
  (now, if now = new then none else some new)

/-! ## Verification (R165) -/

/-- A GMAC extension that the module accepts for a key. -/
def authFits (a : Auth) (k : Key) : Bool := (a.alg == 1 || a.alg == 2) && a.tagLen == 16 && a.keyId == k.id && a.alg == k.alg

/-- The tag of a GOOSE message verifies under a key of a slot. -/
def gooseAuthOk (s : State) (slot : Nat) (g : GoosePdu) : Bool :=
  match g.auth with
  | some a => (verifyKeys s slot 1).any fun k => authFits a k && a.tag == Config.gooseTag k.bytes k.alg { g with auth := none }
  | none => false

/-! ## Subscriptions -/

def updSub (n i : Nat) (f : Sub → Sub) (s : State) : State := updInst n (fun x => { x with subs := tupd x.subs i f }) s

/-- The entry and the kind of a selected member. -/
def subMember (u : Sub) (b : Nat) : Option (Nat × Nat) :=
  let i := leAt u.desc (278 + b) 1
  if i = 0xFF then none else some (i, leAt u.desc (284 + b) 1)

/-- Does an entry have the type a member requires? -/
def kindFits (mkind : Nat) (e : GooseEntry) : Bool := e.kind == (if mkind = 0 then 0 else if mkind = 3 then 2 else 1)

/-- The value of a member. -/
def memberValue (mkind : Nat) (e : GooseEntry) : Bool :=
  match mkind with
  | 0 => e.value != 0
  | 1 => e.value % 4 == 2
  | 2 => e.value % 4 == 1
  | _ => e.value % 4 == 0

/-- The six member bits of a message. -/
def subBits (u : Sub) (es : List GooseEntry) : Nat :=
  sumOf ((List.range 6).map fun b => match subMember u b with
    | some (i, k) => match es[i]? with
      | some e => b2n (memberValue k e) * 2 ^ b
      | none => 0
    | none => 0)

/-- Some selected Quality carries the test bit. -/
def subTest (u : Sub) (es : List GooseEntry) : Bool :=
  (List.range 6).any fun b => match subMember u b with
    | some (i, 3) => match es[i]? with
      | some e => bitOf e.value 11
      | none => false
    | _ => false

/-- The eight signal bits of a subscription (R247, R291). -/
def subSignal (u : Sub) : Nat :=
  let used := sumOf ((List.range 6).map fun b => if (subMember u b).isSome then 2 ^ b else 0)
  (if u.valid then u.bits else leAt u.desc 290 1 &&& used) + b2n u.valid * 64 + b2n u.test * 128

/-- Checks 1 and 2 of R288: address, APPID, VLAN, names. -/
def subMatches (u : Sub) (f : Frame) (g : GoosePdu) : Bool :=
  let v := leAt u.desc 268 2
  let name (off : Nat) : List Byte := (sliceOf u.desc off 130).takeWhile fun b => b != 0
  f.dst == unbe (sliceOf u.desc 260 6) && g.appid == leAt u.desc 266 2 &&
    (bitOf v 15 || (match f.tag with
      | some t => t.vid == bitsOf v 0 12
      | none => bitsOf v 0 12 == 0)) &&
    g.gocbref == name 0 && g.goid == name 130

/-- Check 4. -/
def subDecodes (u : Sub) (g : GoosePdu) : Bool :=
  g.decodes && g.confRev == leAt u.desc 270 4 && g.nds == leAt u.desc 275 1 && !g.ndsCom &&
    (List.range 6).all fun b => match subMember u b with
      | some (i, k) => match g.entries[i]? with
        | some e => kindFits k e
        | none => false
      | none => true

/-- Check 5 (R290): which kind of message the subscription takes. -/
def simJudge (accept : Bool) (u : Sub) (sim : Bool) : Option Sub :=
  if sim then
    if accept then some (if u.simActive then u else { u with simActive := true, valid := false }) else none
  else if u.simActive then
    if accept then none else some { u with simActive := false, valid := false }
  else some u

/-- How a message stands to the last accepted one (R289). -/
inductive SeqJudge where
  | retransmission
  | newState (missed : Nat)
  | restart
  | bad
  deriving DecidableEq, Repr

/-- Is a count higher, the passage from the highest value to 1 included? -/
def countAbove (new old : Nat) : Bool := decide (old < new) || (old == 0xFFFFFFFF && new == 1)

def seqJudge (u : Sub) (g : GoosePdu) : SeqJudge :=
  let st := u.stNum.toNat
  let sq := u.sqNum.toNat
  if !u.started then .newState 0
  else if g.stNum = st then
    if countAbove g.sqNum sq then (if g.entries = u.data then .retransmission else .bad)
    else if g.sqNum = 0 then .restart else .bad
  else if countAbove g.stNum st then .newState (if st < g.stNum then g.stNum - st - 1 else 0)
  else if g.sqNum = 0 then .restart else .bad

/-- A message is accepted at a `clk` of arrival. -/
def subAccept (u : Sub) (g : GoosePdu) (at_ : Nat) : Sub :=
  { u with started := true, test := g.sim || subTest u g.entries, bits := subBits u g.entries, stNum := BitVec.ofNat 32 g.stNum,
           sqNum := BitVec.ofNat 32 g.sqNum, data := g.entries, tal := at_ + g.tal * ms + leAt u.desc 292 4 * us }

/-- VALID changes: counted, and entered in the Chronicle once in 60 s. -/
def setValid (n i : Nat) (v : Bool) (s : State) : State :=
  match tfind (inst s n).subs i with
  | none => s
  | some u =>
    if u.valid = v then s
    else
      let old := match u.logAt with
        | some t => decide (s.clk < t + 60 * sec1)
        | none => false
      let s := updSub n i (fun u => { u with valid := v, validChanges := u.validChanges + 1, logAt := if old then u.logAt else some s.clk }) s
      if old then s else noteMod 0x0805 n i [b2n v] s

/-- Judge and apply a message that has passed checks 1 to 5 (R289). -/
def subApply (n i : Nat) (g : GoosePdu) (at_ : Nat) (s : State) : State :=
  match tfind (inst s n).subs i with
  | none => s
  | some u =>
    let go (f : Sub → Sub) : State := setValid n i true (updSub n i (fun u => f (subAccept u g at_)) s)
    match seqJudge u g with
    | .bad => updSub n i (fun u => { u with seqErr := u.seqErr + 1 }) s
    | .retransmission => go id
    | .newState m => go fun u => { u with missed := u.missed + BitVec.ofNat 32 m }
    | .restart => go fun u => { u with restarts := u.restarts + 1 }

/-- Checks 3 to 5 of a subscription: the state after them, and whether the message passed. -/
def subChecks (n i : Nat) (u : Sub) (g : GoosePdu) (s : State) : State × Bool :=
  if bitOf (leAt u.desc 274 1) 0 && !gooseAuthOk s (leAt u.desc 276 2) g then (updSub n i (fun u => { u with authFail := u.authFail + 1 }) s, false)
  else if !subDecodes u g then (updSub n i (fun u => { u with decodeErr := u.decodeErr + 1 }) s, false)
  else match simJudge (fon (inst s n).cfg iSim) u g.sim with
    | none => (updSub n i (fun u => { u with simDiscard := u.simDiscard + 1 }) s, false)
    | some v => (updSub n i (fun u => { u with simActive := v.simActive }) (if u.valid && !v.valid then setValid n i false s else s), true)

/-- The live subscriptions a frame matches. -/
def subHits (s : State) (f : Frame) (g : GoosePdu) : List (Nat × Nat × Sub) :=
  s.insts.flatMap fun (e : Nat × Inst) =>
    (e.2.subs.filter fun u => u.2.live && subMatches u.2 f g).map fun u => (e.1, u.1, u.2)

/-- The events of a subscription's members and VALID reach the recorders with the instant `t` (R399). -/
def subEvents (n i old t : Nat) (s : State) : State :=
  let now := match tfind (inst s n).subs i with
    | some u => subSignal u
    | none => old
  (List.range 7).foldl (fun s b =>
    if bitOf old b = bitOf now b then s
    else offerEvent 1 (n + i * 1024 + b * 65536) (bitOf now b) t (!s.time.traceable) s) s

/-- Do something to a subscription, and report what its bits do. -/
def watchSub (n i t : Nat) (f : State → State) (s : State) : State :=
  match tfind (inst s n).subs i with
  | some u => subEvents n i (subSignal u) t (f s)
  | none => f s

/-- The owner no longer accepts simulation: its subscriptions take real messages again, VALID clear until the first (R290). -/
def subSimEnd (n : Nat) (s : State) : State :=
  if fon (inst s n).cfg iSim then s
  else (inst s n).subs.foldl (fun s (e : Nat × Sub) =>
    if e.2.simActive then watchSub n e.1 s.time.n (fun s => updSub n e.1 (fun u => { u with simActive := false }) (setValid n e.1 false s)) s
    else s) s

end Sys2Proof.Machine
end

