-- ==== Sys2Proof/Machine/GooseCmds.lean ====
section
/-! DEFINITION. The GOOSE commands (R281, R287, R298). -/

namespace Sys2Proof.Machine

/-- The publication or subscription a command names. -/
def localIx (c : Cmd) : Nat := argD c 2 0

def pubCount (s : State) : Nat := sumOf (s.insts.map fun e => e.2.pubs.length)

def subCount (s : State) : Nat := sumOf (s.insts.map fun e => e.2.subs.length)

def pubSet (c : Cmd) (s : State) : Ans :=
  let n := instOf c
  let p := localIx c
  if (inst s n).st = .resetting then .fail busy
  else match pubBad c.input with
    | some _ => .fail (badarg 0xFFFE)
    | none =>
      match tfind (inst s n).pubs p with
      | some u =>
        let w := writeDesc pubLive ((inst s n).st == .running && u.live) c.input u.desc
        .done (putPub n p { u with desc := w.1, staged := w.2 } s) (okOrStaged w.2.isSome)
      | none =>
        require (decide (pubCount s < 4096)) nospace (.done (putPub n p { desc := c.input, staged := some c.input } s) stagedR)

def execGoosePubSet (r : CmdId) (s : State) : Res := feljo 0x0801 r (fun c s => ownReady s (carried c s pubSet)) s

def withPub (c : Cmd) (s : State) (k : Pub → Ans) : Ans :=
  match tfind (inst s (instOf c)).pubs (localIx c) with
  | some u => k u
  | none => .fail stale

def execGoosePubGet (r : CmdId) (s : State) : Res :=
  feljo 0x0802 r (fun c s => withPub c s fun u => .done s (withOut (u.staged.getD u.desc) (okOrStaged u.staged.isSome))) s

def execGoosePubStatus (r : CmdId) (s : State) : Res :=
  feljo 0x0803 r (fun c s => withPub c s fun u =>
    .done s (withOut (le 4 u.sentCount.toNat ++ le 4 u.superseded.toNat ++ le 4 u.powUnlocked.toNat ++ timeBytes u.at_)
      { ok with res0 := u.stNum.toNat, res1 := some u.sqNum.toNat })) s

def pubRelease (c : Cmd) (s : State) : Ans :=
  let n := instOf c
  if (inst s n).st = .resetting then .fail busy
  else withPub c s fun _ =>
    require ((inst s n).st != .running) (denied 4) (.done (updInst n (fun i => { i with pubs := tdel i.pubs (localIx c) }) s) ok)

def execGoosePubRelease (r : CmdId) (s : State) : Res := feljo 0x0804 r (fun c s => ownReady s (carried c s pubRelease)) s

def subSet (c : Cmd) (s : State) : Ans :=
  let n := instOf c
  let k := localIx c
  let put (u : Sub) : State := updInst n (fun i => { i with subs := tput i.subs k u }) s
  if (inst s n).st = .resetting then .fail busy
  else match subBad c.input with
    | some _ => .fail (badarg 0xFFFE)
    | none =>
      match tfind (inst s n).subs k with
      | some u =>
        let w := writeDesc subLive ((inst s n).st == .running && u.live) c.input u.desc
        .done (put { u with desc := w.1, staged := w.2 }) (okOrStaged w.2.isSome)
      | none => require (decide (subCount s < 8192)) nospace (.done (put { desc := c.input, staged := some c.input }) stagedR)

def execGooseSubSet (r : CmdId) (s : State) : Res := feljo 0x0805 r (fun c s => ownReady s (carried c s subSet)) s

def withSub (c : Cmd) (s : State) (k : Sub → Ans) : Ans :=
  match tfind (inst s (instOf c)).subs (localIx c) with
  | some u => k u
  | none => .fail stale

def execGooseSubGet (r : CmdId) (s : State) : Res :=
  feljo 0x0806 r (fun c s => withSub c s fun u => .done s (withOut (u.staged.getD u.desc) (okOrStaged u.staged.isSome))) s

def execGooseSubStatus (r : CmdId) (s : State) : Res :=
  feljo 0x0807 r (fun c s => withSub c s fun u =>
    .done s (withOut ([u.authFail, u.decodeErr, u.simDiscard, u.seqErr, u.missed, u.restarts, u.validChanges].flatMap fun w => le 4 w.toNat)
      { ok with res0 := subSignal u, res1 := some u.stNum.toNat })) s

def clearPub (u : Pub) : Pub := { u with sentCount := 0, superseded := 0, powUnlocked := 0 }

def clearSub (u : Sub) : Sub :=
  { u with authFail := 0, decodeErr := 0, simDiscard := 0, seqErr := 0, missed := 0, restarts := 0, validChanges := 0 }

/-- The counters of the publication and of the subscription of an index, or of all (DEDUCED). -/
def gooseClear (c : Cmd) (s : State) : Ans :=
  let k := localIx c
  let hit (i : Nat) : Bool := k == 0xFF || i == k
  .done (updInst (instOf c) (fun i =>
    { i with pubs := tmap (fun p u => if hit p then clearPub u else u) i.pubs,
             subs := tmap (fun x u => if hit x then clearSub u else u) i.subs }) s) ok

def execGooseCountersClear (r : CmdId) (s : State) : Res :=
  feljo 0x0808 r (fun c s => adminOnly c (notBootHalted s (carried c s gooseClear))) s

end Sys2Proof.Machine
end

