-- ==== Sys2Proof/Machine/Trip.lean ====
section
/-! DEFINITION. The local trip outputs: requests at a hand-off (R274 to R277), supervision (R278), the one-side test
(R279), breaker feedback (R280), and the trip commands (R298, R299). -/

namespace Sys2Proof.Machine

/-! ## Requests (R274 to R277) -/

/-- The service state an output is under: its owner's. -/
def outSvc (s : State) (k : Nat) : Nat :=
  match ownerOf s k with
  | some n => (inst s n).svc
  | none => s.svc.state.code

/-- Requests are acted on: the owner runs, outside BOOT, HALTED and the power-fail warning, and in TEST only with TEST_ALLOW. -/
def outActs (s : State) (k : Nat) : Bool :=
  (match ownerOf s k with
   | some n => (inst s n).st == .running
   | none => false) &&
    pubState26 (outSvc s k) && s.pwr.pfw == .idle && (outSvc s k != 3 || outf s k oTestAllow == 1)

/-- A pending launch is due: its frozen time is reached, or it is not locked and UNLOCKED is 0 (R276). -/
def powDue (s : State) (k : Nat) (l : Launch) : Bool :=
  l.frozen && (decide (l.due ≤ s.time.n) || (l.notLocked && outf s k oUnlocked == 0))

/-- Take a pending launch, where it is due. -/
def powJudge (k : Nat) (s : State) : State :=
  match (outp s k).pow with
  | none => s
  | some l =>
    let l := match ownerOf s k with
      | some n => freezeLaunch (dom s (instDom (inst s n))) s.time.n l
      | none => l
    if powDue s k l then
      energise k (updOut k (fun o => { o with powUnlocked := if l.notLocked then (o.powUnlocked + 1) % 65536 else o.powUnlocked }) s)
    else updOut k (fun o => { o with pow := some l }) s

/-- The owner's domain converts POW_ANGLE at a hand-off. -/
def powStart (n k : Nat) (s : State) : State :=
  powJudge k (updOut k (fun o => { o with pow := some (launchAngle (dom s (instDom (inst s n))) (fval o.cfg oPowAngle) s.time.n) }) s)

/-- One output at a hand-off of its owner. -/
def handOut (n k : Nat) (trip pow : Bool) (s : State) : State :=
  let o := outp s k
  let rise := trip && !o.trip
  let prise := pow && !o.powReq
  let s := updOut k (fun o => { o with
    trip := trip, powReq := pow, lastReq := if trip || pow then some s.clk else o.lastReq,
    blocked := o.blocked && (trip || pow), pow := if pow then o.pow else none }) s
  let s := if (trip || pow) && (outp s k).test.isSome then endTest k s else s
  if !outActs s k then
    (if rise || prise then updOut k (fun o => { o with testBlocked := if outSvc s k = 3 then (o.testBlocked + 1) % 65536 else o.testBlocked }) s else s)
  else if rise && !o.blocked then energise k s
  else if prise && !trip && !o.blocked && !o.energised then powStart n k s
  else if o.energised && !trip && !pow && o.minDone then deenergise k s
  else s

def execPowLaunch (k : Nat) (s : State) : Res := .next (if outActs s k then powJudge k s else s)

def execMinPulseExpiry (k : Nat) (s : State) : Res :=
  let o := outp s k
  .next (if o.energised && decide (o.energAt + fval o.cfg oMinPulse * ms ≤ s.clk) then updOut k (fun o => { o with minDone := true }) s else s)

def execMaxPulseExpiry (k : Nat) (s : State) : Res :=
  let o := outp s k
  .next (if o.energised && fval o.cfg oMaxPulse != 0 && decide (o.energAt + fval o.cfg oMaxPulse * 10 * ms ≤ s.clk) then
    noteMod 0x0801 0 k [] (deenergise k (updOut k (fun o => { o with maxPulse := true, blocked := o.trip || o.powReq }) s))
  else s)

/-! ## Supervision (R278) -/

/-- SUP_FAULT is set: Chronicle, the owner's slice alarm and a module alarm. -/
def setSupFault (k : Nat) (s : State) : State :=
  if (outp s k).supFault then updOut k (fun o => { o with outSup := false }) s
  else setAlarm 3 (edgeOwner k 8 (noteMod 0x0802 0 k [] (updOut k (fun o => { o with supFault := true, outSup := false }) s)))

/-- OUTSUP[k] (R278). -/
def outSupOf (o : Outp) : Bool := o.outSup && !o.supFault

def execEnergTimeExpiry (k mV : Nat) (s : State) : Res :=
  let o := outp s k
  if o.energised && o.triph && o.tripl && !o.energSeen && fon o.cfg oSupEn &&
      decide (o.energAt + fval o.cfg oEnergTime * 100 * us ≤ s.clk) then
    let s := updOut k (fun o => { o with tripi := mV % 4096, energSeen := true }) s
    .next (if mV < fval o.cfg oEnergMin then setSupFault k s else s)
  else .next s

/-- The mean of one 10 ms window of a de-energised output. -/
def execSupervisionWindow (k mV : Nat) (s : State) : Res :=
  let o := outp s k
  if !fon o.cfg oSupEn || o.energised || o.test.isSome then .next s
  else
    let good := decide (fval o.cfg oSupMin ≤ mV) && decide (mV ≤ fval o.cfg oSupMax)
    let s := updOut k (fun o => { o with tripi := mV % 4096, inRangeNow := good, outWindows := if good then 0 else min 10 (o.outWindows + 1) }) s
    .next (if !good && decide (10 ≤ o.outWindows + 1) then setSupFault k s else s)

/-! ## The one-side test (R279) -/

/-- A test begins: TRIPL alone. -/
def startTest (k : Nat) (s : State) : State :=
  updOut k (fun o => { o with test := some { start := s.clk, step := 0 }, testAt := s.clk, triph := false, tripl := true }) s

/-- Is the output due for its periodic test? -/
def testReady (s : State) (k : Nat) : Bool :=
  let o := outp s k
  (ownerOf s k).isSome && fon o.cfg oSupEn && !o.energised && o.test.isNone && !bootOrHalted s &&
    (match o.lastReq with
     | some t => decide (t + 10 * ms ≤ s.clk)
     | none => true) &&
    decide (o.testAt + fval s.trip.testPeriod oTestPeriod * sec1 ≤ s.clk) && !(s.trip.outs.any fun e => e.2.test.isSome)

def execOutputTest (k : Nat) (s : State) : Res := .next (if decide (k < 8) && testReady s k then startTest k s else s)

/-- The test is complete: the command's answer, and OUTSUP or the fault. -/
def endOk (k : Nat) (t : OutTest) (s : State) : State :=
  let s := updOut k (fun o => { o with test := none, triph := false, tripl := false }) s
  let s :=
    if t.failed then
      setSupFault k (noteMod 0x0803 0 k [t.sample1, t.sample2]
        (updOut k (fun o => { o with testFail := true, testFails := (o.testFails + 1) % 65536 }) s))
    else updOut k (fun o => { o with outSup := o.outSup || o.inRangeNow }) s
  finishWaits (.outTest k) { ok with res0 := t.sample1 + t.sample2 * 65536 } s

/-- The instants of a test, after t0, in ns. -/
def testAt (step : Nat) : Nat := [80 * us, 100 * us, 1100 * us, 1180 * us, 1200 * us].getD step 0

/-- A timed instant of a running test. -/
def testStep (k mV : Nat) (t : OutTest) (s : State) : State :=
  let o := outp s k
  let v := mV % 4096
  let bad := decide (v < fval o.cfg oTestMin) || decide (fval o.cfg oTestMax < v)
  let put (f : Outp → Outp) (t : OutTest) : State := updOut k (fun o => f { o with test := some { t with step := t.step + 1 } }) s
  match t.step with
  | 0 => put (fun o => { o with tripi := v }) { t with sample1 := v, failed := t.failed || bad }
  | 1 => put (fun o => { o with tripl := false }) t
  | 2 => put (fun o => { o with triph := true }) t
  | 3 => put (fun o => { o with tripi := v }) { t with sample2 := v, failed := t.failed || bad }
  | _ => endOk k t s

def execOutputTestPhase (k mV : Nat) (s : State) : Res :=
  match (outp s k).test with
  | some t => .next (if t.start + testAt t.step ≤ s.clk then testStep k mV t s else s)
  | none => .next s

/-! ## Breaker feedback (R280) -/

/-- The contacts of an output as filtered. -/
def bka (s : State) (k : Nat) : Bool := bitOf s.sig.x3.state (4 + k)

def bkb (s : State) (k : Nat) : Bool := bitOf s.sig.x3.state (12 + k)

/-- Judge the contact pair after a change of a contact or of BK_EN. -/
def discJudge (k : Nat) (s : State) : State :=
  if outf s k oBkEn = 1 ∧ bka s k = bkb s k then updOut k (fun o => { o with discSince := some (o.discSince.getD s.clk) }) s
  else updOut k (fun o => { o with discSince := none, outDisc := false }) s

def execDiscTimeExpiry (k : Nat) (s : State) : Res :=
  let o := outp s k
  match o.discSince with
  | some t =>
    .next (if fon o.cfg oBkEn && !o.outDisc && decide (t + fval o.cfg oDiscTime * ms ≤ s.clk) then
      noteMod 0x0804 0 k [] (updOut k (fun o => { o with outDisc := true, discEvt := true }) s) else s)
  | none => .next s

/-! ## Registers and commands -/

/-- TRP_OUT_STATUS (R297). -/
def outStatus (s : State) (k : Nat) : Nat :=
  let o := outp s k
  b2n (o.triph && o.tripl) + b2n o.pow.isSome * 2 + b2n (bka s k) * 4 + b2n (bkb s k) * 8 + b2n o.supFault * 16 + b2n o.discEvt * 32 +
    b2n o.testFail * 64 + b2n o.maxPulse * 128 + o.tripi % 4096 * 65536

/-- TRP_OUT_COUNT and TRP_OUT_EVENTS. -/
def outCounts (o : Outp) : Nat × Nat := (o.operations + o.testFails * 65536, o.powUnlocked + o.testBlocked * 65536)

/-- The output runs while its owner does; HELD with it; without an owner writes act at once. -/
def outMode (s : State) (k : Nat) : Mode :=
  match ownerOf s k with
  | some n => if (inst s n).st = .running then .run else .held
  | none => .idle

/-- The rules over several fields of an output (R297): MAX_PULSE off or from 10 on, and each minimum below its maximum. -/
def outRuleBad (g : Cfg) : Option Desc :=
  if fread g oMaxPulse ≠ 0 ∧ fread g oMaxPulse < 10 then some oMaxPulse
  else if fread g oSupMax ≤ fread g oSupMin then some oSupMin
  else if fread g oTestMax ≤ fread g oTestMin then some oTestMin
  else none

/-- What a change of an output's fields brings at once: a change of TEST_ALLOW is entered in the Chronicle; in TEST an
output that loses it de-energises; breaker feedback is judged anew. -/
def outChanged (k slice : Nat) (old : Cfg) (s : State) : State :=
  let g := (outp s k).cfg
  let s := if fread g oTestAllow = fread old oTestAllow then s else note 0x0806 0 slice k [fread g oTestAllow] s
  let s := if outSvc s k = 3 ∧ fval g oTestAllow = 0 ∧ fval old oTestAllow = 1 then holdOut k s else s
  if fval g oBkEn = fval old oBkEn then s else discJudge k s

def outSet (c : Cmd) (s : State) : Ans :=
  let k := argD c 2 0
  let old := (outp s k).cfg
  match writeKeys outFields (fun _ => outMode s k) (c.params.filter fun p => 2 < p.key) old false with
  | .error r => .fail r
  | .ok (g, stg) =>
    match outRuleBad g with
    | some d => .fail (badarg (firstIdx c [d.key, d.key + 1]))
    | none => .done (outChanged k c.id.slice old (updOut k (fun o => { o with cfg := g }) s)) (okOrStaged stg)

def execTripOutputSet (r : CmdId) (s : State) : Res := feljo 0x0809 r (fun c s => adminOnly c (notBootHalted s (carried c s outSet))) s

def outGet (c : Cmd) (s : State) : Ans :=
  let k := argD c 2 0
  require (fromAdmin c || ownerOf s k == some c.id.slice) (denied 2)
    (.done s (withOut (keyList outFields (outp s k).cfg ++ le 4 (outCounts (outp s k)).1 ++ le 4 (outCounts (outp s k)).2)
      { okOrStaged (anyStaged (outp s k).cfg) with res0 := outStatus s k }))

def execTripOutputGet (r : CmdId) (s : State) : Res := feljo 0x080A r outGet s

def outTest (c : Cmd) (s : State) : Ans :=
  let k := argD c 2 0
  require (ownerOf s k).isSome (denied 4)
    (require (!(outp s k).energised && !(s.trip.outs.any fun e => e.2.test.isSome)) busy
      (.wait (addWait (.outTest k) (some c.id) (startTest k s))))

def execTripOutputTest (r : CmdId) (s : State) : Res := feljo 0x080B r (fun c s => adminOnly c (notBootHalted s (carried c s outTest))) s

/-- One step of a domain at a frequency in Q8.24 Hz, in ns. -/
def stepNs (d : Dom) (f : Nat) : Nat := if f = 0 then 0 else 10 ^ 9 * 2 ^ 24 / (f * (16 * 2 ^ fval d.cfg aStep))

/-- D, D at FMAX, T_sw, t_wait and the bound (R293). -/
def reactionBytes (s : State) (d : Nat) : List Byte :=
  let x := dom s d
  let dn := stepNs x x.f
  let sw := sweepNs s.insts
  let w := if s.tdm.standalone then max sw (s.logic.sweepMin * us) else 264 * us
  le 4 dn ++ le 4 (stepNs x (fmaxRaw x.cfg)) ++ le 4 sw ++ le 4 w ++
    le 4 (dn + 52 * us + (if s.tdm.standalone then 0 else 150 * us) + w + sw) ++ zeros 12

def execTripReactionGet (r : CmdId) (s : State) : Res :=
  feljo 0x080C r (fun c s => .done s (withOut (reactionBytes s (argD c 3 0)) ok)) s

end Sys2Proof.Machine
end

