-- ==== Sys2Proof/Machine/SignalOps.lean ====
section
/-! DEFINITION. Shared operations of signalling: claim and complete (R422, R423, R425, R426), the keys of the notification
units (R424, R451), the X3 inputs (R430, R431), and the Chronicle's reading, clearing and devices (R437 to R446). -/

namespace Sys2Proof.Machine

def updSig (f : Signal → Signal) (s : State) : State := { s with sig := f s.sig }

def updX3 (f : X3 → X3) (s : State) : State := updSig (fun g => { g with x3 := f g.x3 }) s

/-! ## Claim and complete (R422) -/

/-- The source of the lowest group, then sub-priority, then ID (R425). -/
def ntfBest (u : Ntf) (l : List Nat) : Option Nat :=
  l.foldl (fun b i => match b with
    | some j => if ntfPrio u i < ntfPrio u j then some i else some j
    | none => some i) none

/-- A read of a claim register: the source it returns, or 0x3FF, and its effect. -/
def ntfClaim (n v : Nat) (s : State) : Nat × State :=
  match ntfBest (ntf s n) (ntfReady s n v) with
  | some i => (i, updNtf n (fun u => { u with claimed := setBit u.claimed i, pend := clrBit u.pend i }) s)
  | none => (0x3FF, s)

/-- A write of a source to the complete register. Only the vector of the completed source is judged (R426). -/
def ntfComplete (n i : Nat) (s : State) : State :=
  if i < ntfSources n ∧ bitOf (ntf s n).claimed i then
    let s := updNtf n (fun u =>
      { u with claimed := clrBit u.claimed i, pend := if bitOf u.again i then setBit u.pend i else u.pend,
               again := clrBit u.again i }) s
    let v := ntfRoute n (ntf s n) i
    if hasWork s n v then ntfDue n v s else s
  else s

/-- A held message whose MOD_INT has passed is sent if work remains (R426). -/
def ntfExpire (n v : Nat) (s : State) : State :=
  let u := ntf s n
  match bitOf u.held v, tfind u.last v with
  | true, some t =>
    if s.clk < t + tget 0 u.modInt v * us then s
    else if hasWork s n v then ntfSend n v s
    else updNtf n (fun u => { u with held := clrBit u.held v }) s
  | _, _ => s

/-! ## Configuration of a unit (R424, R451) -/

/-- Put the route of a source. -/
def withField (word pos width v : Nat) : Nat := word - bitsOf word pos width * 2 ^ pos + v * 2 ^ pos

/-- One key of `notify.config.set`; none where it is refused: a key out of the slice's range, or one of keys 0x0004 to
0x0006 with no source before it. -/
def ntfKey (n : Nat) (src : Option Nat) (p : Param) (u : Ntf) : Option (Option Nat × Ntf) :=
  let v := p.value
  if p.key = 2 then if v < 2 ^ ntfSources n then some (src, { u with enable := v }) else none
  else if p.key = 3 then if v < ntfSources n then some (some v, u) else none
  else if p.key = 4 ∨ p.key = 5 ∨ p.key = 6 then
    match src with
    | some i =>
      if p.key = 4 then if n = 0 then none else some (src, { u with route := withField u.route (2 * i) 2 v })
      else if p.key = 5 then some (src, { u with prio := withField u.prio (4 * i + 2) 2 v })
      else some (src, { u with prio := withField u.prio (4 * i) 2 v })
    | none => none
  else if 0x10 ≤ p.key ∧ p.key ≤ 0x13 then
    if n = 0 ∧ p.key ≠ 0x10 then none else some (src, { u with modInt := tset 0 u.modInt (p.key - 0x10) v })
  else if 0x14 ≤ p.key ∧ p.key ≤ 0x17 then
    if n = 0 ∧ p.key ≠ 0x14 then none else some (src, { u with bypass := tset 1 u.bypass (p.key - 0x14) v })
  else some (src, u)

/-- Every key in order, or the index of the first refused. -/
def ntfKeys (n : Nat) : Option Nat → List Param → Ntf → Except Nat Ntf
  | _, [], u => .ok u
  | src, p :: t, u =>
    match ntfKey n src p u with
    | some (src', u') => ntfKeys n src' t u'
    | none => .error p.idx

/-- The keys of a unit as a reply list. -/
def ntfBytes (n : Nat) (u : Ntf) : List Byte :=
  let vs := if n = 0 then 1 else 4
  entryBytes 2 u.enable false ++
    ((List.range (ntfSources n)).flatMap fun i =>
      entryBytes 3 i false ++ (if n = 0 then [] else entryBytes 4 (ntfRoute n u i) false) ++
        entryBytes 5 (ntfPrio u i / 4) false ++ entryBytes 6 (ntfPrio u i % 4) false) ++
    ((List.range vs).flatMap fun v => entryBytes (0x10 + v) (tget 0 u.modInt v) false) ++
    ((List.range vs).flatMap fun v => entryBytes (0x14 + v) (tget 1 u.bypass v) false)

/-! ## X3 inputs (R430, R431) -/

/-- The full stamp, in 2^-16 ns, of a TS32 that lies in the past. -/
def stampAt (s : State) (ts : Nat) : Nat := s.time.n - (ts32 s - BitVec.ofNat 32 ts).toNat * 65536

/-- A filtered input changes: TRIG_IN edges are Archive triggers (R399), contacts are judged against their partner
(R280). -/
def x3Edge (i : Nat) (level : Bool) (ts : Nat) (s : State) : State :=
  let s := updX3 (fun x => { x with state := putBit x.state i level, pins := putBit x.pins i level }) s
  if i < 4 then offerEvent 0 i level (stampAt s ts) (!s.time.traceable) s
  else if i < 12 then discJudge (i - 4) s
  else discJudge (i - 12) s

/-- An edge on an input whose filter does not run: its pin, and its latch while rail VAO is up. -/
def x3Latch (i : Nat) (rising : Bool) (s : State) : State :=
  updX3 (fun x =>
    { x with pins := putBit x.pins i rising, rise := if rising then setBit x.rise i else x.rise,
             fall := if rising then x.fall else setBit x.fall i }) s

/-! ## The Chronicle -/

/-- The 64 bytes of an entry with its FLAGS (R437). -/
def entryBits (e : Entry) (flags : Nat) : List Byte :=
  let b := le 8 e.acc ++ le 5 e.opsec ++ le 1 e.sev ++ le 2 e.code ++ le 4 e.cycles ++ le 6 e.time.sec ++
    le 2 (b2n e.time.notTraceable ||| e.flags ||| flags) ++ le 4 e.time.ns ++ le 2 e.rep ++ le 2 e.inst ++ le 2 e.slice ++
    le 2 e.obj ++ padTo 16 (e.data.flatMap (le 4)) ++ le 4 e.lastTs.toNat
  b ++ le 4 (crc32 b)

/-- The entries written, in accession order: the log of a device in use, or the reserve (R444, R445). -/
def chrLog (c : Chron) : List Entry :=
  if chrReserve c then c.reserve else (if c.ok0 then c.dev0 else c.dev1).map Prod.snd

/-- Every held entry in accession order, with what it is marked with: an accepted one not yet written is QUEUED. A written
entry whose repeat is queued shows the repeat. -/
def chrHeld (c : Chron) : List (Entry × Nat) :=
  let now (e : Entry) : Entry := match c.queue.find? fun x => x.rewrite && x.entry.acc == e.acc with
    | some x => x.entry
    | none => e
  ((chrLog c).filter fun e => c.first ≤ e.acc || chrReserve c).map (fun e => (now e, 0)) ++
    ((c.queue.filter fun x => !x.rewrite).map fun x => (x.entry, 16))

/-- The oldest held accession. -/
def chrFirst (c : Chron) : Nat :=
  if chrReserve c then match c.reserve with
    | e :: _ => e.acc
    | [] => c.next
  else c.first

/-- The entries a slice may see at or above an accession (R441, R442). -/
def chrFrom (c : Chron) (slice acc : Nat) : List (Entry × Nat) :=
  (chrHeld c).filter fun e => acc ≤ e.1.acc && (slice == 0 || e.1.inst == slice)

/-- An entry as a reply carries it: the newest is OPEN. -/
def chrReply (c : Chron) (e : Entry × Nat) : List Byte :=
  entryBits e.1 (e.2 + if e.1.acc + 1 = c.next then 8 else 0)

/-- A device is declared failed (R444, R445): its survivor carries on, or the queue moves to the reserve. -/
def deviceFailed (d : Nat) (s : State) : State :=
  let s := updChr (fun c => if d = 0 then { c with ok0 := false } else { c with ok1 := false }) s
  if chrReserve s.chr then
    let s := updChr (fun c =>
      let all := c.reserve ++ (c.queue.filter fun x => !x.rewrite).map fun x => { x.entry with flags := setBit x.entry.flags 1 }
      let lost := all.length - 256
      { c with queue := [], reserve := all.drop lost, lost := c.lost + BitVec.ofNat 32 lost }) s
    let s := noteMod 0x0D04 0 d [] (openError 0x0D04 d s)
    closeError 0x0D04 (1 - d) (closeError 0x0D04 d (setAlarm 9 s))
  else setAlarm 8 (noteMod 0x0D04 0 d [] (openError 0x0D04 d s))

/-- Once the queue has fallen below half, one entry records what was dropped (R439). -/
def droppedNote (s : State) : State :=
  if s.chr.droppedSince ≠ 0 ∧ s.chr.queue.length < 512 then
    noteMod 0x0D06 0 noObj [s.chr.droppedSince] (updChr (fun c => { c with droppedSince := 0 }) s)
  else s

/-- The item at the head of the queue is written to both devices and leaves it; a device whose read-back differs has
failed (R444). The entry that names a failed device ends that error's handling (R434). -/
def chrStep (good0 good1 : Bool) (s : State) : State :=
  match s.chr.queue with
  | x :: _ =>
    let s := if s.chr.ok0 && !good0 then deviceFailed 0 s else s
    let s := if s.chr.ok1 && !good1 then deviceFailed 1 s else s
    if chrReserve s.chr then s
    else
      let s := updChr (fun c => chrWrite x.entry { c with queue := c.queue.drop 1 }) s
      droppedNote (if x.entry.code = 0x0D04 then closeError 0x0D04 x.entry.obj s else s)
  | [] => s

end Sys2Proof.Machine
end

