-- ==== Sys2Proof/Machine/Instances.lean ====
section
/-! DEFINITION. The instance commands and events (R106 to R129). -/

namespace Sys2Proof.Machine

/-- The judgement every instance command but `instance.status.get` begins with: BOOT and HALTED (R128), RESETTING
(R117). -/
def instReady (s : State) (c : Cmd) (k : Ans) : Ans :=
  notBootHalted s (require ((inst s (instOf c)).st != .resetting) busy k)

/-! ## Status, slice, translations, shares -/

/-- Is any write to the instance staged (R10)? -/
def instStaged (s : State) (n : Nat) : Bool :=
  let i := inst s n
  anyStaged i.cfg || i.streamsStaged.isSome || i.el.staged.isSome || i.lg.staged.isSome ||
    i.pubs.any (fun e => e.2.staged.isSome) || i.subs.any (fun e => e.2.staged.isSome) ||
    (ownLoops i).any fun j => anyStaged (tget {} (dom s (instDom i)).spares j).cfg

/-- SLC_INST_STATUS (R127). -/
def instStatus (s : State) (n : Nat) : Nat :=
  let i := inst s n
  i.st.code + b2n (instStaged s n) * 8 + b2n i.restart.isSome * 16 + b2n i.warm * 32 + fval i.cfg iProtect * 64 +
    instDom i * 256 + i.cause * 65536

def execInstanceStatusGet (r : CmdId) (s : State) : Res :=
  feljo 0x0201 r (fun c s =>
    .done s { ok with res0 := instStatus s (instOf c), res1 := some (win s (instOf c)).epoch.toNat }) s

/-- Is a ring of the slice enabled? -/
def ringOn (w : Window) : Bool := fon w.cfg wEnable || fon w.cfg wRxEn || fon w.cfg wTxEn

def sliceAssign (c : Cmd) (s : State) : Ans :=
  let n := instOf c
  let p := argD c 2 0
  require (!(s.wins.any fun e => e.1 != n && e.2.pasid == some p)) (badarg (argIdx c 2))
    (require (!ringOn (win s n)) (denied 3) (.done (updWin n (fun w => { w with pasid := some p }) s) ok))

def execInstanceSliceAssign (r : CmdId) (s : State) : Res :=
  feljo 0x0202 r (fun c s => adminOnly c (instReady s c (sliceAssign c s))) s

/-- Remove the translations of a slice that meet a test. -/
def atuRemove (n : Nat) (t : AtuEntry → Bool) (s : State) : State :=
  { s with atu := { s.atu with entries := s.atu.entries.filter fun e => !(e.slice == n && t e) } }

def execInstanceSliceRelease (r : CmdId) (s : State) : Res :=
  feljo 0x0203 r (fun c s => adminOnly c (instReady s c
    (require (!ringOn (win s (instOf c))) (denied 3)
      (.done (atuRemove (instOf c) (fun _ => true) (updWin (instOf c) (fun w => { w with pasid := none }) s)) ok)))) s

/-- A map record (R128). -/
def mapRec (n : Nat) (b : List Byte) : AtuEntry :=
  { slice := n, addr := leAt b 0 8, bus := leAt b 8 8, log2 := leAt b 16 1, access := leAt b 17 1 }

/-- Is a record well formed and aligned to its size? -/
def mapOk (b : List Byte) (e : AtuEntry) : Bool :=
  b.length == 24 && [12, 16, 21, 30].contains e.log2 && decide (1 ≤ e.access) && decide (e.access ≤ 3) && zerosAt b 18 6 &&
    e.addr % 2 ^ e.log2 == 0 && e.bus % 2 ^ e.log2 == 0

/-- Do two pages overlap? -/
def overlaps (a b : AtuEntry) : Bool := decide (a.addr < b.addr + 2 ^ b.log2) && decide (b.addr < a.addr + 2 ^ a.log2)

/-- The index of the first record that cannot be installed. -/
def mapBad (old : List AtuEntry) (bs : List (List Byte)) (es : List AtuEntry) : Option Nat :=
  (List.range es.length).find? fun i =>
    let e := es.getD i { slice := 0, addr := 0, bus := 0, log2 := 0, access := 0 }
    !mapOk (bs.getD i []) e || old.any (overlaps e) || (es.zipIdx.any fun p => p.2 != i && overlaps e p.1)

def atuMap (c : Cmd) (s : State) : Ans :=
  let n := instOf c
  let k := (c.input.length + 23) / 24
  let bs := chunks 24 k c.input
  let es := bs.map (mapRec n)
  let old := s.atu.entries.filter fun e => e.slice == n
  if k = 0 ∨ 1024 < k then .fail (withKey 2 (min k 1024) (badarg 0xFFFE))
  else match mapBad old bs es with
    | some i => .fail (withKey 2 i (badarg 0xFFFE))
    | none =>
      require (decide (s.atu.entries.length + k ≤ 65536) && decide (old.length + k ≤ (win s n).quota)) nospace
        (.done { s with atu := { s.atu with entries := s.atu.entries ++ es } } ok)

def execInstanceAtuMap (r : CmdId) (s : State) : Res :=
  feljo 0x0204 r (fun c s => adminOnly c (instReady s c (atuMap c s))) s

/-- A write of the slice, translated through an entry that meets a test, waits for bus mastering (R90). -/
def atuHeld (n : Nat) (t : AtuEntry → Bool) (s : State) : Bool :=
  s.heldOut.any fun h => match h with
    | .out (.dmaWrite m a _) => m == n && s.atu.entries.any fun e => e.slice == n && t e && decide (e.bus ≤ a) && decide (a < e.bus + 2 ^ e.log2)
    | .out (.rxData m _ _ _) => m == n
    | _ => false

/-- Remove translations: the command completes once every request translated through them has been issued (R109). -/
def atuDrop (c : Cmd) (n : Nat) (t : AtuEntry → Bool) (s : State) : Ans :=
  if atuHeld n t s then .going (addWait .unmap (some c.id) (atuRemove n t s)) else .done (atuRemove n t s) ok

/-- `instance.atu.unmap`. An entry that names neither an address nor all of them lacks a parameter. -/
def atuUnmap (c : Cmd) (s : State) : Ans :=
  let n := instOf c
  if argD c 3 0 = 1 then atuDrop c n (fun _ => true) s
  else match arg c 2 with
    | none => .fail { status := 3, detail := 0xFFFC, res0 := 2, nres := 1 }
    | some a =>
      require (s.atu.entries.any fun e => e.slice == n && e.addr == a) stale (atuDrop c n (fun e => e.addr == a) s)

def execInstanceAtuUnmap (r : CmdId) (s : State) : Res :=
  feljo 0x0205 r (fun c s => adminOnly c (instReady s c (atuUnmap c s))) s

def execInstanceShareSet (r : CmdId) (s : State) : Res :=
  feljo 0x0206 r (fun c s => adminOnly c (instReady s c
    (.done (updWin (instOf c) (fun w =>
      { w with weight := argD c 2 w.weight, cap := argD c 3 w.cap, quota := argD c 4 w.quota }) s) ok))) s

/-! ## Configuration (R101, R129) -/

/-- Does another instance hold a bit of an exclusive field, in effect or staged? -/
def holder (s : State) (n : Nat) (d : Desc) (same : Inst → Bool) (v : Nat) : Option Nat :=
  (s.insts.find? fun e => e.1 != n && e.2.st != .empty && same e.2 && ((fval e.2.cfg d ||| fread e.2.cfg d) &&& v) != 0).map Prod.fst

/-- The instance that already owns an output or spare loop that the configuration would take. -/
def conflict (s : State) (n : Nat) (c : Cfg) : Option Nat :=
  let ds := [fval c iDomain, fread c iDomain]
  match holder s n iOutputs (fun _ => true) (fread c iOutputs) with
  | some m => some m
  | none => holder s n iSpare (fun i => (instDoms i).any ds.contains) (fread c iSpare)

/-- Change class of an instance's fields: it runs, or every write waits for its restart (R9). -/
def instMode (i : Inst) : Mode := if i.st = .running then .run else .held

def configSet (c : Cmd) (s : State) : Ans :=
  let n := instOf c
  let i := inst s n
  if i.st = .resetting then .fail busy
  else
    let l := args c 0x10
    if 32 < l.length ∨ l.eraseDups ≠ l then .fail (badarg (argIdx c 0x10))
    else match writeKeys instFields (fun _ => instMode i) c.params i.cfg false with
      | .error r => .fail r
      | .ok (cfg, stg) =>
        match conflict s n cfg with
        | some m => .fail (withKey 1 m (denied 4))
        | none =>
          let s' := updInst n (fun i =>
            { i with cfg := cfg, streamsStaged := if l.isEmpty then i.streamsStaged else some l }) s
          let s' := if i.st = .empty then changeInst n .held 0 c.id.slice false s' else s'
          withPairs s' (okOrStaged (stg || !l.isEmpty))

def execInstanceConfigSet (r : CmdId) (s : State) : Res :=
  feljo 0x0207 r (fun c s => instReady s c (carried c s configSet)) s

def execInstanceConfigGet (r : CmdId) (s : State) : Res :=
  feljo 0x0208 r (fun c s =>
    let i := inst s (instOf c)
    instReady s c (.done s (withOut
      (keyList instFields i.cfg ++ (i.streamsStaged.getD i.streams).flatMap fun x => entryBytes 0x10 x i.streamsStaged.isSome)
      (okOrStaged (anyStaged i.cfg || i.streamsStaged.isSome))))) s

/-! ## Hold, restart, thaw -/

def instHold (c : Cmd) (s : State) : Ans :=
  let n := instOf c
  let i := inst s n
  if i.st = .resetting then .fail busy
  else if i.st = .held then .done (dropRestart n 3 s) ok
  else if i.st = .running then
    require (i.holdReq.isNone) busy (.wait (updInst n (fun i => { i with holdReq := some (some c.id) }) (dropExch n 3 s)))
  else .fail (denied 4)

def execInstanceHold (r : CmdId) (s : State) : Res :=
  feljo 0x0209 r (fun c s => instReady s c (carried c s instHold)) s

/-- Steps that a target may lie ahead, and whether it is a boundary (R112). -/
def targetOk (d : Dom) (a : Word) : Bool :=
  decide (0 < stampDiff a d.lastAngle) && decide (stampDiff a d.lastAngle ≤ 4096 * stepAc d)

/-- A restart, thaw or restore begins to wait for its boundary. -/
def startWait (n : Nat) (k : RestartKind) (c : Cmd) (target : Option Word) (img : List Byte) (s : State) : State :=
  updInst n (fun i => { i with restart := some { kind := k, cmd := some c.id, target := target, start := s.clk, image := img } }) s

/-- The domain the instance will run in is HELD (R153). -/
def domHeld (s : State) (n : Nat) : Bool := (dom s (fread (inst s n).cfg iDomain)).held

def instRestart (c : Cmd) (s : State) : Ans :=
  let n := instOf c
  let i := inst s n
  let d := dom s (fread i.cfg iDomain)
  let target := (arg c 2).map (BitVec.ofNat 32)
  if i.st = .resetting ∨ i.restart.isSome then .fail busy
  else if i.st ≠ .held ∨ domHeld s n then .fail (denied 4)
  else match target with
    | none => .wait (startWait n .restart c none [] s)
    | some a =>
      if !targetOk d a then .fail stale
      else require (isBoundary d a) (badarg (argIdx c 2)) (.wait (startWait n .restart c (some a) [] s))

def execInstanceRestart (r : CmdId) (s : State) : Res :=
  feljo 0x020A r (fun c s => instReady s c (carried c s instRestart)) s

def instThaw (c : Cmd) (s : State) : Ans :=
  let n := instOf c
  let i := inst s n
  if i.st = .resetting ∨ i.restart.isSome then .fail busy
  else if i.st ≠ .frozen ∨ domHeld s n then .fail (denied 4)
  else .wait (startWait n .thaw c none (i.captured.getD []) s)

def execInstanceThaw (r : CmdId) (s : State) : Res :=
  feljo 0x020F r (fun c s => adminOnly c (instReady s c (carried c s instThaw))) s

/-! ## Reset (R115) -/

def instReset (c : Cmd) (s : State) : Ans :=
  let n := instOf c
  if (inst s n).st = .resetting then .fail busy
  else if (inst s n).st = .empty then .fail (denied 4)
  else .going (resetInst n (argD c 2 0 == 1) (some c.id) c.id.slice s)

def execInstanceReset (r : CmdId) (s : State) : Res :=
  feljo 0x020B r (fun c s => adminOnly c (instReady s c (carried c s instReset))) s

/-! ## Freeze, save, restore -/

def instFreeze (c : Cmd) (s : State) : Ans :=
  let n := instOf c
  let i := inst s n
  if i.st = .resetting ∨ i.freezeReq.isSome then .fail busy
  else if i.st = .running ∨ i.st = .held then
    .wait (updInst n (fun i => { i with freezeReq := some (some c.id) }) (dropExch n 3 s))
  else .fail (denied 4)

def execInstanceFreeze (r : CmdId) (s : State) : Res :=
  feljo 0x020C r (fun c s => adminOnly c (instReady s c (carried c s instFreeze))) s

/-- The first successful save stops the publications (R119). -/
def instSave (c : Cmd) (s : State) : Ans :=
  let n := instOf c
  let i := inst s n
  if i.st = .resetting then .fail busy
  else match i.captured with
    | none => .fail (denied 4)
    | some b =>
      if i.st ≠ .frozen then .fail (denied 4)
      else .done (if i.saved then s else stopPubs n (updInst n (fun i => { i with saved := true }) s)) (withOut b ok)

def execInstanceSave (r : CmdId) (s : State) : Res :=
  feljo 0x020D r (fun c s => adminOnly c (instReady s c (carried c s instSave))) s

def instRestore (c : Cmd) (s : State) : Ans :=
  let n := instOf c
  let i := inst s n
  if i.st = .resetting ∨ i.restart.isSome then .fail busy
  else if i.st ≠ .held ∨ domHeld s n then .fail (denied 4)
  else match restoreCheck s n c.input with
    | some r => .fail r
    | none => .wait (startWait n .restore c none c.input s)

def execInstanceRestore (r : CmdId) (s : State) : Res :=
  feljo 0x020E r (fun c s => adminOnly c (instReady s c (carried c s instRestore))) s

/-! ## Events -/

def execInstanceRestartBoundary (n : Nat) (s : State) : Res :=
  match restartDue s n with
  | some (r, _) => .next (subSimEnd n (simEnd (restartBoundary n r s)))
  | none => .next s

/-- The first step boundary of a HELD instance's domain after its freeze command entered EXECUTING. -/
def heldFreeze (s : State) (n : Nat) (c : Option CmdId) : Option Word :=
  let d := dom s (instDom (inst s n))
  let from_ := match s.cmds.find? fun x => some x.id == c with
    | some x => phcOf s x.started
    | none => 0
  ((d.kept.filter fun t => isBoundary d t.angle && decide (from_ ≤ t.t)).getLast?).map (·.angle)

/-- The freeze boundary (R118): the close of a running instance's step, or a HELD instance's next boundary. -/
def execFreezeBoundary (n : Nat) (s : State) : Res :=
  let i := inst s n
  match i.freezeReq with
  | none => .next s
  | some c =>
    match i.st with
    | .running => (match i.freezeAt with
      | some a => .next (svcDrop n (freezeInst n a c s))
      | none => .next s)
    | .held => (match heldFreeze s n c with
      | some a => .next (freezeInst n a c s)
      | none => .next s)
    | _ => .next s

/-- t0 + 1 ms. -/
def execInstanceResetDiscard (n : Nat) (s : State) : Res :=
  match (inst s n).reset with
  | some r => .next (if r.start + ms ≤ s.clk then discardWaiting n s else s)
  | none => .next s

/-- A reset may end once every tag of the slice has retired, or what still waits has been discarded (R115). -/
def resetReady (n : Nat) (r : ResetRun) (s : State) : Bool := (sliceCmds s n).isEmpty || decide (r.start + ms ≤ s.clk)

def execInstanceResetComplete (n : Nat) (s : State) : Res :=
  match (inst s n).reset with
  | some r => .next (if resetReady n r s then simEnd (resetEnd n r s) else s)
  | none => .next s

end Sys2Proof.Machine
end

