-- ==== Sys2Proof/Machine/KeyOps.lean ====
section
/-! DEFINITION. Shared operations of keys: deposit sessions (R459), the deposit's structure, checks and records (R460 to
R464), promotion and lapse (R456, R457). -/

namespace Sys2Proof.Machine

def updKeys (f : Keys → Keys) (s : State) : State := { s with keys := f s.keys }

/-- Write a new generation of the key store (R462). -/
def updStore (f : KeyStore → KeyStore) (s : State) : State :=
  updKeys (fun k => { k with store := { f k.store with gen := k.store.gen + 1 } }) s

/-! ## Sessions (R459) -/

/-- What a chunk does to a session: it repeats the last one, is out of place, passes the total, or is accepted. -/
inductive Chunk where
  | repeated
  | misplaced
  | over
  | accepted (x : Session)

/-- Judge a chunk. -/
def takeChunk (x : Session) (off : Nat) (b : List Byte) (clk : Nat) : Chunk :=
  if x.lastLen ≠ 0 ∧ off = x.lastOff ∧ b.length = x.lastLen then .repeated
  else if off ≠ x.got.length then .misplaced
  else if x.total < off + b.length then .over
  else .accepted { x with got := x.got ++ b, lastOff := off, lastLen := b.length, at_ := clk }

/-- The answer of a chunk command on a session held by `put`. -/
def chunkAns (c : Cmd) (x : Option Session) (put : Session → State → State) (s : State) : Ans :=
  match x with
  | none => .fail { stale with res1 := some 0 }
  | some x =>
    if c.input.isEmpty then .fail (badarg 0xFFFE)
    else match takeChunk x (argD c 2 0) c.input s.clk with
      | .repeated => .done (put { x with at_ := s.clk } s) ok
      | .misplaced => .fail { stale with res1 := some x.got.length }
      | .over => .fail (badarg (argIdx c 2))
      | .accepted y => .done (put y s) ok

/-- Every byte of a session has arrived. -/
def sessionFull (x : Session) : Bool := x.got.length == x.total

/-! ## Promotion and lapse (R456, R457) -/

/-- The next key of a slot becomes current. -/
def promoteSlot (now : Nat) (k : KeySlot) : KeySlot :=
  match k.nxt with
  | some x => { cur := some { x with since := now, lapsed := false }, nxt := none }
  | none => k

/-- Promote in use and, unless the key is a test key, in the store (R464). -/
def promoteKey (i : Nat) (s : State) : State :=
  let k := tget {} s.keys.slots i
  match k.nxt with
  | some x =>
    let s := updKeys (fun y => { y with slots := tput y.slots i (promoteSlot s.met.opsec k) }) s
    let s := if x.origin = 3 then s
             else updStore (fun y => { y with slots := tmod {} y.slots i (promoteSlot s.met.opsec) }) s
    noteMod 0x0E05 0 i [] s
  | none => s

/-- The operating second at which a key's lifetime ends. -/
def lifeEnd (k : Key) : Option Nat := if k.lifetime = 0 then none else some (k.since + k.lifetime)

/-- The current key of a slot lapses now (R456). -/
def lapseDue (s : State) (i : Nat) : Bool :=
  match (tget {} s.keys.slots i).cur with
  | some k =>
    !k.lapsed && ((match lifeEnd k with
      | some t => decide (t ≤ s.met.opsec)
      | none => false) || (k.notAfter != 0 && s.time.traceable && decide (k.notAfter ≤ secOf s.time.n)))
  | none => false

/-- Mark the current key of a slot. -/
def markLapsed (k : KeySlot) : KeySlot := { k with cur := k.cur.map fun x => { x with lapsed := true } }

/-- The effect of a lapse: the next key becomes current, or the key stays in use marked LAPSED. -/
def lapseKey (i : Nat) (s : State) : State :=
  let k := tget {} s.keys.slots i
  if k.nxt.isSome then promoteKey i s
  else
    let test := match k.cur with
      | some x => x.origin == 3
      | none => true
    let s := updKeys (fun y => { y with slots := tput y.slots i (markLapsed k) }) s
    let s := if test then s else updStore (fun y => { y with slots := tmod {} y.slots i markLapsed }) s
    noteMod 0x0E06 0 i [] s

/-! ## Deposits (R460 to R464) -/

/-- Fields of a deposit. -/
def dpFormat (d : List Byte) : Nat := leAt d 4 2

def dpCounter (d : List Byte) : Nat := leAt d 8 8

def dpNrec (d : List Byte) : Nat := leAt d 64 2

/-- The offset of the first field whose structure is wrong (step 1 of R462). -/
def depositBad (d : List Byte) : Option Nat :=
  let f := dpFormat d
  let checks : List (Nat × Bool) :=
    [(0, sliceOf d 0 4 == [0x53, 0x50, 0x4B, 0x44]), (4, f == 1 || f == 2),
     (6, decide (leAt d 6 1 ≤ 1) && (f != 2 || leAt d 6 1 == 0)), (7, leAt d 7 1 == 0),
     (12, f != 2 || leAt d 12 4 == 0), (64, decide (1 ≤ dpNrec d) && decide (dpNrec d ≤ 1020) && d.length == 240 + 64 * dpNrec d),
     (66, leAt d 66 2 == 0), (80, zerosAt d 80 48)]
  (checks.find? fun c => !c.2).map Prod.fst

/-- The test root is in use (R464). -/
def testRooted (s : State) (d : List Byte) : Bool := dpFormat d == 2 && s.pwr.dbg && s.keys.mode == 1

/-- The public key that signs a deposit; none where the module has no owner. -/
def signerOf (s : State) (d : List Byte) : Option (List Byte) :=
  if dpFormat d = 2 then some (if testRooted s d then Config.testRoot else Config.depositRoot)
  else s.keys.store.owner.map fun o => if leAt d 6 1 = 0 then o.issuer0 else o.issuer1

/-- The records, where signature and tag verify (step 3). -/
def openDeposit (s : State) (d : List Byte) : Option (List Byte) :=
  let n := 64 * dpNrec d
  match signerOf s d with
  | some pub =>
    if Config.verify pub (d.take (144 + n)) (sliceOf d (144 + n) 96) then
      let key := if dpFormat d = 2 then Config.compatKey else (s.keys.store.owner.map (·.otk)).getD []
      Config.gcmOpen key (sliceOf d 68 12) (d.take 128) (sliceOf d 128 n) (sliceOf d (128 + n) 16)
    else none
  | none => none

/-- BINDING names this module (step 4). -/
def bindingOk (d : List Byte) : Bool :=
  sliceOf d 16 48 == (if dpFormat d = 2 then padTo 48 (padTo 16 Config.serial) else sha384 Config.identityPub)

/-- The offset within a record of its first offending field. -/
def recordBad (r : List Byte) : Option Nat :=
  let act := leAt r 2 1
  let load := act == 0 || act == 1
  let checks : List (Nat × Bool) :=
    [(0, decide (leAt r 0 2 ≤ 1023)), (2, [0, 1, 2, 4, 5].contains act), (3, !load || leAt r 3 1 == 1 || leAt r 3 1 == 2),
     (4, decide (leAt r 4 1 < 16)), (5, zerosAt r 5 3), (22, zerosAt r 22 2),
     (40, !(load && leAt r 3 1 == 1) || zerosAt r 40 16), (56, zerosAt r 56 8)]
  (checks.find? fun c => !c.2).map Prod.fst

/-- The offset in the deposit of the first offending record field (step 6). -/
def recordsBad (n : Nat) (b : List Byte) : Option Nat :=
  let rs := (List.range n).map fun i => sliceOf b (64 * i) 64
  let release := if n = 1 then none else (List.range n).find? fun i => leAt (rs.getD i []) 2 1 == 5
  match (List.range n).findSome? fun i => (recordBad (rs.getD i [])).map fun o => 128 + 64 * i + o with
  | some o => some o
  | none => release.map fun i => 130 + 64 * i

/-- The key a record loads. -/
def recordKey (r : List Byte) (origin now : Nat) : Key :=
  { id := leAt r 8 4, alg := leAt r 3 1, purpose := leAt r 4 1, origin := origin, lifetime := leAt r 12 4,
    notAfter := leAt r 16 6, bytes := sliceOf r 24 (if leAt r 3 1 = 1 then 16 else 32), since := now }

/-- A record's effect on its slot. -/
def recordSlot (r : List Byte) (origin now : Nat) (k : KeySlot) : KeySlot :=
  match leAt r 2 1 with
  | 0 => { k with nxt := some (recordKey r origin now) }
  | 1 => { k with cur := some (recordKey r origin now) }
  | 2 => {}
  | _ => k

/-- Apply one record: in use, and in the store unless it loads a test key, which is held on die only (R464). -/
def applyRecord (test : Bool) (s : State) (r : List Byte) : State :=
  let act := leAt r 2 1
  let i := leAt r 0 2
  let f := recordSlot r (if test then 3 else 1) s.met.opsec
  if act = 5 then
    noteMod 0x0E02 0 noObj [] (updKeys (fun k =>
      { k with slots := [], store := { k.store with slots := [], owner := none, sign := [] } }) s)
  else if act = 4 then
    updKeys (fun k => { k with store := { k.store with owner := k.store.owner.map fun o => { o with otk := sliceOf r 24 32 } } }) s
  else
    updKeys (fun k =>
      { k with slots := tmod {} k.slots i f,
               store := if test && act != 2 then k.store else { k.store with slots := tmod {} k.store.slots i f } }) s

/-- Records apply in order; the commit is one new generation with the new counter. -/
def applyDeposit (d b : List Byte) (s : State) : State :=
  let test := testRooted s d
  let rs := (List.range (dpNrec d)).map fun i => sliceOf b (64 * i) 64
  let s := updStore (fun k => { k with counter := dpCounter d }) (rs.foldl (applyRecord test) s)
  let s := noteMod 0x0E03 0 noObj (words64 (dpCounter d) ++ [dpNrec d]) (updKeys (fun k => { k with session := none }) s)
  if test then noteMod 0x0E08 0 noObj [] s else s

/-- A rejected deposit: DEP_REJ and the Chronicle; the session ends where the deposit is UNTRUSTED. -/
def rejectDeposit (r : Reply) (off : Nat) (s : State) : Ans :=
  .done (noteMod 0x0E04 0 noObj [r.status, off]
    (updKeys (fun k => { k with depRej := true, session := if r.status = 10 then none else k.session }) s)) r

/-- `key.deposit.end` (R462). -/
def depositEnd (s : State) : Ans :=
  match s.keys.session with
  | none => .fail stale
  | some x =>
    let d := x.got
    if !sessionFull x then .fail stale
    else match depositBad d with
      | some o => rejectDeposit { badarg 0xFFFE with res0 := o } o s
      | none =>
        if dpFormat d = 2 ∧ s.keys.mode = 0 then rejectDeposit (withKey 1 2 (denied 4)) 4 s
        else match openDeposit s d with
          | none => rejectDeposit untrusted 0 s
          | some b =>
            if !bindingOk d then rejectDeposit stale 16 s
            else if dpCounter d ≤ s.keys.store.counter then rejectDeposit stale 8 s
            else match recordsBad (dpNrec d) b with
              | some o => rejectDeposit (badarg 0xFFFE) o s
              | none => .done (applyDeposit d b s) { ok with res1 := some (dpNrec d) }

end Sys2Proof.Machine
end

