-- ==== Sys2Proof/Machine/Keys.lean ====
section
/-! DEFINITION. The key commands (R478) and the lapse of a key (R456). -/

namespace Sys2Proof.Machine

/-! ## Identity and owner -/

/-- BODY_DIGEST of the running image. -/
def fwDigest (s : State) : List Byte := padTo 48 (runBank s).digest

/-- The alias certificate issued at this boot (R453). -/
def aliasCert (s : State) : List Byte :=
  let b := padTo 96 (Config.publicOf (Config.aliasKey (fwDigest s))) ++ fwDigest s ++ le 2 (runBank s).svn ++ zeros 14
  b ++ padTo 96 (Config.sign Config.identityKey b)

def execKeyIdentityGet (r : CmdId) (s : State) : Res :=
  feljo 0x0E01 r (fun _ s => .done s (withOut
    (padTo 96 Config.identityPub ++ le 4 Config.deviceCert.length ++ Config.deviceCert ++ aliasCert s) ok)) s

/-- `key.owner.enrol` (R458). -/
def ownerEnrol (c : Cmd) (s : State) : Ans :=
  require (s.svc.state == .commissioning) (denied 1)
    (require (s.keys.store.owner.isNone) stale
      (require (decide (224 ≤ c.input.length)) (badarg 0xFFFE)
        (.done (noteMod 0x0E01 0 noObj [] (updStore (fun k =>
          { k with owner := some { issuer0 := sliceOf c.input 0 96, issuer1 := sliceOf c.input 96 96, otk := sliceOf c.input 192 32 } }) s))
          ok)))

def execKeyOwnerEnrol (r : CmdId) (s : State) : Res := feljo 0x0E02 r (fun c s => adminOnly c (ownerEnrol c s)) s

/-! ## Deposits -/

def execKeyDepositBegin (r : CmdId) (s : State) : Res :=
  feljo 0x0E03 r (fun c s => adminOnly c (notBoot s (require s.keys.session.isNone busy
    (.done (updKeys (fun k => { k with session := some { total := argD c 2 240, at_ := s.clk } }) s) ok)))) s

def execKeyDepositChunk (r : CmdId) (s : State) : Res :=
  feljo 0x0E04 r (fun c s => adminOnly c (notBoot s
    (chunkAns c s.keys.session (fun x => updKeys fun k => { k with session := some x }) s))) s

def execKeyDepositEnd (r : CmdId) (s : State) : Res := feljo 0x0E05 r (fun c s => adminOnly c (notBoot s (depositEnd s))) s

def execKeyDepositAbort (r : CmdId) (s : State) : Res :=
  feljo 0x0E06 r (fun c s => adminOnly c (notBoot s (require s.keys.session.isSome stale
    (.done (updKeys (fun k => { k with session := none }) s) ok)))) s

/-! ## Slots -/

/-- Seconds until a key lapses: the earlier of its two instants; all ones where it has none. -/
def lapseIn (s : State) (k : Key) (current : Bool) : Nat :=
  let a := if k.lifetime = 0 then none else if current then some (k.since + k.lifetime - s.met.opsec) else some k.lifetime
  let b := if k.notAfter = 0 ∨ !s.time.traceable then none else some (k.notAfter - secOf s.time.n)
  match a, b with
  | some x, some y => min x y
  | some x, none => x
  | none, some y => min y 0xFFFFFFFF
  | none, none => 0xFFFFFFFF

/-- The 16 bytes of a position; the key bytes are never returned. -/
def keyBytes (s : State) (k : Option Key) (current : Bool) : List Byte :=
  match k with
  | some k => le 4 k.id ++ le 1 k.alg ++ le 1 k.purpose ++ le 1 k.origin ++ le 1 (b2n k.lapsed) ++ le 4 (lapseIn s k current) ++
      le 4 k.notAfter
  | none => zeros 16

def execKeySlotGet (r : CmdId) (s : State) : Res :=
  feljo 0x0E07 r (fun c s => adminOnly c
    (let k := tget {} s.keys.slots (argD c 2 0)
     .done s (withOut (keyBytes s k.cur true ++ keyBytes s k.nxt false) ok))) s

/-- `key.slot.promote` at its effect point. -/
def keyPromote (c : Cmd) (s : State) : Ans :=
  let i := argD c 2 0
  require (tget {} s.keys.slots i).nxt.isSome stale (.done (promoteKey i s) ok)

def execKeySlotPromote (r : CmdId) (s : State) : Res := feljo 0x0E08 r (fun c s => adminOnly c (carried c s keyPromote)) s

/-! ## Signing and attestation -/

/-- `key.generate` (R465). -/
def keyGenerate (c : Cmd) (s : State) : Ans :=
  let i := argD c 2 0
  let priv := Config.random s.fresh
  let pub := padTo 96 (Config.publicOf priv)
  .done (noteMod 0x0E09 0 i [] (updStore (fun k => { k with sign := tput k.sign i { priv := priv, pub := pub } })
    { s with fresh := s.fresh + 1 })) (withOut pub ok)

def execKeyGenerate (r : CmdId) (s : State) : Res := feljo 0x0E09 r (fun c s => adminOnly c (keyGenerate c s)) s

/-- `key.sign`: the digest is read from the first 48 bytes of the buffer. -/
def keySign (c : Cmd) (s : State) : Ans :=
  require (decide (48 ≤ c.input.length)) (badarg 0xFFFE)
    (match tfind s.keys.store.sign (argD c 2 0) with
    | some k => .done s (withOut (padTo 96 (Config.sign k.priv (c.input.take 48))) ok)
    | none => .fail stale)

def execKeySign (r : CmdId) (s : State) : Res := feljo 0x0E0A r (fun c s => adminOnly c (keySign c s)) s

/-- Some key in use is a test key (R464). -/
def testKeys (s : State) : Bool :=
  let isTest (k : Option Key) : Bool := match k with
    | some x => x.origin == 3
    | none => false
  s.keys.slots.any fun e => isTest e.2.cur || isTest e.2.nxt

/-- A trial runs unconfirmed. -/
def trialRuns (s : State) : Bool := s.upd.boot.trialState == 2 && s.upd.boot.trial == some s.upd.run

/-- What a statement says of its subject: ORIGIN, ALG, KEYID, public key; none where the slot is empty. -/
def subjectOf (s : State) (kind slot : Nat) : Option (Nat × Nat × Nat × List Byte) :=
  match kind with
  | 0 => some (0, 0, 0, zeros 96)
  | 1 => (tget {} s.keys.slots slot).cur.map fun k => (k.origin, k.alg, k.id, zeros 96)
  | _ => (tfind s.keys.store.sign slot).map fun k => (2, 3, 0, padTo 96 k.pub)

/-- The statement of R466. -/
def statement (s : State) (kind slot : Nat) (nonce : List Byte) (x : Nat × Nat × Nat × List Byte) : List Byte :=
  let b := [0x53, 0x50, 0x41, 0x54] ++ le 2 1 ++ le 1 kind ++
    le 1 (b2n s.pwr.dbg + 2 * s.keys.mode + 4 * b2n (testKeys s) + 8 * b2n (trialRuns s)) ++ padTo 48 nonce ++
    padTo 16 Config.serial ++ sha384 Config.identityPub ++ fwDigest s ++ le 4 (runBank s).version ++ le 2 (runBank s).svn ++
    le 2 s.upd.minSvn ++ le 4 s.met.cycles ++ le 5 s.met.opsec ++ zeros 3 ++ le 2 slot ++ le 1 x.1 ++ le 1 x.2.1 ++
    le 4 x.2.2.1 ++ x.2.2.2
  b ++ padTo 96 (Config.sign (Config.aliasKey (fwDigest s)) b)

/-- `key.attest`. -/
def keyAttest (c : Cmd) (s : State) : Ans :=
  let kind := argD c 2 0
  let slot := if kind = 0 then 0 else argD c 3 0
  if 2 < kind then .fail (badarg (argIdx c 2))
  else if (if kind = 1 then 1023 else 15) < slot then .fail (badarg (argIdx c 3))
  else require (decide (48 ≤ c.input.length)) (badarg 0xFFFE)
    (match subjectOf s kind slot with
    | some x => .done s (withOut (statement s kind slot (c.input.take 48) x) ok)
    | none => .fail stale)

def execKeyAttest (r : CmdId) (s : State) : Res := feljo 0x0E0B r keyAttest s

/-! ## Mode, lapse, session timeout -/

/-- The mode is staged; it takes effect at the next soft reset or cold start (R463). -/
def execKeyModeSet (r : CmdId) (s : State) : Res :=
  feljo 0x0E0C r (fun c s => adminOnly c (require (s.svc.state == .commissioning) (denied 1)
    (.done (noteMod 0x0E07 0 noObj [] (updKeys (fun k => { k with modeStaged := some (argD c 2 0) }) s)) stagedR))) s

/-- Only a unit that stands alone or is ACTIVE judges a lapse; in a pair it carries it to its partner (R457). -/
def execKeyLapse (slot : Nat) (s : State) : Res :=
  .next (if lapseDue s slot && unitLive s then
    if pairLeads s then sendOwn 2 [(2, slot)] s else lapseKey slot s
  else s)

end Sys2Proof.Machine
end

