-- ==== Sys2Proof/Machine/Update.lean ====
section
/-! DEFINITION. Firmware update: deposits (R459, R469), activation, confirmation and cancellation (R472 to R474), the
commands of R479, and the timeouts of R459 and R473. -/

namespace Sys2Proof.Machine

/-- The bank that does not run. -/
def otherBank (s : State) : Nat := 1 - s.upd.run

def putBank (b : Nat) (x : Bank) (s : State) : State :=
  updUpd (fun u => if b = 0 then { u with bankA := x } else { u with bankB := x }) s

/-- The other bank takes a state and what is known of its image. -/
def setOther (st : BankSt) (x : Bank) (s : State) : State :=
  let b := otherBank s
  putBank b x (writeRec (recPut b st s.upd.boot) s)

/-- Seconds left in the confirmation window (R473, R477). -/
def confirmLeft (s : State) : Nat :=
  match s.upd.trialFrom with
  | some t => if trialRuns s then t + 60 * s.upd.boot.window - s.met.opsec else 0
  | none => 0

/-- UPD_STATUS (R477). -/
def updStatus (s : State) : Nat :=
  let u := s.upd
  let trial := if trialRuns s then 1 else if u.boot.trialState = 1 then 2 else if u.fellHere then 3 else 0
  u.run + trial * 2 + b2n u.session.isSome * 8 + u.boot.stA.code * 16 + u.boot.stB.code * 128 + b2n u.fellback * 1024 +
    b2n u.confirmed * 2048

/-- VERSION, SVN and TCL range of a bank. -/
def bankBytes (k : Bank) : List Byte := le 4 k.version ++ le 2 k.svn ++ le 1 k.tclMin ++ le 1 k.tclMax

def execUpdateStatusGet (r : CmdId) (s : State) : Res :=
  feljo 0x0F01 r (fun c s => adminOnly c (notBoot s (.done s (withOut
    (bankBytes s.upd.bankA ++ bankBytes s.upd.bankB ++ le 2 s.upd.minSvn ++ le 2 (confirmLeft s) ++ le 1 s.upd.window ++ zeros 11)
    { ok with res0 := updStatus s })))) s

/-- No record write starts after PFW (R470). -/
def recordFree (s : State) (k : Ans) : Ans := require (s.pwr.pfw == .idle) busy k

/-! ## Deposits -/

/-- `update.deposit.begin`: refused while a trial is armed or running, under the number R472 gives that condition. -/
def updateBegin (c : Cmd) (s : State) : Ans :=
  require (s.upd.boot.trialState == 0) (withKey 1 3 (denied 4))
    (require s.upd.session.isNone busy
      (.done (updUpd (fun u => { u with session := some { total := argD c 2 320, at_ := s.clk } }) (setOther .loading {} s)) ok))

def execUpdateDepositBegin (r : CmdId) (s : State) : Res :=
  feljo 0x0F02 r (fun c s => adminOnly c (notBoot s (recordFree s (updateBegin c s)))) s

def execUpdateDepositChunk (r : CmdId) (s : State) : Res :=
  feljo 0x0F03 r (fun c s => adminOnly c (notBoot s
    (chunkAns c s.upd.session (fun x => updUpd fun u => { u with session := some x }) s))) s

/-- Is the image's structure as R469 gives it, and its digest right? The signature is the boot ROM's to check. -/
def imageOk (d : List Byte) : Bool :=
  let n := d.length - 256
  let o := d.drop n
  sliceOf d 0 4 == [0x53, 0x50, 0x46, 0x57] && leAt d 4 2 == 1 && zerosAt d 6 2 && leAt d 8 4 + 320 == d.length &&
    decide (leAt d 16 2 ≤ 64) && decide (leAt d 18 1 ≤ leAt d 19 1) && zerosAt d 24 40 &&
    sliceOf o 0 4 == [0x53, 0x50, 0x43, 0x4F] && leAt o 4 2 == 1 && decide (leAt o 6 1 ≤ 1) && zerosAt o 7 1 &&
    sliceOf o 8 48 == sha384 (d.take n) && zerosAt o 56 8 && zerosAt o 160 96

/-- What is known of an image once it is loaded. -/
def bankFrom (d : List Byte) : Bank :=
  { version := leAt d 12 4, svn := leAt d 16 2, tclMin := leAt d 18 1, tclMax := leAt d 19 1, storeFmt := leAt d 20 2,
    storeReadMin := leAt d 22 2, digest := sliceOf d (d.length - 248) 48, image := d }

/-- A firmware session ends without an image: the bank is EMPTY. -/
def dropImage (s : State) : State :=
  noteMod 0x0F02 0 (otherBank s) [] (updUpd (fun u => { u with session := none }) (setOther .empty {} s))

/-- `update.deposit.end`. -/
def updateEnd (s : State) : Ans :=
  match s.upd.session with
  | none => .fail stale
  | some x =>
    if !sessionFull x then .fail stale
    else if imageOk x.got then
      let k := bankFrom x.got
      .done (noteMod 0x0F01 0 (otherBank s) [k.version, k.svn] (updUpd (fun u => { u with session := none }) (setOther .loaded k s))) ok
    else .done (dropImage s) untrusted

def execUpdateDepositEnd (r : CmdId) (s : State) : Res :=
  feljo 0x0F04 r (fun c s => adminOnly c (notBoot s (recordFree s (updateEnd s)))) s

def execUpdateDepositAbort (r : CmdId) (s : State) : Res :=
  feljo 0x0F05 r (fun c s => adminOnly c (notBoot s (recordFree s
    (require s.upd.session.isSome stale (.done (dropImage s) ok))))) s

/-! ## The trial -/

/-- The first unmet condition of `update.activate`, by its number in R472. -/
def activateBad (s : State) (force : Bool) : Option Nat :=
  let k := bankOf s (otherBank s)
  let overlap := decide (k.tclMin ≤ s.tdm.peerTclMax) && decide (s.tdm.peerTclMin ≤ k.tclMax)
  if recState s.upd.boot (otherBank s) != .loaded || decide (k.svn < s.upd.minSvn) then some 1
  else if s.upd.boot.fmtP < k.storeReadMin then some 2
  else if s.upd.boot.trialState ≠ 0 then some 3
  else if !s.tdm.standalone && s.tdm.session.isSome && !overlap && !force then some 4
  else none

/-- A restart is accepted where `power.reset` is, and on a tandem unit that is not ACTIVE. -/
def restartOk (s : State) : Bool := s.svc.state != .inService || (!s.tdm.standalone && s.tdm.role != .active)

/-- `update.activate` (R472). -/
def updateActivate (c : Cmd) (s : State) : Ans :=
  let restart := argD c 2 0 == 1
  require (!restart || restartOk s) (denied 1)
    (match activateBad s (argD c 3 0 == 1) with
    | some i => .fail (withKey 1 i (denied 4))
    | none =>
      let b := otherBank s
      let r := s.upd.boot
      .done (noteMod 0x0F03 0 b [] (writeRec
        { r with trial := some b, trialState := 1, window := s.upd.window, areaT := 1 - r.areaP, fmtT := (bankOf s b).storeFmt } s))
        { ok with reset := restart })

def execUpdateActivate (r : CmdId) (s : State) : Res :=
  feljo 0x0F06 r (fun c s => adminOnly c (notBoot s (recordFree s (updateActivate c s)))) s

/-- Why a trial cannot be confirmed: none runs, a module fault stands, or the state is HALTED. -/
def confirmBad (s : State) : Option Nat :=
  if !trialRuns s then some 1 else if s.sig.fault then some 2 else if s.svc.state = .halted then some 3 else none

/-- The trial becomes the primary, MIN_SVN advances and the old store area is released (R473). -/
def confirmTrial (s : State) : State :=
  let b := s.upd.run
  let r := s.upd.boot
  let s := writeRec (recPut b .primary (recPut (1 - b) .loaded
    { r with primary := b, trial := none, trialState := 0, areaP := r.areaT, fmtP := r.fmtT, areaT := r.areaP, fmtT := r.fmtP })) s
  let s := updUpd (fun u => { u with minSvn := max u.minSvn (runBank s).svn, confirmed := true, trialFrom := none }) s
  let s := if r.areaP = 0 then { s with store := { s.store with area0 := none, damaged0 := false } }
           else { s with store := { s.store with area1 := none, damaged1 := false } }
  noteMod 0x0F05 0 b [] s

def execUpdateConfirm (r : CmdId) (s : State) : Res :=
  feljo 0x0F07 r (fun c s => adminOnly c (notBoot s (recordFree s (match confirmBad s with
    | some i => .fail (withKey 1 i (denied 4))
    | none => .done (confirmTrial s) ok)))) s

/-- An armed trial is cleared; its bank stays LOADED. -/
def execUpdateCancel (r : CmdId) (s : State) : Res :=
  feljo 0x0F08 r (fun c s => adminOnly c (notBoot s (recordFree s (require (s.upd.boot.trialState == 1) stale
    (.done (noteMod 0x0F09 0 (otherBank s) [] (writeRec { s.upd.boot with trial := none, trialState := 0 } s)) ok))))) s

def execUpdateWindowSet (r : CmdId) (s : State) : Res :=
  feljo 0x0F09 r (fun c s => adminOnly c (notBoot s (.done (updUpd (fun u => { u with window := argD c 2 10 }) s) ok))) s

/-! ## Timeouts -/

/-- A session has had no chunk for 60 s. -/
def idleSession (s : State) (x : Option Session) : Bool :=
  match x with
  | some x => decide (x.at_ + 60 * sec1 ≤ s.clk)
  | none => false

def execDepositSessionTimeout (firmware : Bool) (s : State) : Res :=
  .next (if firmware then if idleSession s s.upd.session then dropImage s else s
         else if idleSession s s.keys.session then updKeys (fun k => { k with session := none }) s else s)

/-- The window has passed unconfirmed: the soft reset of R56, after which R471 falls back. -/
def execTrialWindowExpiry (s : State) : Res :=
  .next (if s.pwr.good && s.pwr.pfw == .idle && s.upd.trialFrom.isSome && trialRuns s && confirmLeft s == 0 then softReset s else s)

end Sys2Proof.Machine
end

