-- ==== Sys2Proof/Machine/CarryTable.lean ====
section
/-! DEFINITION. The meaning of a carried change at its effect point (R114, R298, R325, R326, R457): the same operation
that the command performs on a unit that stands alone. -/

namespace Sys2Proof.Machine

/-- What a carried opcode does. Numbers 1 and 2 are changes of the unit's own: the automatic transition to RECOVERY and
the lapse of a key. A handover ballot (0x0904) only travels. -/
def carriedBody (op : Nat) : Cmd → State → Ans :=
  match op with
  | 0x0001 => fun _ s => .done (recoveryStart s) ok
  | 0x0002 => fun c s => .done (lapseKey (argD c 2 0) s) ok
  | 0x0103 => serviceSet
  | 0x0207 => configSet
  | 0x0209 => instHold
  | 0x020A => instRestart
  | 0x020B => instReset
  | 0x020C => instFreeze
  | 0x020D => instSave
  | 0x020E => instRestore
  | 0x020F => instThaw
  | 0x0302 => domainSet
  | 0x0303 => domainHold
  | 0x0304 => domainRestart
  | 0x0305 => loopHold
  | 0x0307 => spareSet
  | 0x0309 => spareHold
  | 0x0401 => streamSubscribe
  | 0x0402 => streamUnsubscribe
  | 0x0403 => streamSet
  | 0x0405 => streamHold
  | 0x0406 => streamRestart
  | 0x0409 => simReset
  | 0x0501 => channelSet
  | 0x0506 => resync
  | 0x0507 => detectorSet
  | 0x0601 => setLoad
  | 0x0603 => paramSet
  | 0x0701 => programLoad
  | 0x0705 => controlWrite
  | 0x0706 => forceSet
  | 0x0707 => forceClear
  | 0x0801 => pubSet
  | 0x0804 => pubRelease
  | 0x0805 => subSet
  | 0x0808 => gooseClear
  | 0x0809 => outSet
  | 0x080B => outTest
  | 0x0E08 => keyPromote
  | _ => fun _ s => .done s ok

/-- Changes whose effect point is a grid sample (R325). -/
def gridBased (op : Nat) : Bool := [0x0302, 0x0303, 0x0304, 0x0305, 0x0307, 0x0309].contains op

/-- The domain whose boundaries or grid samples a change waits for. -/
def carriedDom (k : Carried) (s : State) : Nat :=
  let a (key : Nat) : Nat := ((k.params.find? fun p => p.1 == key).map Prod.snd).getD 0
  if k.op ≤ 0x0305 ∧ 0x0302 ≤ k.op then a 1
  else instDom (inst s (if k.slice = 0 ∨ k.slice = noObj then a 1 else k.slice))

/-- A command that waits on after its change has been carried can be aborted again. -/
def waitsOn (id : CmdId) (s : State) : State :=
  updCmds (fun l => l.map fun c => if c.id == id && c.phase == .committed then { c with phase := .executing } else c) s

/-- The command completes with the result of this unit; on the partner no ring holds it. -/
def settleCarried (k : Carried) (c : Cmd) (s : State) : Ans → State
  | .wait s' => if k.cmd.isSome then waitsOn c.id s' else s'
  | .going s' => s'
  | .fail r => if k.cmd.isSome then reply c.id r s else s
  | .done s' r => if k.cmd.isSome then settle c s (.done s' r) else s'

/-- The status of an answer. -/
def ansStatus : Ans → Nat
  | .fail r => r.status
  | .done _ r => r.status
  | _ => 0

/-- The ACTIVE unit and its partner apply a change; the partner reports its result (R325). -/
def runCarried (k : Carried) (s : State) : State :=
  let s := dropWaits (.carried k.ident) s
  let c := carriedCmd k s
  let a := carriedBody k.op c s
  let st := ansStatus a
  let mine := k.cmd.isSome || (s.tdm.role == .active)
  let s := settleCarried k c s a
  if mine then updTdm (fun t => { t with carried := t.carried.filterMap fun x =>
      if x.ident = k.ident then (if t.inStep then some { x with status := some st } else none) else some x }) s
  else linkSend (.carryAck k.ident st) (updTdm (fun t => { t with carried := t.carried.filter fun x => x.ident != k.ident }) s)

/-- Run every waiting change that a test selects. -/
def runDue (p : Carried → Bool) (s : State) : State :=
  (s.tdm.carried.filter fun k => k.status.isNone && p k).foldl (fun s k => runCarried k s) s

/-- Ballot-based changes of a ballot that closes. -/
def runBallotDue (b : Nat) (s : State) : State :=
  runDue (fun k => !stepBased k.op && !gridBased k.op && decide (k.effect ≤ b)) s

/-- The time from which an effect ballot lets step-based changes act: 2 ms after it, in 2^-16 ns. -/
def effectTime (e : Nat) : Nat := (250 * us * e + 2 * ms) * 65536

/-- Step-based changes of a domain at a boundary at `t`. -/
def runStepDue (d t : Nat) (s : State) : State :=
  runDue (fun k => stepBased k.op && carriedDom k s == d && decide (effectTime k.effect ≤ t)) s

/-- Changes that act at a grid sample of a domain at `t`. -/
def runGridDue (d t : Nat) (s : State) : State :=
  runDue (fun k => gridBased k.op && carriedDom k s == d && decide (effectTime k.effect ≤ t)) s

end Sys2Proof.Machine
end

