-- ==== Sys2Proof/Machine/BallotOps.lean ====
section
/-! DEFINITION. Shared operations of the ballot (R303 to R309), the comparison of results (R310, R311), roles (R314), link
failure (R302, R321) and resynchronisation (R323, R324). -/

namespace Sys2Proof.Machine

/-- A ballot period in 2^-16 ns. -/
def periodT : Nat := 250 * us * 65536

/-- The instant of the deadline of a ballot: 150 µs after its period ends (R303). -/
def deadlineT (b : Nat) : Nat := (b + 1) * periodT + 150 * us * 65536

/-! ## Roles (R314, R316) -/

/-- HELLO to the referee, on entry to DETACHED; it is repeated until answered. -/
def refHello (s : State) : State :=
  let s := refSend 0x0001 0 0 s
  updTdm (fun t => { t with helloOpen := true, helloAt := s.clk, helloSeq := t.refSeq }) s

def toDetached (cause : Nat) (s : State) : State := refHello (setRole .detached cause s)

/-! ## Resynchronisation fails (R324) -/

/-- After a first failure the joiner tries again after 1 s; after a second it is ISOLATED. -/
def resyncFail (s : State) : State :=
  let s := noteMod 0x0903 0 noObj [] (openError 0x0903 noObj s)
  let n := s.tdm.attempts + 1
  let s := updTdm (fun t => { t with phase := 0, inStep := false, attempts := n, failedAt := s.clk, rsImage := [], rsDone := [], verified := 0 }) s
  if n < 2 then s
  else closeError 0x0903 noObj (setRole .isolated 13 (updTdm (fun t => { t with attempts := 0 }) s))

/-! ## Comparing results (R310, R311) -/

/-- A disagreement: both units report it, raise the alarm and test themselves; a STANDBY unit leaves the pair. -/
def disagree (s : State) : State :=
  let s := noteMod 0x0902 0 noObj [] (openError 0x0902 noObj s)
  let s := tdmCount 8 (withNtf 0 (updTdm fun t => { t with
    disagree := true, scrub := true, disagreements := s.clk :: t.disagreements.filter fun x => decide (s.clk ≤ x + 3600 * sec1) }) s)
  let s := setAlarm 4 (refSend 0x0010 0 s.tdm.ballot s)
  if s.tdm.role = .standby then setRole .isolated 8 (updTdm (fun t => { t with inStep := false }) s) else s

/-- Digests are judged while the pair is in step: not while a joiner still converges. -/
def judging (s : State) : Bool :=
  s.tdm.inStep && ((s.tdm.role == .active && s.tdm.peerRole == some .standby) || s.tdm.role == .standby || s.tdm.phase == 6)

/-- A difference between digests. -/
def differ (s : State) : State :=
  if !judging s then s else if s.tdm.phase = 6 && s.tdm.role != .active then resyncFail s else disagree s

/-- The partner's digest of the same step. -/
def peerOf (l : List StepDigest) (x : StepDigest) : Option StepDigest := l.find? fun y => y.domain == x.domain && y.step == x.step

/-- Compare the step digests that both units' values are known of. -/
def compareSteps (s : State) : State :=
  let both := s.tdm.stepOwn.filter fun x => (peerOf s.tdm.stepPeer x).isSome
  let bad := both.any fun x => match peerOf s.tdm.stepPeer x with
    | some y => x.crc != y.crc
    | none => false
  let s := updTdm (fun t => { t with
    stepOwn := (t.stepOwn.filter fun x => (peerOf t.stepPeer x).isNone).take 64,
    stepPeer := (t.stepPeer.filter fun x => (peerOf t.stepOwn x).isNone).take 64,
    matched := both.foldl (fun m x => tput m x.domain x.step) t.matched }) s
  if bad then differ s else s

/-- Compare the sweep digests that both units' values are known of. -/
def compareSweeps (s : State) : State :=
  let both := s.tdm.sweepOwn.filter fun e => thas s.tdm.sweepPeer e.1
  let bad := both.any fun e => tfind s.tdm.sweepPeer e.1 != some e.2
  let s := updTdm (fun t => { t with
    sweepOwn := (t.sweepOwn.filter fun e => !thas t.sweepPeer e.1).drop (t.sweepOwn.length - 16),
    sweepPeer := (t.sweepPeer.filter fun e => !thas t.sweepOwn e.1).drop (t.sweepPeer.length - 16) }) s
  if bad then differ s else s

/-! ## Inputs (R303 to R306) -/

/-- The unit that settles inputs and closes ballots: the chair, or a unit alone (R303). -/
def settler (s : State) : Bool := isChair s || !s.tdm.inStep

def findInput (s : State) (id : InputId) : Option BInput := s.tdm.inputs.find? fun x => x.id == id

def updInput (id : InputId) (f : BInput → BInput) (s : State) : State :=
  updTdm (fun t => { t with inputs := t.inputs.map fun x => if x.id == id then f x else x }) s

/-- An input becomes known and is assigned to the period open now. -/
def learnInput (id : InputId) (s : State) : State :=
  if (findInput s id).isSome then s
  else updTdm (fun t => { t with inputs := t.inputs ++
    [{ id := id, period := t.ballot, own := none, ownAt := 0, ownMissing := false, peerCrc := none, peerMissing := false,
       forwarded := false, settled := none }] }) s

/-- Wrap index of a start of wrap, as an input's identity carries it. -/
def wrapIndex (d : List Byte) (w : Nat) : Nat := (2 * w + wrapPeriod d) / (2 * wrapPeriod d) % 65536

/-- The sequence number that an identity means in a stream. -/
def seqOfId (t : Stream) (cnt wrap : Nat) : Option Nat :=
  match (match t.prev with
    | some k => some k
    | none => t.final.head?) with
  | some k =>
    let dw := sext 16 ((wrap + 65536 - wrapIndex t.desc k.w) % 65536)
    some ((k.n : Int) + dw * sdWrap t.desc + cnt - k.cnt).toNat
  | none => none

/-- A GOOSE message is applied (R289 to R291), its TAL running from its arrival. -/
def applyGoose (n i : Nat) (g : GoosePdu) (arr : Nat) (s : State) : State :=
  watchSub n i arr (subApply n i g (s.clk - (s.time.n - arr) / 65536)) s

/-- VALID falls when the TAL has run out (R291). -/
def talOut (n i : Nat) (s : State) : State :=
  match tfind (inst s n).subs i with
  | some u => if u.live && u.valid && decide (u.tal ≤ s.clk) then watchSub n i s.time.n (setValid n i false) s else s
  | none => s

/-- A settled input with its content is handed on. -/
def applyData (id : InputId) (d : InputData) (s : State) : State :=
  match id, d with
  | .sample x _ _, .sample a sim arr => placeAsdu x a sim true arr s
  | .goose n i _ _, .goose g arr => applyGoose n i g arr s
  | _, _ => s

/-- A settled missing sample is handed on. -/
def applyMissing (id : InputId) (s : State) : State :=
  match id with
  | .sample x cnt wrap =>
    match tfind s.sv.streams x with
    | some t =>
      match seqOfId t cnt wrap, t.next with
      | some n, some m => if m ≤ n && !thas t.ahead n then declareMissing x n s else s
      | _, _ => s
    | none => s
  | .goose _ _ _ _ => s

/-- An input is settled, once (R305). The chair tells its follower. -/
def settleInput (id : InputId) (present : Bool) (content : Option InputData) (s : State) : State :=
  match findInput s id with
  | none => s
  | some x =>
    if x.settled.isSome then s
    else
      let data := if present then (match content with
        | some d => some d
        | none => x.own) else none
      let s := tdmCount (if present then 0 else 3) (updInput id (fun y => { y with settled := some data }) s)
      let s := if isChair s && s.tdm.inStep then
          linkSend (.settle [{ input := id, present := present, ballot := x.period % 256, content := content }]) s else s
      match data with
      | some d => applyData id d s
      | none => applyMissing id s

/-- Both units hold the input: PRESENT where the contents agree, MISSING where they differ. -/
def chairJudge (id : InputId) (s : State) : State :=
  match findInput s id with
  | some x =>
    match x.own, x.peerCrc with
    | some d, some c =>
      if x.settled.isSome then s
      else if Config.contentCrc d = c then settleInput id true none s
      else settleInput id false none (tdmCount 5 s)
    | _, _ => s
  | none => s

/-- A duplicate at this unit. -/
def countDup (id : InputId) (s : State) : State :=
  match id with
  | .sample x _ _ => strCount x 12 s
  | .goose _ _ _ _ => s

/-- This unit has placed an input (R304). A standalone unit takes it at once. -/
def offer (id : InputId) (d : InputData) (s : State) : State :=
  if s.tdm.standalone then applyData id d s
  else
    let s := learnInput id s
    match findInput s id with
    | none => s
    | some x =>
      if x.settled.isSome then applyData id d s
      else if x.own.isSome then countDup id s
      else
        let s := updInput id (fun y => { y with own := some d, ownAt := s.clk }) s
        if !s.tdm.inStep then settleInput id true none s
        else
          let kind := match id with
            | .sample _ _ _ => 0
            | .goose _ _ _ _ => 2
          let s := linkSend (.notice [{ input := id, kind := kind, crc := Config.contentCrc d }]) s
          if isChair s then chairJudge id s else s

/-- This unit has declared a sample missing (R177, R304). Alone, the deadline settles it. -/
def offerMissing (id : InputId) (s : State) : State :=
  if s.tdm.standalone then applyMissing id s
  else
    let s := learnInput id s
    match findInput s id with
    | some x =>
      if x.own.isSome || x.settled.isSome || x.ownMissing then s
      else
        let s := updInput id (fun y => { y with ownMissing := true }) s
        if s.tdm.inStep then linkSend (.notice [{ input := id, kind := 1, crc := 0 }]) s else s
    | none => s

/-! ## Closing a ballot (R308) -/

/-- Settle what is left of the ballots up to one. -/
def settleRest (b : Nat) (s : State) : State :=
  (s.tdm.inputs.filter fun x => decide (x.period ≤ b) && x.settled.isNone).foldl (fun s x =>
    match x.own with
    | some d => settleInput x.id true (some d) s
    | none => settleInput x.id false none s) s

/-- X3 inputs agreed in a ballot, and how many differ. -/
def agreeX3 (b : Nat) (s : State) : Nat × Nat :=
  let own := tfind s.tdm.ownX3 b
  let peer := if s.tdm.inStep then tfind s.tdm.peerX3 b else none
  let act := if s.tdm.role = .active then own else if s.tdm.peerRole == some .active then peer else none
  let chair := if isChair s || !s.tdm.inStep then own else peer
  let v := match act, chair with
    | some x, _ => x
    | none, some x => x
    | none, none => s.tdm.agreedX3
  let n := match own, peer with
    | some x, some y => popCount (x ^^^ y) 20
    | _, _ => 0
  (v, n)

/-- The subscription bits of an instance, from bit 0. -/
def subsBits (i : Inst) : Nat := i.subs.foldl (fun m (e : Nat × Sub) => m + subSignal e.2 * 2 ^ (8 * e.1)) 0

/-- VALID of every subscription at the close of a ballot (R291, R306). -/
def expireTals (s : State) : State :=
  s.insts.foldl (fun s (e : Nat × Inst) =>
    e.2.subs.foldl (fun s u => talOut e.1 u.1 s) s) s

/-- A planned switch-over ends without a handover. -/
def abortSwitch (reason : Nat) (s : State) : State :=
  finishWaits .switchover (aborted 2)
    (refSend 0x000E reason 0 (updTdm (fun t => { t with switchH := none, confirmed := false, pubsStopped := false }) s))

/-- What the close of ballot `b` does to the roles (R314, R320). -/
def closeRoles (b : Nat) (s : State) : State :=
  let s := match s.tdm.granted with
    | some h =>
      if h = 0 then setRole .active 2 (updTdm (fun t => { t with granted := none, promoted := true }) s)
      else if h ≤ b then setRole .active 3 (updTdm (fun t => { t with granted := none }) s)
      else s
    | none => s
  match s.tdm.switchH with
  | some h =>
    if !s.tdm.confirmed && decide (h ≤ b + 4) then abortSwitch 2 s
    else if b = h then updTdm (fun t => { t with pubsStopped := true }) s
    else if h < b then
      finishWaits .switchover ok
        (setRole .standby 3 (updTdm (fun t => { t with switchH := none, confirmed := false, pubsStopped := false }) s))
    else s
  | none => s

/-- A ballot closes: its values are latched, its changes act, and its sweep is due. -/
def closeBallot (b : Nat) (steps : Tab Nat) (s : State) : State :=
  let x := agreeX3 b s
  let s := updTdm (fun t => { t with
    closed := b, agreedX3 := x.1, closedSteps := steps, counts := tmod 0 t.counts 9 (· + BitVec.ofNat 32 x.2),
    inputs := t.inputs.filter fun y => y.settled.isNone || decide (b < y.period),
    ownX3 := tfilter (fun k _ => decide (b < k)) t.ownX3, peerX3 := tfilter (fun k _ => decide (b < k)) t.peerX3,
    verified := if t.phase = 6 then t.verified + 1 else t.verified }) s
  let s := closeRoles b (expireTals (runBallotDue b s))
  let sw : SweepIn := { ballot := b, x3 := s.tdm.agreedX3, steps := steps, subs := s.insts.map fun e => (e.1, subsBits e.2) }
  updTdm (fun t => { t with sweepTodo := t.sweepTodo ++ [sw] }) s

/-- The settler closes the next ballot whose deadline has come. -/
def closeNext (s : State) : State :=
  let b := s.tdm.closed + 1
  let s := settleRest b s
  let n := s.tdm.inputs.countP fun x => decide (x.period ≤ b)
  let steps := s.tdm.matched
  let s := closeBallot b steps s
  if s.tdm.inStep then linkSend (.close b n steps (tget 0 s.tdm.sweepOwn (b - 1))) s else s

/-- Close every ballot whose deadline has passed, in order (R309). -/
def catchUp : Nat → State → State
  | 0, s => s
  | n + 1, s => if deadlineT (s.tdm.closed + 1) ≤ s.time.n then catchUp n (closeNext s) else s

/-! ## Link failure (R302, R309, R321) -/

/-- The link is dead: the session ends, the unit ballots alone, and a STANDBY unit is DETACHED. -/
def linkDie (cause : Nat) (s : State) : State :=
  if s.tdm.session.isNone then s
  else
    let joining := s.tdm.phase != 0 && s.tdm.role != .active
    let standby := s.tdm.role == .standby
    let lead := s.tdm.role == .active
    let s := tdmCount 7 (updTdm (fun t => { t with
      session := none, proposal := Config.free 10 s.fresh % 2 ^ 32, unacked := [], rxAhead := [], inStep := false, tcl := 0,
      peerRole := none, stepPeer := [], sweepPeer := [], peerX3 := [], phase := 0,
      carried := if lead then t.carried.filter fun k => k.status.isNone else [] }) { s with fresh := s.fresh + 1 })
    let s := if standby then toDetached cause s else if joining then resyncFail s else s
    catchUp 64 (refSend 0x0008 0 0 s)

end Sys2Proof.Machine
end

