-- ==== Sys2Proof/Machine/Sweep.lean ====
section
/-! DEFINITION. A sweep of the scheme logic: the latch (R242, R244, R247 to R249, R267), the execution (R242, R245), the
hand-off to the trip path (R250, R273, R282, R319) and the launch and repetition of publications (R282 to R284). -/

namespace Sys2Proof.Machine

/-- The pipeline is powered (R45, R55). -/
def pipeUp (s : State) : Bool := s.pwr.phase == 9 && (s.pwr.pfw == .idle || s.pwr.pfw == .warned)

/-! ## Publications (R282 to R284, R319) -/

/-- The delay from a hand-off to the launch of a state, where MODE gives one. -/
def pubDelay (s : State) (n : Nat) (u : Pub) : Option Launch :=
  match pdMode u with
  | 1 => if pdVal u 420 4 = 0 then none
         else some { due := s.time.n + pdVal u 420 4 * us * 65536, notLocked := false, angle := 0, frozen := true }
  | 2 => some (launchAngle (dom s (instDom (inst s n))) (pdVal u 424 4) s.time.n)
  | _ => none

/-- A launch that is not locked is made at once, and counted (R282). -/
def pubUnlocked (n p : Nat) (s : State) : State :=
  updInst n (fun i => { i with pubs := tupd i.pubs p fun u => { u with powUnlocked := u.powUnlocked + 1 } }) s

/-- A new state of a publication is launched according to MODE. -/
def pubStart (n p : Nat) (u : Pub) (m : Nat) (s : State) : State :=
  match pubDelay s n u with
  | none => launchPub n p u m false none s
  | some l =>
    if l.frozen && l.notLocked then pubUnlocked n p (launchPub n p u m false none s)
    else putPub n p { u with members := m, pending := some (m, l) } s

/-- One publication at a hand-off (R282). -/
def handPub (n p m : Nat) (u : Pub) (s : State) : State :=
  let fresh := u.sent.isNone && u.pending.isNone
  if m = u.members && !fresh then s
  else match u.pending with
    | some _ =>
      if u.sent = some m then putPub n p { u with members := m, pending := none } s
      else pubStart n p { u with superseded := u.superseded + 1, pending := none } m s
    | none => pubStart n p u m s

/-- Publications follow the service state and the power-fail warning (R26, R45). -/
def pubActs (s : State) (n : Nat) : Bool := (inst s n).st == .running && pubState26 (inst s n).svc && s.pwr.pfw == .idle

/-- The publications of an instance at a hand-off, in their order. -/
def handPubs (n space : Nat) (s : State) : State :=
  if !pubActs s n then s
  else (inst s n).pubs.foldl (fun s e =>
    if e.2.live then handPub n e.1 (bitsOf space (1856 + 8 * e.1) (min 8 (pdNmemb e.2))) e.2 s else s) s

/-- Message `u.n` of the present state is sent (R283, R284). -/
def repeatPub (n p : Nat) (u : Pub) (launchAt : Nat) (s : State) : State :=
  let u' := { u with sqNum := nextCount u.sqNum, n := u.n + 1, launchAt := launchAt, sentCount := u.sentCount + 1 }
  sendPub (pubsLive s) ((inst s n).svc == 3) { u with sqNum := nextCount u.sqNum } u.n none (putPub n p u' s)

/-- The present state sent once more out of its schedule (R319). -/
def resendPub (n p : Nat) (u : Pub) (s : State) : State :=
  let u' := { u with sqNum := nextCount u.sqNum, sentCount := u.sentCount + 1 }
  sendPub (pubsLive s) ((inst s n).svc == 3) u' u.n none (putPub n p u' s)

/-- A launch whose time is at most 5 µs away: its frame is handed in and leaves at the launch time. -/
def pubLaunch (n p : Nat) (s : State) : State :=
  match tfind (inst s n).pubs p with
  | none => s
  | some u =>
    match u.pending with
    | none => s
    | some (m, l) =>
      let l := freezeLaunch (dom s (instDom (inst s n))) s.time.n l
      if !pubActs s n then s
      else if l.frozen && l.notLocked then pubUnlocked n p (launchPub n p u m false none s)
      else if l.frozen && decide (l.due ≤ s.time.n + 5 * us * 65536) then
        let s' := launchPub n p u m false (if s.time.n < l.due then some l.due else none) s
        updInst n (fun i => { i with pubs := tupd i.pubs p fun u => { u with launchAt := s.clk + (l.due - s.time.n) / 65536 } }) s'
      else putPub n p { u with pending := some (m, l) } s

def execGooseLaunch (n p : Nat) (s : State) : Res := .next (pubLaunch n p s)

/-- The next message of a state is due. -/
def pubDue (s : State) (u : Pub) : Bool := u.running && decide (u.launchAt + pubOffset u u.n * ms ≤ s.clk)

/-- Instance number 0 names the alarm publication (R429). -/
def execGooseRetransmit (n p : Nat) (s : State) : Res :=
  if n = 0 then
    match s.trip.alarmPub with
    | some u =>
      .next (if pubDue s u && s.svc.state != .boot && s.pwr.pfw == .idle then
        let u' := { u with sqNum := nextCount u.sqNum, n := u.n + 1, sentCount := u.sentCount + 1 }
        sendPub true (s.svc.state == .test) { u with sqNum := nextCount u.sqNum } u.n none { s with trip := { s.trip with alarmPub := some u' } }
        else s)
    | none => .next s
  else match tfind (inst s n).pubs p with
    | some u => .next (if pubDue s u && s.pwr.pfw == .idle then repeatPub n p u u.launchAt s else s)
    | none => .next s

/-! ## The latch (R247 to R249) -/

/-- The element region as committed. -/
def elemBits (i : Inst) : Nat := i.el.slots.foldl (fun m e => m + e.2.word % 65536 * 2 ^ (16 * e.1)) 0

/-- Bit `b` of a list of Booleans, the first at bit 0. -/
def packBits (l : List Bool) : Nat := l.foldr (fun b m => b2n b + 2 * m) 0

/-- The local inputs and status region (R248), from bit 1,536. -/
def statusBits (s : State) (i : Inst) (x3 : Nat) : Nat :=
  let own (k : Nat) : Bool := bitOf (fval i.cfg iOutputs) k
  let d := dom s (instDom i)
  let out (f : Nat → Bool) : List Bool := (List.range 8).map fun k => own k && f k
  let streams := i.streams.all fun x => match tfind s.sv.streams x with
    | some t => t.state == .running
    | none => false
  packBits (out (fun k => bitOf x3 (4 + k)) ++ out (fun k => bitOf x3 (12 + k)) ++ (List.range 4).map (bitOf x3) ++
    out (fun k => outSupOf (outp s k)) ++ out (fun k => (outp s k).outDisc) ++
    [d.lock, d.mode == .coast, d.mode == .glide, d.fd, i.svc == 2, i.svc == 3, i.svc == 1,
     s.tdm.standalone || s.tdm.role == .active, i.lg.first, i.warm, !i.lg.forces.isEmpty, streams])

/-- The spare loops and detectors (R249), from bit 1,600. HOLD bits are the program's. -/
def loopBits (s : State) (i : Inst) : Nat :=
  let loop (j : Nat) : List Bool :=
    let l := tget {} (dom s (instDom i)).spares j
    if bitOf (fval i.cfg iSpare) j then [l.raise, l.lower, l.limit, bitOf i.lg.space (1603 + 4 * j)] else [false, false, false, false]
  packBits ((List.range 4).flatMap loop) + i.lg.dets % 2 ^ 32 * 65536

/-- The signal space of an instance as the latch leaves it: read-only regions refreshed, forces over them. -/
def latch (s : State) (i : Inst) (elem subs x3 : Nat) : Nat :=
  let l := i.lg
  let sp := putField l.space 0 1024 elem
  let sp := putField sp 1024 512 subs
  let sp := putField sp 1536 64 (statusBits s i x3)
  let sp := putField sp 1600 64 (loopBits s i)
  let sp := putField sp 1664 128 l.controls
  applyForces (forceAddrs l.prog l.forces) sp

/-! ## Execution (R242, R245, R249) -/

/-- Clear the HOLD bits of loops the instance does not own: writes to them have no effect. -/
def ownHolds (i : Inst) (space : Nat) : Nat :=
  (List.range 4).foldl (fun sp j => if bitOf (fval i.cfg iSpare) j then sp else clrBit sp (1603 + 4 * j)) space

/-- Run the program of an instance that is RUNNING over its latched space. -/
def runLogic (dt : Nat) (i : Inst) : Inst :=
  match i.lg.prog with
  | some p =>
    if i.st = .running then
      let e := runProg (forceAddrs i.lg.prog i.lg.forces) (if i.lg.dtZero then 0 else dt) p.code i.lg.space i.lg.recs
      { i with lg := { i.lg with space := ownHolds i e.space, recs := e.recs, first := false, dtZero := false } }
    else i
  | none => if i.st = .running then { i with lg := { i.lg with first := false, dtZero := false } } else i

/-! ## The switch of an exchange (R262, R265) -/

/-- First 8 bytes of a program's digest. -/
def progTag (p : Option Prog) : List Byte :=
  match p with
  | some p => (sha384 p.img).take 8
  | none => zeros 8

/-- An exchange of an instance switches. -/
def switchExch (n : Nat) (x : Exch) (s : State) : State :=
  let l := (inst s n).lg
  let keep := keptForces x.prog l.forces
  let gone := l.forces.filter fun e => !(thas keep e.1)
  let (l', (carried, lost, new, dropped)) := exchange l x (s.logic.sweep + 1)
  let tags := progTag l.prog ++ progTag (some x.prog)
  let s := noteMod 0x0701 n noObj (wordsOf 4 tags) (updLogic n (fun _ => l') s)
  let s := gone.foldl (fun s e => noteMod 0x0702 n noObj [e.1, e.2] s) s
  replyTo x.cmd { withKey 2 (carried + lost * 65536) ok with res1 := some (new + dropped * 65536) } s

/-- Exchanges that are ready switch before the latch; in a pair at the sweep of the ballot named. -/
def switchAll (ballot : Option Nat) (s : State) : State :=
  (instNums s).foldl (fun s n =>
    match (inst s n).lg.exch with
    | some x =>
      let now := match x.ballot, ballot with
        | some b, some c => decide (b ≤ c)
        | _, _ => true
      if x.ready && now then switchExch n x s else s
    | none => s) s

/-! ## The hand-off (R250, R273) -/

/-- The bits of an instance's space that recorders watch (R399). -/
def watched (s : State) (n : Nat) : List Nat :=
  ((s.arc.recs.flatMap fun (e : Nat × Recorder) =>
    ((List.range (rdNtrig e.2.desc)).map (rdTrig e.2.desc)).filterMap fun t =>
      if t.1 = 2 ∧ t.2.2 % 1024 = n then some (t.2.2 / 1024) else none)).eraseDups

/-- Edges of logic bits reach the recorders. -/
def logicEvents (n old new : Nat) (s : State) : State :=
  (watched s n).foldl (fun s a =>
    if bitOf old a = bitOf new a then s else offerEvent 2 (n + a * 1024) (bitOf new a) s.time.n (!s.time.traceable) s) s

/-- The hand-off of one RUNNING instance: outputs, archive bits, ALARM, publications. -/
def handInst (n old : Nat) (s : State) : State :=
  let i := inst s n
  let sp := i.lg.space
  let reg := bitsOf sp 1792 320
  let rises := bitOf reg 28 && !bitOf i.lg.handed 28
  let s := updLogic n (fun l => { l with handed := reg }) s
  let s := (List.range 8).foldl (fun s k =>
    if ownerOf s k == some n then handOut n k (bitOf reg k) (bitOf reg (8 + k)) s else s) s
  let s := logicEvents n old sp s
  let s := if rises then edge n 9 s else s
  handPubs n sp s

/-- TRIG_OUT follows the OR over the RUNNING instances; a unit that is muted drives none (R313). -/
def driveTrigOut (s : State) : State :=
  let v := (s.insts.filter fun (e : Nat × Inst) => e.2.st == .running).foldl (fun m e => m ||| bitsOf e.2.lg.space 1808 4) 0
  { s with trip := { s.trip with trigOut := if muted s then 0 else v } }

/-- After a promotion the first hand-off brings the unit to life (R319): outputs energise anew, states are resent. -/
def promote (s : State) : State :=
  if !s.tdm.promoted then s
  else
    let s := updTdm (fun t => { t with promoted := false }) s
    let s := (List.range 8).foldl (fun s k =>
      if (outp s k).energised then refreshOut k (updOut k (fun o => { o with energAt := s.clk, minDone := fval o.cfg oMinPulse == 0, energSeen := false }) s)
      else s) s
    (instNums s).foldl (fun s n =>
      if pubActs s n then
        (inst s n).pubs.foldl (fun s e => if e.2.live && e.2.running then resendPub n e.1 e.2 s else s) s
      else s) s

/-- The sweep digest (R310): bits 1,792 to 2,111 of every RUNNING instance, its number first. -/
def sweepDigest (s : State) : Nat :=
  crc64 ((s.insts.filter fun (e : Nat × Inst) => e.2.st == .running).flatMap fun e => le 2 e.1 ++ le 40 (bitsOf e.2.lg.space 1792 320))

/-! ## The sweep (R242 to R245) -/

/-- What a sweep latches for an instance, standalone: what stands now. -/
def latchStandalone (s : State) (_ : Nat) (i : Inst) : Nat := latch s i (elemBits i) (subsBits i) s.sig.x3.state

/-- In a pair: the step records, subscriptions and X3 inputs of the closed ballot (R244). -/
def latchBallot (w : SweepIn) (s : State) (n : Nat) (i : Inst) : Nat :=
  let elem := match tfind w.steps (instDom i) with
    | some j => match i.el.hist.find? fun h => h.1 == j with
      | some h => h.2
      | none => i.lg.space % 2 ^ 1024
    | none => i.lg.space % 2 ^ 1024
  latch s i elem (tget 0 w.subs n) w.x3

/-- The latch of one instance. -/
def latchInst (space : Nat) (i : Inst) : Inst := if i.st = .empty then i else { i with lg := { i.lg with space := space } }

/-- One sweep: latch, execute and hand off, with each instance's Δt. -/
def sweepWith (ballot : Option Nat) (dt : Nat) (lat : State → Nat → Inst → Nat) (s : State) : State :=
  let s := switchAll ballot s
  let old := s.insts.map fun e => (e.1, e.2.lg.space)
  let s := { s with insts := tmapD {} (fun n i => latchInst (lat s n i) i) s.insts }
  let s := { s with
    insts := tmapD {} (fun _ i => runLogic dt i) s.insts
    logic := { s.logic with sweep := s.logic.sweep + 1, lastStart := some s.clk, busyUntil := s.clk + sweepNs s.insts } }
  let s := (instNums s).foldl (fun s n => if (inst s n).st = .running then handInst n (tget 0 old n) s else s) s
  promote (driveTrigOut s)

/-- May a standalone unit start its next sweep (R243)? -/
def sweepFree (s : State) : Bool :=
  decide (s.logic.busyUntil ≤ s.clk) &&
    match s.logic.lastStart with
    | some t => decide (t + s.logic.sweepMin * us ≤ s.clk)
    | none => true

/-- A pair's sweep of the oldest closed ballot, and its digest. -/
def sweepBallot (w : SweepIn) (s : State) : State :=
  let s := updTdm (fun t => { t with sweepTodo := t.sweepTodo.drop 1 }) s
  let s := sweepWith (some w.ballot) 250 (latchBallot w) s
  compareSweeps (updTdm (fun t => { t with sweepOwn := tput t.sweepOwn w.ballot (sweepDigest s) }) s)

def execLogicSweep (s : State) : Res :=
  if !pipeUp s then .next s
  else if s.tdm.standalone then
    .next (if sweepFree s then
      let dt := match s.logic.lastStart with
        | some t => s.clk / 1000 - t / 1000
        | none => 0
      sweepWith none dt latchStandalone s
    else s)
  else if joining s 5 then .next s
  else match s.tdm.sweepTodo with
    | w :: _ => .next (sweepBallot w s)
    | [] => .next s

end Sys2Proof.Machine
end

