-- ==== Sys2Proof/Machine/Steps.lean ====
section
/-! DEFINITION. Grid samples (R198) and the evaluation step: dispatch (R148, R214), close and commit (R216, R217), the
deadline (R218), and the step digest of a pair (R310). -/

namespace Sys2Proof.Machine

/-! ## Grid samples (R198) -/

/-- Put a pair's new state in its place. -/
def putPair (q : Pair) (s : State) : State := mapPairs (fun p => p.chan == q.chan && p.dom == q.dom) (fun _ => q) s

/-- T of the last grid sample of a domain. -/
def lastTickT (s : State) (d : Nat) : Nat := ((dom s d).kept.head?.map (·.t)).getD 0

/-- The tracker follows a grid sample, and then the changes that act at one (R325). -/
def trackAll (d : Nat) (s : State) : State :=
  let s := trackRun d 64 s
  runGridDue d (lastTickT s d) s

/-- Where no such pair exists only the tracker goes on. -/
def execGridSampleProduce (ch d : Nat) (s : State) : Res :=
  if !pipeUp s then .next s
  else match pairAt s ch d with
    | some p =>
      match producePair s p with
      | some q => .next (trackAll d (runDets q (putPair q s)))
      | none => .next (trackAll d s)
    | none => .next (trackAll d s)

/-! ## Dispatch (R148, R214) -/

/-- Something is to happen before this boundary's step is dispatched: a restart, a freeze at the close before, or the state of
the ACTIVE unit is to be applied (R323). -/
def boundaryBusy (s : State) (d : Nat) : Bool :=
  joining s 5 || s.insts.any fun (e : Nat × Inst) =>
    (fread e.2.cfg iDomain == d && (restartDue s e.1).isSome) ||
      (instDom e.2 == d && e.2.st == .running && e.2.freezeReq.isSome && e.2.freezeAt.isSome)

/-- The detectors an instance owns, in ascending index. -/
def ownDets (s : State) (n : Nat) : List Det := (s.filt.dets.filter fun (e : Nat × Det) => fval e.2.cfg tdOwner == n).map Prod.snd

/-- The states of the owned detectors are written at the owner's step boundary (R207, R249). -/
def writeDets (n : Nat) (s : State) : State :=
  updLogic n (fun l => { l with dets := packBits (((ownDets s n).take 32).map (·.state)) }) s

/-- The running instances of a domain. -/
def runningIn (s : State) (d : Nat) : List Nat :=
  (s.insts.filter fun (e : Nat × Inst) => e.2.st == .running && instDom e.2 == d).map Prod.fst

/-- The boundary's own effects: service transitions (R31), detectors, carried changes (R325). -/
def atBoundary (d : Nat) (tk : Tick) (s : State) : State :=
  let s := (runningIn s d).foldl (fun s n => svcBoundary n s) s
  let s := (runningIn s d).foldl (fun s n => writeDets n s) s
  runStepDue d tk.t s

def execStepDispatch (d : Nat) (s : State) : Res :=
  let x := dom s d
  match x.boundary with
  | [] => .next s
  | tk :: _ =>
    if !pipeUp s || !x.running || x.stepOpen || boundaryBusy s d || !inputsReady s d tk.k (stepIndex x tk.angle) then .next s
    else
      let s := atBoundary d tk s
      .next (if boundaryBusy s d then s else dispatchStep d tk s)

/-! ## Close and commit (R216 to R218, R310) -/

/-- The digest of a step that this unit has committed is compared, and reported to the partner. -/
def digestStep (d : Nat) (r : StepRun) (ns : List Nat) (s : State) : State :=
  if s.tdm.standalone then s
  else
    let s := { s with insts := tmapD {} (fun _ i =>
      if instDom i = d then { i with el := { i.el with hist := ((r.index, elemBits i) :: i.el.hist).take 8 } } else i) s.insts }
    let g : StepDigest := { domain := d, step := r.index, crc := crc64 (stepRecord s ns) }
    if s.tdm.inStep then
      compareSteps (linkSend (.report [g] none) (updTdm (fun t => { t with stepOwn := g :: t.stepOwn }) s))
    else updTdm (fun t => { t with matched := tput t.matched d r.index }) s

/-- A freeze of a running instance takes effect at this close (R118). -/
def markFreezes (d : Nat) (angle : Word) (s : State) : State :=
  { s with insts := tmapD {} (fun _ i =>
      if instDom i = d ∧ i.st = .running ∧ i.freezeReq.isSome then { i with freezeAt := some angle } else i) s.insts }

/-- A step closes (R217): commit, lanes that are due, holds and freezes. -/
def closeStep (d : Nat) (r : StepRun) (s : State) : State :=
  let ns := ((liveJobs s r).map (·.inst)).foldl insNat []
  let s := digestStep d r ns (retireLanes (commitStep r s))
  let s := updDom d (fun x => { x with stepOpen := false, lastStep := some r.index }) (updLanes (fun p => { p with steps := tdel p.steps d }) s)
  let held := runningIn s d
  let s := closeHolds d (markFreezes d r.angle s)
  held.foldl (fun s n => svcDrop n s) s

/-- Has every evaluation of a step completed? -/
def allComplete (r : StepRun) : Bool := r.jobs.all (·.complete)

/-- A step whose evaluations went with an entry to HALTED closes empty. -/
def execStepClose (d : Nat) (s : State) : Res :=
  if !(dom s d).stepOpen then .next s
  else match tfind s.lanes.steps d with
    | some r => .next (if allComplete r then closeStep d r s else s)
    | none => .next (updDom d (fun x => { x with stepOpen := false }) s)

/-- The deadline: one step at FMAX after the dispatch (R216). -/
def execStepDeadline (d : Nat) (s : State) : Res :=
  match tfind s.lanes.steps d with
  | some r => .next (if (dom s d).stepOpen && decide (r.at_ + stepNs (dom s d) (fmaxRaw (dom s d).cfg) ≤ s.clk) then closeStep d r s else s)
  | none => .next s

end Sys2Proof.Machine
end

