-- ==== Sys2Proof/Machine/Boot.lean ====
section
/-! DEFINITION. The end of start-up: the load of the setting store (R55, R98) and the pipeline's start (R27, R55, R105,
R130, R300, R314, R431, R473). -/

namespace Sys2Proof.Machine

/-! ## The setting store (R55, R98) -/

/-- The stored configuration of a physical port. -/
def loadPort (g : Stored) (p : Nat) (s : State) : State :=
  let x := tget {} g.ports p
  updPort p (fun q => { q with cfg := x.cfg, ptp := x.ptp, gcl := x.gcl }) s

/-- The configuration of a notification unit. -/
def loadNtf (g u : Ntf) : Ntf := { u with enable := g.enable, route := g.route, prio := g.prio, modInt := g.modInt, bypass := g.bypass }

/-- Place the program of a loaded instance in a bank (R241); without room it waits as a staged one. -/
def loadProg (n : Nat) (s : State) : State :=
  match (inst s n).lg.prog with
  | none => s
  | some p =>
    let bare := tmod {} s.insts n fun i => { i with lg := { i.lg with prog := none } }
    match placeProg bare p with
    | some b => updLogic n (fun l => { initLogic l with bank := b }) s
    | none => updLogic n (fun l => { l with prog := none, staged := some p }) s

/-- Every field of a generation is loaded. -/
def loadAll (g : Stored) (s : State) : State :=
  let s := { s with
    svc := { s.svc with auto := g.auto }
    pwr := { s.pwr with cfg := g.pwr }
    time := { s.time with cfg := g.time }
    tdm := { s.tdm with cfg := g.tdm }
    sw := { s.sw with cfg := g.sw, fdb := g.fdb, groups := g.groups, vlans := g.vlans, vports := g.vports, mirrors := g.mirrors,
                      pairs := g.pairs }
    sv := { s.sv with streams := g.streams }
    filt := { s.filt with chans := g.chans, dets := g.dets }
    doms := g.doms
    insts := g.insts
    trip := { s.trip with outs := g.outs, testPeriod := g.testPeriod, alarmPub := g.alarmPub }
    arc := { s.arc with recs := g.recs, recycle := g.recycle }
    adm := loadNtf g.adm s.adm
    sig := { s.sig with x3 := { s.sig.x3 with trigFilt := g.trigFilt, bkFilt := g.bkFilt } }
    chr := { s.chr with notifySev := g.notifySev }
    logic := { s.logic with sweepMin := g.sweepMin }
    keys := { s.keys with mode := g.keyMode } }
  let s := (List.range 48).foldl (fun s p => loadPort g p s) s
  (instNums s).foldl (fun s n => loadProg n s) s

/-- The own shelves of every port and of the core return to their reset values (R98, R354). -/
def resetShelves (s : State) : State :=
  let s := (List.range 48).foldl (fun s p =>
    updPort p (fun q => { q with cfg := (List.range 8).foldl (fun c k => fset c (prOwn k) (prOwn k).rst) q.cfg }) s) s
  updSw (fun w => { w with cfg := [swSviOwn, swGseOwn, swMgtOwn, swVpOwn].foldl (fun c d => fset c d d.rst) w.cfg }) s

/-- A malformed reference set is loaded as empty. -/
def emptySet (d x : Nat) (s : State) : State :=
  if (setMalformed (dom s d).cfg x).isSome then
    noteMod 0x0106 0 d [] (updDom d (fun q => { q with cfg := [0, 1, 2].foldl (fun c i => fset c (aRef x i) 0x3FFF) q.cfg }) s)
  else s

/-- Stored values that break a rule of their block take their reset values (R98). -/
def judgeLoaded (s : State) : State :=
  let s := if floorOk s then s else noteMod 0x0106 0 noObj [] (resetShelves s)
  (List.range 16).foldl (fun s d => emptySet d 1 (emptySet d 0 s)) s

/-- Does the store area that the firmware reads fail its integrity check? -/
def storeDamaged (s : State) : Bool := if s.store.active = 0 then s.store.damaged0 else s.store.damaged1

/-- In a damaged store the setting sets that do not verify are not taken (R27). -/
def dropUnsealed (s : State) : State :=
  if storeDamaged s then
    { s with insts := tmapD {} (fun _ i => match i.el.img with
        | some g => if sealed g then i else { i with el := { i.el with img := none } }
        | none => i) s.insts }
  else s

/-- An instance that the stored configuration brings goes from EMPTY to HELD, and the change is entered (R104). -/
def enterHeld (n : Nat) (s : State) : State :=
  if (inst s n).st = .held then
    edge 0 6 (edge n 6 (noteAs 1 0x0201 n noObj noObj [IState.empty.code, IState.held.code, (inst s n).cause] s))
  else s

/-- t0 + 3.0 s: the stored configuration is in effect, the ports are configured, and the switch core forwards (R26). -/
def loadSettings (s : State) : State :=
  let s := match storedNow s with
    | some g => judgeLoaded (dropUnsealed (loadAll g s))
    | none => s
  let s := (instNums s).foldl (fun s n => enterHeld n s) s
  setPhaseTo 7 { syncPairs s with sw := { s.sw with forwarding := true }, pins := { s.pins with phyRst := false } }

def execSettingsLoaded (s : State) : Res := .next (if phaseIs 6 s then loadSettings s else s)

/-! ## Pipeline start (R55) -/

/-- The X3 latches are copied, entered where any is set, and cleared; the filters run from the pins' levels (R430, R431),
and each output's contacts are judged from there (R280). -/
def startX3 (s : State) : State :=
  let x := s.sig.x3
  let s := if x.rise = 0 ∧ x.fall = 0 then s else noteMod 0x0D07 0 noObj [x.rise, x.fall] s
  let s := updX3 (fun y => { y with regR := x.rise, regF := x.fall, rise := 0, fall := 0, state := y.pins, running := true }) s
  (List.range 8).foldl (fun s k => discJudge k s) s

/-- The grids of every domain start at this instant (R130). -/
def startGrids (s : State) : State := (List.range 16).foldl (fun s d => updDom d (fun x => startGrid x s.time.n) s) s

/-- A protected instance restarts, or is not admitted: it stays HELD, its set and its program wait as accepted writes
(R105, R112). `trial` holds the reservations of those before it. -/
def startOne (n : Nat) (st : State × State) : State × State :=
  let (s, trial) := st
  match startInst n .boot [] noObj trial with
  | .ok t => (updInst n (fun i => { i with restart := some { kind := .boot, cmd := none, target := none, start := s.clk } }) s, t)
  | .error e =>
    let s := updInst n (fun i =>
      { i with cause := 8, el := { i.el with staged := i.el.img, img := none },
               lg := { i.lg with staged := i.lg.prog, prog := none, recs := [] } }) s
    (noteMod 0x0202 n noObj [e] s, trial)

/-- Every instance enabled for protection restarts as if by `instance.restart` (R105). -/
def startInsts (s : State) : State :=
  (((protectedInsts s).map Prod.fst).foldl (fun st n => startOne n st) (s, s)).1

/-- Recorders whose ARM flag is set are armed (R397). -/
def startRecs (s : State) : State :=
  (tkeys s.arc.recs).foldl (fun s r => match tfind s.arc.recs r with
    | some c => if rdFlag c.desc 4 then (match armRec r s with
        | .ok t => t
        | .error _ => s) else s
    | none => s) s

/-- A tandem unit starts DETACHED, and alone until a session begins (R300, R314). -/
def startTandem (s : State) : State :=
  if fon s.tdm.cfg dEnable then
    let b := s.time.n / periodT
    let s := { s with fresh := s.fresh + 1 }
    toDetached 1 (updTdm (fun t =>
      { t with standalone := false, ballot := b, closed := b - 2, proposal := Config.free 10 s.fresh % 2 ^ 32,
               lastA := s.clk, lastB := s.clk, refLast0 := s.clk, refLast1 := s.clk }) s)
  else s

/-- The module leaves BOOT (R27, R31): at once for the whole module. -/
def leaveBoot (s : State) : State :=
  let bad := unmet s
  let s := bad.foldl (fun s i => noteMod 0x0102 0 noObj [i] s) s
  let go (target : Svc) (cause : Nat) : State := svcOthers target (svcCommit target cause s)
  if storeDamaged s then go .recovery 3
  else if s.svc.auto && bad.isEmpty then go .inService 2
  else go .commissioning 2

/-- The confirmation window of a trial counts from here (R473). -/
def startTrial (s : State) : State := if trialRuns s then updUpd (fun u => { u with trialFrom := some s.met.opsec }) s else s

def startPipeline (s : State) : State :=
  let s := startX3 (startGrids (setPhaseTo 9 s))
  let s := startTrial (startTandem (startRecs (startInsts s)))
  autoRecovery (alarmPubJudge (leaveBoot (syncPairs s)))

/-- t0 + 6.0 s; not after a module fault in BOOT (R30). -/
def execPipelineStart (s : State) : Res :=
  .next (if phaseIs 8 s && s.svc.state == .boot && !s.pwr.bootFault then startPipeline s else s)

end Sys2Proof.Machine
end

