-- ==== Sys2Proof/Machine/Egress.lean ====
section
/-! DEFINITION. Egress: which frame a port starts next (R355, R356, R361 to R364, R389), the stamps it takes (R376, R387,
R388), and the events of a port's transmitter. -/

namespace Sys2Proof.Machine

/-! ## Which class may send -/

/-- For how long, in 2^-16 ns from now, a class stays open under a running list: the rest of the present entry and the
entries after it in which it is open; none where it never closes. -/
def openRest (c : Nat) : List (Nat × Nat) → Option Nat
  | [] => none
  | (g, t) :: r => if bitOf g c then (openRest c r).map (· + t * nsU) else some 0

/-- A frame of `n` bytes with its preamble leaves before the gate of its class closes (R363). -/
def gateFits (s : State) (p c n : Nat) : Bool :=
  let q := port s p
  if !q.gatesRun then true
  else if !bitOf q.gates c then false
  else match q.gcl with
    | some g =>
      match openRest c (g.entries.drop (q.entry + 1) ++ g.entries.take q.entry) with
      | some r => decide (s.time.n + wireTime s p (n + 8) * nsU ≤ q.gateEnd + r)
      | none => true
    | none => true

/-- The port may start frames: its transmitter is on, the link is up, and it is not paused (R336 to R339, R357). -/
def portOpen (s : State) (p : Nat) : Bool :=
  let q := port s p
  q.link && !q.held && !q.frozen && !q.paused && !q.txOff && portf s p prRole != 0

/-- A preemptable frame being sent may give way to an express one (R364): at least 64 bytes of it have left and at least 64
remain. -/
def preemptNow (s : State) (p : Nat) : Bool :=
  let q := port s p
  let b := wireTime s p 64
  q.preemptAct && s.svc.state != .inService && decide (q.busyCls < 6) && bitOf (fval q.cfg prPreempt) q.busyCls &&
    decide (q.exprUntil ≤ s.clk) && decide (q.busyStart + b ≤ s.clk) && decide (s.clk + b ≤ q.busyUntil)

/-- The transmitter is free for a class. -/
def txFree (s : State) (p c : Nat) : Bool :=
  !busyTx s p || (decide (6 ≤ c) && decide (s.clk < (port s p).busyUntil) && preemptNow s p)

/-- The head of a class, where it may start now. -/
def classReady (s : State) (p c : Nat) : Option Copy :=
  match queueOf s p c with
  | q :: _ =>
    let due := match q.launch with
      | some l => decide (l ≤ s.time.n)
      | none => true
    if due && txFree s p c && gateFits s p c q.frame.len then some q else none
  | [] => none

/-- The highest class ready, class 7 first. -/
def readyClass (s : State) (p : Nat) : Nat → Option Nat
  | 0 => none
  | c + 1 => if (classReady s p c).isSome then some c else readyClass s p c

/-! ## Stamps (R376, R387, R388) -/

/-- The transmit stamp of a frame whose first bit leaves now. -/
def txStamp (s : State) (p : Nat) : Nat := s.time.n + fval (port s p).ptp tpEgress * nsU

/-- Take an entry of the port's timestamp queue, freed `hold` ns from now; none where the queue is full. -/
def takeTsq (p hold : Nat) (s : State) : Bool × State :=
  let live := (port s p).tsq.filter fun t => decide (s.clk < t)
  if live.length < 32 then (true, updPort p (fun q => { q with tsq := live ++ [s.clk + hold] }) s)
  else (false, updTime (fun t => { t with tsqOvf := true }) (updPort p (fun q => { q with tsq := live, tsqOvf := q.tsqOvf + 1 }) s))

/-- The largest correctionField: an overflow is sent as this (R387). -/
def corrMax : Int := 0x7FFFFFFFFFFFFFFF

def addCorr (m : PtpMsg) (d : Int) : PtpMsg := { m with correction := min corrMax (m.correction + d) }

/-- The module's own event message leaves (R387): its stamp is inserted, added, or captured for the follow-up. -/
def ownEvent (p : Nat) (m : PtpMsg) (stamp : Nat) (s : State) : PtpMsg × State :=
  let follow (s : State) : State :=
    match m.kind with
    | .sync => ptpSend p { m with kind := .followUp, twoStep := false, origin := stamp } s
    | .pdelayResp => ptpSend p { m with kind := .pdelayRespFollowUp, twoStep := false, origin := stamp } s
    | _ => updPort p (fun q => if q.pdSeq = m.seq then { q with pdT1 := some stamp } else q) s
  match fval (port s p).ptp tpMode with
  | 0 =>
    let (ok, s) := takeTsq p (100 * us) s
    (m, if ok then follow s else s)
  | 1 =>
    if m.kind = .pdelayResp then (addCorr m ((stamp : Int) - m.origin), s)
    else ({ m with origin := stamp }, if m.kind = .pdelayReq then follow s else s)
  | _ => (addCorr m ((stamp : Int) - m.origin), if m.kind = .pdelayReq then follow s else s)

/-- A residence value held for a Follow_Up of the port. -/
def findResidence (q : Port) (m : PtpMsg) : Option Residence :=
  q.residence.find? fun r => r.seq == m.seq && r.srcId == m.srcId && r.srcPort == m.srcPort

/-- A forwarded message leaves a transparent clock (R381): the residence time and the ingress port's link delay are added
to a one-step Sync, or held for its Follow_Up. -/
def forwardedEvent (p : Nat) (q : Copy) (m : PtpMsg) (stamp : Nat) (s : State) : PtpMsg × State :=
  let res : Int := (stamp : Int) - q.stamp + (port s q.ingress).pdelay
  match m.kind with
  | .sync =>
    if m.twoStep then
      let r : Residence := { seq := m.seq, srcId := m.srcId, srcPort := m.srcPort, value := res, at_ := s.clk }
      (m, updPort p (fun o => if o.residence.length < 64 then { o with residence := o.residence ++ [r] } else o) s)
    else (addCorr m res, s)
  | .followUp =>
    match findResidence (port s p) m with
    | some r => (addCorr m r.value, updPort p (fun o => { o with residence := o.residence.filter fun x => x != r }) s)
    | none => (m, s)
  | _ => (m, s)

/-- A PTP frame as it leaves. -/
def ptpLeave (p : Nat) (q : Copy) (stamp : Nat) (s : State) : Frame × State :=
  match q.frame.payload with
  | .ptp m =>
    let (m, s) := if q.ingress < 48 then forwardedEvent p q m stamp s
                  else if q.fwStamp then ownEvent p m stamp s else (m, s)
    ({ q.frame with payload := .ptp m }, s)
  | _ => (q.frame, s)

/-- The stamp of a transmit-ring frame with TSREQ, on the first of its physical copies to start. -/
def ringStamp (p : Nat) (q : Copy) (stamp : Nat) (s : State) : State :=
  match q.tx with
  | some r =>
    if s.sw.txWait.contains r then
      let (ok, s) := takeTsq p (2 * us) s
      txAnswer r (if ok then some (stamp, !s.time.traceable) else none) s
    else s
  | none => s

/-! ## Sending -/

/-- The transmitter takes a frame: an express frame that preempts adds its time to that of the frame it interrupts. -/
def occupy (p len cls : Nat) (s : State) : State :=
  let d := wireTime s p (len + 20)
  if s.clk < (port s p).busyUntil then
    count p 18 (updPort p (fun q => { q with exprUntil := s.clk + d, busyUntil := q.busyUntil + d }) s)
  else updPort p (fun q => { q with busyStart := s.clk, busyUntil := s.clk + d, busyCls := cls }) s

/-- A frame leaves late where its launch time has passed by more than 10 ns (R389). -/
def countLate (p : Nat) (q : Copy) (s : State) : State :=
  match q.launch with
  | some l => if l + 10 * nsU < s.time.n then updPort p (fun o => { o with launchLate := o.launchLate + 1 }) s else s
  | none => s

/-- Start the head of a class. -/
def sendHead (p c : Nat) (s : State) : State :=
  match popHead p c s with
  | some (q, s) =>
    let s := countLate p q s
    let stamp := txStamp s p
    let (f, s) := ptpLeave p q stamp s
    let s := ringStamp p q stamp s
    let s := countOctets p 12 f.len (count p 11 (emit (.frame p f s.time.n) (occupy p f.len c s)))
    mirrorFrame p 1 { q with frame := f } s
  | none => s

/-- Drop what has aged out in every class (R356). -/
def ageAll (p : Nat) (s : State) : State := txSettle ((List.range 8).foldl (fun s c => dropAged p c s) s)

def execFrameTransmit (p : Nat) (s : State) : Res :=
  .next (if isPhys p && portOpen s p then
      let s := ageAll p s
      match readyClass s p 8 with
      | some c => sendHead p c s
      | none => s
    else s)

/-- The class whose head has reached its launch time. -/
def launchClass (s : State) (p : Nat) : Nat → Option Nat
  | 0 => none
  | c + 1 =>
    match queueOf s p c with
    | q :: _ =>
      match q.launch with
      | some l => if l ≤ s.time.n then some c else launchClass s p c
      | none => launchClass s p c
    | [] => launchClass s p c

/-- The launch time of a frame at the head of its class: it leaves now, or is counted late and leaves at the first
opportunity after (R389). -/
def execLaunchTime (p : Nat) (s : State) : Res :=
  .next (if isPhys p then
      match launchClass s p 8 with
      | some c =>
        if portOpen s p && (classReady s p c).isSome then sendHead p c s
        else match queueOf s p c with
          | q :: t => updPort p (fun o => { o with launchLate := o.launchLate + 1 }) (setQueue p c ({ q with launch := none } :: t) s)
          | [] => s
      | none => s
    else s)

/-! ## Link (R338, R357) -/

def execLinkDown (p : Nat) (s : State) : Res := .next (if isPhys p then linkLost p s else s)

/-- The speed that a link may resolve to (R332): with auto-negotiation one that the lane mode permits, no higher than SPEED;
else SPEED. -/
def speedOk (q : Port) (v : Nat) : Bool :=
  let lane := fval q.cfg prLane
  let lanes := match lane with
    | 0 => decide (v ≤ 1)
    | 1 => v == 2
    | 2 => decide (v ≤ 3)
    | _ => v == 3
  lanes && (if fon q.cfg prAn then decide (v ≤ fval q.cfg prSpeed) else v == fval q.cfg prSpeed)

/-- The flush of a port whose link stays down (R357). -/
def downFlush (p : Nat) (s : State) : State :=
  if (port s p).frozen && !(port s p).link && decide ((port s p).frozenAt + 10 * ms ≤ s.clk) then
    updPort p (fun q => { q with frozen := false }) (txSettle (flushPort p s))
  else s

def execLinkUp (p speed : Nat) (s : State) : Res :=
  .next (if isPhys p && s.sw.forwarding && !(port s p).held && !(port s p).txOff && portf s p prRole != 0 &&
      !(port s p).link && speedOk (port s p) speed then
    preemptJudge (updPort p (fun q =>
      { q with link := true, frozen := false, speedAct := speed, verify := fval q.cfg prVerifyEn, verifyAt := s.clk })
      (downFlush p s))
  else s)

def execLinkDownFlush (p : Nat) (s : State) : Res := .next (if isPhys p then downFlush p s else s)

/-! ## Pause (R336) -/

/-- Held by pause without a break for PAUSE_WD: the watchdog trips. -/
def pauseTrip (p : Nat) (s : State) : State :=
  let q := port s p
  if q.paused && !q.wdActive && decide (q.pausedSince + fval q.cfg prPauseWd * ms ≤ s.clk) then
    let s := count p 19 (updPort p (fun q => { q with pauseWd := true, wdActive := true, paused := false, unpausedAt := s.clk }) s)
    setAlarm 6 (passError 0x0A01 p (noteMod 0x0A01 0 p [] s))
  else s

def execPauseWatchdog (p : Nat) (s : State) : Res := .next (if isPhys p then pauseTrip p s else s)

def execPauseWdRelease (p : Nat) (s : State) : Res :=
  .next (if isPhys p && (port s p).wdActive && decide ((port s p).lastPause + sec1 ≤ s.clk) then
      updPort p (fun q => { q with wdActive := false }) s
    else s)

def execPauseTimeExpiry (p : Nat) (s : State) : Res :=
  .next (if isPhys p && (port s p).paused && decide ((port s p).pauseEnd ≤ s.clk) then
      updPort p (fun q => { q with paused := false, unpausedAt := s.clk }) s
    else s)

/-! ## The wake pattern (R337) -/

def execWake (p : Nat) (s : State) : Res :=
  .next (if isPhys p && s.sw.forwarding && portf s p prRole == 0 then
      edge 0 10 (noteMod 0x0A02 0 p [] (count p 20 (updPort p (fun q => { q with wake := true }) s)))
    else s)

/-! ## Gates and preemption (R361, R362, R364) -/

/-- The gates of a port run entry `i`, which ends `t` ns after a PHC time. -/
def runEntry (p : Nat) (g : Gcl) (i from_ : Nat) (s : State) : State :=
  let e := g.entries.getD i (0xFF, 0)
  updPort p (fun q => { q with gatesRun := true, gateAt := none, entry := i, gates := e.1, gateEnd := from_ + e.2 * nsU }) s

/-- Gates run only in IN_SERVICE, with GCL_EN set and a list loaded (R362). -/
def gatesWanted (s : State) (p : Nat) : Bool := s.svc.state == .inService && portf s p prGclEn == 1

/-- The instant of a gate event has come: the first cycle start, or the end of an entry. -/
def gateEvent (p : Nat) (s : State) : State :=
  let q := port s p
  match q.gcl with
  | some g =>
    if !gatesWanted s p then s
    else if q.gatesRun then
      if q.gateEnd ≤ s.time.n then runEntry p g ((q.entry + 1) % g.entries.length) q.gateEnd s else s
    else match q.gateAt with
      | some t => if t ≤ s.time.n then runEntry p g 0 t s else s
      | none => s
  | none => s

def execGateEvent (p : Nat) (s : State) : Res := .next (if isPhys p then gateEvent p s else s)

/-- The change instant of a list (R361): a frame in transmission completes and is counted in GATE_OVERRUN. -/
def gclChange (p : Nat) (s : State) : State :=
  match (port s p).gclNext with
  | some (g, t) =>
    if t ≤ s.time.n then
      let s := if busyTx s p then count p 17 s else s
      let s := updPort p (fun q => { q with gcl := some g, gclNext := none, gateAt := none }) s
      let s := if gatesWanted s p then runEntry p g 0 t s else s
      finishWaits (.gcl p) ok s
    else s
  | none => s

def execGclChange (p : Nat) (s : State) : Res := .next (if isPhys p then gclChange p s else s)

/-- A verification attempt ends (R364): attempts run while the link is up, VERIFY_TIME apart, until one succeeds. -/
def execPreemptionVerify (p : Nat) (ok : Bool) (s : State) : Res :=
  .next (if isPhys p && (port s p).link && portf s p prVerifyEn == 1 && (port s p).verify != 2 &&
      decide ((port s p).verifyAt + portf s p prVerifyTime * ms ≤ s.clk) then
    preemptJudge (updPort p (fun q => { q with verify := if ok then 2 else 3, verifyAt := s.clk }) s)
  else s)

/-! ## Redundancy supervision (R365) -/

/-- A supervision frame as it leaves a member: untagged, at least 64 bytes, with its trailer or tag (PRESUMED,
IEC 62439-3). -/
def supervisionFrame (red : RedTag) : Frame :=
  { dst := 0x01154E000100, src := Config.baseMac, tag := none, len := 70, fcs := 0, red := some red, payload := .supervision }

/-- Send supervision frames on both members, class 0, under one sequence number. -/
def sendSupervision (k : Nat) (r : RPair) (s : State) : State :=
  let (fid, s) := newFid s
  let s := updSw (fun w => { w with pairs := tupd w.pairs k fun x => { x with supAt := s.clk } }) (pairSeq k s)
  let one (p : Nat) (s : State) : State :=
    copyTo p 1
      { fid := fid, frame := supervisionFrame { hsr := isHsr r, lan := lanOf r p, seq := r.seq }, cls := 0, ingress := 50,
        arrival := s.clk, stamp := s.time.n, notTraceable := !s.time.traceable, own := 0, com := 0 } s
  one (fval r.cfg rpSecond) (one (fval r.cfg rpFirst) s)

def execSupervisionFrameSend (pair : Nat) (s : State) : Res :=
  .next (match tfind s.sw.pairs pair with
    | some r => if fon r.cfg rpEnable && s.sw.forwarding && decide (r.supAt + 2 * sec1 ≤ s.clk) then sendSupervision pair r s else s
    | none => s)

end Sys2Proof.Machine
end

