-- ==== Sys2Proof/Machine/Power.lean ====
section
/-! DEFINITION. Power, rails and the first phases of start-up (R36, R41 to R46, R55, R471), the power-fail sequence (R45),
the meters and counters (R49, R53 to R58), the power commands (R59), and the faults of R36, R56, R246 and R428. -/

namespace Sys2Proof.Machine

/-! ## 12 V and rails -/

/-- 12 V good, after the module was off or after a power-fail sequence has ended (R43, R48). -/
def execTwelveVGood (s : State) : Res :=
  .next (if !s.pwr.good || s.pwr.pfw == .entered then coldStart s else s)

def execModEnLow (s : State) : Res := .next (powerOff false s)

/-- One more rail has reached 90 % of its value. -/
def execRailsUp (s : State) : Res :=
  .next (if s.pwr.good && s.pwr.rails < 8 && !s.pwr.fail then
    updPwr (fun p => { p with rails := p.rails + 1, phase := if p.rails = 7 ∧ p.phase = 1 then 2 else p.phase }) s
  else s)

/-- A rail fault (R44). -/
def railFault (rail : Nat) (s : State) : State :=
  let s := updPwr (fun p => { p with railFault := setBit p.railFault rail }) s
  if s.pwr.rails < 8 then
    if s.pwr.retried then bootFailed (updPwr (fun p => { p with rails := min p.rails 3 }) s)
    else updPwr (fun p => { p with rails := 0, retried := true }) s
  else moduleFault 2 s

def execRailFault (rail : Nat) (s : State) : Res :=
  .next (if s.pwr.good && rail < 8 && !s.pwr.fail then railFault rail s else s)

/-! ## Phases 1 to 6 -/

/-- The supervisor runs; DBG_EN is sampled at a cold start only (R41). -/
def execSupervisorStart (dbgEn : Bool) (s : State) : Res :=
  .next (if phaseIs 0 s then
    if s.pwr.soft then setPhaseTo 3 s
    else updPwr (fun p => { p with dbg := dbgEn, phase := if p.rails = 8 then 2 else 1 }) s
  else s)

def execPcieEndpointConfigured (s : State) : Res := .next (if phaseIs 2 s then setPhaseTo 3 s else s)

/-- The counters of a cold start: restored, incremented, persisted (R57, R58). -/
def coldCounters (s : State) : State :=
  let s := restoreCounters s
  persist (updMet (fun m => { m with cycles := min 0xFFFFFFFF (m.cycles + 1) }) s)

def execCountersRestored (s : State) : Res :=
  .next (if phaseIs 3 s then
    let s := setPhaseTo 4 (updPwr (fun p => { p with pfwArmed := true }) s)
    if s.pwr.soft then s
    else
      let s := noteMod 0x1001 0 noObj [] (coldCounters (updChr chrScan s))
      if s.pwr.dbg then noteMod 0x1003 0 noObj [] s else s
  else s)

def execBankSelect (s : State) : Res := .next (if phaseIs 4 s then bankSelect s else s)

def execDramTrained (s : State) : Res :=
  .next (if phaseIs 5 s then setPhaseTo 6 (updPwr (fun p => { p with holdupReady := true }) s) else s)

def execMbxReady (s : State) : Res :=
  .next (if phaseIs 7 s then setPhaseTo 8 (updPwr (fun p => { p with mbxReady := true }) s) else s)

/-- The soft reset begins once its completion has been written (R59, R491), or at the end of an unconfirmed trial's window
(R473). -/
def execSoftReset (s : State) : Res :=
  .next (if s.pwr.resetDue && s.pwr.good && s.pwr.pfw == .idle then softReset s else s)

/-! ## Power failure -/

/-- VIN is lost before PFW is armed (R46). -/
def execVinLossUnarmed (s : State) : Res :=
  .next (if s.pwr.good && !s.pwr.pfwArmed then powerOff s.pwr.modEn s else s)

def execPowerFailWarning (s : State) : Res :=
  .next (if s.pwr.good && s.pwr.pfwArmed && s.pwr.pfw == .idle then
    alertPin { updPwr (fun p => { p with pfw := .warned, pfwAt := s.clk }) s with pins := { s.pins with pfwOut := true } }
  else s)

/-- t0 + 100 µs. -/
def execPfwOutputsOff (s : State) : Res :=
  .next (if pfwAt .warned (100 * us) s then
    let s := haltArchive (holdAll (stopAlarmPub (dropOuts s)))
    setPfw .outputsOff (updPwr (fun p => { p with state := 2 }) (pipelineOff s))
  else s)

/-- t0 + 500 µs: GASP on the tandem links and a message to the referee. -/
def execDyingGasp (s : State) : Res :=
  .next (if pfwAt .outputsOff (500 * us) s then
    let s := setPfw .gasped s
    if s.tdm.standalone then s else refSend 0x0004 1 0 (linkSend (.gasp 1) s)
  else s)

/-- t0 + 600 µs. -/
def execPfwLinksDown (s : State) : Res :=
  .next (if pfwAt .gasped (600 * us) s then
    setPfw .linksDown { updTdm (fun t => { t with laneA := false, laneB := false, session := none, inStep := false }) s with
      sw := { s.sw with forwarding := false }
      ports := tmapD {} (fun _ q => { q with link := false, txOff := true }) s.ports }
  else s)

/-- t0 + 1 ms: the notification, then PCIe goes down. -/
def execPfwPcieDown (s : State) : Res :=
  .next (if pfwAt .linksDown ms s then setPfw .pcieDown (pcieOff (edge 0 4 s)) else s)

/-- t0 + 4 ms: the queue is drained and the power-fail entry is written, with the X3 latches (R431); then the counters are
persisted. -/
def execPfwChronicleEntry (s : State) : Res :=
  .next (if pfwAt .pcieDown (4 * ms) s then
    let s := noteMod 0x1002 0 noObj [s.sig.x3.rise, s.sig.x3.fall] (updChr chrDrain s)
    setPfw .entered (persist (updChr chrDrain s))
  else s)

/-- The store has fallen below 6.0 V. -/
def execSupervisorResetHold (s : State) : Res :=
  .next (if s.pwr.good && s.pwr.pfw != .idle then powerOff s.pwr.modEn s else s)

/-! ## Temperature, watchdog, ECC, hardware faults -/

/-- A temperature of PWR_TEMP in counts of 0.0625 °C. -/
def tempOf (t : Nat) : Int := sext 16 t

/-- The alarm threshold in the same counts. -/
def trpAlarm (s : State) : Int := 16 * (fval s.pwr.cfg pTrpAlarm : Int)

def execThermalAlarm (temp : Nat) (s : State) : Res :=
  .next (if s.pwr.good && !s.pwr.therm && decide (trpAlarm s ≤ tempOf temp) then
    setAlarm 0 (noteMod 0x1005 0 noObj [temp % 65536]
      (alertPin (updPwr (fun p => { p with therm := true, trpTemp := temp % 65536 }) s)))
  else s)

def execThermalAlarmCleared (temp : Nat) (s : State) : Res :=
  .next (if s.pwr.therm && decide (tempOf temp < trpAlarm s) then
    alertPin (updPwr (fun p => { p with therm := false, trpTemp := temp % 65536 }) s)
  else s)

/-- The die reaches 110 °C. -/
def execDieOvertemperature (temp : Nat) (s : State) : Res :=
  .next (if s.pwr.good && decide (110 * 16 ≤ tempOf temp) then
    moduleFault 1 (updPwr (fun p => { p with dieTemp := temp % 65536 }) s)
  else s)

def execSupervisorWatchdog (s : State) : Res := .next (if s.pwr.good then moduleFault 3 s else s)

def execEccUncorrected (s : State) : Res := .next (if s.pwr.good then moduleFault 6 s else s)

def execSwitchHardwareFault (s : State) : Res := .next (if s.pwr.good then moduleFault 9 s else s)

/-! ## Meters and counters -/

/-- A write of 1 to PWR_CTRL.SNAP (R54). -/
def snapshot (s : State) : State :=
  let s := readMeters s
  updMet (fun m => { m with snap := (List.range 12).foldl (fun t b => tset 0 t b (meter m.energy b)) [], snapPcs := m.pcs,
                            snapTs := ts32 s }) s

def execSnap (value : Nat) (s : State) : Res :=
  .next (if s.pwr.phase ≥ 4 && !s.pcie.down && bitOf value 0 then snapshot s else s)

def execOpsecTick (s : State) : Res :=
  .next (if s.pwr.good then updMet (fun m => { m with opsec := (m.opsec + 1) % 2 ^ 40 }) s else s)

def execOpsecPersist (s : State) : Res := .next (if s.pwr.good && s.pwr.pfw == .idle then persist s else s)

/-- The interval has lasted its whole number of seconds. -/
def execPowerEnergyIntervalEnd (s : State) : Res :=
  match s.met.interval with
  | some i =>
    if i.running && decide (i.start + i.duration * sec1 ≤ s.clk) then
      let s := readMeters s
      .next (updMet (fun m => { m with interval := some { i with running := false, energy1 := meter m.energy 11, pcs1 := m.pcs } }) s)
    else .next s
  | none => .next s

/-- The hold-up test ends: 7.4 mF or more is a PASS (R49). -/
def execHoldupTestEnd (microfarad : Nat) (s : State) : Res :=
  .next (if s.met.holdup.isSome then
    let pass := decide (7400 ≤ microfarad)
    let s := updPwr (fun p => { p with holdupFail := !pass }) (updMet (fun m => { m with holdup := none }) s)
    let s := noteAs (if pass then 1 else 2) 0x1006 0 noObj noObj [] s
    finishWaits .holdup { withKey 1 (b2n pass) ok with res1 := some (microfarad % 2 ^ 32) } s
  else s)

/-! ## The power commands (R59) -/

/-- PWR_STATUS. -/
def pwrStatus (s : State) : Nat :=
  s.pwr.state + b2n (s.pwr.pfw != .idle) * 4 + b2n s.pwr.holdupReady * 8 + b2n s.pwr.therm * 16 + b2n s.pwr.holdupFail * 32 +
    s.pwr.railFault * 64

def pwrInput (s : State) : Nat := s.pwr.vin % 65536 + s.pwr.iin % 65536 * 65536

def pwrTemp (s : State) : Nat := s.pwr.trpTemp % 65536 + s.pwr.dieTemp % 65536 * 65536

def execPowerStatusGet (r : CmdId) (s : State) : Res :=
  feljo 0x1001 r (fun c s => adminOnly c
    (.done s (withOut (le 4 (pwrStatus s) ++ le 4 (pwrInput s) ++ le 4 (pwrTemp s)) ok))) s

/-- An interval is started on the meters as they stand. -/
def energyStart (d : Nat) (s : State) : State :=
  let s := readMeters s
  let i : Energy := { duration := d, start := s.clk, energy0 := meter s.met.energy 11, pcs0 := s.met.pcs, running := true }
  updMet (fun m => { m with interval := some i }) s

/-- Does an interval run? -/
def energyRuns (s : State) : Bool := match s.met.interval with
  | some i => i.running
  | none => false

def execPowerEnergyStart (r : CmdId) (s : State) : Res :=
  feljo 0x1002 r (fun c s => adminOnly c (require (!energyRuns s) busy (.done (energyStart (argD c 1 10) s) ok))) s

/-- The quotient in units of 0.01 µJ, rounded to nearest (R24); with no protected sample it has no value and is a free
one. -/
def quotient (s : State) (e p : Nat) : Nat := if p = 0 then Config.free 11 s.fresh % 2 ^ 32 else (200 * e + p) / (2 * p) % 2 ^ 32

/-- The reading of an interval that has ended. With none started since power-up there is nothing to read: STALE. -/
def energyRead (s : State) : Ans :=
  match s.met.interval with
  | some i =>
    if i.soft then .fail stale
    else if i.running then .fail busy
    else
      let e := i.energy1 - i.energy0
      let p := i.pcs1 - i.pcs0
      .done { s with fresh := s.fresh + 1 } (withOut (le 8 e ++ le 8 p ++ le 4 (quotient s e p) ++ zeros 4) ok)
  | none => .fail stale

def execPowerEnergyRead (r : CmdId) (s : State) : Res := feljo 0x1003 r (fun c s => adminOnly c (energyRead s)) s

/-- The lane pool runs from pipeline start; before it a write acts at once (R51). -/
def lanePoolRuns (s : State) : Bool := s.pwr.phase == 9

def execPowerGatingSet (r : CmdId) (s : State) : Res :=
  feljo 0x1004 r (fun c s => adminOnly c
    (let v := argD c 1 0
     if fread s.pwr.cfg pGating = v then .done s (okOrStaged (fstaged s.pwr.cfg pGating))
     else if lanePoolRuns s then .done (updPwr (fun p => { p with cfg := fstage p.cfg pGating v }) s) stagedR
     else .done (updPwr (fun p => { p with cfg := fset p.cfg pGating v }) s) ok)) s

def execPowerHoldupTest (r : CmdId) (s : State) : Res :=
  feljo 0x1005 r (fun c s => adminOnly c
    (require (s.met.holdup.isNone) busy
      (require (decide (11500 ≤ s.pwr.vin) && s.pwr.holdupReady) (denied 4)
        (.wait (addWait .holdup (some c.id) (updMet (fun m => { m with holdup := some s.clk }) s)))))) s

def execPowerCountersGet (r : CmdId) (s : State) : Res :=
  feljo 0x1006 r (fun c s => adminOnly c
    (.done s (withOut (le 8 s.met.opsec ++ le 4 s.met.cycles ++ zeros 4 ++ timeBytes (fullNow s)) ok))) s

def execPowerThermalSet (r : CmdId) (s : State) : Res :=
  feljo 0x1007 r (fun c s => adminOnly c
    (.done (updPwr (fun p => { p with cfg := fset p.cfg pTrpAlarm (argD c 1 0x55) }) s) ok)) s

/-- The soft reset follows the completion; it is refused in IN_SERVICE. -/
def execPowerReset (r : CmdId) (s : State) : Res :=
  feljo 0x1008 r (fun c s => adminOnly c
    (require (s.svc.state != .inService) (denied 1) (.done s { ok with reset := true }))) s

end Sys2Proof.Machine
end

