-- ==== Sys2Proof/Machine/Mailbox.lean ====
section
/-! DEFINITION. The mailbox registers and events: doorbells and ring enables (R68, R72, R92, R95, R344), fetching and
reading (R82, R85, R490), timeouts (R84), completions (R80), and the resets and bus mastering of the host interface
(R89, R90). -/

namespace Sys2Proof.Machine

/-! ## Doorbells -/

/-- A submission doorbell: it adds entries, or is discarded with RING_ERR (R72). -/
def sqDoorbell (n v : Nat) (s : State) : State :=
  let w := win s n
  let len := sqLen w
  if len ≤ v ∨ len - 1 < unfetched w + (v + len - w.sqTail % len) % len then ringErr n s
  else updWin n (fun w => { w with sqTail := v }) s

def execSqTail (slice value : Nat) (s : State) : Res :=
  .next (if hostUp s && winExists slice then sqDoorbell slice (value % 4096) s else s)

/-- A completion doorbell: it releases entries the module has written, or is discarded with RING_ERR (R72). -/
def cqDoorbell (n v : Nat) (s : State) : State :=
  let w := win s n
  let len := cqLen w
  if len ≤ v ∨ unconsumed w < (v + len - w.cqHead % len) % len then ringErr n s
  else updWin n (fun w => { w with cqHead := v }) s

def execCqHead (slice value : Nat) (s : State) : Res :=
  .next (if hostUp s && winExists slice then cqDoorbell slice (value % 4096) s else s)

/-! ## RING_CFG -/

/-- The submission ring starts: empty rings and phase 1 (R72). -/
def sqStart (n : Nat) (s : State) : State :=
  updWin n (fun w =>
    { w with sqHead := 0, sqTail := 0, cqHead := 0, cqIdx := 0, cqPhase := true, enabled := true, cqFailed := false, resetStop := false }) s

/-- A write to RING_CFG. -/
def writeRingCfg (n v : Nat) (s : State) : State :=
  let was := fon (win s n).cfg wEnable
  match winWrite n 0x010 v s with
  | none => deniedWr n s
  | some c =>
    let s := updWin n (fun w => { w with cfg := c }) s
    if fon c wEnable && !was then sqStart n s
    else if was && !fon c wEnable then sqStop n s
    else s

/-- A write that sets ENABLE. -/
def execRingEnable (slice value : Nat) (s : State) : Res :=
  .next (if hostUp s && winExists slice && bitOf value 8 then writeRingCfg slice value s else s)

/-- A write that clears ENABLE. -/
def execRingDisable (slice value : Nat) (s : State) : Res :=
  .next (if hostUp s && winExists slice && !bitOf value 8 then writeRingCfg slice value s else s)

/-! ## Station rings: the admin window has none (R68) -/

/-- An instance slice's window. -/
def stationUp (s : State) (n : Nat) : Bool := hostUp s && winExists n && n != 0

/-- The receive doorbell: waiting frames are placed (R92). -/
def rxDoorbell (n v : Nat) (s : State) : State :=
  if !assigned s n then deniedWr n s else deliver n (updWin n (fun w => { w with rxTail := v }) s)

def execRxTail (slice value : Nat) (s : State) : Res :=
  .next (if stationUp s slice then rxDoorbell slice (value % 4096) s else s)

/-- The transmit doorbell (R95). -/
def txDoorbell (n v : Nat) (s : State) : State :=
  if !assigned s n then deniedWr n s else updWin n (fun w => { w with txTail := v }) s

def execTxTail (slice value : Nat) (s : State) : Res :=
  .next (if stationUp s slice then txDoorbell slice (value % 4096) s else s)

/-- A write to RX_CFG: enabling brings the virtual port up and restarts its block, disabling takes it down and flushes its
queue (R344). A ring starts empty (R115). -/
def writeRxCfg (n v : Nat) (s : State) : State :=
  let was := fon (win s n).cfg wRxEn
  match winWrite n 0x048 v s with
  | none => deniedWr n s
  | some c =>
    let s := updWin n (fun w => { w with cfg := c }) s
    if fon c wRxEn && !was then vportRestart n (updWin n (fun w => { w with rxHead := 0, rxTail := 0 }) s)
    else if was && !fon c wRxEn then flushVport n s
    else s

def execRxRingEnable (slice value : Nat) (s : State) : Res :=
  .next (if stationUp s slice && bitOf value 16 then writeRxCfg slice value s else s)

def execRxRingDisable (slice value : Nat) (s : State) : Res :=
  .next (if stationUp s slice && !bitOf value 16 then writeRxCfg slice value s else s)

/-- A write to TX_CFG. -/
def writeTxCfg (n v : Nat) (s : State) : State :=
  let was := fon (win s n).cfg wTxEn
  match winWrite n 0x068 v s with
  | none => deniedWr n s
  | some c =>
    let s := updWin n (fun w => { w with cfg := c }) s
    if fon c wTxEn && !was then updWin n (fun w => { w with txHead := 0, txTail := 0 }) s else s

def execTxRingEnable (slice value : Nat) (s : State) : Res :=
  .next (if stationUp s slice && bitOf value 16 then writeTxCfg slice value s else s)

def execTxRingDisable (slice value : Nat) (s : State) : Res :=
  .next (if stationUp s slice && !bitOf value 16 then writeTxCfg slice value s else s)

/-! ## Fetching and reading -/

/-- Fetch the next entry of a ring whose turn it is: read at once, or outstanding as a DMA read. -/
def fetchEntry (n : Nat) (entry : Option (List Byte)) (s : State) : State :=
  let w := win s n
  let a := sqAddr w w.sqHead
  match atuCheck s n a 64 false with
  | some (k, x) => ringErr n (sqStop n (atuFault n k x false 2 0 s))
  | none =>
    let s := updWin n (fun w => { w with sqHead := (w.sqHead + 1) % sqLen w }) s
    match entry with
    | some b => receiveEntry n b s
    | none => issueRead { tag := 0, purpose := .entry n, addr := a, len := 64, attempt := 0, at_ := s.clk } s

def execSubmissionFetch (slice : Nat) (entry : Option (List Byte)) (s : State) : Res :=
  match takeTurn slice s with
  | some s' => .next (fetchEntry slice entry s')
  | none => .next s

/-- A read has failed: an entry's ring stops, a command ends (R85). -/
def readFailed (r : Rd) (s : State) : State :=
  match r.purpose with
  | .entry n => ringErr n (sqStop n s)
  | .buffer id => if s.cmds.any fun c => c.id == id && c.phase == .reading then abortCmd id 4 s else s

/-- A read has brought its data. -/
def readDone (r : Rd) (data : List Byte) (s : State) : State :=
  match r.purpose with
  | .entry n => receiveEntry n data s
  | .buffer id => receiveInput id (padTo r.len data) s

/-- The read of a tag ends. -/
def endRead (tag : Nat) (s : State) : State :=
  pumpReads (updPcie (fun p => { p with reads := p.reads.filter fun r => r.tag != tag }) s)

def execDmaReadCompletion (tag : Nat) (ok : Bool) (data : List Byte) (s : State) : Res :=
  match s.pcie.reads.find? fun r => r.tag == tag with
  | some r => .next (if ok then readDone r data (endRead tag s) else readFailed r (endRead tag s))
  | none => .next s

/-- Is a read still wanted? That of an aborted command is not reissued (R86). -/
def wanted (s : State) (r : Rd) : Bool :=
  match r.purpose with
  | .entry _ => true
  | .buffer id => s.cmds.any fun c => c.id == id && c.phase == .reading

def execDmaReadTimeout (tag : Nat) (s : State) : Res :=
  match s.pcie.reads.find? fun r => r.tag == tag with
  | some r =>
    if s.clk < r.at_ + cto s then .next s
    else if !wanted s r then .next (endRead tag s)
    else if r.attempt = 0 then .next (issueRead { r with attempt := 1 } (endRead tag s))
    else .next (readFailed r (endRead tag s))
  | none => .next s

/-! ## Timeouts and completions -/

def execCommandTimeout (r : CmdId) (s : State) : Res :=
  match s.cmds.find? fun c => c.id == r && executing c with
  | some c => .next (if committed s c || decide (s.clk < c.started + effTimeout s c) then s else abortCmd r 2 s)
  | none => .next s

/-- Write a completion, discard it where its ring has failed (R108), or leave it waiting for a slot (R83). -/
def complete (c : Cmd) (s : State) : State :=
  let n := c.id.slice
  if (win s n).cqFailed then retire c.id (countAborted n s)
  else if cqFull (win s n) then s
  else match atuCheck s n (cqAddr (win s n) (win s n).cqIdx) 32 true with
    | some (k, a) => failCq c k a s
    | none => writeCqe c s

/-- Hold a completion in its place among what waits for bus mastering (R90). -/
def holdCqe (r : CmdId) (s : State) : State :=
  if (s.heldOut.filter fun h => h == .cqe r).length < (s.cmds.filter fun c => c.id == r && c.phase == .completing).length then
    { s with heldOut := s.heldOut ++ [.cqe r] }
  else s

def execCompletionWrite (r : CmdId) (s : State) : Res :=
  match s.cmds.find? fun c => c.id == r && c.phase == .completing with
  | some c => .next (if s.pcie.down then s else if busOff s then holdCqe r s else complete c s)
  | none => .next s

/-! ## Resets and bus mastering -/

def execPerst (s : State) : Res := .next (hostReset s)

def execFunctionLevelReset (s : State) : Res := .next (if s.pcie.down then s else hostReset s)

/-- Issue one held item. -/
def issueHeld (s : State) (h : Held) : State :=
  match h with
  | .out o => emit o s
  | .cqe r => match s.cmds.find? fun c => c.id == r && c.phase == .completing with
    | some c => complete c s
    | none => s

/-- Issue what was held, in order (R90); the unmaps that waited for it complete (R109). -/
def releaseHeld (s : State) : State := finishWaits .unmap ok (s.heldOut.foldl issueHeld { s with heldOut := [] })

/-- Bus Master Enable or the power state changes. -/
def busChange (bme d3 : Bool) (s : State) : State :=
  let was := busOff s
  let s := updPcie (fun p => { p with bme := bme, d3hot := d3 }) s
  if was && !busOff s then
    (tkeys s.wins).foldl (fun s n => if n = 0 then s else deliver n s) (pumpReads (releaseHeld s))
  else s

def execBusMasterChange (bme d3 : Bool) (s : State) : Res := .next (if s.pcie.down then s else busChange bme d3 s)

end Sys2Proof.Machine
end

