-- ==== Sys2Proof/Machine/Signalling.lean ====
section
/-! DEFINITION. Signalling: the commands of R450, the claim and complete registers (R422), and the events of the
notification units, the X3 inputs and the Chronicle (R426, R430, R431, R439, R444). -/

namespace Sys2Proof.Machine

/-! ## The Chronicle's commands -/

/-- `chronicle.read` (R441): as many whole entries as asked and as fit. -/
def chronicleRead (c : Cmd) (s : State) : Ans :=
  let acc := argD c 2 0
  let es := (chrFrom s.chr c.id.slice acc).take (argD c 3 1)
  let gap := decide (acc < chrFirst s.chr)
  if !es.isEmpty && decide (c.bufLen < 64) then .fail { nospace with res1 := some 64 }
  else
    let es := es.take (c.bufLen / 64)
    .done s (withOut (es.flatMap (chrReply s.chr))
      { ok with res0 := b2n gap + 2 * b2n (chrReserve s.chr), res1 := some es.length })

def execChronicleRead (r : CmdId) (s : State) : Res := feljo 0x0D01 r (fun c s => notBoot s (chronicleRead c s)) s

/-- CHR_STATUS (R449); QUEUE counts entries, not the rewrites of entries already written (R439). -/
def chrStatus (s : State) : Nat :=
  let c := s.chr
  b2n c.ok0 + 2 * b2n c.ok1 + 4 * b2n (chrReserve c) + 8 * b2n c.droppedFlag + 16 * b2n c.repairedFlag +
    (c.queue.filter fun x => !x.rewrite).length * 65536

def execChronicleStatusGet (r : CmdId) (s : State) : Res :=
  feljo 0x0D02 r (fun _ s => notBoot s (.done s (withOut
    (le 8 (chrFirst s.chr) ++ le 8 s.chr.next ++ le 4 s.chr.dropped.toNat ++ le 4 s.chr.repaired.toNat ++ le 4 s.chr.lost.toNat ++
      le 4 s.chr.reserve.length) { ok with res0 := chrStatus s }))) s

/-- Every entry is removed, and the first written after it records the removal (R443). -/
def chrClear (s : State) : State :=
  let first := chrFirst s.chr
  let last := s.chr.next - 1
  note 0x0D05 0 0 noObj (words64 first ++ words64 last)
    (updChr (fun c => { c with dev0 := if c.ok0 then [] else c.dev0, dev1 := if c.ok1 then [] else c.dev1, queue := [],
                               reserve := [], newest := none, first := c.next, clearRec := c.next }) s)

def execChronicleClear (r : CmdId) (s : State) : Res :=
  feljo 0x0D03 r (fun c s => adminOnly c
    (require (s.svc.state == .commissioning || s.svc.state == .test) (denied 1)
      (require (argD c 2 0 == s.chr.next) stale (.done (chrClear s) ok)))) s

/-- A host note (R442). One that finds the queue full has no accession to return: NOSPACE. -/
def chronicleNote (c : Cmd) (s : State) : Ans :=
  if c.input.length < 16 then .fail (badarg 0xFFFE)
  else
    let s' := note 0x0105 c.id.slice c.id.slice noObj (wordsOf 4 c.input) s
    if s'.chr.dropped = s.chr.dropped then
      .done s' { ok with res1 := some ((s'.chr.newest.map (·.acc)).getD 0 % 2 ^ 32) }
    else .fail nospace

def execChronicleNote (r : CmdId) (s : State) : Res := feljo 0x0D04 r (fun c s => notBoot s (chronicleNote c s)) s

def execChronicleConfigSet (r : CmdId) (s : State) : Res :=
  feljo 0x0D05 r (fun c s => adminOnly c (notBoot s
    (.done (updChr (fun x => { x with notifySev := argD c 2 2 }) s) ok))) s

/-! ## Error contexts, notification units, alarms -/

/-- The four registers of a context (R447). -/
def ctxWords (s : State) (i : Nat) : List Nat :=
  let c := tget {} s.sig.ctx i
  [c.code + c.obj * 65536, c.count + b2n c.isOpen * 65536, c.first.toNat, c.last.toNat]

def execErrorContextsGet (r : CmdId) (s : State) : Res :=
  feljo 0x0D06 r (fun c s => adminOnly c (notBoot s
    (.done s (withOut ((List.range 4).flatMap fun i => (ctxWords s i).flatMap (le 4)) ok)))) s

/-- `notify.config.set` (R424, R451). -/
def notifySet (c : Cmd) (s : State) : Ans :=
  let n := argD c 1 0
  match ntfKeys n none (c.params.filter fun p => p.key != 1) (ntf s n) with
  | .error i => .fail (badarg i)
  | .ok u =>
    if n ≠ 0 ∧ assigned s n ∧ (arg c 4).isSome then .fail (denied 3)
    else .done (withNtf n (updNtf n fun _ => u) s) ok

def execNotifyConfigSet (r : CmdId) (s : State) : Res := feljo 0x0D07 r (fun c s => adminOnly c (notBoot s (notifySet c s))) s

def execNotifyConfigGet (r : CmdId) (s : State) : Res :=
  feljo 0x0D08 r (fun c s =>
    let n := argD c 1 c.id.slice
    notBoot s (require (fromAdmin c || n == c.id.slice) (denied 2) (.done s (withOut (ntfBytes n (ntf s n)) ok)))) s

/-- NTF_FAULT (R447). -/
def ntfFault (s : State) : Nat := s.sig.faultCause + b2n s.sig.fault * 256

def execNotifyAlarmGet (r : CmdId) (s : State) : Res :=
  feljo 0x0D09 r (fun c s => adminOnly c (notBoot s (.done s { ok with res0 := s.sig.alarm, res1 := some (ntfFault s) }))) s

/-- Clear module alarms; the alarm publication follows (R428, R429). -/
def alarmClear (mask : Nat) (s : State) : State :=
  alarmPubJudge (withNtf 0 (updSig fun g => { g with alarm := clearMask 12 g.alarm mask }) s)

def execNotifyAlarmClear (r : CmdId) (s : State) : Res :=
  feljo 0x0D0A r (fun c s => adminOnly c (notBoot s (.done (alarmClear (argD c 2 0) s) ok))) s

/-- The descriptor of the alarm publication: R281 with NMEMB 5 and MODE 0 (R429). -/
def alarmPubBad (d : List Byte) : Option Nat :=
  match pubBad d with
  | some o => some o
  | none => if leAt d 404 1 ≠ 5 then some 404 else if leAt d 416 1 ≠ 0 then some 416 else none

/-- `notify.alarmpub.set`: the publication sends its present state at once. -/
def alarmPubSet (c : Cmd) (s : State) : Ans :=
  match alarmPubBad c.input with
  | some _ => .fail (badarg 0xFFFE)
  | none =>
    let u : Pub := match s.trip.alarmPub with
      | some u => { u with desc := c.input, sent := none }
      | none => { desc := c.input, live := true }
    .done (alarmPubJudge { s with trip := { s.trip with alarmPub := some u } }) ok

def execNotifyAlarmpubSet (r : CmdId) (s : State) : Res := feljo 0x0D0B r (fun c s => adminOnly c (notBoot s (alarmPubSet c s))) s

def execNotifyFilterSet (r : CmdId) (s : State) : Res :=
  feljo 0x0D0C r (fun c s => adminOnly c (notBoot s
    (.done (updX3 (fun x => { x with trigFilt := argD c 2 x.trigFilt, bkFilt := argD c 3 x.bkFilt }) s) ok))) s

/-! ## Claim and complete registers -/

/-- A claim's value goes to the reader. -/
def claimRead (n v : Nat) (s : State) : State :=
  let x := ntfClaim n v s
  emit (.value x.1) x.2

def execNtfAdmClaim (s : State) : Res := .next (if hostUp s then claimRead 0 0 s else s)

def execNtfAdmComplete (value : Nat) (s : State) : Res := .next (if hostUp s then ntfComplete 0 (value % 1024) s else s)

def execSlcNtfClaim (slice v : Nat) (s : State) : Res := .next (if stationUp s slice && v < 4 then claimRead slice v s else s)

def execSlcNtfComplete (slice value : Nat) (s : State) : Res :=
  .next (if stationUp s slice then ntfComplete slice (value % 1024) s else s)

def execModerationExpiry (slice v : Nat) (s : State) : Res := .next (ntfExpire slice v s)

/-! ## X3 inputs -/

def execFilteredInputEdge (i : Nat) (level : Bool) (ts : Nat) (s : State) : Res :=
  .next (if s.sig.x3.running && i < 20 && bitOf s.sig.x3.state i != level then x3Edge i level ts s else s)

def execX3LatchEdge (i : Nat) (rising : Bool) (s : State) : Res :=
  .next (if s.pwr.good && s.pwr.rails != 0 && !s.sig.x3.running && i < 20 && bitOf s.sig.x3.pins i != rising then
    x3Latch i rising s else s)

/-! ## The Chronicle's events -/

def execChronicleItemWrite (good0 good1 : Bool) (s : State) : Res := .next (if s.pwr.good then chrStep good0 good1 s else s)

def execFramDeviceFailed (dev : Nat) (s : State) : Res :=
  .next (if s.pwr.good && decide (4 ≤ s.pwr.phase) && dev < 2 && (if dev = 0 then s.chr.ok0 else s.chr.ok1) then
    deviceFailed dev s else s)

end Sys2Proof.Machine
end

