-- ==== Sys2Proof/Machine/SwitchCmds.lean ====
section
/-! DEFINITION. The switch commands (R354, R358 to R360, R365, R370, R371, R374). -/

namespace Sys2Proof.Machine

/-- Records of a fixed size. -/
def recordsOf (size : Nat) (b : List Byte) : List (List Byte) :=
  (List.range (b.length / size)).map fun i => sliceOf b (size * i) size

/-! ## Forwarding entries (R342, R374) -/

/-- A forwarding record: the entry, and whether it is to be deleted. -/
def fdbRecord (now : Nat) (b : List Byte) : Fdb × Bool :=
  ({ mac := leAt b 0 6, vid := leAt b 6 2, group := leAt b 8 1 == 1, static := bitOf (leAt b 9 1) 0, target := leAt b 10 2,
     seen := now }, bitOf (leAt b 9 1) 1)

/-- Is a record well formed, and does a static entry stay off SPARE and transcript ports (R374)? -/
def fdbOk (s : State) (b : List Byte) : Bool :=
  let (e, del) := fdbRecord 0 b
  decide (1 ≤ e.vid) && decide (e.vid ≤ 4094) && decide (leAt b 8 1 ≤ 1) && decide (leAt b 9 1 < 4) &&
    (if e.group then decide (e.target ≤ 4095) else decide (e.target ≤ 562)) &&
    (del || e.group || !e.static || !(isPhys e.target && (portf s e.target prRole == 0 || isTranscript s e.target)))

/-- Apply one record: an entry of the same VLAN and address is replaced or removed. -/
def fdbApply (l : List Fdb) (r : Fdb × Bool) : List Fdb :=
  if r.2 then l.filter fun e => !(e.vid == r.1.vid && e.mac == r.1.mac)
  else if l.any fun e => e.vid == r.1.vid && e.mac == r.1.mac then
    l.map fun e => if e.vid == r.1.vid && e.mac == r.1.mac then r.1 else e
  else l ++ [r.1]

def fdbSet (c : Cmd) (s : State) : Ans :=
  let rs := recordsOf 16 c.input
  if c.input.length % 16 ≠ 0 ∨ rs.length = 0 ∨ 1024 < rs.length then .fail (badarg 0xFFFE)
  else match (rs.map (fdbOk s)).findIdx? (fun x => !x) with
    | some i => .fail { badarg 0xFFFE with res0 := i }
    | none =>
      let fdb := (rs.map (fdbRecord s.clk)).foldl fdbApply s.sw.fdb
      let s' := updSw (fun w => { w with fdb := fdb }) s
      if 32768 < fdb.length ∨ 16384 < staticUsed s' then .fail nospace else .done s' ok

def execSwitchFdbSet (r : CmdId) (s : State) : Res :=
  feljo 0x0A0B r (fun c s => adminOnly c (notBoot s (fdbSet c s))) s

/-- A forwarding entry as `switch.fdb.get` returns it. -/
def fdbBytes (e : Fdb) (i : Nat) : List Byte :=
  le 6 e.mac ++ le 2 e.vid ++ le 1 (b2n e.group) ++ le 1 (b2n e.static) ++ le 2 e.target ++ le 2 i ++ zeros 2

def execSwitchFdbGet (r : CmdId) (s : State) : Res :=
  feljo 0x0A0C r (fun c s => adminOnly c (notBoot s
    (let first := argD c 2 0
     .done s (withOut (((s.sw.fdb.drop first).take (argD c 3 1)).zipIdx.flatMap fun e => fdbBytes e.1 (first + e.2)) ok)))) s

def execSwitchFdbFlush (r : CmdId) (s : State) : Res :=
  feljo 0x0A0D r (fun c s => adminOnly c (notBoot s
    (let p := argD c 1 0
     .done (updSw (fun w => { w with fdb := w.fdb.filter fun e => e.static || (p != 0xFF && (e.group || e.target != p)) }) s)
       ok))) s

/-! ## Groups and VLANs (R374) -/

def groupSet (c : Cmd) (s : State) : Ans :=
  let b := c.input
  let k := leAt b 12 2
  let vs := (List.range k).map fun i => leAt b (16 + 2 * i) 2
  if decide (16 ≤ b.length) && decide (k ≤ 32) && b.length == 16 + 2 * k && decide (leAt b 0 2 ≤ 4095) &&
      decide (leAt b 4 8 < 2 ^ 51) && vs.all (fun v => decide (51 ≤ v) && decide (v ≤ 562))
  then .done (updSw (fun w => { w with groups := tput w.groups (leAt b 0 2) { ports := leAt b 4 8, vports := vs } }) s) ok
  else .fail (badarg 0xFFFE)

def execSwitchGroupSet (r : CmdId) (s : State) : Res :=
  feljo 0x0A0E r (fun c s => adminOnly c (notBoot s (groupSet c s))) s

/-- A VLAN record is well formed: a VID, one flag, and masks over ports 0 to 50. -/
def vlanOk (b : List Byte) : Bool :=
  decide (1 ≤ leAt b 0 2) && decide (leAt b 0 2 ≤ 4094) && decide (leAt b 2 2 ≤ 1) && decide (leAt b 4 8 < 2 ^ 51) &&
    decide (leAt b 12 8 < 2 ^ 51)

def vlanApply (t : Tab Vlan) (b : List Byte) : Tab Vlan :=
  if leAt b 2 2 = 1 then tdel t (leAt b 0 2) else tput t (leAt b 0 2) { members := leAt b 4 8, untag := leAt b 12 8 }

def vlanSet (c : Cmd) (s : State) : Ans :=
  let rs := recordsOf 24 c.input
  if c.input.length % 24 ≠ 0 ∨ rs.length = 0 then .fail (badarg 0xFFFE)
  else match (rs.map vlanOk).findIdx? (fun x => !x) with
    | some _ => .fail (badarg 0xFFFE)
    | none => .done (updSw (fun w => { w with vlans := rs.foldl vlanApply w.vlans }) s) ok

def execSwitchVlanSet (r : CmdId) (s : State) : Res :=
  feljo 0x0A0F r (fun c s => adminOnly c (notBoot s (vlanSet c s))) s

/-! ## Mirror sessions (R358) -/

/-- May the port be a transcript port? -/
def transcriptOk (s : State) (p : Nat) : Bool :=
  if isPhys p then portf s p prRole == 2 || portf s p prRole == 3 else isVirt p && decide (p ≤ 562)

def mirrorSet (c : Cmd) (s : State) : Ans :=
  let m := argD c 2 0
  match writeKeys mirFields (fun _ => .run) c.params (tget {} s.sw.mirrors m) false with
  | .error r => .fail r
  | .ok (cfg, _) =>
    if ((arg c 6).isSome || fon cfg mrEnable) && !transcriptOk s (fval cfg mrPort) then
      .fail (badarg (if (arg c 6).isSome then argIdx c 6 else argIdx c 7))
    else .done (updSw (fun w => { w with mirrors := tset {} w.mirrors m cfg }) s) ok

def execSwitchMirrorSet (r : CmdId) (s : State) : Res :=
  feljo 0x0A10 r (fun c s => adminOnly c (notBoot s (mirrorSet c s))) s

/-! ## Redundancy pairs (R365) -/

def rpair (s : State) (k : Nat) : RPair := tget {} s.sw.pairs k

/-- The port reads as INTERLINK and is a member of no other enabled pair. -/
def pairPortOk (s : State) (k p : Nat) : Bool :=
  isPhys p && fread (port s p).cfg prRole == 4 &&
    !(s.sw.pairs.any fun e => e.1 != k && fread e.2.cfg rpEnable == 1 && (pairMembers e.2.cfg).contains p)

def redundancySet (c : Cmd) (s : State) : Ans :=
  let k := argD c 2 0
  match writeKeys pairFields (fun _ => .run) c.params (rpair s k).cfg false with
  | .error r => .fail r
  | .ok (cfg, _) =>
    if (arg c 3).isSome && !pairPortOk s k (fread cfg rpFirst) then .fail (badarg (argIdx c 3))
    else if (arg c 4).isSome && (!pairPortOk s k (fread cfg rpSecond) || fread cfg rpSecond == fread cfg rpFirst) then
      .fail (badarg (argIdx c 4))
    else if fread cfg rpEnable = 1 ∧ (!pairPortOk s k (fread cfg rpFirst) ∨ !pairPortOk s k (fread cfg rpSecond) ∨
        fread cfg rpSecond = fread cfg rpFirst) then .fail (badarg (argIdx c 6))
    else .done (updSw (fun w => { w with pairs := tput w.pairs k { rpair s k with cfg := cfg, done := [] } }) s) stagedR

def execSwitchRedundancySet (r : CmdId) (s : State) : Res :=
  feljo 0x0A11 r (fun c s => adminOnly c (notBoot s (redundancySet c s))) s

/-- Sources a pair holds windows for. -/
def pairSources (s : State) (k : Nat) : Nat := ((s.sw.dd.filter fun d => d.pair == k).map (·.src)).eraseDups.length

def execSwitchRedundancyGet (r : CmdId) (s : State) : Res :=
  feljo 0x0A12 r (fun c s => adminOnly c (notBoot s
    (let k := argD c 2 0
     let x := rpair s k
     .done s (withOut (keyList pairFields x.cfg ++ le 4 (pairSources s k) ++ le 4 x.dup.toNat ++ le 4 x.outWindow.toNat ++
       le 4 x.wrongLan.toNat ++ le 4 x.nodeFull.toNat) (okOrStaged (anyStaged x.cfg)))))) s

/-! ## Shelves and stocktake (R350, R359, R360) -/

/-- Own shelf, own cells and common cells of a port by class, then the port's common cells. A port that is not physical
has one shelf for all classes, which stands in the place of class 0. -/
def shelfBytes (s : State) (p : Nat) : List Byte :=
  ((List.range 8).flatMap fun c =>
    le 4 (if isPhys p || c == 0 then ownSize s p c else 0) ++ le 4 (tget 0 (eg s p).ownUsed c) ++ le 4 (tget 0 (eg s p).comUsed c)) ++
    le 4 (eg s p).comPort

def execSwitchShelfGet (r : CmdId) (s : State) : Res :=
  feljo 0x0A13 r (fun c s => adminOnly c (notBoot s (.done s (withOut (shelfBytes s (argD c 1 0)) ok)))) s

def execSwitchStocktakeRun (r : CmdId) (s : State) : Res :=
  feljo 0x0A14 r (fun c s => adminOnly c (notBoot s (
    if s.sw.stRunning then .fail busy
    else .wait (addWait .stocktake (some c.id) (updSw (fun w => { w with stRunning := true }) s))))) s

/-! ## Settings of the core (R370) -/

def switchConfigSet (c : Cmd) (s : State) : Ans :=
  match writeKeys swFields (fun _ => .run) c.params s.sw.cfg false with
  | .error r => .fail r
  | .ok (cfg, stg) =>
    let s' := updSw (fun w => { w with cfg := cfg }) s
    if c.params.any (fun p => decide (8 ≤ p.key) && decide (p.key ≤ 11)) && !floorOk s' then .fail nospace
    else .done s' (okOrStaged stg)

def execSwitchConfigSet (r : CmdId) (s : State) : Res :=
  feljo 0x0A15 r (fun c s => adminOnly c (notBoot s (switchConfigSet c s))) s

end Sys2Proof.Machine
end

