-- ==== Sys2Proof/Machine/TimeCmds.lean ====
section
/-! DEFINITION. The time commands (R390, R392 to R394). -/

namespace Sys2Proof.Machine

/-- PTP_STATUS (R392). -/
def ptpStatus (s : State) : Nat :=
  let t := s.time
  t.state.code + b2n t.traceable * 8 + t.source % 4 * 16 + t.slavePort % 64 * 64 + b2n t.freqOk * 4096 + b2n t.ppsOk * 8192 +
    b2n t.stepped * 16384 + b2n (anyStaged t.cfg) * 32768 + b2n t.tsqOvf * 65536 + b2n t.ppsReject * 131072 +
    b2n t.wrDenied * 262144

/-- A time in 2^-16 ns as signed ns of `bits` bits, saturated. -/
def nsField (bits : Nat) (x : Int) : Nat :=
  enc bits (clampInt (-(2 ^ (bits - 1) : Nat)) ((2 ^ (bits - 1) : Nat) - 1) (roundDiv x nsU))

/-- The 64 bytes of `time.status.get`. -/
def timeStatus (s : State) : List Byte :=
  let t := s.time
  le 8 (nsField 64 t.offset) ++ le 4 (enc 32 t.freqAdj) ++ le 8 t.gmId ++ le 1 t.gmClass ++ le 1 t.gmAccuracy ++ le 2 t.gmSteps ++
    le 4 t.steps.toNat ++ le 8 (nsField 64 t.lastStep) ++ le 4 (nsField 32 t.ppsOffset) ++ le 4 (enc 32 t.altOffset) ++
    le 4 ((s.clk - t.stateAt) / sec1) ++ zeros 16

def execTimeStatusGet (r : CmdId) (s : State) : Res :=
  feljo 0x0B01 r (fun _ s => notBoot s (.done s (withOut (timeStatus s) { ok with res0 := ptpStatus s }))) s

def execTimeNowGet (r : CmdId) (s : State) : Res :=
  feljo 0x0B02 r (fun _ s => notBoot s (.done s { ok with full := true })) s

/-- A domain number is 0 to 127, or 254, which the profile of IEEE C37.238 has (R380, R394). -/
def timeCfgOk (c : Cfg) : Bool :=
  fread c tDomain == 254 || (fread c tProfile != 1 && decide (fread c tDomain ≤ 127))

def timeConfigSet (c : Cmd) (s : State) : Ans :=
  match writeKeys timeFields (fun _ => .run) c.params s.time.cfg false with
  | .error r => .fail r
  | .ok (cfg, stg) =>
    if !timeCfgOk cfg && ((arg c 4).isSome || (arg c 5).isSome) then
      .fail (badarg (if (arg c 4).isSome then argIdx c 4 else argIdx c 5))
    else .done (updTime (fun t => { t with cfg := cfg }) s) (okOrStaged stg)

def execTimeConfigSet (r : CmdId) (s : State) : Res :=
  feljo 0x0B03 r (fun c s => adminOnly c (notBoot s (timeConfigSet c s))) s

def execTimeConfigGet (r : CmdId) (s : State) : Res :=
  feljo 0x0B04 r (fun c s => adminOnly c (notBoot s
    (.done s (withOut (keyList timeFields s.time.cfg) (okOrStaged (anyStaged s.time.cfg)))))) s

/-- Ports that read as PTP ports. -/
def ptpEnabled (s : State) : List Nat := (List.range 48).filter fun p => fread (port s p).ptp tpEn == 1

def timePortSet (c : Cmd) (s : State) : Ans :=
  let p := argD c 1 0
  match writeKeys timePortFields (portMode (port s p)) c.params (port s p).ptp false with
  | .error r => .fail r
  | .ok (cfg, stg) =>
    let s' := updPort p (fun q => { q with ptp := cfg }) s
    if arg c 2 = some 1 ∧ fread s.time.cfg tType = 0 ∧ 1 < (ptpEnabled s').length then .fail (badarg (argIdx c 2))
    else .done s' (okOrStaged stg)

def execTimePortSet (r : CmdId) (s : State) : Res :=
  feljo 0x0B05 r (fun c s => adminOnly c (notBoot s (timePortSet c s))) s

/-- PSTATE, DELAY, TSQ_OVF, LAUNCH_LATE and FOREIGN of a port. -/
def ptpCounts (q : Port) : List Nat := [q.pstate, q.pdelay / nsU, q.tsqOvf.toNat, q.launchLate.toNat, q.foreign.toNat]

def execTimePortGet (r : CmdId) (s : State) : Res :=
  feljo 0x0B06 r (fun c s => adminOnly c (notBoot s
    (let q := port s (argD c 1 0)
     .done s (withOut (keyList timePortFields q.ptp ++ (ptpCounts q).flatMap (le 4)) (okOrStaged (anyStaged q.ptp)))))) s

/-- `time.restart`: staged fields take effect, and the clock state restarts (R375). -/
def timeRestart (s : State) : State :=
  let old := s.time.state
  let s := updTime (fun t => clockRestart s.clk { t with cfg := fapply timeFields t.cfg }) s
  let s := { s with ports := tmapD {} (fun _ q => { q with announce := none, sync := none, pstate := if fon q.ptp tpEn then 3 else 0 }) s.ports }
  let s := updTime (fun t => { t with freqOk := t.freqOk && fon t.cfg tFreqInEn }) s
  let s := if s.time.state = old then s else edge 0 11 (noteMod 0x0B02 0 noObj [old.code, s.time.state.code] s)
  autoRecovery (recJudge (finishWaits .timeSet stale s))

def execTimeRestart (r : CmdId) (s : State) : Res :=
  feljo 0x0B07 r (fun c s => adminOnly c (notBoot s
    (require (!(s.svc.state == .inService && anyGcl s)) (denied 1) (.done (timeRestart s) ok)))) s

def execTimeSet (r : CmdId) (s : State) : Res :=
  feljo 0x0B08 r (fun c s => adminOnly c (notBoot s
    (require (s.time.source == 2) stale
      (require (s.time.setSec.isNone) busy
        (.wait (addWait .timeSet (some c.id) (updTime (fun t => { t with setSec := some (argD c 2 0, argD c 3 0 == 1) }) s))))))) s

/-- The time counters of a port. -/
def ptpClear (q : Port) : Port := { q with tsqOvf := 0, launchLate := 0, foreign := 0 }

def execTimeCountersClear (r : CmdId) (s : State) : Res :=
  feljo 0x0B09 r (fun c s => adminOnly c (notBoot s (
    if argD c 1 0 = 0xFF then
      .done (updTime (fun t => { t with ppsRejects := 0 }) { s with ports := tmapD {} (fun _ q => ptpClear q) s.ports }) ok
    else .done (updPort (argD c 1 0) ptpClear s) ok))) s

end Sys2Proof.Machine
end

