-- ==== Sys2Proof/Machine/Flags.lean ====
section
/-! DEFINITION. The status flags that a host write of 1 clears (R7), block by block, and the 64-bit quantities read
under R6. -/

namespace Sys2Proof.Machine

/-- A W1C flag after a write: a 1 clears it, a 0 has no effect (R7). -/
def w1c (flag : Bool) (v i : Nat) : Bool := flag && !bitOf v i

/-! ## W1C words -/

/-- STATUS of a window: RING_ERR and DENIED_WR (R68). -/
def clearWin (n v : Nat) (s : State) : State :=
  withNtf n (updWin n fun w => { w with ringErr := w1c w.ringErr v 1, deniedWr := w1c w.deniedWr v 2 }) s

/-- ATU_STATUS (R127). -/
def clearAtu (v : Nat) (s : State) : State :=
  withNtf 0 (fun s => { s with atu := { s.atu with fault := w1c s.atu.fault v 20, ovf := w1c s.atu.ovf v 21 } }) s

/-- PTP_STATUS (R392). -/
def clearTime (v : Nat) (s : State) : State :=
  updTime (fun t => { t with stepped := w1c t.stepped v 14, tsqOvf := w1c t.tsqOvf v 16, ppsReject := w1c t.ppsReject v 17,
                             wrDenied := w1c t.wrDenied v 18 }) s

/-- PWR_STATUS.RAIL_FAULT (R59). -/
def clearRails (v : Nat) (s : State) : State :=
  updPwr (fun p => { p with railFault := clearMask 8 p.railFault (bitsOf v 6 8) }) s

/-- TDM_STATUS (R328). -/
def clearTdm (v : Nat) (s : State) : State :=
  withNtf 0 (updTdm fun t => { t with roleChg := w1c t.roleChg v 21, disagree := w1c t.disagree v 22 }) s

/-- TRP_OUT_STATUS (R297). -/
def clearOut (k v : Nat) (s : State) : State :=
  updOut k (fun o => { o with supFault := w1c o.supFault v 4, discEvt := w1c o.discEvt v 5, testFail := w1c o.testFail v 6,
                              maxPulse := w1c o.maxPulse v 7 }) s

/-- CHR_STATUS (R449). -/
def clearChr (v : Nat) (s : State) : State :=
  updChr (fun c => { c with droppedFlag := w1c c.droppedFlag v 3, repairedFlag := w1c c.repairedFlag v 4 }) s

/-- UPD_STATUS and KEY_STATUS (R477). -/
def clearUpd (v : Nat) (s : State) : State :=
  updUpd (fun u => { u with fellback := w1c u.fellback v 10, confirmed := w1c u.confirmed v 11 }) s

def clearKeys (v : Nat) (s : State) : State := updKeys (fun k => { k with depRej := w1c k.depRej v 5 }) s

/-- PRT_STATUS (R369). -/
def clearPort (p v : Nat) (s : State) : State :=
  updPort p (fun q => { q with pauseWd := w1c q.pauseWd v 6, wake := w1c q.wake v 8, wrDenied := w1c q.wrDenied v 14 }) s

/-- SWC_STATUS (R370). -/
def clearSw (v : Nat) (s : State) : State :=
  updSw (fun w => { w with leak := w1c w.leak v 1, countFix := w1c w.countFix v 2, fdbFull := w1c w.fdbFull v 3,
                           ddFull := w1c w.ddFull v 4 }) s

/-- ARC_STATUS (R417). -/
def clearArc (v : Nat) (s : State) : State :=
  updArc (fun a => { a with ignored := w1c a.ignored v 18, recycled := w1c a.recycled v 19, wrDenied := w1c a.wrDenied v 20 }) s

/-- NTF_X3_LATCH_R and NTF_X3_LATCH_F (R447). -/
def clearLatch (rise : Bool) (v : Nat) (s : State) : State :=
  updX3 (fun x => if rise then { x with regR := clearMask 20 x.regR v } else { x with regF := clearMask 20 x.regF v }) s

/-! ## 64-bit quantities (R6) -/

/-- The base registers of a window: the value a read of the pair returns. -/
def basePair (w : Window) (off : Nat) : Option Nat :=
  match off with
  | 0x000 => some (fread w.cfg wSqLo * 4096 + fread w.cfg wSqHi * 2 ^ 32)
  | 0x008 => some (fread w.cfg wCqLo * 4096 + fread w.cfg wCqHi * 2 ^ 32)
  | 0x040 => some (fread w.cfg wRxLo * 4096 + fread w.cfg wRxHi * 2 ^ 32)
  | 0x060 => some (fread w.cfg wTxLo * 4096 + fread w.cfg wTxHi * 2 ^ 32)
  | _ => none

/-- PWR_ pairs: they read as they are before MBX_READY too (R487). -/
def pwrPair (s : State) (off : Nat) : Option Nat :=
  match off with
  | 0x010 => some s.pwr.gated
  | 0x030 => some s.met.opsec
  | 0x160 => some s.met.snapPcs
  | _ => if 0x100 ≤ off ∧ off < 0x160 ∧ off % 8 = 0 then some (tget 0 s.met.snap ((off - 0x100) / 8)) else none

/-- Two successive counters of a port (R369): octets received and sent. -/
def octetPair (s : State) (p off : Nat) : Option Nat :=
  match off with
  | 0x104 => some ((tget 0 (port s p).counts 1).toNat + (tget 0 (port s p).counts 2).toNat * 2 ^ 32)
  | 0x130 => some ((tget 0 (port s p).counts 12).toNat + (tget 0 (port s p).counts 13).toNat * 2 ^ 32)
  | _ => none

/-- The 64-bit quantity whose low word lies at a BAR0 offset: its value now, and whether it reads so before MBX_READY,
where other registers return their reset value 0 (R487). The Chronicle and key pairs have the reset value `Restored`. -/
def lowWord (s : State) (addr : Nat) : Option (Bool × Nat) :=
  let n := (addr - 0x1000000) / 0x1000
  let off := addr % 0x1000
  if 0x1001000 ≤ addr ∧ addr < 0x1201000 then (basePair (win s n) off).map fun v => (false, v)
  else if 0x10000 ≤ addr ∧ addr < 0x1C000 then (octetPair s ((addr - 0x10000) / 0x400) (addr % 0x400)).map fun v => (false, v)
  else match addr / 0x1000 with
    | 1 => if off = 0 ∨ off = 8 then (basePair (win s 0) off).map fun v => (false, v) else none
    | 3 => if 0x100 ≤ off ∧ off < 0x200 ∧ off % 16 = 0 then
        some (false, match tfind s.atu.log ((off - 0x100) / 16) with
          | some r => r.addr
          | none => 0)
      else none
    | 6 => (pwrPair s off).map fun v => (true, v)
    | 7 => if off = 0x014 then some (false, s.tdm.closed) else none
    | 9 => if off = 0x008 then some (true, chrFirst s.chr) else if off = 0x010 then some (true, s.chr.next) else none
    | 10 => if off = 0x804 then some (true, s.keys.store.counter) else none
    | _ => none

end Sys2Proof.Machine
end

