-- ==== Sys2Proof/Machine/Ingress.lean ====
section
/-! DEFINITION. Ingress: frames received on physical ports (R335, R336, R340 to R344, R347 to R349, R358, R365 to R368),
frames taken from transmit rings (R95, R96, R389), and the upkeep of the tables and of the packet buffer (R343, R359,
R360, R368). -/

namespace Sys2Proof.Machine

/-! ## What a frame is -/

/-- The EtherType of a payload. -/
def etherType : Payload → Nat
  | .sv _ => 0x88BA
  | .goose _ => 0x88B8
  | .ptp _ => 0x88F7
  | .referee _ => 0x88B5
  | .pause _ => 0x8808
  | .supervision => 0x88FB
  | .other t _ => t

def isSvFrame (f : Frame) : Bool := etherType f.payload == 0x88BA
def isGooseFrame (f : Frame) : Bool := etherType f.payload == 0x88B8
def isPtpFrame (f : Frame) : Bool := etherType f.payload == 0x88F7

/-- Class of a frame received on a physical port (R341). -/
def classOf (s : State) (p : Nat) (f : Frame) : Nat :=
  if isSvFrame f then swf s swSvClass
  else if isGooseFrame f then swf s swGooseClass
  else if isPtpFrame f then 6
  else
    let pcp := match f.tag with
      | some t => t.pcp
      | none => portf s p prDefPcp
    bitsOf (portf s p prPcpMap) (3 * pcp) 3

/-- VLAN of a frame: its VID, or PVID for an untagged or priority-tagged frame (R342). -/
def vlanOf (s : State) (p : Nat) (f : Frame) : Nat :=
  match f.tag with
  | some t => if t.vid = 0 then portf s p prPvid else t.vid
  | none => portf s p prPvid

/-- Does the port accept the frame's tagging, and is it a member of the frame's VLAN (R342)? -/
def vlanAccepts (s : State) (p : Nat) (f : Frame) : Bool :=
  let tagged := match f.tag with
    | some t => t.vid != 0
    | none => false
  (match portf s p prAccept with
    | 1 => tagged
    | 2 => !tagged
    | _ => true) && vlanMember s (vlanOf s p f) p

/-- The priority a forwarded copy carries. -/
def pcpOf (s : State) (p : Nat) (f : Frame) : Nat :=
  match f.tag with
  | some t => t.pcp
  | none => portf s p prDefPcp

/-- The port receives (R333, R338): not SPARE, up, and on INTERLINK a member of an enabled pair. -/
def portReceives (s : State) (p : Nat) : Bool :=
  let q := port s p
  isPhys p && s.sw.forwarding && q.link && !q.held && portf s p prRole != 0 &&
    (portf s p prRole != 4 || (pairOf s p).isSome)

/-! ## Pause (R336) -/

/-- A pause frame: honoured in roles STATION and UPLINK with PAUSE_RX set, elsewhere discarded and counted. -/
def receivePause (p quanta : Nat) (s : State) : State :=
  if (portf s p prRole = 2 ∨ portf s p prRole = 3) ∧ portf s p prPauseRx = 1 then
    let dur := ceilDiv (quanta * 64 * byteTime (port s p).speedAct) 10
    updPort p (fun q =>
      let q := { q with lastPause := s.clk }
      if q.wdActive then q
      else if quanta = 0 then { q with paused := false, unpausedAt := if q.paused then s.clk else q.unpausedAt }
      else
        { q with paused := true, pauseEnd := s.clk + dur,
                 pausedSince := if q.paused || (q.pausedSince != 0 && decide (s.clk < q.unpausedAt + 100 * us)) then q.pausedSince else s.clk }) s
  else count p 7 s

/-! ## Duplicate discard (R368) -/

/-- The outcome of a judgement. -/
inductive Dup where
  | accept
  | duplicate
  | restart
  | unjudged
  deriving DecidableEq, Repr

/-- Is the window of an entry alive: heard within DD_AGE? -/
def ddLive (s : State) (w : DdWin) : Bool := decide (s.clk < w.last + swf s swDdAge * ms)

/-- The sources held. -/
def ddSources (s : State) : List (Nat × Nat) := (s.sw.dd.map fun w => (w.pair, w.src)).eraseDups

/-- The latest time a source was heard. -/
def ddHeard (s : State) (x : Nat × Nat) : Nat := maxOf ((s.sw.dd.filter fun w => (w.pair, w.src) == x).map (·.last))

/-- The source idle longest. -/
def ddOldest (s : State) : List (Nat × Nat) → Option (Nat × Nat)
  | [] => none
  | x :: t => match ddOldest s t with
    | some y => if ddHeard s y < ddHeard s x then some y else some x
    | none => some x

/-- Make room for a source: the table holds 8,192; the entry idle longest goes, if idle for more than DD_AGE. -/
def ddRoom (k src : Nat) (s : State) : Option State :=
  let l := ddSources s
  if l.contains (k, src) || decide (l.length < 8192) then some s
  else match ddOldest s l with
    | some x => if ddHeard s x + swf s swDdAge * ms < s.clk then
        some (updSw (fun w => { w with dd := w.dd.filter fun d => (d.pair, d.src) != x }) s) else none
    | none => some s

/-- Put a window in place of the one of the same pair, source and direction. -/
def ddPut (w : DdWin) (s : State) : State :=
  updSw (fun x => { x with dd := x.dd.filter (fun d => !(d.pair == w.pair && d.src == w.src && d.dir == w.dir)) ++ [w] }) s

/-- Judge sequence number `n` of a source on a pair in one direction (R368). -/
def ddJudge (k src dir n : Nat) (s : State) : Dup × State :=
  let fresh : DdWin := { pair := k, src := src, dir := dir, high := n, marks := [n], last := s.clk }
  match (s.sw.dd.find? fun w => w.pair == k && w.src == src && w.dir == dir).filter (ddLive s) with
  | some w =>
    let d := sext 16 (n + 65536 - w.high)
    if 0 < d then
      (.accept, ddPut { w with high := n, last := s.clk,
                               marks := n :: w.marks.filter fun m => decide (-2048 < sext 16 (m + 65536 - n)) } s)
    else if -2048 < d then
      if w.marks.contains n then (.duplicate, ddPut { w with last := s.clk } s)
      else (.accept, ddPut { w with marks := n :: w.marks, last := s.clk } s)
    else (.restart, ddPut fresh s)
  | none =>
    match ddRoom k src s with
    | some s => (.accept, ddPut fresh s)
    | none => (.unjudged, s)

/-- The counters of a judgement on a port: DUP, OUT_WINDOW, NODE_FULL. -/
def ddCount (p k : Nat) (o : Dup) (s : State) : State :=
  let pair (f : RPair → RPair) (s : State) : State := updSw (fun w => { w with pairs := tupd w.pairs k f }) s
  match o with
  | .accept => s
  | .duplicate => pair (fun r => { r with dup := r.dup + 1 }) (count p 8 s)
  | .restart => pair (fun r => { r with outWindow := r.outWindow + 1 }) (count p 10 s)
  | .unjudged => pair (fun r => { r with nodeFull := r.nodeFull + 1 })
      (updSw (fun w => { w with nodeFull := w.nodeFull + 1, ddFull := true }) s)

/-- Judge and count; true where the frame goes on. -/
def ddPass (p k src dir n : Nat) (s : State) : Bool × State :=
  let (o, s) := ddJudge k src dir n s
  (o != .duplicate, ddCount p k o s)

/-- A frame without its trailer or tag. -/
def strip (f : Frame) : Frame := { f with red := none, len := bareLen f + (if f.tag.isSome then 4 else 0) }

/-! ## Learning, capture, forwarding -/

/-- Learn a source address (R343). -/
def learn (p vid src : Nat) (s : State) : State :=
  let e : Fdb := { vid := vid, mac := src, static := false, group := false, target := p, seen := s.clk }
  if (portf s p prRole = 2 ∨ portf s p prRole = 3) ∧ portf s p prLearn = 1 ∧ isGroupMac src = false then
    match fdbFind s vid src with
    | some o => if o.static then s
                else updSw (fun w => { w with fdb := w.fdb.map fun x => if x.vid == vid && x.mac == src then e else x }) s
    | none => if s.sw.fdb.length < 32768 then updSw (fun w => { w with fdb := w.fdb ++ [e] }) s
              else updSw (fun w => { w with fdbFull := true }) s
  else s

/-- A referee port: its number is set, and the tandem function is enabled. -/
def refereePort (s : State) (p : Nat) : Bool :=
  !s.tdm.standalone && (fval s.tdm.cfg dRef0 == p || fval s.tdm.cfg dRef1 == p)

/-- Referee messages addressed to the module on a referee port (R341). -/
def refereeFrame (s : State) (p : Nat) (f : Frame) : Bool :=
  etherType f.payload == 0x88B5 && refereePort s p && f.dst == Config.baseMac

/-- The queued form of a frame received on a physical port. -/
def ingressCopy (s : State) (p fid cls : Nat) (f : Frame) : Copy :=
  { fid := fid, frame := f, cls := cls, ingress := p, arrival := s.clk, stamp := s.time.n - fval (port s p).ptp tpIngress * nsU,
    notTraceable := !s.time.traceable, own := 0, com := 0 }

/-! ## Cut-through (R347, R348) -/

/-- Would a copy have started cut-through (R347)? -/
def cutOk (s : State) (p o cls : Nat) (gains : Bool) : Bool :=
  let i := port s p
  let e := port s o
  fon e.cfg prCut && decide (e.speedAct ≤ i.speedAct) &&
    decide (fval i.cfg prMaxFrame + (if gains then 4 else 0) ≤ fval e.cfg prMaxFrame) && (queueOf s o cls).isEmpty &&
    !busyTx s o && portOpen s o && gateFits s o cls (fval i.cfg prMaxFrame) && (shelfCharge s o cls 1).isSome &&
    (pairOf s o).isNone

/-- A copy that was sent cut-through ends with the inverse of its FCS, counted in TAILMARK (R348); one on a virtual port is
dropped there (R94). -/
def tailMark (p vid pcp cls : Nat) (q : Copy) (o : Nat) (s : State) : State :=
  if isPhys o then
    let f := frameFor s o vid pcp none q.frame
    if cutOk s p o cls (f.tag.isSome && q.frame.tag.isNone) then
      let s := occupy o f.len cls s
      let s := count o 14 (countOctets o 12 f.len (count o 11 (emit (.frame o { f with fcs := 2 } s.time.n) s)))
      mirrorFrame o 1 { q with frame := { f with fcs := 2 } } s
    else s
  else if isVirt o && vportUp s (o - 50) && waitingCopies s o == 0 && rxFree (win s (o - 50)) != 0 && !busOff s && !s.pcie.down then
    deliverCopy (o - 50) { q with frame := frameFor s o vid pcp none q.frame } true s
  else s

/-- A copy sent cut-through that meets a cell that cannot be charged is truncated (R348, R351). -/
def cutShort (s : State) (p vid pcp n : Nat) (q : Copy) (o : Nat) : Bool :=
  let f := frameFor s o vid pcp none q.frame
  isPhys o && (port s o).link && (shelfCharge s o q.cls n).isNone && cutOk s p o q.cls (f.tag.isSome && q.frame.tag.isNone)

/-- The copies of a frame received on a physical port: as `copyAll`, but a copy cut short is tail-marked. -/
def forwardAll (p n vid pcp : Nat) (q : Copy) : List Nat → List Nat → State → State
  | [], _, s => s
  | o :: t, served, s =>
    if served.contains o then forwardAll p n vid pcp q t served s
    else match pairOf s o with
      | some (k, r) => forwardAll p n vid pcp q t (fval r.cfg rpFirst :: fval r.cfg rpSecond :: served) (copyPair k r n vid pcp q s)
      | none =>
        forwardAll p n vid pcp q t served
          (if cutShort s p vid pcp n q o then count o (24 + q.cls) (tailMark p vid pcp q.cls q o s)
           else copyTo o n { q with frame := frameFor s o vid pcp none q.frame } s)

/-- Steps 3 to 8 of R340, for the frame of a number. -/
def ingressRest (p fid : Nat) (f : Frame) (s : State) : State :=
  if !vlanAccepts s p f then count p 6 s
  else
    let vid := vlanOf s p f
    let cls := classOf s p f
    let s := learn p vid f.src s
    let q := ingressCopy s p fid cls f
    if isPtpFrame f then capture 50 q s
    else if refereeFrame s p f then capture 50 q s
    else
      let s := if isSvFrame f && (portf s p prRole == 1 || portf s p prRole == 4) then capture 48 q s else s
      let s := if isGooseFrame f then capture 49 q s else s
      forwardAll p (cellsOf f.len) vid (pcpOf s p f) q (destinations s p vid f.dst) [] s

/-- A PRP frame (R366): judged where it has a trailer, then stripped. -/
def prpIngress (p k fid : Nat) (r : RPair) (f : Frame) (s : State) : State :=
  match f.red with
  | some t =>
    if t.hsr || isPtpFrame f then ingressRest p fid f s
    else
      let s := if t.lan = lanOf r p then s
               else updSw (fun w => { w with pairs := tupd w.pairs k fun x => { x with wrongLan := x.wrongLan + 1 } }) (count p 9 s)
      let (go, s) := ddPass p k f.src 0 t.seq s
      if go then ingressRest p fid (strip f) s else s
  | none => ingressRest p fid f s

/-- Forward an HSR frame on the other ring port, unless that source and number have been sent there (R367). -/
def hsrForward (p k fid : Nat) (r : RPair) (n : Nat) (f : Frame) (s : State) : State :=
  let o := partnerOf r p
  let (go, s) := ddPass p k f.src (1 + lanOf r o) n s
  if go then
    copyTo o (cellsOf f.len) (ingressCopy s p fid (classOf s p f) f) s
  else s

/-- An HSR frame (R367). -/
def hsrIngress (p k fid : Nat) (r : RPair) (f : Frame) (s : State) : State :=
  match f.red with
  | some t =>
    if !t.hsr || isPtpFrame f then ingressRest p fid f s
    else if isOwnMac s f.src then s
    else
      let mine := isOwnMac s f.dst
      let s := if mine then s else hsrForward p k fid r t.seq f s
      if mine || isGroupMac f.dst || (fdbFind s (vlanOf s p f) f.dst).isSome then
        let (go, s) := ddPass p k f.src 0 t.seq s
        if go then ingressRest p fid (strip f) s else s
      else s
  | none => ingressRest p fid f s

/-! ## Bad frames (R348, R349) -/

/-- A frame that proves bad at its end: nothing of it goes on but the copies already started. A frame shorter than 64 bytes
starts none, and those of a pair or a transcript port are not sent cut-through. -/
def badFrame (p : Nat) (f : Frame) (s : State) : State :=
  if f.len < 64 || isPtpFrame f || isTranscript s p || (pairOf s p).isSome || !vlanAccepts s p f then s
  else
    let vid := vlanOf s p f
    let cls := classOf s p f
    let q := ingressCopy s p 0 cls f
    (destinations s p vid f.dst).foldl (fun s o => tailMark p vid (pcpOf s p f) cls q o s) s

/-! ## A received frame (R340) -/

/-- A frame received on a port that receives: the MAC checks first (R335, R349). -/
def receiveFrame (p : Nat) (f : Frame) (s : State) : State :=
  if f.len < 64 ∨ portf s p prMaxFrame < f.len then badFrame p f (count p 5 s)
  else if f.fcs = 2 then badFrame p f (count p 4 s)
  else if f.fcs ≠ 0 then badFrame p f (count p 3 s)
  else
    let s := countOctets p 1 f.len (count p 0 s)
    if isTranscript s p then count p 22 s
    else match f.payload with
      | .pause q => receivePause p q s
      | _ =>
        let (fid, s) := newFid s
        let s := mirrorFrame p 0 (ingressCopy s p fid (classOf s p f) f) s
        match pairOf s p with
        | some (k, r) => if isHsr r then hsrIngress p k fid r f s else prpIngress p k fid r f s
        | none => ingressRest p fid f s

def execPortFrameReceive (p : Nat) (frame : Frame) (s : State) : Res :=
  .next (if portReceives s p then receiveFrame p frame s else s)

/-! ## Transmit rings (R95, R96, R344, R389) -/

/-- Descriptors of a transmit ring posted and not yet taken. -/
def txPosted (w : Window) : Nat :=
  let n := ringLen (fval w.cfg wTxLog2)
  (w.txTail + n - w.txHead % n) % n

/-- One frame's descriptors: SOF on the first alone, EOF on the last alone, and every buffer of 1 to 9,216 bytes. -/
def descsOk (ds : List TxDesc) : Bool :=
  let k := ds.length
  (ds.zipIdx.all fun x => x.1.sof == (x.2 == 0) && x.1.eof == (x.2 + 1 == k) && decide (1 ≤ x.1.len) && decide (x.1.len ≤ 9216)) &&
    decide (sumOf (ds.map (·.len)) ≤ 9216)

/-- The VLAN of a frame from a virtual port: the first of its VLANs where untagged, its VID where the port holds it. -/
def vportVlan (v : Vport) (f : Frame) : Option Nat :=
  match f.tag with
  | some t => if t.vid = 0 then v.vlans.head? else if v.vlans.contains t.vid then some t.vid else none
  | none => v.vlans.head?

/-- Why a frame is dropped (R96); none where it is accepted. -/
def txReason (s : State) (n : Nat) (ds : List TxDesc) (f : Frame) : Option Nat :=
  let d := ds.headD { len := 0, sof := false, eof := false, tsreq := false, launch := false, cls := 0, launchTs := 0 }
  let off := stampDiff (BitVec.ofNat 32 d.launchTs) (ts32 s)
  if !descsOk ds || (vportVlan (vport s n) f).isNone then some 1
  else if !(vport s n).macs.contains f.src then some 2
  else if fval (vport s n).cfg vpMaxClass < d.cls then some 3
  else if d.launch && !(decide ((10 * us : Nat) ≤ off) && decide (off ≤ (500 * ms : Nat))) then some 4
  else none

/-- The first descriptor of `k` from index `i` whose read does not translate. -/
def txFault (s : State) (n : Nat) : Nat → Nat → Option (Nat × Nat)
  | _, 0 => none
  | i, k + 1 =>
    match atuCheck s n (txAddr (win s n) i) 32 false with
    | some x => some x
    | none => txFault s n ((i + 1) % ringLen (fval (win s n).cfg wTxLog2)) k

/-- A transmit buffer that does not translate: its address is what the host wrote into the descriptor, which this model
does not hold, so it is a free value. -/
def txBufFault (s : State) (n : Nat) : Nat → List TxDesc → Option (Nat × Nat)
  | _, [] => none
  | x, d :: t =>
    match atuCheck s n (Config.free 3 x) d.len false with
    | some y => some y
    | none => txBufFault s n (x + 1) t

/-- Hand a ring's frame in to the switch core; the age limit runs from here (R356). PTP from a virtual port enters no
lookup (R341). -/
def txHandIn (n first num cls : Nat) (tsreq : Bool) (launch : Option Nat) (f : Frame) (s : State) : State :=
  let last := (first + num - 1) % ringLen (fval (win s n).cfg wTxLog2)
  let ref : TxRef := { slice := n, idx := last, tsreq := tsreq }
  let vid := (vportVlan (vport s n) f).getD 0
  let pcp := match f.tag with
    | some t => t.pcp
    | none => 0
  let (fid, s) := newFid s
  let q : Copy :=
    { fid := fid, frame := f, cls := cls, ingress := 50 + n, arrival := s.clk, stamp := s.time.n,
      notTraceable := !s.time.traceable, own := 0, com := 0, tx := some ref, launch := launch }
  let s := updWin n (fun w => { w with txFrames := w.txFrames + 1 }) s
  let s := if isPtpFrame f then s else copyAll (cellsOf f.len) vid pcp q (destinations s (50 + n) vid f.dst) [] s
  if tsreq && txQueued s ref then
    updSw (fun w => { w with txWait := w.txWait ++ [ref] }) (txWriteBacks n (txWb 0 0 0 0) first (num - 1) s)
  else txDone n first num (txWb 0 0 0 0) s

/-- A frame of a ring has been read: dropped, held for its launch, or handed in. -/
def txFrame (n first : Nat) (ds : List TxDesc) (f : Frame) (s : State) : State :=
  let d := ds.headD { len := 0, sof := false, eof := false, tsreq := false, launch := false, cls := 0, launchTs := 0 }
  let f := { f with red := none, fcs := 0, len := max 64 (sumOf (ds.map (·.len)) + 4) }
  match txReason s n ds f with
  | some r => txDrop n first ds.length r s
  | none =>
    if d.launch then
      let t := (s.time.n : Int) + stampDiff (BitVec.ofNat 32 d.launchTs) (ts32 s) * nsU
      updSw (fun w => { w with launchWait := w.launchWait ++
        [{ slice := n, first := first, num := ds.length, launch := t.toNat, tsreq := d.tsreq, cls := d.cls, frame := f }] }) s
    else txHandIn n first ds.length d.cls d.tsreq none f s

/-- The ring may be read: enabled, not behind a launch, with the descriptors posted. -/
def txReady (s : State) (n k : Nat) : Bool :=
  decide (1 ≤ n) && decide (n ≤ 512) && hostReads s && fon (win s n).cfg wTxEn && decide (1 ≤ k) && decide (k ≤ txPosted (win s n)) &&
    !(s.sw.launchWait.any fun l => l.slice == n)
where
  /-- Host memory can be read. -/
  hostReads (s : State) : Bool := s.pwr.mbxReady && !s.pcie.down && !busOff s

def txFetch (n : Nat) (ds : List TxDesc) (f : Frame) (s : State) : State :=
  let first := (win s n).txHead
  match txFault s n first ds.length with
  | some (k, a) => txStop n (atuFault n k a false 5 0 s)
  | none =>
    let fresh := s.fresh
    let s := { s with fresh := s.fresh + ds.length }
    match txBufFault s n fresh ds with
    | some (k, a) => txStop n (atuFault n k a false 5 0 s)
    | none =>
      let s := updWin n (fun w => { w with txHead := (first + ds.length) % ringLen (fval w.cfg wTxLog2) }) s
      txFrame n first ds f s

def execTxFrameFetch (slice : Nat) (descs : List TxDesc) (frame : Frame) (s : State) : Res :=
  .next (if txReady s slice descs.length then txFetch slice descs frame s else s)

/-- Frames whose launch lies 5 µs ahead are handed in (R389). -/
def launchHandIns (s : State) : State :=
  let due (l : LaunchWait) : Bool := decide (l.launch ≤ s.time.n + 5 * us * nsU)
  if s.sw.launchWait.any due then
    (s.sw.launchWait.filter due).foldl (fun s l => txHandIn l.slice l.first l.num l.cls l.tsreq (some l.launch) l.frame s)
      (updSw (fun w => { w with launchWait := w.launchWait.filter fun l => !due l }) s)
  else s

/-! ## Upkeep of the tables (R343, R368) -/

def execFdbAgeExpiry (vid mac : Nat) (s : State) : Res :=
  .next (updSw (fun w => { w with fdb := w.fdb.filter fun e =>
    !(e.vid == vid && e.mac == mac && !e.static && decide (e.seen + swf s swFdbAge * sec1 ≤ s.clk)) }) s)

def execDdAgeExpiry (pair src : Nat) (s : State) : Res :=
  .next (updSw (fun w => { w with dd := w.dd.filter fun d => !(d.pair == pair && d.src == src && !ddLive s d) }) s)

/-! ## Stocktake (R359, R360) -/

/-- The copies queued on a port, by place of charge. -/
def walk (s : State) (p i : Nat) : List Copy :=
  (List.range 8).flatMap fun c => if chargeIdx p c = i then queueOf s p c else []

/-- The charges of a port as walked. -/
def walked (s : State) (p : Nat) (f : Copy → Nat) : Tab Nat :=
  (List.range 8).foldl (fun t i => tset 0 t i (sumOf ((walk s p i).map f))) []

/-- How many counters of two tables differ. -/
def countsDiffer (a b : Tab Nat) : Nat := ((List.range 8).filter fun i => tget 0 a i != tget 0 b i).length

/-- Correct the counters of one port; the number corrected. -/
def fixPort (p : Nat) (x : Nat × State) : Nat × State :=
  let (n, s) := x
  let own := walked s p (·.own)
  let com := walked s p (·.com)
  let e := eg s p
  let bad := countsDiffer e.ownUsed own + countsDiffer e.comUsed com
  if bad = 0 then x
  else (n + bad, updEg p (fun e => { e with ownUsed := own, comUsed := com, comPort := sumOf (com.map Prod.snd) }) s)

/-- The queued copies of every port. -/
def allCopies (s : State) : List Copy := s.sw.eg.flatMap fun e => e.2.queues.flatMap Prod.snd

/-- A pass: leaked cells return to the free list, and differing counters are set to what the walk found. -/
def stockPass (s : State) : Nat × Nat × State :=
  let ids := (allCopies s).map (·.fid)
  let held := s.sw.bufs.filter fun e => ids.contains e.1
  let used := sumOf (held.map fun e => e.2.1)
  let leaked := 131072 - used - s.sw.free
  let (fixed, s) := (tkeys s.sw.eg).foldl (fun x p => fixPort p x) (0, s)
  let com := sumOf ((allCopies s).map (·.com))
  (leaked, fixed, updSw (fun w =>
    { w with bufs := held.map fun e => (e.1, (e.2.1, (ids.filter fun i => i == e.1).length)), free := 131072 - used,
             commonUsed := com, mirUsed := sumOf ((allCopies s).map (·.mir)) }) s)

/-- The end of a pass (R360). -/
def stockEnd (leaked fixed : Nat) (s : State) : State :=
  let times := if leaked = 0 then s.sw.leakTimes else s.clk :: s.sw.leakTimes.filter fun t => decide (s.clk < t + 60 * sec1)
  let s := updSw (fun w =>
    { w with stRunning := false, stLast := s.clk, stGen := (w.stGen + 1) % 256, stPasses := w.stPasses + 1,
             stLeaked := w.stLeaked + BitVec.ofNat 32 leaked, stFixed := w.stFixed + BitVec.ofNat 32 fixed,
             leak := w.leak || leaked != 0, countFix := w.countFix || fixed != 0, leakTimes := times }) s
  let s := if leaked = 0 ∧ fixed = 0 then s else passError 0x0A03 noObj (noteMod 0x0A03 0 noObj [leaked, fixed] s)
  let s := if 3 ≤ times.length ∧ leaked ≠ 0 then setAlarm 7 s else s
  finishWaits .stocktake { ok with res0 := leaked, res1 := some fixed } s

/-- A pass is due: asked for, or ST_PERIOD after the last with STOCKTAKE_EN set. -/
def stockDue (s : State) : Bool :=
  s.sw.forwarding && (s.sw.stRunning || (swf s swStEn == 1 && decide (s.sw.stLast + swf s swStPeriod * ms ≤ s.clk)))

def execStocktake (s : State) : Res :=
  .next (if stockDue s then
      let (l, f, s) := stockPass s
      stockEnd l f s
    else s)

end Sys2Proof.Machine
end

