-- ==== Sys2Proof/Machine/ResyncOps.lean ====
section
/-! DEFINITION. What the images of a resynchronisation hold, and how the joiner applies them (R323). -/

namespace Sys2Proof.Machine

/-- The configuration that phase 2 compares: effective values of streams, filters, detectors, domains, instances with their
sets, programs, publications and subscriptions, outputs, and the service state and forces. -/
structure CfgCopy where
  streams : Tab Stream
  chans : Tab Cfg
  dets : Tab Cfg
  doms : Tab Dom
  insts : Tab Inst
  outs : Tab Cfg
  svc : Svc
  deriving DecidableEq, Repr

/-- The input state of phase 3, as it stood at a `clk` of the unit that captured it. -/
structure InCopy where
  clk : Nat
  streams : Tab Stream
  pairs : List Pair
  doms : Tab Dom
  deriving DecidableEq, Repr

/-- The state of phase 5: the saved states of R120, and what they do not hold. -/
structure StCopy where
  clk : Nat
  images : List Byte
  insts : Tab Inst
  dets : Tab Det
  outs : Tab Outp
  deriving DecidableEq, Repr

end Sys2Proof.Machine

namespace Sys2Proof

/-- The wire form of the images of R323, which the manual does not give: packing, and reading back. -/
opaque Config.packCfg (x : Machine.CfgCopy) : List Byte
opaque Config.readCfg (b : List Byte) : Option Machine.CfgCopy
opaque Config.packInputs (x : Machine.InCopy) : List Byte
opaque Config.readInputs (b : List Byte) : Option Machine.InCopy
opaque Config.packState (x : Machine.StCopy) : List Byte
opaque Config.readState (b : List Byte) : Option Machine.StCopy

end Sys2Proof

namespace Sys2Proof.Machine

/-! ## Phase 2 -/

def confStream (x : Stream) : Stream := { desc := x.desc, descStaged := x.descStaged, cfg := x.cfg }

def confDom (d : Dom) : Dom := { cfg := d.cfg, spares := tmapD {} (fun _ l => { cfg := l.cfg }) d.spares }

/-- An instance's configuration in effect; one that runs is recorded as RUNNING, and any other that is not EMPTY as HELD. -/
def confInst (i : Inst) : Inst :=
  { st := if i.st = .empty then .empty else if i.st = .running then .running else .held
    cfg := fdropStaged i.cfg
    streams := i.streams
    el := { img := i.el.img }
    lg := { prog := i.lg.prog, forces := i.lg.forces }
    pubs := tmap (fun _ u => { desc := u.desc, live := u.live }) i.pubs
    subs := tmap (fun _ u => { desc := u.desc, live := u.live }) i.subs }

def cfgCopy (s : State) : CfgCopy :=
  { streams := tmap (fun _ x => confStream x) s.sv.streams
    chans := s.filt.chans
    dets := tmap (fun _ d => d.cfg) s.filt.dets
    doms := tmap (fun _ d => confDom d) s.doms
    insts := tmap (fun _ i => confInst i) s.insts
    outs := tmap (fun _ o => o.cfg) s.trip.outs
    svc := s.svc.state }

/-- The items of a copy: one that is equal to the own stays as it is, another is made from the copy. -/
def takeItems {α β : Type} [DecidableEq β] (conf : α → β) (make : Option α → β → α) (own : Tab α) (copy : Tab β) : Tab α :=
  copy.map fun (e : Nat × β) =>
    match tfind own e.1 with
    | some x => (e.1, if conf x = e.2 then x else make (some x) e.2)
    | none => (e.1, make none e.2)

/-- An instance as a copy gives it: HELD, its program to be placed by its restart. -/
def instFrom (old : Option Inst) (c : Inst) : Inst :=
  { c with st := if c.st = .empty then .empty else .held
           lastStep := (old.map (·.lastStep)).getD 0
           lg := { c.lg with prog := none, staged := c.lg.prog } }

/-- The items of a configuration copy that differ are applied. -/
def putCfg (k : CfgCopy) (s : State) : State :=
  syncPairs { s with
    sv := { s.sv with streams := takeItems confStream (fun o c => { c with counts := (o.map (·.counts)).getD [] }) s.sv.streams k.streams }
    filt := { s.filt with
      chans := k.chans
      dets := takeItems (fun (d : Det) => d.cfg) (fun o c => { (o.getD {}) with cfg := c }) s.filt.dets k.dets }
    doms := takeItems confDom (fun o c => { (o.getD {}) with cfg := c.cfg, spares := c.spares }) s.doms k.doms
    insts := takeItems confInst instFrom s.insts k.insts
    trip := { s.trip with outs := takeItems (fun (o : Outp) => o.cfg) (fun o c => { (o.getD {}) with cfg := c }) s.trip.outs k.outs } }

/-- The instances that run on the ACTIVE unit stop on the joiner, and restart. -/
def restartCopied (k : CfgCopy) (s : State) : State :=
  let ns := (k.insts.filter fun (e : Nat × Inst) => e.2.st == .running).map Prod.fst
  (ns.foldl (fun st n => startOne n st) (s, s)).1

/-- Phase 2 at the joiner: nothing changes where the configurations are equal. -/
def applyCfg (k : CfgCopy) (s : State) : State :=
  if k = cfgCopy s then s
  else
    let s := (runningInsts s).foldl (fun s n => changeInst n .held 2 noObj true s) s
    let s := restartCopied k (putCfg k s)
    if k.svc = s.svc.state then s else svcOthers k.svc (svcCommit k.svc 1 s)

/-- The items of a table, each changed with the copy's item of its number where there is one. -/
def fromCopy {α : Type} (f : α → α → α) (copy own : Tab α) : Tab α := tmap (fun k o => ((tfind copy k).map (f o)).getD o) own

/-! ## Phase 3 -/

def inCopy (s : State) : InCopy := { clk := s.clk, streams := s.sv.streams, pairs := s.filt.pairs, doms := s.doms }

/-- An instant of another unit's `clk` on this unit's. -/
def reclk (was now t : Nat) : Nat := t + now - was

/-- A stream as the ACTIVE unit has it; configuration and counters stay the own. -/
def streamFrom (was now : Nat) (o c : Stream) : Stream :=
  { c with desc := o.desc, descStaged := o.descStaged, cfg := o.cfg, counts := o.counts, authLog := o.authLog, pushed := o.pushed,
           restart := o.restart, lastAt := reclk was now c.lastAt, aheadAt := tmap (fun _ t => reclk was now t) c.aheadAt,
           arrivals := c.arrivals.map fun a => (a.1, reclk was now a.2) }

/-- A pair as the ACTIVE unit has it; its window stays the own. -/
def pairFrom (cs : List Pair) (p : Pair) : Pair :=
  match cs.find? fun c => c.chan == p.chan && c.dom == p.dom with
  | some c => { p with next := c.next, t0 := c.t0, settling := c.settling }
  | none => p

/-- A domain as the ACTIVE unit has it; configuration, counters, spare loops and the step in progress stay the own. -/
def domFrom (o c : Dom) : Dom :=
  { c with cfg := o.cfg, coasts := o.coasts, glides := o.glides, spares := o.spares, stepOpen := o.stepOpen,
           stepAngle := o.stepAngle, stepAt := o.stepAt }

/-- Phase 3 at the joiner. -/
def applyInputs (k : InCopy) (s : State) : State :=
  { s with
    sv := { s.sv with streams := fromCopy (streamFrom k.clk s.clk) k.streams s.sv.streams }
    filt := { s.filt with pairs := s.filt.pairs.map (pairFrom k.pairs) }
    doms := fromCopy domFrom k.doms s.doms }

/-! ## Phase 5 -/

/-- The images of every instance at a close (R120, R323): each saved state is whole in itself. -/
def stateImages (s : State) : List Byte :=
  (s.insts.filter fun e => e.2.st != .empty).flatMap fun (e : Nat × Inst) => savedState s e.1 e.2.lastStep

def stCopy (s : State) : StCopy :=
  { clk := s.clk, images := stateImages s, insts := s.insts, dets := s.filt.dets, outs := s.trip.outs }

/-- Apply images one after another. -/
def applyImages : Nat → List Byte → State → State
  | 0, _, s => s
  | n + 1, b, s =>
    let len := leAt b 8 4
    if len = 0 then s else applyImages n (b.drop len) (applySaved (leAt b 12 2) (b.take len) s)

/-- A subscription's state; descriptor and counters stay the own. -/
def subFrom (was now : Nat) (o c : Sub) : Sub :=
  { o with staged := c.staged, started := c.started, valid := c.valid, test := c.test, bits := c.bits, stNum := c.stNum, sqNum := c.sqNum,
           data := c.data, simActive := c.simActive, tal := reclk was now c.tal }

/-- Subscriptions, forces and the accepted writes that wait for a restart. -/
def instState (was now : Nat) (o c : Inst) : Inst :=
  { o with
    cfg := { o.cfg with staged := c.cfg.staged }
    streamsStaged := c.streamsStaged
    el := { o.el with staged := c.el.staged, fieldsOnly := c.el.fieldsOnly }
    lg := { o.lg with staged := c.lg.staged, forces := c.lg.forces }
    pubs := tmap (fun p u => { u with staged := (tfind c.pubs p).bind (·.staged) }) o.pubs
    subs := fromCopy (subFrom was now) c.subs o.subs }

/-- A detector's state. -/
def detFrom (o c : Det) : Det := { o with state := c.state, run := c.run, lastK := c.lastK, event := c.event }

/-- The evaluated state of an output (R277); the lines of a muted unit stay low. -/
def outFrom (was now : Nat) (o c : Outp) : Outp :=
  { o with energised := c.energised, trip := c.trip, powReq := c.powReq, pow := c.pow, blocked := c.blocked, minDone := c.minDone,
           energAt := reclk was now c.energAt, lastReq := c.lastReq.map (reclk was now) }

/-- Phase 5 at the joiner: the sweeps of the ballots up to the captured one have no more effect. -/
def applyState (k : StCopy) (s : State) : State :=
  let s := applyImages 513 k.images s
  { s with
    insts := fromCopy (instState k.clk s.clk) k.insts s.insts
    filt := { s.filt with dets := fromCopy detFrom k.dets s.filt.dets }
    trip := { s.trip with outs := fromCopy (outFrom k.clk s.clk) k.outs s.trip.outs }
    tdm := { s.tdm with sweepTodo := s.tdm.sweepTodo.filter fun w => decide (s.tdm.c1 < w.ballot) } }

/-! ## Whole images -/

/-- An image after the instant in its first 8 bytes. -/
def imageOf (s : State) (p : Nat) : List Byte := (tget [] s.tdm.rsImage p).drop 8

/-- The joiner applies the image of a phase; one that cannot be read changes nothing. -/
def applyPhase (p : Nat) (s : State) : State :=
  match p with
  | 2 => match Config.readCfg (imageOf s 2) with
    | some k => applyCfg k s
    | none => s
  | 3 => match Config.readInputs (imageOf s 3) with
    | some k => applyInputs k s
    | none => s
  | _ => match Config.readState (imageOf s 5) with
    | some k => applyState k s
    | none => s

end Sys2Proof.Machine
end

