-- ==== Sys2Proof/Machine/LinkOps.lean ====
section
/-! DEFINITION. Shared operations of the tandem link: reception in order (R301, R302) and what each frame does (R304 to
R311, R314, R322, R323, R325, R445); and of the referee: reception (R315, R316) and its messages (R317, R320). -/

namespace Sys2Proof.Machine

/-! ## Sessions and TCL (R322) -/

/-- The range of levels of the running image. -/
def tclRange (s : State) : Nat × Nat := ((runBank s).tclMin, (runBank s).tclMax)

/-- The highest level that both units support. -/
def tclCommon (s : State) (lo hi : Nat) : Option Nat :=
  let r := tclRange s
  if max r.1 lo ≤ min r.2 hi then some (min r.2 hi) else none

/-- A HELLO opens the session under the chair's proposal; a joiner's resynchronisation begins. -/
def linkHello (position pairId lo hi proposal : Nat) (s : State) : State :=
  if s.tdm.session.isSome || pairId != tdmf s dPairId || position == tdmf s dPosition then s
  else
    let s := updTdm (fun t => { t with peerTclMin := lo, peerTclMax := hi }) s
    match tclCommon s lo hi with
    | none => updTdm (fun t => { t with roleCause := if t.role = .detached then 12 else t.roleCause }) s
    | some l =>
      updTdm (fun t =>
        { t with session := some (if isChair s then t.proposal else proposal), tcl := l, txSeq := 0, rxSeq := 0, unacked := [],
                 rxAhead := [], phase := if t.role = .detached ∨ t.role = .active then 1 else 0, phaseAt := s.clk, startAt := s.clk,
                 bytesSent := 0, verified := 0, rsImage := [], rsDone := [] }) s

/-! ## What a frame does -/

/-- IDLE: the partner's role and alarm bits (R301, R314, R445). -/
def linkIdle (role alarms : Nat) (s : State) : State :=
  let r := Role.ofCode role
  let bit := bitOf alarms 9
  let s := if bit && !s.tdm.peerChrFailed then setAlarm 10 (noteMod 0x0904 0 noObj [] s) else s
  let s := updTdm (fun t =>
    { t with peerChrFailed := bit, peerRole := r, peerActiveAt := if r == some .active then some s.clk else t.peerActiveAt }) s
  if s.tdm.role = .standby ∧ r ≠ some .active ∧ s.tdm.granted.isNone then
    toDetached 5 (updTdm (fun t => { t with inStep := false }) s)
  else if s.tdm.role = .active ∧ r = some .standby ∧ s.tdm.phase = 6 then updTdm (fun t => { t with phase := 0 }) s
  else if s.tdm.role = .active ∧ (r = some .isolated ∨ (r = some .detached ∧ s.tdm.phase = 0)) then
    updTdm (fun t => { t with inStep := false, phase := if r = some .detached then 1 else 0, phaseAt := s.clk }) s
  else s

/-- A NOTICE record (R304, R305). -/
def linkNotice (x : NoticeRec) (s : State) : State :=
  let s := learnInput x.input s
  let s := updInput x.input (fun y => if x.kind = 1 then { y with peerMissing := true } else { y with peerCrc := some x.crc }) s
  if isChair s then chairJudge x.input s else s

/-- FORWARD at the chair (R305). -/
def linkForward (id : InputId) (d : InputData) (s : State) : State :=
  match findInput s id with
  | some x =>
    if x.settled.isSome || decide (x.period ≤ s.tdm.closed) then tdmCount 4 s
    else
      let s := tdmCount 2 s
      if x.own.isSome then chairJudge id (updInput id (fun y => { y with peerCrc := some (Config.contentCrc d) }) s)
      else settleInput id true (some d) s
  | none => tdmCount 4 s

/-- A settlement at the follower (R305). -/
def linkSettle (x : SettleRec) (s : State) : State :=
  let s := learnInput x.input s
  let s := if x.present && x.content.isSome then tdmCount 2 s else s
  settleInput x.input x.present x.content s

/-- REPORT: step digests, and X3 states at a period's end (R310). -/
def linkReport (ballot : Nat) (ds : List StepDigest) (x3 : Option Nat) (s : State) : State :=
  let s := updTdm (fun t =>
    { t with stepPeer := t.stepPeer ++ ds, peerX3 := match x3 with
        | some v => tput t.peerX3 ballot v
        | none => t.peerX3 }) s
  compareSteps s

/-- A sweep digest of the partner; 0 where its sweep has not ended. -/
def peerSweep (b crc : Nat) (s : State) : State :=
  if crc = 0 then s else compareSweeps (updTdm (fun t => { t with sweepPeer := tput t.sweepPeer b crc }) s)

/-- CLOSE at the follower (R308). -/
def linkClose (b : Nat) (steps : List (Nat × Nat)) (crc : Nat) (s : State) : State :=
  if isChair s || !s.tdm.inStep || decide (b ≤ s.tdm.closed) then s
  else
    let s := closeBallot b (steps.foldl (fun t e => tput t e.1 e.2) []) s
    let s := linkSend (.closeAck b (tget 0 s.tdm.sweepOwn (b - 1))) s
    peerSweep (b - 1) crc s

/-- A carried change at the partner. -/
def linkCarry (ident op slice effect : Nat) (params : List (Nat × Nat)) (input : List Byte) (s : State) : State :=
  updTdm (fun t => { t with carried := t.carried ++
    [{ ident := ident, op := op, slice := slice, effect := effect, params := params, input := input, cmd := none, status := none,
       peer := none }] }) s

/-- The partner's result (R325): for a handover ballot it confirms the grant (R320). -/
def linkCarryAck (ident status : Nat) (s : State) : State :=
  match s.tdm.carried.find? fun k => k.ident == ident with
  | some k =>
    let s := updTdm (fun t => { t with carried := t.carried.filter fun x => x.ident != ident || (x.status.isNone && x.op != 0x0904) }) s
    if k.op = 0x0904 then updTdm (fun t => { t with confirmed := true }) s
    else match k.status with
      | some st => if st = status then s else disagree s
      | none => s
  | none => s

/-- A chunk of a resynchronisation image (R323). A chunk that opens a phase names its instant in its first 8 bytes. -/
def linkResync (c : ResyncChunk) (s : State) : State :=
  let b := if c.offset = 0 then c.bytes else tget [] s.tdm.rsImage c.phase ++ c.bytes
  let done := s.tdm.rsDone.filter fun p => p != c.phase
  updTdm (fun t =>
    { t with rsImage := tput t.rsImage c.phase b, rsDone := if c.last then c.phase :: done else done, bytesSent := t.bytesSent + c.bytes.length,
             c0 := if c.phase = 3 ∧ c.offset = 0 then leAt c.bytes 0 8 else t.c0,
             c1 := if c.phase = 5 ∧ c.offset = 0 then leAt c.bytes 0 8 else t.c1 }) s

/-- The partner's GASP: the link is dead at once, and the referee is told (R314, R316). -/
def linkGasp (cause : Nat) (s : State) : State :=
  let s := linkDie 6 s
  let s := refSend 0x0005 cause 0 s
  updTdm (fun t => { t with peerGasp := 1, peerGaspAt := s.clk, peerGaspSeq := t.refSeq }) s

/-- Resend frames of a range of numbers; one that has been sent four times kills the link (R302). -/
def linkResend (p : SentFrame → Bool) (s : State) : State :=
  let due := s.tdm.unacked.filter p
  if due.any fun f => decide (4 ≤ f.sends) then linkDie 5 s
  else due.foldl (fun s f =>
    linkOut true f.seq f.body (tdmCount 6 (updTdm (fun t =>
      { t with unacked := t.unacked.map fun x => if x.seq = f.seq then { x with sends := x.sends + 1, at_ := s.clk } else x }) s))) s

/-- The effect of a frame of the session. -/
def linkEffect (h : LinkHdr) (body : LinkBody) (s : State) : State :=
  match body with
  | .idle r _ _ a => linkIdle r a s
  | .notice recs => recs.foldl (fun s x => linkNotice x s) s
  | .forward id d => linkForward id d s
  | .settle recs => recs.foldl (fun s x => linkSettle x s) s
  | .report ds x3 => linkReport h.ballot ds x3 s
  | .close b _ steps crc => linkClose b steps crc s
  | .closeAck b crc => peerSweep (b - 1) crc s
  | .carry i o sl e ps inp => linkCarry i o sl e ps inp s
  | .carryAck i st => linkCarryAck i st s
  | .nak a b => linkResend (fun f => decide (a ≤ f.seq) && decide (f.seq ≤ b)) s
  | .gasp c => linkGasp c s
  | .hello _ _ _ _ _ _ => s
  | .resync c => linkResync c s

/-- Take the frames that are next in order. -/
def linkDrain : Nat → State → State
  | 0, s => s
  | n + 1, s =>
    match s.tdm.rxAhead.find? fun x => x.1 == s.tdm.rxSeq + 1 with
    | some x =>
      linkDrain n (linkEffect x.2.1 x.2.2 (updTdm (fun t =>
        { t with rxSeq := t.rxSeq + 1, rxAhead := t.rxAhead.filter fun y => y.1 != x.1 }) s))
    | none => s

/-- A lane has carried a valid frame. -/
def laneSeen (lane : Nat) (s : State) : State :=
  updTdm (fun t => if lane = 0 then { t with laneA := true, lastA := s.clk } else { t with laneB := true, lastB := s.clk }) s

/-- A frame of the session: acknowledgement, IDLE, duplicates, gaps, and its effect in order. -/
def linkFrame (h : LinkHdr) (body : LinkBody) (s : State) : State :=
  let s := laneSeen h.lane (updTdm (fun t => { t with unacked := t.unacked.filter fun f => decide (h.ack < f.seq) }) s)
  match body with
  | .idle r _ _ a =>
    let s := linkIdle r a s
    if s.tdm.rxSeq < h.seq ∧ s.tdm.rxAhead.isEmpty then linkSend (.nak (s.tdm.rxSeq + 1) h.seq) s else s
  | _ =>
    if h.seq ≤ s.tdm.rxSeq ∨ s.tdm.rxAhead.any fun x => x.1 == h.seq then s
    else
      let s' := updTdm (fun t => { t with rxAhead := t.rxAhead ++ [(h.seq, h, body)] }) s
      let s' := if h.seq = s.tdm.rxSeq + 1 then s' else linkSend (.nak (s.tdm.rxSeq + 1) (h.seq - 1)) s'
      linkDrain (s'.tdm.rxAhead.length + 1) s'

/-- A link frame arrives on a lane (R301): its tag is checked; a HELLO opens a session, and any other frame belongs to the
present one or is discarded. -/
def linkArrive (h : LinkHdr) (body : LinkBody) (s : State) : State :=
  if s.tdm.standalone || s.pwr.phase != 9 || s.pwr.pfw == .linksDown || s.pwr.pfw == .pcieDown || s.pwr.pfw == .entered then s
  else if h.tag ≠ Config.linkTag (linkKey s) { h with lane := 2, tag := 0 } body then tdmCount 10 s
  else match body with
    | .hello _ pos pair lo hi prop =>
      if s.tdm.session.isSome then s else linkHello pos pair lo hi prop (laneSeen h.lane s)
    | _ => if s.tdm.session == some h.session then linkFrame h body s else s

/-! ## The referee (R315 to R317, R320) -/

/-- The referee message of a code that waits longest. -/
def refTake (code : Nat) (s : State) : Option (Copy × RefMsg × State) :=
  match takeFrom 50 (fun q => match q.frame.payload with
      | .referee m => m.msg == code
      | _ => false) 8 s with
  | some (q, s') => match q.frame.payload with
    | .referee m => some (q, m, s')
    | _ => none
  | none => none

/-- A message from the referee shows that its path replies. -/
def refSeenOn (port : Nat) (m : RefMsg) (s : State) : State :=
  updTdm (fun t =>
    if port = fval t.cfg dRef0 then { t with ref0 := true, refLast0 := s.clk, rcvd0 := some m }
    else { t with ref1 := true, refLast1 := s.clk, rcvd1 := some m }) s

/-- A message of a code is taken: tag, pair, sender, GEN and SEQ are judged, and an accepted one has its effect. -/
def refArrive (code : Nat) (k : RefMsg → State → State) (s : State) : State :=
  match refTake code s with
  | none => s
  | some (q, m, s) =>
    if m.tag ≠ Config.refTag (refKey s) { m with tag := 0 } then tdmCount 11 s
    else if m.pairId ≠ tdmf s dPairId ∨ m.unit ≠ 0xFF then s
    else
      let s := refSeenOn q.ingress m s
      if m.gen < s.tdm.genHigh ∨ s.tdm.refSeen.contains m.seq then s
      else
        let stale := code == 0x0009 && decide (m.gen ≤ s.tdm.genHigh)
        let s := updTdm (fun t => { t with genHigh := max t.genHigh m.gen, refSeen := (m.seq :: t.refSeen).take 256 }) s
        if stale then s else k m s

/-- Why a grant is refused (R316, R317): the reason code. The partner's ACTIVE role refuses an unplanned grant only, since in
a planned switch-over the partner is ACTIVE (R320). -/
def grantBad (s : State) (h : Nat) : Option Nat :=
  let recent : Bool := match s.tdm.peerActiveAt with
    | some t => decide (s.clk ≤ t + tdmf s dLinkDead * us)
    | none => false
  if s.tdm.role = .isolated then some 3
  else if s.sig.fault then some 2
  else if h = 0 ∧ s.tdm.session.isSome ∧ recent then some 1
  else if h ≠ 0 ∧ h < s.tdm.ballot + 4 then some 4
  else none

/-- A GRANT: accepted, it makes the unit ACTIVE at a ballot close. -/
def takeGrant (m : RefMsg) (s : State) : State :=
  match grantBad s m.arg with
  | some r => refSend 0x000B r 0 s
  | none =>
    let s := updTdm (fun t =>
      { t with gen := m.gen, granted := some m.arg, peerGasp := 0, phase := 0, inStep := t.inStep && t.phase == 0 }) s
    let s := refSend 0x000A 0 (if m.arg = 0 then s.tdm.closed + 1 else m.arg) s
    if m.arg = 0 then s
    else match s.tdm.carried.find? fun k => k.op == 0x0904 with
      | some k => linkSend (.carryAck k.ident 0) (updTdm (fun t => { t with carried := t.carried.filter fun x => x.op != 0x0904 }) s)
      | none => s

/-- A REVOKE: with FORCE the unit is DETACHED at once, else a planned switch-over begins (R320). -/
def takeRevoke (m : RefMsg) (s : State) : State :=
  if s.tdm.role ≠ .active then s
  else if bitOf m.arg 0 then
    let s := if s.tdm.switchH.isSome || waiting .switchover s then
        finishWaits .switchover (aborted 2) (updTdm (fun t => { t with switchH := none, confirmed := false, pubsStopped := false }) s) else s
    toDetached 4 (refSend 0x000D 0 0 (updTdm (fun t => { t with inStep := false, phase := 0 }) s))
  else if s.tdm.peerRole ≠ some .standby ∨ !s.tdm.inStep then abortSwitch 1 s
  else
    let h := s.tdm.ballot + 16
    let k : Carried := { ident := s.tdm.carryId, op := 0x0904, slice := noObj, effect := h, params := [(2, h)], input := [],
                         cmd := none, status := some 0, peer := none }
    linkSend (.carry k.ident k.op k.slice k.effect k.params k.input)
      (refSend 0x000D 0 h (updTdm (fun t =>
        { t with switchH := some h, confirmed := false, carried := t.carried ++ [k], carryId := t.carryId + 1 }) s))

/-! ## Resynchronisation (R323) -/

/-- Bound of a phase, in ns: phase 4 takes 4 cycles of the slowest domain in use at its FMIN. -/
def phaseBound (s : State) (p : Nat) : Nat :=
  let slow := (s.insts.filter fun e => e.2.st == .running).foldl (fun m e => min m (fval (dom s (instDom e.2)).cfg aFmin)) 7200
  match p with
  | 1 => 10 * ms
  | 2 => 2050 * ms
  | 3 => 2 * ms
  | 4 => 400 * sec1 / max slow 1
  | 5 => 50 * ms
  | _ => 4 * ms

/-- Bytes that one RESYNC frame carries at most (R301). -/
def chunkLen : Nat := 4040

/-- Send an image in RESYNC frames, its instant first. -/
def sendImage (phase instant : Nat) (img : List Byte) (s : State) : State :=
  let b := le 8 instant ++ img
  let n := (b.length + chunkLen - 1) / chunkLen
  (List.range n).foldl (fun s i =>
    let part := sliceOf b (chunkLen * i) chunkLen
    linkSend (.resync { phase := phase, offset := chunkLen * i, last := i + 1 == n, bytes := part })
      (updTdm (fun t => { t with bytesSent := t.bytesSent + part.length }) s)) s

/-- Enter a phase. -/
def enterPhase (p : Nat) (s : State) : State := updTdm (fun t => { t with phase := p, phaseAt := s.clk }) s

/-- A phase completes. The ACTIVE unit sends the image of the phase it enters; the joiner applies the one of the phase it
leaves, ballots with its partner from phase 4 on, and is STANDBY after phase 6. -/
def nextPhase (s : State) : State :=
  let lead := s.tdm.role == .active
  match s.tdm.phase with
  | 1 => enterPhase 2 (if lead then sendImage 2 s.tdm.closed (Config.packCfg (cfgCopy s)) s else s)
  | 2 =>
    if lead then
      enterPhase 3 (updTdm (fun t => { t with c0 := t.closed, inStep := true })
        (sendImage 3 s.tdm.closed (Config.packInputs (inCopy s)) s))
    else enterPhase 3 (applyPhase 2 s)
  | 3 => enterPhase 4 (updTdm (fun t => { t with inStep := true }) (if lead then s else applyPhase 3 s))
  | 4 =>
    if lead then
      enterPhase 5 (updTdm (fun t => { t with c1 := t.closed }) (sendImage 5 s.tdm.closed (Config.packState (stCopy s)) s))
    else enterPhase 5 s
  | 5 =>
    if lead then enterPhase 6 s
    else enterPhase 6 (updTdm (fun t => { t with rsImage := [], rsDone := [], verified := 0 }) (applyPhase 5 s))
  | _ =>
    if lead then s
    else setRole .standby 9 (updTdm (fun t => { t with phase := 0, attempts := 0 }) s)

/-- May the present phase end? The joiner waits for the image of phases 2, 3 and 5. -/
def phaseDone (s : State) : Bool :=
  let lead := s.tdm.role == .active
  s.tdm.session.isSome && match s.tdm.phase with
    | 0 => false
    | 1 => lead || s.tdm.peerRole == some .active
    | 4 => decide (s.tdm.phaseAt + phaseBound s 4 ≤ s.clk)
    | 6 => !lead && decide (16 ≤ s.tdm.verified)
    | p => lead || s.tdm.rsDone.contains p

end Sys2Proof.Machine
end

