-- ==== Sys2Proof/Machine/Tandem.lean ====
section
/-! DEFINITION. The tandem commands (R329, R330), the events of the link, of the ballot, of the referee and of
resynchronisation (R301 to R326), and the demotion of R30. -/

namespace Sys2Proof.Machine

/-! ## Commands -/

/-- TDM_STATUS (R328). -/
def tdmStatus (s : State) : Nat :=
  let t := s.tdm
  (if t.standalone then 0 else t.role.code) + b2n t.laneA * 4 + b2n t.laneB * 8 + b2n t.session.isSome * 16 + b2n t.inStep * 32 +
    (match t.peerRole with
     | some r => r.code
     | none => 0) * 64 + b2n t.ref0 * 256 + b2n t.ref1 * 512 + t.phase * 1024 + t.roleCause * 131072 + b2n t.roleChg * 2097152 +
    b2n t.disagree * 4194304 + b2n t.standalone * 8388608

def execTandemStatusGet (r : CmdId) (s : State) : Res :=
  feljo 0x0901 r (fun c s => adminOnly c (.done s (withOut
    (le 8 s.tdm.closed ++ le 1 s.tdm.tcl ++ le 1 (tdmStatus s / 64 % 4) ++ zeros 6 ++ timeBytes s.tdm.roleAt)
    { ok with res0 := tdmStatus s, res1 := some s.tdm.gen }))) s

/-- The rules over several keys of R330: two referee ports, each a STATION or UPLINK port. -/
def pairBad (s : State) (c : Cmd) (g : Cfg) : Option Nat :=
  let wrong (d : Desc) : Bool := (arg c d.key).isSome && !([2, 3].contains (fread (port s (fread g d)).cfg prRole))
  if fread g dRef1 = fread g dRef0 ∧ ((arg c 8).isSome ∨ (arg c 7).isSome) then some (argIdx c (if (arg c 8).isSome then 8 else 7))
  else if wrong dRef0 then some (argIdx c 7)
  else if wrong dRef1 then some (argIdx c 8)
  else none

/-- `tandem.pair.set`: the tandem function never stops while the module runs, so class S keys are staged. -/
def tandemPairSet (c : Cmd) (s : State) : Ans :=
  match writeKeys tdmFields (fun _ => .run) c.params s.tdm.cfg false with
  | .error r => .fail r
  | .ok (g, stg) =>
    match pairBad s c g with
    | some i => .fail (badarg i)
    | none => .done (updTdm (fun t => { t with cfg := g }) s) (okOrStaged stg)

def execTandemPairSet (r : CmdId) (s : State) : Res := feljo 0x0902 r (fun c s => adminOnly c (tandemPairSet c s)) s

def execTandemPairGet (r : CmdId) (s : State) : Res :=
  feljo 0x0903 r (fun c s => adminOnly c (.done s (withOut (keyList tdmFields s.tdm.cfg) (okOrStaged (anyStaged s.tdm.cfg))))) s

/-- `tandem.switchover` (R320). -/
def tandemSwitchover (c : Cmd) (s : State) : Ans :=
  require (!s.tdm.standalone && s.tdm.role == .active) (denied 1)
    (notBootHalted s (require (!waiting .switchover s && s.tdm.switchH.isNone) busy
      (.wait (addWait .switchover (some c.id) (refSend 0x000F 0 0 s)))))

def execTandemSwitchover (r : CmdId) (s : State) : Res := feljo 0x0904 r (fun c s => adminOnly c (tandemSwitchover c s)) s

/-- The unit leaves the pair (R314): its ballot, its resynchronisation and a switch-over under way end. -/
def isolate (s : State) : State :=
  let s := if waiting .switchover s || s.tdm.switchH.isSome then
      finishWaits .switchover (aborted 2) (updTdm (fun t => { t with switchH := none, confirmed := false, pubsStopped := false }) s) else s
  let s := updTdm (fun t => { t with inStep := false, phase := 0, granted := none }) s
  if s.tdm.role = .isolated then s else setRole .isolated 10 s

/-- A standalone unit has no role to leave: DENIED. -/
def execTandemIsolate (r : CmdId) (s : State) : Res :=
  feljo 0x0905 r (fun c s => adminOnly c (require (!s.tdm.standalone) (denied 1) (.done (isolate s) ok))) s

def execTandemRejoin (r : CmdId) (s : State) : Res :=
  feljo 0x0906 r (fun c s => adminOnly c
    (require (!s.tdm.standalone && s.tdm.role == .isolated && !s.sig.fault) (withKey 1 s.tdm.role.code (denied 4))
      (.done (toDetached 11 (updTdm (fun t =>
        { t with attempts := 0, disagreements := [], phase := if t.session.isSome then 1 else 0, phaseAt := s.clk, startAt := s.clk }) s)) ok))) s

def execTandemResyncGet (r : CmdId) (s : State) : Res :=
  feljo 0x0907 r (fun c s => adminOnly c (.done s (withOut
    (le 1 s.tdm.phase ++ le 1 s.tdm.attempts ++ zeros 2 ++ le 8 s.tdm.c0 ++ le 8 s.tdm.c1 ++
      le 4 (if s.tdm.phase = 0 then 0 else (s.clk - s.tdm.startAt) / ms) ++ le 8 s.tdm.bytesSent) ok))) s

/-- TDM_COUNT. -/
def tdmCounts (s : State) : List Nat := (List.range 12).map fun i => (tget 0 s.tdm.counts i).toNat

def execTandemCountersGet (r : CmdId) (s : State) : Res :=
  feljo 0x0908 r (fun c s => adminOnly c (.done s (withOut ((tdmCounts s).flatMap (le 4)) ok))) s

def execTandemCountersClear (r : CmdId) (s : State) : Res :=
  feljo 0x0909 r (fun c s => adminOnly c (.done (updTdm (fun t => { t with counts := [] }) s) ok)) s

/-- The 80 bytes of a referee message (R315); zeros where none has passed. -/
def refBytes (m : Option RefMsg) : List Byte :=
  match m with
  | some m => le 2 m.msg ++ le 1 1 ++ le 1 m.unit ++ le 8 m.pairId ++ le 4 m.seq ++ le 4 m.gen ++ le 8 m.ballot ++ le 6 m.sec ++
      le 2 (b2n m.notTraceable) ++ le 4 m.ns ++ le 1 m.role ++ le 1 m.reason ++ le 2 m.link ++ le 8 m.arg ++ zeros 12 ++ le 16 m.tag
  | none => zeros 80

def execTandemRefereeGet (r : CmdId) (s : State) : Res :=
  feljo 0x090A r (fun c s => adminOnly c (.done s (withOut
    ([s.tdm.sent0, s.tdm.rcvd0, s.tdm.sent1, s.tdm.rcvd1].flatMap refBytes) ok))) s

/-! ## Link frames -/

def execIdle (h : LinkHdr) (role gen tcl alarms : Nat) (s : State) : Res := .next (linkArrive h (.idle role gen tcl alarms) s)

def execNotice (h : LinkHdr) (recs : List NoticeRec) (s : State) : Res := .next (linkArrive h (.notice recs) s)

def execForward (h : LinkHdr) (input : InputId) (data : InputData) (s : State) : Res := .next (linkArrive h (.forward input data) s)

def execSettle (h : LinkHdr) (recs : List SettleRec) (s : State) : Res := .next (linkArrive h (.settle recs) s)

def execReport (h : LinkHdr) (digests : List StepDigest) (x3 : Option Nat) (s : State) : Res :=
  .next (linkArrive h (.report digests x3) s)

def execClose (h : LinkHdr) (b settled : Nat) (steps : List (Nat × Nat)) (crc : Nat) (s : State) : Res :=
  .next (linkArrive h (.close b settled steps crc) s)

def execCloseAck (h : LinkHdr) (b crc : Nat) (s : State) : Res := .next (linkArrive h (.closeAck b crc) s)

def execCarry (h : LinkHdr) (ident op slice effect : Nat) (params : List (Nat × Nat)) (input : List Byte) (s : State) : Res :=
  .next (linkArrive h (.carry ident op slice effect params input) s)

def execCarryAck (h : LinkHdr) (ident status : Nat) (s : State) : Res := .next (linkArrive h (.carryAck ident status) s)

def execNak (h : LinkHdr) (first last : Nat) (s : State) : Res := .next (linkArrive h (.nak first last) s)

def execGasp (h : LinkHdr) (cause : Nat) (s : State) : Res := .next (linkArrive h (.gasp cause) s)

def execHello (h : LinkHdr) (serial position pairId tclMin tclMax proposal : Nat) (s : State) : Res :=
  .next (linkArrive h (.hello serial position pairId tclMin tclMax proposal) s)

def execResync (h : LinkHdr) (chunk : ResyncChunk) (s : State) : Res := .next (linkArrive h (.resync chunk) s)

/-! ## Link timers (R301, R302) -/

/-- The unit takes part in a pair and its links are powered. -/
def pairUp (s : State) : Bool := !s.tdm.standalone && s.pwr.phase == 9 && (s.pwr.pfw == .idle || s.pwr.pfw == .warned || s.pwr.pfw == .outputsOff || s.pwr.pfw == .gasped)

def execLinkFrameResend (seq : Nat) (s : State) : Res :=
  .next (if pairUp s then linkResend (fun f => f.seq == seq && decide (f.at_ + 15 * us ≤ s.clk)) s else s)

def execLinkDead (s : State) : Res :=
  .next (if pairUp s && decide (max s.tdm.lastA s.tdm.lastB + tdmf s dLinkDead * us ≤ s.clk) then linkDie 5 s else s)

def execLaneDead (lane : Nat) (s : State) : Res :=
  .next (if lane = 0 then if s.tdm.laneA && decide (s.tdm.lastA + 100 * us ≤ s.clk) then updTdm (fun t => { t with laneA := false }) s else s
         else if s.tdm.laneB && decide (s.tdm.lastB + 100 * us ≤ s.clk) then updTdm (fun t => { t with laneB := false }) s else s)

def execIdleSend (s : State) : Res :=
  .next (if pairUp s && s.tdm.session.isSome && decide (s.tdm.lastSent + 10 * us ≤ s.clk) then
    linkOut false s.tdm.txSeq (.idle s.tdm.role.code s.tdm.gen s.tdm.tcl s.sig.alarm) s else s)

def execHelloSend (s : State) : Res :=
  .next (if pairUp s && s.tdm.session.isNone && decide (s.tdm.lastHello + ms ≤ s.clk) then
    linkOut false 0 (.hello Config.serialNo (tdmf s dPosition) (tdmf s dPairId) (tclRange s).1 (tclRange s).2 s.tdm.proposal)
      (updTdm (fun t => { t with lastHello := s.clk }) s) else s)

/-! ## The ballot (R304, R308) -/

/-- FWD_WAIT after a placement without the partner's NOTICE: the chair settles with content, the follower forwards. -/
def fwdExpired (x : BInput) (d : InputData) (s : State) : State :=
  if settler s then settleInput x.id true (some d) (if s.tdm.inStep then tdmCount 1 s else s)
  else if x.forwarded then s
  else linkSend (.forward x.id d) (tdmCount 1 (updInput x.id (fun y => { y with forwarded := true }) s))

def execFwdWaitExpiry (input : InputId) (s : State) : Res :=
  match findInput s input with
  | some x =>
    match x.own with
    | some d =>
      .next (if x.settled.isNone && x.peerCrc.isNone && decide (x.ownAt + tdmf s dFwdWait * us ≤ s.clk) then fwdExpired x d s else s)
    | none => .next s
  | none => .next s

def execBallotPeriodEnd (s : State) : Res :=
  .next (if pairUp s && decide ((s.tdm.ballot + 1) * periodT ≤ s.time.n) then
    let x := s.sig.x3.state
    let s := updTdm (fun t => { t with ownX3 := tput t.ownX3 t.ballot x }) s
    let s := if s.tdm.inStep then linkSend (.report [] (some x)) s else s
    updTdm (fun t => { t with ballot := t.ballot + 1 }) s
  else s)

def execBallotDeadline (s : State) : Res :=
  .next (if pairUp s && settler s && decide (deadlineT (s.tdm.closed + 1) ≤ s.time.n) && decide (s.tdm.closed + 1 < s.tdm.ballot) then
    closeNext s else s)

/-! ## The referee (R315 to R320, R327) -/

def execHbReply (s : State) : Res :=
  .next (if pairUp s then refArrive 0x0003 (fun _ s => updTdm (fun t => { t with helloOpen := false }) s) s else s)

def execGrant (s : State) : Res := .next (if pairUp s then refArrive 0x0009 takeGrant s else s)

def execRevoke (s : State) : Res := .next (if pairUp s then refArrive 0x000C takeRevoke s else s)

/-- The acknowledgement of a demotion takes the unit to HALTED (R30). -/
def execDemoteAck (s : State) : Res :=
  .next (if pairUp s then refArrive 0x0007 (fun _ s =>
    if s.tdm.demote = 0 then s else enterHalted 5 (updTdm (fun t => { t with demote := 0 }) s)) s else s)

def execDemoteResend (s : State) : Res :=
  .next (if pairUp s && decide (1 ≤ s.tdm.demote) && decide (s.tdm.demote < 3) && decide (s.tdm.demoteAt + 2 * ms ≤ s.clk) then
    updTdm (fun t => { t with demote := t.demote + 1, demoteAt := s.clk }) (refResend s.tdm.demoteSeq 0x0006 0 0 s) else s)

def execDemoteTimeout (s : State) : Res :=
  .next (if pairUp s && s.tdm.demote != 0 && decide (s.tdm.demoteStart + tdmf s dDemote * ms ≤ s.clk) then
    enterHalted 5 (updTdm (fun t => { t with demote := 0 }) s) else s)

def execHeartbeat (s : State) : Res :=
  .next (if pairUp s && decide (s.tdm.lastHb + tdmf s dHbPeriod * ms ≤ s.clk) then
    refSend 0x0002 0 0 (updTdm (fun t => { t with lastHb := s.clk }) s) else s)

def execRefereeHello (s : State) : Res :=
  .next (if pairUp s && s.tdm.helloOpen && decide (s.tdm.helloAt + 100 * ms ≤ s.clk) then
    refResend s.tdm.helloSeq 0x0001 0 0 (updTdm (fun t => { t with helloAt := s.clk }) s) else s)

def execPeerGaspResend (s : State) : Res :=
  .next (if pairUp s && decide (1 ≤ s.tdm.peerGasp) && decide (s.tdm.peerGasp < 3) && decide (s.tdm.peerGaspAt + 2 * ms ≤ s.clk) then
    refResend s.tdm.peerGaspSeq 0x0005 1 0 (updTdm (fun t => { t with peerGasp := t.peerGasp + 1, peerGaspAt := s.clk }) s) else s)

def execRefereeUnreachable (path : Nat) (s : State) : Res :=
  let late (t : Nat) : Bool := decide (t + 4 * tdmf s dHbPeriod * ms ≤ s.clk)
  .next (if !pairUp s then s
    else if path = 0 then if s.tdm.ref0 && late s.tdm.refLast0 then setAlarm 11 (updTdm (fun t => { t with ref0 := false }) s) else s
    else if s.tdm.ref1 && late s.tdm.refLast1 then setAlarm 11 (updTdm (fun t => { t with ref1 := false }) s) else s)

/-! ## Resynchronisation and disagreement (R311, R323, R324) -/

def execResyncPhaseEnd (s : State) : Res := .next (if pairUp s && phaseDone s then nextPhase s else s)

def execResyncFailure (s : State) : Res :=
  .next (if pairUp s && s.tdm.role == .detached && s.tdm.phase != 0 && decide (s.tdm.phaseAt + phaseBound s s.tdm.phase < s.clk) then
    resyncFail s else s)

/-- 1 s after a first failure (R324). -/
def execResyncRetry (s : State) : Res :=
  .next (if pairUp s && s.tdm.role == .detached && s.tdm.phase == 0 && s.tdm.attempts == 1 && s.tdm.session.isSome &&
      decide (s.tdm.failedAt + sec1 ≤ s.clk) then
    closeError 0x0903 noObj (updTdm (fun t => { t with phase := 1, phaseAt := s.clk, startAt := s.clk }) s) else s)

/-- The self-test and scrub after a disagreement end: a failure is a module fault; an ISOLATED unit rejoins unless it has had
three disagreements within 1 h. -/
def execSelftestScrubComplete (okay : Bool) (s : State) : Res :=
  .next (if !s.tdm.scrub then s
    else
      let s := closeError 0x0902 noObj (updTdm (fun t => { t with scrub := false }) s)
      let few := decide ((s.tdm.disagreements.filter fun x => decide (s.clk ≤ x + 3600 * sec1)).length < 3)
      if !okay then moduleFault 8 s
      else if s.tdm.role = .isolated ∧ s.tdm.roleCause = 8 ∧ few then
        toDetached 11 (updTdm (fun t => { t with phase := if t.session.isSome then 1 else 0, phaseAt := s.clk, startAt := s.clk }) s)
      else s)

end Sys2Proof.Machine
end

