-- ==== Sys2Proof/Machine/RegRead.lean ====
section
/-! DEFINITION. What a read of a BAR0 word returns (R480 to R484): every register of every block, by offset. An offset
that no register occupies reads 0 (R5); a WO register reads 0 (R7). -/

namespace Sys2Proof.Machine

/-! ## GLB_ (R33, R481) -/

/-- Some instance holds a force (R33). -/
def forcesActive (s : State) : Bool := s.insts.any fun e => !e.2.lg.forces.isEmpty

/-- A word of GLB_. -/
def readGlb (s : State) (off : Nat) : Nat :=
  match off with
  | 0x000 => 0x48511F4E
  | 0x004 => (if Config.variantX then 2 else 1) + Config.hwRevision % 65536 * 65536
  | 0x010 => leAt (padTo 16 Config.serial) 0 4
  | 0x014 => leAt (padTo 16 Config.serial) 4 4
  | 0x018 => leAt (padTo 16 Config.serial) 8 4
  | 0x01C => leAt (padTo 16 Config.serial) 12 4
  | 0x020 => (runBank s).version
  | 0x024 => 0x100
  | 0x028 => 1
  | 0x100 => svcWord s + b2n (forcesActive s) * 65536 + b2n s.svc.auto * 131072
  | 0x104 => s.svc.count.toNat
  | 0x108 => s.svc.ts32.toNat
  | _ => 0

/-! ## Windows (R68, R127, R448) -/

/-- STATUS of a window. -/
def winStatus (s : State) (n : Nat) : Nat :=
  let w := win s n
  b2n w.enabled + b2n w.ringErr * 2 + b2n w.deniedWr * 4 + b2n (assigned s n) * 8 + stopCause s n * 16

/-- MOD of a unit's vector. -/
def readMod (u : Ntf) (v : Nat) : Nat := tget 0 u.modInt v + tget 1 u.bypass v * 4096

/-- The words of a slice window from 0x100 on. -/
def readSlice (s : State) (n off : Nat) : Nat :=
  let w := win s n
  match off with
  | 0x100 => instStatus s n
  | 0x104 => w.weight + w.quota * 65536
  | 0x108 => w.pasid.getD 0
  | 0x10C => (s.atu.entries.filter fun e => e.slice == n).length
  | 0x110 => w.atuFaults.toNat
  | 0x114 => (inst s n).lastStep.toNat
  | 0x200 => ntfPending s n
  | 0x204 => (ntf s n).enable
  | 0x21C => (ntf s n).route
  | 0x220 => bitsOf (ntf s n).prio 0 32
  | 0x224 => bitsOf (ntf s n).prio 32 12
  | 0x228 => readMod (ntf s n) 0
  | 0x22C => readMod (ntf s n) 1
  | 0x230 => readMod (ntf s n) 2
  | 0x234 => readMod (ntf s n) 3
  | _ => 0

/-- The words that every window has; the admin window has no station rings. -/
def readWindow (s : State) (n off : Nat) : Nat :=
  let w := win s n
  if off = 0x014 then w.sqTail
  else if off = 0x018 then w.cqHead
  else if off = 0x01C then w.sqHead
  else if off = 0x020 then winStatus s n
  else if off = 0x024 then (if n = 0 then 0 else w.epoch.toNat)
  else if off = 0x028 then (sliceCmds s n).length + w.cap * 65536
  else if 0x080 ≤ off ∧ off < 0x09C ∧ off % 4 = 0 then (winCounters w).getD ((off - 0x080) / 4) 0
  else if n ≠ 0 ∧ 0x100 ≤ off then readSlice s n off
  else if n ≠ 0 ∧ off = 0x04C then w.rxTail
  else if n ≠ 0 ∧ off = 0x050 then w.rxHead
  else if n ≠ 0 ∧ off = 0x06C then w.txTail
  else if n ≠ 0 ∧ off = 0x070 then w.txHead
  else regRead (winFields n) off w.cfg +
    (if n ≠ 0 ∧ off = 0x068 then fread (vport s n).cfg vpMaxClass * 2 ^ 24 else 0)

/-! ## NTF_ and ATU_ (R447, R127) -/

/-- A word of NTF_. -/
def readNtf (s : State) (off : Nat) : Nat :=
  if 0x060 ≤ off ∧ off < 0x0A0 then (ctxWords s ((off - 0x060) / 16)).getD (off % 16 / 4) 0
  else match off with
    | 0x000 => ntfPending s 0
    | 0x004 => s.adm.enable
    | 0x010 => readMod s.adm 0
    | 0x020 => bitsOf s.adm.prio 0 32
    | 0x024 => bitsOf s.adm.prio 32 32
    | 0x040 => s.sig.alarm
    | 0x044 => ntfFault s
    | 0x048 => s.sig.accAddr
    | 0x04C => b2n s.sig.accBar2 + b2n s.sig.accWrite * 2 + s.sig.accCount * 65536
    | 0x050 => (s.sig.ctx.filter fun e => e.2.isOpen).length + s.sig.opened % 65536 * 65536
    | 0x100 => s.sig.x3.trigFilt + s.sig.x3.bkFilt * 65536
    | 0x104 => s.sig.x3.state
    | 0x108 => s.sig.x3.regR
    | 0x10C => s.sig.x3.regF
    | _ => 0

/-- A record of the ATU fault log. -/
def readFault (r : Option AtuFault) (i : Nat) : Nat :=
  match r, i with
  | some r, 0 => r.addr % 2 ^ 32
  | some r, 1 => r.addr / 2 ^ 32
  | some r, 2 => r.slice + r.kind * 1024 + b2n r.write * 4096 + r.source * 8192 + r.cid * 65536
  | some r, _ => r.ts.toNat
  | none, _ => 0

/-- A word of ATU_. -/
def readAtu (s : State) (off : Nat) : Nat :=
  if off = 0 then 0x10000
  else if off = 4 then s.atu.entries.length + b2n s.atu.fault * 2 ^ 20 + b2n s.atu.ovf * 2 ^ 21 + s.atu.next * 2 ^ 22
  else if 0x100 ≤ off ∧ off < 0x200 then readFault (tfind s.atu.log ((off - 0x100) / 16)) (off % 16 / 4)
  else 0

/-! ## PTP_ (R392) -/

/-- A word of PTP_. -/
def readPtp (s : State) (off : Nat) : Nat :=
  let p := off % 0x100 / 4
  let q := port s p
  match off / 0x100 with
  | 0 =>
    (match off with
     | 0x004 => ptpStatus s
     | 0x008 => s.time.steps.toNat
     | 0x00C => nsField 32 s.time.offset
     | 0x020 => enc 32 s.time.freqAdj
     | _ => regRead timeFields off s.time.cfg)
  | 1 => if p < 48 then q.tsqOvf.toNat else 0
  | 2 => if p < 48 then regRead timePortFields 0x200 q.ptp + q.pstate * 256 else 0
  | 3 => if p < 48 then regRead timePortFields 0x300 q.ptp else 0
  | 4 => if p < 48 then q.pdelay / nsU else 0
  | 5 => if p < 48 then q.launchLate.toNat else 0
  | _ => 0

/-! ## ANG_ (R157) -/

/-- One bit for each domain. -/
def domMask (s : State) (p : Dom → Bool) : Nat := sumOf ((List.range 16).map fun d => b2n (p (dom s d)) * 2 ^ d)

/-- A word of a domain's block. -/
def readDom (s : State) (n off : Nat) : Nat :=
  let d := dom s n
  match off with
  | 0x04 => angStatus s n
  | 0x0C => d.f
  | 0x10 => enc 32 d.err
  | 0x14 => d.lastAngle.toNat
  | 0x18 => (match d.ahead with
    | t :: _ => (ts32At t.t).toNat
    | [] => 0)
  | 0x1C => (match d.ahead with
    | t :: _ => t.t % 65536
    | [] => 0)
  | 0x78 => d.coasts % 65536 + d.glides % 65536 * 65536
  | _ => regRead angFields off d.cfg

/-- A word of ANG_. -/
def readAng (s : State) (off : Nat) : Nat :=
  if off = 0 then domMask s (·.lock) + domMask s (fun d => d.mode == .coast) * 65536
  else if off = 4 then domMask s (fun d => d.mode == .glide) + domMask s (fun d => d.mode == .hold) * 65536
  else if 0x100 ≤ off ∧ off < 0x900 then readDom s ((off - 0x100) / 0x80) (off % 0x80)
  else if 0x900 ≤ off ∧ off < 0xA00 then enc 32 (tget {} (dom s ((off - 0x900) / 16)).spares (off % 16 / 4)).u1
  else 0

/-! ## PWR_ (R51 to R59) -/

/-- PWR_BOOT. -/
def pwrBoot (s : State) : Nat :=
  s.pwr.phase + b2n s.pwr.mbxReady * 16 + b2n s.pwr.fail * 32 + b2n s.pwr.dbg * 64 + b2n s.pwr.bankB * 128

/-- A word of PWR_ that is no half of a pair. -/
def readPwr (s : State) (off : Nat) : Nat :=
  match off with
  | 0x000 => pwrStatus s
  | 0x004 => regRead pwrFields 0x004 s.pwr.cfg
  | 0x008 => pwrInput s
  | 0x00C => pwrTemp s
  | 0x020 => pwrBoot s
  | 0x038 => s.met.cycles
  | 0x0FC => s.met.snapTs.toNat
  | _ => 0

/-! ## TDM_ and TRP_ (R328, R297) -/

/-- A word of TDM_. -/
def readTdm (s : State) (off : Nat) : Nat :=
  if off = 4 then tdmStatus s
  else if off = 8 then s.tdm.gen
  else if off = 0x01C then s.tdm.tcl + (tclRange s).1 * 256 + (tclRange s).2 * 65536
  else if 0x020 ≤ off ∧ off < 0x050 then (tget 0 s.tdm.counts ((off - 0x020) / 4)).toNat
  else regRead tdmFields off s.tdm.cfg

/-- One bit for each output. -/
def outMask (s : State) (p : Outp → Bool) : Nat := sumOf ((List.range 8).map fun k => b2n (p (outp s k)) * 2 ^ k)

/-- A word of an output's block. -/
def readOut (s : State) (k off : Nat) : Nat :=
  match off with
  | 0x00 => (ownerOf s k).getD 0 + regRead outFields 0 (outp s k).cfg
  | 0x04 => outStatus s k
  | 0x20 => (outCounts (outp s k)).1
  | 0x24 => (outCounts (outp s k)).2
  | _ => regRead outFields off (outp s k).cfg

/-- A word of TRP_. -/
def readTrp (s : State) (off : Nat) : Nat :=
  if off = 0 then
    outMask s (fun o => o.triph && o.tripl) + outMask s outSupOf * 2 ^ 8 + outMask s (·.outDisc) * 2 ^ 16 +
      outMask s (·.test.isSome) * 2 ^ 24
  else if off = 4 then fread s.trip.testPeriod oTestPeriod
  else if 0x100 ≤ off ∧ off < 0x300 then readOut s ((off - 0x100) / 0x40) (off % 0x40)
  else 0

/-! ## CHR_, UPD_ and KEY_ (R449, R477) -/

/-- A word of CHR_ that is no half of a pair. -/
def readChr (s : State) (off : Nat) : Nat :=
  match off with
  | 0x000 => chrStatus s
  | 0x018 => 0xFFC0
  | 0x01C => s.chr.dropped.toNat
  | 0x020 => s.chr.repaired.toNat
  | 0x024 => s.chr.lost.toNat
  | 0x028 => s.chr.notifySev
  | _ => 0

/-- KEY_STATUS. -/
def keyStatus (s : State) : Nat :=
  let lapsed := s.keys.slots.any fun e => match e.2.cur with
    | some k => k.lapsed
    | none => false
  b2n s.keys.store.owner.isSome + s.keys.mode * 2 + b2n s.keys.modeStaged.isSome * 4 + b2n (testKeys s) * 8 + b2n lapsed * 16 +
    b2n s.keys.depRej * 32 + b2n s.keys.session.isSome * 64

/-- VERSION of a bank, 0 when EMPTY. -/
def bankVersion (st : BankSt) (b : Bank) : Nat := if st = .empty then 0 else b.version

/-- A word of the UPD_ and KEY_ block that is no half of a pair. -/
def readUpd (s : State) (off : Nat) : Nat :=
  match off with
  | 0x000 => updStatus s
  | 0x004 => confirmLeft s + s.upd.window * 65536
  | 0x008 => (runBank s).svn + s.upd.minSvn * 65536
  | 0x010 => bankVersion s.upd.boot.stA s.upd.bankA
  | 0x014 => bankVersion s.upd.boot.stB s.upd.bankB
  | 0x018 => (match s.upd.session with
    | some x => x.got.length
    | none => 0)
  | 0x01C => s.upd.boot.seq
  | 0x800 => keyStatus s
  | 0x80C => (s.keys.slots.filter fun e => e.2.cur.isSome).length + (s.keys.slots.filter fun e => e.2.nxt.isSome).length * 65536
  | 0x810 => sumOf (s.keys.store.sign.map fun e => 2 ^ e.1)
  | _ => 0

/-! ## PRT_, SWC_, ARC_ (R369, R370, R417) -/

/-- A word of a port's block that is no half of a pair. -/
def readPort (s : State) (p off : Nat) : Nat :=
  let q := port s p
  if off = 4 then portStatus s p
  else if off = 0x028 then regRead portFields off q.cfg + q.gates * 256 + q.entry * 65536
  else if 0x100 ≤ off ∧ off < 0x1A0 then (tget 0 q.counts ((off - 0x100) / 4)).toNat
  else regRead portFields off q.cfg

/-- A word of SWC_. -/
def readSw (s : State) (off : Nat) : Nat :=
  match off with
  | 0x004 => b2n s.sw.stRunning + b2n s.sw.leak * 2 + b2n s.sw.countFix * 4 + b2n s.sw.fdbFull * 8 + b2n s.sw.ddFull * 16
  | 0x008 => s.sw.free
  | 0x00C => commonSize s
  | 0x010 => s.sw.commonUsed
  | 0x014 => ownTotal s
  | 0x020 => (s.sw.fdb.filter fun e => !e.static).length + (s.sw.fdb.filter fun e => e.static).length * 65536
  | 0x030 => s.sw.stPasses.toNat
  | 0x034 => s.sw.stLeaked.toNat
  | 0x038 => s.sw.stFixed.toNat
  | 0x03C => (ddSources s).length
  | 0x040 => s.sw.nodeFull.toNat
  | _ => regRead swFields off s.sw.cfg

/-- ARC_REC[r]; a recorder that does not exist reads 0, EMPTY. -/
def readRec (s : State) (r : Nat) : Nat :=
  match tfind s.arc.recs r with
  | some x => x.st.code + b2n x.staged.isSome * 8 + b2n x.maskStop * 16 + x.segment % 4096 * 65536
  | none => 0

/-- ARC_ROOM_FOLIO and ARC_ROOM_MAP of a window. -/
def readRoom (s : State) (w : Nat) (map : Bool) : Nat :=
  match tfind s.arc.room w with
  | some x => if map then x.off + x.slice * 2 ^ 13 + 2 ^ 23 else x.folio
  | none => 0

/-- A word of ARC_. -/
def readArc (s : State) (off : Nat) : Nat :=
  if 0x100 ≤ off ∧ off < 0x500 then readRec s ((off - 0x100) / 4)
  else if 0x800 ≤ off ∧ off < 0x880 then readRoom s ((off - 0x800) / 8) (bitOf off 2)
  else if 0x020 ≤ off ∧ off < 0x048 then (arcCounts s).getD ((off - 0x020) / 4) 0
  else match off with
    | 0x000 => b2n s.arc.recycle
    | 0x004 => arcStatus s
    | 0x008 => pagesFree s
    | 0x00C => pagesRing s
    | 0x010 => foliosHeld s
    | 0x014 => s.arc.nextFolio
    | 0x018 => arcBw s
    | _ => 0

/-! ## The MSI-X table and its Pending Bit Array (R63, R427) -/

/-- A word of the table; an entry that is not unmasked reads its mask bit 1. -/
def readMsix (s : State) (off : Nat) : Nat :=
  if off % 16 = 12 then
    (tget 0 s.pcie.msix off / 2 * 2) + b2n (!s.pcie.unmasked.contains (off / 16))
  else tget 0 s.pcie.msix off

/-- A word of the Pending Bit Array. -/
def readPba (s : State) (off : Nat) : Nat :=
  sumOf ((List.range 32).map fun i => b2n (s.pcie.pba.contains (8 * off + i)) * 2 ^ i)

/-! ## The whole map -/

/-- A word of one of the 4 KiB blocks below 0x0001_0000. -/
def readLow (s : State) (blk off : Nat) : Nat :=
  match blk with
  | 0 => readGlb s off
  | 1 => readWindow s 0 off
  | 2 => readNtf s off
  | 3 => readAtu s off
  | 4 => readPtp s off
  | 5 => readAng s off
  | 6 => readPwr s off
  | 7 => readTdm s off
  | 8 => readTrp s off
  | 9 => readChr s off
  | 10 => readUpd s off
  | _ => 0

/-- A word at a BAR0 offset, the halves of 64-bit quantities and the registers with reads of their own apart. -/
def readWord (s : State) (addr : Nat) : Nat :=
  if addr < 0x10000 then readLow s (addr / 0x1000) (addr % 0x1000)
  else if addr < 0x1C000 then readPort s ((addr - 0x10000) / 0x400) (addr % 0x400)
  else if 0x20000 ≤ addr ∧ addr < 0x30000 then readSw s (addr - 0x20000)
  else if 0x30000 ≤ addr ∧ addr < 0x40000 then readArc s (addr - 0x30000)
  else if 0x800000 ≤ addr ∧ addr < 0x808000 then readMsix s (addr - 0x800000)
  else if 0x808000 ≤ addr ∧ addr < 0x808100 then readPba s (addr - 0x808000)
  else if 0x1001000 ≤ addr ∧ addr < 0x1201000 then readWindow s ((addr - 0x1000000) / 0x1000) (addr % 0x1000)
  else 0

/-- Blocks readable as they are before MBX_READY: the MSI-X table; from phase 4 GLB_, PWR_ (R487), and registers whose
reset value is `Restored`, of CHR_, UPD_ and KEY_. -/
def readsLive (s : State) (addr : Nat) : Bool :=
  (decide (0x800000 ≤ addr) && decide (addr < 0x808100)) || (decide (4 ≤ s.pwr.phase) && (decide (addr < 0x1000) || (decide (0x6000 ≤ addr) && decide (addr < 0x7000)) || (decide (0x9000 ≤ addr) && decide (addr < 0xB000))))

/-- Until MBX_READY a read of another block returns the register's reset value (R487). -/
def readBar0 (s : State) (addr : Nat) : Nat := readWord (if hostUp s || readsLive s addr then s else State.reset) addr

end Sys2Proof.Machine
end

