-- ==== Sys2Proof/Machine/TimeEvents.lean ====
section
/-! DEFINITION. The events of network time (R377, R381, R384 to R387, R390) and the module's periodic PTP messages
(R380). -/

namespace Sys2Proof.Machine

/-! ## Received messages (R380, R381) -/

/-- A transparent clock forwards a message from its port to every other PTP port of the same SEGMENT (R381); under IEEE
C37.238 it adds 50 ns to networkTimeInaccuracy (R380). -/
def ptpForward (p : Nat) (q : Copy) (m : PtpMsg) (s : State) : State :=
  let m := if m.kind = .announce ∧ timef s tProfile = 1 then { m with inaccuracy := m.inaccuracy.map (· + 50) } else m
  (ptpPorts s).foldl (fun s o =>
    if o != p && fval (port s o).ptp tpSegment == fval (port s p).ptp tpSegment then
      let (fid, s) := newFid s
      let f := ptpFrame s o m
      copyTo o (cellsOf f.len)
        { fid := fid, frame := f, cls := 6, ingress := p, arrival := q.arrival, stamp := q.stamp,
          notTraceable := q.notTraceable, own := 0, com := 0 } s
    else s) s

/-- Offset of the PHC from the master: receipt stamp less origin, corrections and the port's link delay. -/
def syncOffset (s : State) (p stamp : Nat) (origin : Nat) (corr : Int) : Int :=
  (stamp : Int) - origin - corr - (port s p).pdelay

/-- Set meanLinkDelay from twice its value. -/
def setDelay (p : Nat) (twice : Int) (s : State) : State :=
  updPort p (fun q => { q with pdelay := (twice / 2).toNat, pdT1 := none, pdT4 := none, pdT2 := none }) s

/-- Answer a Pdelay_Req with the receipt stamp (R387). -/
def answerPdelay (p stamp : Nat) (m : PtpMsg) (s : State) : State :=
  ptpSend p { ownMsg s p .pdelayResp m.seq with
    twoStep := fval (port s p).ptp tpMode == 0, correction := m.correction, origin := stamp } s

/-- A message on a PTP port in the module's domain. -/
def ptpTake (p : Nat) (q : Copy) (m : PtpMsg) (s : State) : State :=
  match m.kind with
  | .announce =>
    if m.srcId = clockId ∨ m.gmId = clockId ∨ 255 ≤ m.steps then s
    else bmca (updPort p (fun o => { o with announce := some (m, s.clk) }) s)
  | .sync =>
    if fromParent s p m then
      let s := updTime (fun t => { t with lastSync := s.clk }) s
      if m.twoStep then updPort p (fun o => { o with sync := some (m.seq, q.stamp, m.correction) }) s
      else measure (syncOffset s p q.stamp m.origin m.correction) s
    else s
  | .followUp =>
    match (port s p).sync with
    | some (n, stamp, corr) =>
      if fromParent s p m && n == m.seq then
        measure (syncOffset s p stamp m.origin (corr + m.correction)) (updPort p (fun o => { o with sync := none }) s)
      else s
    | none => s
  | .pdelayReq => answerPdelay p q.stamp m s
  | .pdelayResp =>
    match (port s p).pdT1 with
    | some t1 =>
      if m.seq = (port s p).pdSeq then
        if m.twoStep then
          updPort p (fun o => { o with pdT4 := some ((q.stamp : Int) - t1 - m.correction), pdT2 := some m.origin }) s
        else setDelay p ((q.stamp : Int) - t1 - m.correction) s
      else s
    | none => s
  | .pdelayRespFollowUp =>
    match (port s p).pdT4, (port s p).pdT2 with
    | some d, some t2 => if m.seq = (port s p).pdSeq then setDelay p (d - ((m.origin : Int) - t2) - m.correction) s else s
    | _, _ => s

/-- Is a captured frame a PTP message? -/
def isPtpCopy (q : Copy) : Bool :=
  match q.frame.payload with
  | .ptp _ => true
  | _ => false

/-- A received PTP message: one of another domain is counted in FOREIGN and discarded (R380). -/
def ptpHandle (q : Copy) (s : State) : State :=
  match q.frame.payload with
  | .ptp m =>
    let p := q.ingress
    if !ptpPort s p then s
    else if m.domain ≠ ptpDomain s then updPort p (fun o => { o with foreign := o.foreign + 1 }) s
    else
      let s := if timef s tType = 2 && (m.kind == .sync || m.kind == .followUp || m.kind == .announce) then ptpForward p q m s else s
      ptpTake p q m s
  | _ => s

def execPtpMessageHandle (s : State) : Res :=
  .next (match takeFrom 50 isPtpCopy 8 s with
    | some (q, s') => ptpHandle q s'
    | none => s)

def execResidenceDiscard (p seq : Nat) (s : State) : Res :=
  .next (if isPhys p then updPort p (fun q => { q with residence := q.residence.filter fun r => !(r.seq == seq && decide (r.at_ + sec1 ≤ s.clk)) }) s
    else s)

/-! ## Loss of a source (R377) -/

/-- The source is lost: no Announce within announceReceiptTimeout, three Sync intervals without a Sync, or PPS_IN rejected
three times in succession. -/
def sourceGone (s : State) : Bool :=
  (s.time.source == 1 && ((annOf s s.time.slavePort).isNone || decide (s.time.lastSync + 3 * sec1 ≤ s.clk))) ||
    (s.time.source == 2 && decide (3 ≤ s.time.rejects))

def execSourceLoss (s : State) : Res :=
  .next (if sourceGone s then
      if s.time.source = 1 then bmca (updPort s.time.slavePort (fun q => { q with announce := none, sync := none }) (loseSource s))
      else loseSource s
    else s)

/-- HOLDOVER_LIMIT has passed: the clock is LOST (R377), an error of R434 that ends when RECOVERY is entered or is not
required. -/
def holdoverEnd (s : State) : State :=
  let s := setClk .lost (openError 0x0B02 noObj s)
  if s.svc.change.isNone then closeError 0x0B02 noObj s else s

def execHoldoverLimitExpiry (s : State) : Res :=
  .next (if s.time.state == .holdover && decide (s.time.holdAt + timef s tHoldover * sec1 ≤ s.clk) then holdoverEnd s else s)

/-! ## PPS_IN, FREQ_IN, PPS_OUT (R384 to R386) -/

/-- Distance of a stamp from the nearest second boundary of the PHC, in 2^-16 ns. -/
def secondOffset (t : Int) : Int :=
  let sec : Int := (sec1 * nsU : Nat)
  let r := t % sec
  if 2 * r < sec then r else r - sec

/-- An accepted edge: the seconds of `time.set` apply, and the offset is measured. -/
def ppsAccept (off : Int) (s : State) : State :=
  let s := updTime (fun t => { t with ppsOk := true, rejects := 0 }) s
  let s := if s.time.source = 2 then s else selectSource 2 0x3F s
  let s := updTime (fun t => { t with acqFirst := false }) s
  let s := match s.time.setSec with
    | some (sec, tr) =>
      let boundary : Int := (s.time.n : Int) - timef s tPpsCable * nsU - off
      let d := (sec * sec1 * nsU : Nat) - boundary
      let s := updTime (fun t => { t with setSec := none, ppsTraceable := tr }) s
      finishWaits .timeSet ok (traceJudge (if d = 0 then s else stepPhc d s))
    | none => s
  measure off s

/-- The first edge in FREE or ACQUIRING: the PHC is stepped to it (R385). -/
def ppsFirst (off : Int) (s : State) : State :=
  let s := if s.time.source = 2 then s else selectSource 2 0x3F s
  ppsAccept 0 (if off = 0 then s else stepPhc (-off) s)

/-- A rising edge of PPS_IN: stamped, corrected by PPS_CABLE, and judged (R385). -/
def ppsEdge (s : State) : State :=
  let off := secondOffset ((s.time.n : Int) - timef s tPpsCable * nsU)
  if s.time.source = 1 then updTime (fun t => { t with ppsOffset := off }) s
  else if s.time.state = .free ∨ (s.time.state = .acquiring ∧ s.time.acqFirst = true) then ppsFirst off s
  else if off.natAbs ≤ timef s tPpsWin * nsU then ppsAccept off s
  else updTime (fun t => { t with ppsOk := false, ppsReject := true, rejects := t.rejects + 1, ppsRejects := t.ppsRejects + 1 }) s

def execPpsInEdge (s : State) : Res := .next (if timef s tPpsInEn = 1 then ppsEdge s else s)

def execFreqInLoss (s : State) : Res := .next (updTime (fun t => { t with freqOk := false }) s)

def execFreqInPresent (s : State) : Res :=
  .next (if timef s tFreqInEn = 1 then updTime (fun t => { t with freqOk := true }) s else s)

/-- PPS_OUT runs under PPS_OUT_MODE (R386). -/
def ppsOutOn (s : State) : Bool := timef s tPpsOutMode == 1 || (timef s tPpsOutMode == 2 && s.time.traceable)

/-- The pulse rises at a second boundary plus its offset, within 20 ns. -/
def execPpsOutPulse (s : State) : Res :=
  .next (if ppsOutOn s && decide ((secondOffset ((s.time.n : Int) - fvalI s.time.cfg tPpsOff * nsU)).natAbs ≤ 20 * nsU) then
      updTime (fun t => { t with ppsOut := true, ppsOutAt := s.clk }) s
    else s)

/-! ## PTP_NOW (R390) -/

/-- Keep a Requester's latch at the front of at most eight. -/
def latchNow (rid : Nat) (t : FullTime) (l : List (Nat × FullTime)) : List (Nat × FullTime) :=
  ((rid, t) :: l.filter fun x => x.1 != rid).take 8

/-- A read returns TS32 and latches the full time for the Requester. -/
def readTs32 (rid : Nat) (s : State) : State :=
  emit (.value (ts32 s).toNat) (updTime (fun t => { t with latches := latchNow rid (fullNow s) t.latches }) s)

def execPtpNowTs32 (rid : Nat) (s : State) : Res := .next (if hostUp s then readTs32 rid s else s)

/-! ## Periodic messages (R380) -/

/-- The Announce of a port in state MASTER: the module's own clock, or the grandmaster it follows. -/
def announceMsg (s : State) (p : Nat) : PtpMsg :=
  let m := ownMsg s p .announce (port s p).annSeq
  let tlv (x : Option Nat) : Option Nat := if timef s tProfile = 1 then x else none
  match chosenMaster s with
  | some (_, x) => { m with gmId := x.gmId, gmClass := x.gmClass, gmAccuracy := x.gmAccuracy, prio1 := x.prio1, prio2 := x.prio2,
                            steps := x.steps + 1, inaccuracy := tlv (x.inaccuracy.map (· + 50)) }
  | none => { m with gmId := clockId, gmClass := (ownClass s).1, gmAccuracy := (ownClass s).2, prio1 := timef s tPrio1,
                     prio2 := timef s tPrio2, inaccuracy := tlv (some (Config.free 8 s.fresh)) }

/-- The messages a port sends each second: Pdelay_Req, and Announce and Sync where it is MASTER. -/
def ptpPortSend (s : State) (p : Nat) : State :=
  let q := port s p
  let s := if q.pstate = 5 then
      let s := updPort p (fun o => { o with annSeq := (o.annSeq + 1) % 65536, syncSeq := (o.syncSeq + 1) % 65536 })
        { (ptpSend p (announceMsg s p) s) with fresh := s.fresh + 1 }
      ptpSend p { ownMsg s p .sync q.syncSeq with twoStep := fval q.ptp tpMode == 0, origin := s.time.n } s
    else s
  let n := (q.pdSeq + 1) % 65536
  ptpSend p { ownMsg s p .pdelayReq n with origin := s.time.n }
    (updPort p (fun o => { o with pdSeq := n, pdT1 := none, pdT4 := none, pdT2 := none }) s)

/-- The PTP messages of one second. -/
def ptpPeriodic (s : State) : State := (ptpPorts (bmca s)).foldl ptpPortSend (bmca s)

end Sys2Proof.Machine
end

