-- ==== Sys2Proof/Machine/HostRegs.lean ====
section
/-! DEFINITION. Register writes and reads that have no row of their own for one register (R4 to R8, R64, R427, R487,
R489): the address map of R63, each block's word judged as one, the W1C words, the MSI-X table, and the latched high
words of R6. -/

namespace Sys2Proof.Machine

/-! ## Words of plain fields -/

/-- A field of a word that State keeps apart: place, width, range, and the value a read returns. -/
structure Plain where
  bit : Nat
  width : Nat
  lo : Nat
  hi : Nat
  old : Nat
  deriving DecidableEq, Repr

/-- The value a word writes to a field. -/
def Plain.new (f : Plain) (v : Nat) : Nat := bitsOf v f.bit f.width

/-- Every field that the word writes is in range; a field written with its own value is not written (R489). -/
def plainOk (fs : List Plain) (v : Nat) : Bool :=
  fs.all fun f => f.new v == f.old || (decide (f.lo ≤ f.new v) && decide (f.new v ≤ f.hi))

/-! ## Notification units (R424, R447, R448) -/

/-- A MOD word. -/
def modWord (u : Ntf) (i : Nat) : List Plain := [⟨0, 10, 0, 1000, tget 0 u.modInt i⟩, ⟨12, 3, 0, 4, tget 1 u.bypass i⟩]

/-- Write a MOD word of a unit. -/
def writeMod (n i v : Nat) (s : State) : Option State :=
  if plainOk (modWord (ntf s n) i) v then
    some (withNtf n (updNtf n fun u =>
      { u with modInt := tset 0 u.modInt i (bitsOf v 0 10), bypass := tset 1 u.bypass i (bitsOf v 12 3) }) s)
  else none

/-- Write 32 bits of priorities: word `i` holds sources 8i to 8i + 7. -/
def writePrio (n i width v : Nat) (s : State) : Option State :=
  some (withNtf n (updNtf n fun u => { u with prio := withField u.prio (32 * i) width (bitsOf v 0 width) }) s)

/-- Write the enables of a unit. -/
def writeEnable (n v : Nat) (s : State) : Option State :=
  some (withNtf n (updNtf n fun u => { u with enable := bitsOf v 0 (ntfSources n) }) s)

/-- Write SLC_NTF_ROUTE: class X, its unit running while the slice is assigned (R424). -/
def writeRoute (n v : Nat) (s : State) : Option State :=
  let r := bitsOf v 0 22
  if r = (ntf s n).route then some s
  else if assigned s n then none
  else some (withNtf n (updNtf n fun u => { u with route := r }) s)

/-- NTF_X3_FILTER. -/
def writeX3Filter (v : Nat) (s : State) : State :=
  if plainOk [⟨0, 10, 1, 1000, s.sig.x3.trigFilt⟩, ⟨16, 7, 1, 100, s.sig.x3.bkFilt⟩] v then
    updX3 (fun x => { x with trigFilt := bitsOf v 0 10, bkFilt := bitsOf v 16 7 }) s
  else s

/-- A word of the NTF_ block, which has no discard indication. -/
def writeNtfBlock (off v : Nat) (s : State) : State :=
  match off with
  | 0x004 => (writeEnable 0 v s).getD s
  | 0x00C => ntfComplete 0 (v % 1024) s
  | 0x010 => (writeMod 0 0 v s).getD s
  | 0x020 => (writePrio 0 0 32 v s).getD s
  | 0x024 => (writePrio 0 1 32 v s).getD s
  | 0x040 => alarmClear (v % 4096) s
  | 0x100 => writeX3Filter v s
  | 0x108 => clearLatch true v s
  | 0x10C => clearLatch false v s
  | _ => s

/-! ## Mailbox windows (R68, R448) -/

/-- A refused word of a slice window sets DENIED_WR (R69). -/
def orDenied (n : Nat) (s : State) (r : Option State) : State := r.getD (deniedWr n s)

/-- The RW words of a window that have no row of their own. -/
def writeBase (n off v : Nat) (s : State) : Option State :=
  (winWrite n off v s).map fun c => updWin n (fun w => { w with cfg := c }) s

/-- The notification words of a slice window. -/
def writeSliceNtf (n off v : Nat) (s : State) : State :=
  if off = 0x204 then orDenied n s (writeEnable n v s)
  else if off = 0x218 then ntfComplete n (v % 1024) s
  else if off = 0x21C then orDenied n s (writeRoute n v s)
  else if off = 0x220 then orDenied n s (writePrio n 0 32 v s)
  else if off = 0x224 then orDenied n s (writePrio n 1 12 v s)
  else if 0x228 ≤ off ∧ off < 0x238 then orDenied n s (writeMod n ((off - 0x228) / 4) v s)
  else s

/-- A word of window `n`. The words that have rows of their own act as those rows do. -/
def writeWindow (n off v : Nat) (s : State) : State :=
  if off = 0x010 then writeRingCfg n v s
  else if off = 0x014 then sqDoorbell n (v % 4096) s
  else if off = 0x018 then cqDoorbell n (v % 4096) s
  else if off = 0x020 then clearWin n v s
  else if n ≠ 0 ∧ off = 0x048 then writeRxCfg n v s
  else if n ≠ 0 ∧ off = 0x04C then rxDoorbell n (v % 4096) s
  else if n ≠ 0 ∧ off = 0x068 then writeTxCfg n v s
  else if n ≠ 0 ∧ off = 0x06C then txDoorbell n (v % 4096) s
  else if n ≠ 0 ∧ 0x200 ≤ off then writeSliceNtf n off v s
  else orDenied n s (writeBase n off v s)

/-! ## Other blocks -/

/-- The time function's words; a profile of IEEE C37.238 needs domain 254 (R394). -/
def writeTime (off v : Nat) (s : State) : State :=
  match regWrite timeFields (fun _ => .run) timeCfgOk off v s.time.cfg with
  | some c => updTime (fun t => { t with cfg := c }) s
  | none => updTime (fun t => { t with wrDenied := true }) s

/-- A port's PTP words: an ordinary clock has one PTP port (R381). -/
def writeTimePort (p off v : Nat) (s : State) : State :=
  let old := (port s p).ptp
  match regWrite timePortFields (portMode (port s p)) (fun _ => true) off v old with
  | some c =>
    let s' := updPort p (fun q => { q with ptp := c }) s
    if fread c tpEn = 1 ∧ fread old tpEn = 0 ∧ fread s.time.cfg tType = 0 ∧ 1 < (ptpEnabled s').length then
      updTime (fun t => { t with wrDenied := true }) s
    else s'
  | none => updTime (fun t => { t with wrDenied := true }) s

/-- A word of the PTP_ block. -/
def writePtpBlock (off v : Nat) (s : State) : State :=
  if off = 4 then clearTime v s
  else if 0x200 ≤ off ∧ off < 0x2C0 then writeTimePort ((off - 0x200) / 4) 0x200 v s
  else if 0x300 ≤ off ∧ off < 0x3C0 then writeTimePort ((off - 0x300) / 4) 0x300 v s
  else writeTime off v s

/-- PWR_CTRL: LANE_GATING is staged while the lane pool runs. No discard indication. -/
def writePwrCtrl (v : Nat) (s : State) : State :=
  let mode (d : Desc) : Mode := if d.id = 0 ∧ !lanePoolRuns s then .idle else .run
  match regWrite pwrFields mode (fun _ => true) 0x004 v s.pwr.cfg with
  | some c =>
    let s := updPwr (fun p => { p with cfg := c }) s
    if bitOf v 0 then snapshot s else s
  | none => s

/-- A word of the PWR_ block. -/
def writePwrBlock (off v : Nat) (s : State) : State :=
  match off with
  | 0x000 => clearRails v s
  | 0x004 => writePwrCtrl v s
  | _ => s

/-- A word of the TDM_ block: each unit's own, and no discard indication (R328). -/
def writeTdmBlock (off v : Nat) (s : State) : State :=
  if off = 4 then clearTdm v s
  else match regWrite tdmFields (fun _ => .run) (fun _ => true) off v s.tdm.cfg with
    | some c => updTdm (fun t => { t with cfg := c }) s
    | none => s

/-- A word of an output's block. In a pair RW fields are not written so (R297). -/
def writeOut (k off v : Nat) (s : State) : State :=
  let old := (outp s k).cfg
  if off = 4 then clearOut k v s
  else if !s.tdm.standalone then s
  else match regWrite outFields (fun _ => outMode s k) (fun g => (outRuleBad g).isNone) off v old with
    | some g => outChanged k noObj old (updOut k (fun o => { o with cfg := g }) s)
    | none => s

/-- TRP_TEST_CFG. -/
def writeTestCfg (v : Nat) (s : State) : State :=
  if !s.tdm.standalone then s
  else match regWrite [oTestPeriod] (fun _ => .run) (fun _ => true) 0x004 v s.trip.testPeriod with
    | some c => { s with trip := { s.trip with testPeriod := c } }
    | none => s

/-- A word of the TRP_ block. -/
def writeTrpBlock (off v : Nat) (s : State) : State :=
  if off = 4 then writeTestCfg v s
  else if 0x100 ≤ off ∧ off < 0x300 then writeOut ((off - 0x100) / 0x40) (off % 0x40) v s
  else s

/-- A word of the ANG_ block. -/
def writeAngBlock (off v : Nat) (s : State) : State :=
  if 0x100 ≤ off ∧ off < 0x900 then angWrite ((off - 0x100) / 0x80) (off % 0x80) v s else s

/-- A word of the CHR_ block. -/
def writeChrBlock (off v : Nat) (s : State) : State :=
  if off = 0 then clearChr v s
  else if off = 0x028 ∧ plainOk [⟨0, 3, 0, 4, s.chr.notifySev⟩] v then updChr (fun c => { c with notifySev := bitsOf v 0 3 }) s
  else s

/-- A word of the UPD_ and KEY_ block. -/
def writeUpdBlock (off v : Nat) (s : State) : State :=
  if off = 0 then clearUpd v s
  else if off = 0x800 then clearKeys v s
  else if off = 0x004 ∧ plainOk [⟨16, 6, 1, 60, s.upd.window⟩] v then updUpd (fun u => { u with window := bitsOf v 16 6 }) s
  else s

/-- Did a port's write change an own shelf? -/
def ownChanged (a b : Cfg) : Bool := (List.range 8).any fun i => fread a (prOwn i) != fread b (prOwn i)

/-- A word of a port's block: the lane mode and speed agree (R332), and the common shelf keeps its floor (R354). -/
def writePort (p off v : Nat) (s : State) : State :=
  let old := (port s p).cfg
  if off = 4 then clearPort p v s
  else match regWrite portFields (portMode (port s p)) portLaneOk off v old with
    | some c =>
      let s' := updPort p (fun q => { q with cfg := c }) s
      if ownChanged old c && !floorOk s' then updPort p (fun q => { q with wrDenied := true }) s
      else portEffects p s'
    | none => updPort p (fun q => { q with wrDenied := true }) s

/-- A word of the switch core, which has no discard indication. -/
def writeSwBlock (off v : Nat) (s : State) : State :=
  if off = 4 then clearSw v s
  else match regWrite swFields (fun _ => .run) (fun _ => true) off v s.sw.cfg with
    | some c =>
      let s' := updSw (fun w => { w with cfg := c }) s
      if (off = 0x024 ∨ off = 0x028) ∧ !floorOk s' then s else s'
    | none => s

/-- A word of the Archive: RECYCLE has every value in range. -/
def writeArcBlock (off v : Nat) (s : State) : State :=
  match off with
  | 0x000 => updArc (fun a => { a with recycle := bitOf v 0 }) s
  | 0x004 => clearArc v s
  | _ => s

/-! ## The MSI-X table (R63, R427, R487) -/

/-- The unit and its vectors that a table entry serves (R66, R67). -/
def vecUnits (s : State) (x : Nat) : List (Nat × Nat) :=
  (if x < 2048 then [(x / 4 + 1, x % 4)] else []) ++ (if msiVec s 0 0 = x then [(0, 0)] else [])

/-- MOD_INT is counted from the message actually sent (R427). -/
def stampSent (x : Nat) (s : State) : State :=
  (vecUnits s x).foldl (fun s u => updNtf u.1 (fun n => { n with last := tput n.last u.2 s.clk }) s) s

/-- An entry is unmasked: a pending bit is cleared and its message sent (R427). -/
def unmask (x : Nat) (s : State) : State :=
  let had := s.pcie.pba.contains x
  let s := updPcie (fun p => { p with unmasked := insNat p.unmasked x, pba := p.pba.filter fun y => y != x }) s
  if had then post (.msi x) (stampSent x s) else s

/-- A word of the table, 16 bytes an entry; bit 0 of the fourth word masks the entry (PCI Express). -/
def writeMsix (off v : Nat) (s : State) : State :=
  let x := off / 16
  let s := updPcie (fun p => { p with msix := tset 0 p.msix off v }) s
  if off % 16 ≠ 12 then s
  else if bitOf v 0 then updPcie (fun p => { p with unmasked := p.unmasked.filter fun y => y != x }) s
  else unmask x s

/-- The endpoint answers: from t0 + 100 ms (R55), and throughout a soft reset (R491). The MSI-X table accepts writes as
long (R487, R491). -/
def msixOpen (s : State) : Bool := (decide (3 ≤ s.pwr.phase) || s.pwr.soft) && !s.pcie.down

/-- GLB_ and PWR_ are readable, and accesses are judged: from t0 + 300 ms, or s0 + 10 ms of a soft reset (R55, R491). -/
def regsOpen (s : State) : Bool := decide (4 ≤ s.pwr.phase) && !s.pcie.down

def execMsixUnmask (vec : Nat) (s : State) : Res :=
  .next (if msixOpen s && decide (vec < 2048) then writeMsix (16 * vec + 12) 0 s else s)

/-! ## The address map (R63) -/

/-- A word of one of the 4 KiB blocks below 0x0001_0000. -/
def writeLow (blk off v : Nat) (s : State) : State :=
  match blk with
  | 1 => writeWindow 0 off v s
  | 2 => writeNtfBlock off v s
  | 3 => if off = 4 then clearAtu v s else s
  | 4 => writePtpBlock off v s
  | 5 => writeAngBlock off v s
  | 6 => writePwrBlock off v s
  | 7 => writeTdmBlock off v s
  | 8 => writeTrpBlock off v s
  | 9 => writeChrBlock off v s
  | 10 => writeUpdBlock off v s
  | _ => s

/-- A write of a word at a BAR0 offset; an offset that no register occupies discards it (R5). -/
def writeAt (addr v : Nat) (s : State) : State :=
  if addr < 0x10000 then writeLow (addr / 0x1000) (addr % 0x1000) v s
  else if addr < 0x1C000 then writePort ((addr - 0x10000) / 0x400) (addr % 0x400) v s
  else if 0x20000 ≤ addr ∧ addr < 0x30000 then writeSwBlock (addr - 0x20000) v s
  else if 0x30000 ≤ addr ∧ addr < 0x40000 then writeArcBlock (addr - 0x30000) v s
  else if 0x800000 ≤ addr ∧ addr < 0x808000 then writeMsix (addr - 0x800000) v s
  else if 0x1001000 ≤ addr ∧ addr < 0x1201000 then writeWindow ((addr - 0x1000000) / 0x1000) (addr % 0x1000) v s
  else s

/-- Does a write at an offset reach its block (R487)? GLB_ and PWR_ do before MBX_READY. -/
def reaches (s : State) (addr : Nat) : Bool :=
  if 0x800000 ≤ addr ∧ addr < 0x808000 then msixOpen s
  else if addr < 0x1000 ∨ (0x6000 ≤ addr ∧ addr < 0x7000) then regsOpen s
  else hostUp s

/-- A write of a 32-bit word; an access of another alignment is discarded and reported (R4). -/
def execRegisterWrite (addr value : Nat) (s : State) : Res :=
  .next (if addr % 4 ≠ 0 then (if regsOpen s then accessError false true addr s else s)
    else if reaches s addr then writeAt addr (value % 2 ^ 32) s else s)

/-! ## Reads (R5, R6, R390) -/

/-- Keep a latch of a pair at the front, eight Requesters for each pair: the ninth takes over the longest unused. -/
def keepLatch (pair rid high : Nat) (l : List (Nat × Nat × Nat)) : List (Nat × Nat × Nat) :=
  let mine := (l.filter fun x => x.1 == pair && x.2.1 != rid).take 7
  (pair, rid, high) :: mine ++ l.filter fun x => x.1 != pair

/-- The high word latched for a Requester. -/
def latchOf (pair rid : Nat) (l : List (Nat × Nat × Nat)) : Option Nat :=
  (l.find? fun x => x.1 == pair && x.2.1 == rid).map fun x => x.2.2

/-- A read of a low word returns it and latches the high word. -/
def readLowWord (addr rid v : Nat) (s : State) : State :=
  emit (.value (v % 2 ^ 32)) (updPcie (fun p => { p with latches := keepLatch addr rid (v / 2 ^ 32) p.latches }) s)

/-- A read of a high word returns the value latched for the Requester, or without one the high word as it stands. -/
def readHighWord (addr rid v : Nat) (s : State) : State :=
  match latchOf (addr - 4) rid s.pcie.latches with
  | some h => emit (.value h) (updPcie (fun p => { p with latches := keepLatch (addr - 4) rid h p.latches }) s)
  | none => emit (.value (v / 2 ^ 32)) s

/-- The value of a pair as the host may read it now. -/
def pairSeen (s : State) (addr : Nat) : Option Nat :=
  (lowWord s addr).map fun p => if (p.1 && regsOpen s) || hostUp s then p.2 % 2 ^ 64 else 0

/-- NS, SEC_LO and SEC_HI of PTP_NOW, as the Requester's read of TS32 latched them (R390). -/
def readNow (rid i : Nat) (s : State) : Nat :=
  let t := match s.time.latches.find? fun x => x.1 == rid with
    | some x => x.2
    | none => fullNow s
  if i = 0 then t.ns else if i = 1 then t.sec % 2 ^ 32 else t.sec / 2 ^ 32 % 2 ^ 16 + b2n t.notTraceable * 2 ^ 31

/-- The latch has been used. -/
def useNow (rid : Nat) (s : State) : State :=
  updTime (fun t => { t with latches := (t.latches.filter fun x => x.1 == rid) ++ t.latches.filter fun x => x.1 != rid }) s

/-- The registers whose read does something, each as its own row does. -/
def readActs (addr rid : Nat) (s : State) : Option State :=
  if addr = 0x2008 then some (claimRead 0 0 s)
  else if addr = 0x4010 then some (readTs32 rid s)
  else if addr = 0x4014 ∨ addr = 0x4018 ∨ addr = 0x401C then some (emit (.value (readNow rid ((addr - 0x4014) / 4) s)) (useNow rid s))
  else if 0x1001000 ≤ addr ∧ addr < 0x1201000 ∧ 0x208 ≤ addr % 0x1000 ∧ addr % 0x1000 < 0x218 then
    some (claimRead ((addr - 0x1000000) / 0x1000) ((addr % 0x1000 - 0x208) / 4) s)
  else none

/-- A read of a 32-bit word of BAR0. -/
def readReg (addr rid : Nat) (s : State) : State :=
  match pairSeen s addr with
  | some v => readLowWord addr rid v s
  | none =>
    match (if 4 ≤ addr then pairSeen s (addr - 4) else none) with
    | some v => readHighWord addr rid v s
    | none =>
      match (if hostUp s then readActs addr rid s else none) with
      | some s' => s'
      | none => emit (.value (readBar0 s addr)) s

/-- A read of a word: of a low word, which latches, and of every other register too. -/
def execLowWordRead (addr rid : Nat) (s : State) : Res := .next (if msixOpen s && addr % 4 == 0 then readReg addr rid s else s)

/-! ## Access errors (R4, R64) -/

/-- A read of another size or alignment returns all ones, a write is discarded; either is an access error. -/
def execBar0BadAccess (addr : Nat) (write : Bool) (s : State) : Res :=
  .next (if !msixOpen s then s
    else
      let s := if regsOpen s then accessError false write addr s else s
      if write then s else emit (.value 0xFFFFFFFF) s)

/-- A BAR2 write is discarded and reported. -/
def execBar2Write (off : Nat) (s : State) : Res := .next (if regsOpen s then accessError true true off s else s)

end Sys2Proof.Machine
end

