-- ==== Sys2Proof/Machine/SvEvents.lean ====
section
/-! DEFINITION. Frames from the switch core: sampled values (R161 to R182) and GOOSE messages of other devices (R287 to
R292), and the instants at which their absence counts. -/

namespace Sys2Proof.Machine

/-! ## Sampled values -/

/-- The descriptor that judges a stream's frames: where a restart is pending, the one it brings (R183, DEDUCED). -/
def matchDesc (t : Stream) : List Byte := if t.restart then streamDesc t else t.desc

/-- Check 1 of R164: address, APPID and VLAN. -/
def svMatches (d : List Byte) (f : Frame) (u : SvPdu) : Bool :=
  let v := leAt d 138 2
  f.dst == unbe (sliceOf d 130 6) && u.appid == leAt d 136 2 &&
    (bitOf v 15 || (match f.tag with
      | some t => t.vid == bitsOf v 0 12
      | none => bitsOf v 0 12 == 0))

/-- A stream's restart takes effect (R183), unless its new configuration fails R163. -/
def restartStream (x : Nat) (t : Stream) (s : State) : State :=
  let d := streamDesc t
  if (svExceeded s x d).isSome then
    finishWaits (.streamRestart x) nospace (updStream x (fun t => { t with restart := false }) s)
  else
    let s := updStream x (fun t =>
      { t with desc := d, descStaged := none, cfg := streamCfg t, restart := false, resetNext := true }) s
    let chans := (List.range (sdChannels d)).map (· + sdBase d)
    let s := updFilt (fun f => { f with chans := tmap (fun c g => if chans.contains c then fapply chanFields g else g) f.chans }) s
    finishWaits (.streamRestart x) ok (setStream x .waiting (syncPairs s))

/-- The tag verifies under a key of the slot (R165, R166). -/
def svAuthOk (s : State) (slot : Nat) (u : SvPdu) : Bool :=
  match u.auth with
  | some a => (verifyKeys s slot 0).any fun k => authFits a k && a.tag == Config.svTag k.bytes k.alg { u with auth := none }
  | none => false

/-- Check 4: the PDU decodes and has the form of the stream. -/
def svDecodes (d : List Byte) (u : SvPdu) : Bool :=
  let name := (sliceOf d 0 130).takeWhile fun b => b != 0
  u.decodes && u.noAsdu == sdNoAsdu d && u.asdus.length == sdNoAsdu d &&
    u.asdus.all fun a => a.svid == name && decide (a.smpCnt < sdWrap d) && a.smpSynch != 3 && a.smpSynch != 4 &&
      a.values.length == sdChannels d && a.quality.length == sdChannels d

/-- Check 6: SmpRate, where present. -/
def svRateOk (d : List Byte) (u : SvPdu) : Bool :=
  u.asdus.all fun a => match a.smpRate with
    | some r => r == sdRate d
    | none => true

/-- Checks 3 to 6 of R164: the counter of the first that fails. -/
def svFails (s : State) (d : List Byte) (u : SvPdu) : Option Nat :=
  if sdFlag d 0 && !svAuthOk s (sdKeySlot d) u then some 3
  else if !svDecodes d u then some 4
  else if !(u.asdus.all fun a => a.confRev == leAt d 140 4) then some 5
  else if !svRateOk d u then some 6
  else none

/-- An authentication failure is entered in the Chronicle once in 60 s (R185). -/
def noteAuthFail (x : Nat) (t : Stream) (s : State) : State :=
  let old := match t.authLog with
    | some l => decide (s.clk < l + 60 * sec1)
    | none => false
  if old then s else noteMod 0x0404 0 x [] (updStream x (fun t => { t with authLog := some s.clk }) s)

/-- One ASDU in a pair: what this unit may not offer it discards (R173, R174, R177); the rest goes to the ballot (R304). -/
def svOffer (x : Nat) (t : Stream) (a : SvAsdu) (sim : Bool) (arr : Nat) (s : State) : State :=
  let (b, w, _) := placeOf s t a arr
  let time : Int := w + cntOff t.desc a.smpCnt
  let id := InputId.sample x a.smpCnt (wrapIndex t.desc w.toNat)
  let missed := match findInput s id with
    | some y => y.ownMissing && y.own.isNone
    | none => false
  if b = .arrival ∧ sdFlag t.desc 1 then strCount x 9 s
  else if time < 0 then strCount x 10 s
  else if (fval t.cfg sAlignMax * us * 65536 : Nat) < (arr : Int) - time then strCount x 11 s
  else if missed then strCount x 11 s
  else offer id (.sample a sim arr) s

/-- In a pair, does this unit hold the sample that an ASDU brings? -/
def svOffered (x : Nat) (t : Stream) (a : SvAsdu) (arr : Nat) (s : State) : Bool :=
  match findInput s (.sample x a.smpCnt (wrapIndex t.desc (placeOf s t a arr).2.1.toNat)) with
  | some y => y.own.isSome
  | none => false

/-- One ASDU that has passed the checks. -/
def svAsdu (x : Nat) (auth sim : Bool) (arr : Nat) (a : SvAsdu) (s : State) : State :=
  if s.tdm.standalone then placeAsdu x a sim auth arr s
  else match tfind s.sv.streams x with
    | some t => svOffer x t a sim arr s
    | none => s

/-- The simulation bit (R169, check 7): the state after it, and whether the frame is admissible. -/
def svSim (x : Nat) (t : Stream) (sim : Bool) (s : State) : State × Bool :=
  let accepts := simAccepted s x
  let s := if t.simActive && !accepts then setSim x false s else s
  let active := t.simActive && accepts
  if sim then if accepts then (setSim x true s, true) else (s, false)
  else (s, !active)

/-- A frame of a stream past checks 1 and 2. -/
def svTake (x : Nat) (t : Stream) (u : SvPdu) (arr : Nat) (s : State) : State :=
  match svFails s t.desc u with
  | some 3 => noteAuthFail x t (strCount x 3 s)
  | some i => strCount x i s
  | none =>
    match svSim x t u.sim s with
    | (s, false) => strCount x 8 s
    | (s, true) =>
      let before := match tfind s.sv.streams x with
        | some t => tget 0 t.counts 1
        | none => 0
      let s := u.asdus.foldl (fun s a => svAsdu x (sdFlag t.desc 0) u.sim arr a s) s
      let after := match tfind s.sv.streams x with
        | some t => tget 0 t.counts 1
        | none => 0
      let hit := if s.tdm.standalone then before != after else u.asdus.any fun a => svOffered x t a arr s
      if hit then strCount x 0 s else s

/-- A sampled-value frame reaches ingest. -/
def svIngest (f : Frame) (u : SvPdu) (arr : Nat) (s : State) : State :=
  match s.sv.streams.find? fun (e : Nat × Stream) => svMatches (matchDesc e.2) f u with
  | none => { s with sv := { s.sv with unknown := s.sv.unknown + 1 } }
  | some (x, t) =>
    let s := if t.state == .held && t.restart then restartStream x t s else s
    match tfind s.sv.streams x with
    | some t => if t.state = .held then strCount x 2 s else svTake x t u arr s
    | none => s

/-- Is a captured copy a sampled-value frame? -/
def isSv (q : Copy) : Bool :=
  match q.frame.payload with
  | .sv _ => true
  | _ => false

/-- A frame that ingest takes from its port. -/
def svFrame (q : Copy) (s : State) : State :=
  match q.frame.payload with
  | .sv u => svIngest q.frame u q.stamp s
  | _ => s

/-- SV ingest and GOOSE subscription run: not in BOOT or HALTED (R26), nor in REDUCED (R45). -/
def ingestRuns (s : State) : Bool := !bootOrHalted s && s.pwr.state == 1

/-- The next frame at SVI; where ingest does not run it has no effect. A joiner leaves it waiting until it has applied the
input state (R323). -/
def execSvFrameIngest (s : State) : Res :=
  if joining s 3 then .next s
  else match takeFrom 48 isSv 8 s with
    | some (q, s) => .next (if ingestRuns s then svFrame q s else s)
    | none => .next s

/-! ## Missing samples (R177) -/

/-- This unit has placed a later sample of the same or the next wrap period SKEW_WAIT ago, not yet settled. -/
def laterOwn (s : State) (x : Nat) (t : Stream) (n : Nat) : Bool :=
  s.tdm.inputs.any fun y =>
    match y.id with
    | .sample x' cnt wrap =>
      x' == x && y.own.isSome && decide (y.ownAt + fval t.cfg sSkewWait * us ≤ s.clk) &&
        (match seqOfId t cnt wrap with
         | some m => decide (n < m) && decide (m < n + 2 * sdWrap t.desc)
         | none => false)
    | .goose _ _ _ _ => false

/-- Does this unit already hold sample `n`, or has it declared it missing? -/
def ownKnown (s : State) (id : InputId) : Bool :=
  match findInput s id with
  | some y => y.own.isSome || y.ownMissing || y.settled.isSome
  | none => false

/-- The ballot identity of sample `n`. -/
def idOfSeq (x : Nat) (t : Stream) (n : Nat) : Option InputId :=
  match (match t.prev with
    | some k => some k
    | none => t.final.head?) with
  | some k => let m := deadSmp t k n; some (.sample x m.cnt (wrapIndex t.desc m.w))
  | none => none

/-- The first sample from `n` on that this unit neither holds nor has declared missing. -/
def firstOwnUnknown (s : State) (x : Nat) (t : Stream) : Nat → Nat → Option (Nat × InputId)
  | 0, _ => none
  | k + 1, n =>
    match idOfSeq x t n with
    | some id => if thas t.ahead n || ownKnown s id then firstOwnUnknown s x t k (n + 1) else some (n, id)
    | none => none

def execSampleMissing (x : Nat) (s : State) : Res :=
  match tfind s.sv.streams x with
  | none => .next s
  | some t =>
    if t.state = .held then .next s
    else if s.tdm.standalone then
      match nextUnknown t with
      | some n => .next (if missingDue s t n then declareMissing x n s else s)
      | none => .next s
    else
      match t.next.bind (firstOwnUnknown s x t 256) with
      | some (n, id) => .next (if missingDue s t n || laterOwn s x t n then offerMissing id s else s)
      | none => .next s

/-! ## GOOSE of other devices (R287 to R292) -/

/-- A message for one subscription: checks 3 to 6, then its effect, or in a pair its offer to the ballot (R304). -/
def gooseFor (n i : Nat) (u : Sub) (g : GoosePdu) (arr : Nat) (s : State) : State :=
  match subChecks n i u g s with
  | (s, false) => s
  | (s, true) =>
    let s := subEvents n i (subSignal u) arr s
    if s.tdm.standalone then applyGoose n i g arr s
    else match tfind (inst s n).subs i with
      | some u =>
        if seqJudge u g = .bad then updSub n i (fun u => { u with seqErr := u.seqErr + 1 }) s
        else offer (.goose n i g.stNum g.sqNum) (.goose g arr) s
      | none => s

def isGoose (q : Copy) : Bool :=
  match q.frame.payload with
  | .goose _ => true
  | _ => false

/-- A GOOSE message reaches the subscriptions it matches, or counts in UNKNOWN. -/
def gooseFrame (q : Copy) (s : State) : State :=
  match q.frame.payload with
  | .goose g =>
    let hits := subHits s q.frame g
    if hits.isEmpty then { s with trip := { s.trip with unknown := s.trip.unknown + 1 } }
    else hits.foldl (fun s h => gooseFor h.1 h.2.1 h.2.2 g q.stamp s) s
  | _ => s

/-- The next GOOSE message; a joiner leaves it waiting until it has applied the input state (R323). -/
def execGooseFrameReceive (s : State) : Res :=
  if joining s 3 then .next s
  else match takeFrom 49 isGoose 8 s with
    | some (q, s) => .next (if ingestRuns s then gooseFrame q s else s)
    | none => .next s

/-- The TAL and TAL_EXTRA have run out. In a pair VALID is judged at each ballot close (R306). -/
def execGooseTalExpiry (n i : Nat) (s : State) : Res := .next (if s.tdm.standalone then talOut n i s else s)

end Sys2Proof.Machine
end

