-- ==== Sys2Proof/Machine/Dispatch.lean ====
section
/-! DEFINITION. The dispatch: one arm per command, one call of its meaning each. -/

namespace Sys2Proof.Machine

/-- What a command does to the state (the queue apart). -/
def exec (i : Instr) (s : State) : Host.Outcome State Fault Refusal :=
  match i with
  | .adminIdentify r => Sys2Proof.Machine.execAdminIdentify r s
  | .adminServiceGet r => Sys2Proof.Machine.execAdminServiceGet r s
  | .adminServiceSet r => Sys2Proof.Machine.execAdminServiceSet r s
  | .adminEcho r => Sys2Proof.Machine.execAdminEcho r s
  | .adminAbort r => Sys2Proof.Machine.execAdminAbort r s
  | .adminTimeoutSet r => Sys2Proof.Machine.execAdminTimeoutSet r s
  | .adminBoundsGet r => Sys2Proof.Machine.execAdminBoundsGet r s
  | .adminCountersGet r => Sys2Proof.Machine.execAdminCountersGet r s
  | .adminConfigSave r => Sys2Proof.Machine.execAdminConfigSave r s
  | .adminAutoserviceSet r => Sys2Proof.Machine.execAdminAutoserviceSet r s
  | .adminVectorSet r => Sys2Proof.Machine.execAdminVectorSet r s
  | .instanceStatusGet r => Sys2Proof.Machine.execInstanceStatusGet r s
  | .instanceSliceAssign r => Sys2Proof.Machine.execInstanceSliceAssign r s
  | .instanceSliceRelease r => Sys2Proof.Machine.execInstanceSliceRelease r s
  | .instanceAtuMap r => Sys2Proof.Machine.execInstanceAtuMap r s
  | .instanceAtuUnmap r => Sys2Proof.Machine.execInstanceAtuUnmap r s
  | .instanceShareSet r => Sys2Proof.Machine.execInstanceShareSet r s
  | .instanceConfigSet r => Sys2Proof.Machine.execInstanceConfigSet r s
  | .instanceConfigGet r => Sys2Proof.Machine.execInstanceConfigGet r s
  | .instanceHold r => Sys2Proof.Machine.execInstanceHold r s
  | .instanceRestart r => Sys2Proof.Machine.execInstanceRestart r s
  | .instanceReset r => Sys2Proof.Machine.execInstanceReset r s
  | .instanceFreeze r => Sys2Proof.Machine.execInstanceFreeze r s
  | .instanceSave r => Sys2Proof.Machine.execInstanceSave r s
  | .instanceRestore r => Sys2Proof.Machine.execInstanceRestore r s
  | .instanceThaw r => Sys2Proof.Machine.execInstanceThaw r s
  | .angleDomainGet r => Sys2Proof.Machine.execAngleDomainGet r s
  | .angleDomainSet r => Sys2Proof.Machine.execAngleDomainSet r s
  | .angleDomainHold r => Sys2Proof.Machine.execAngleDomainHold r s
  | .angleDomainRestart r => Sys2Proof.Machine.execAngleDomainRestart r s
  | .angleLoopHold r => Sys2Proof.Machine.execAngleLoopHold r s
  | .angleConvert r => Sys2Proof.Machine.execAngleConvert r s
  | .angleSpareSet r => Sys2Proof.Machine.execAngleSpareSet r s
  | .angleSpareGet r => Sys2Proof.Machine.execAngleSpareGet r s
  | .angleSpareHold r => Sys2Proof.Machine.execAngleSpareHold r s
  | .svStreamSubscribe r => Sys2Proof.Machine.execSvStreamSubscribe r s
  | .svStreamUnsubscribe r => Sys2Proof.Machine.execSvStreamUnsubscribe r s
  | .svStreamSet r => Sys2Proof.Machine.execSvStreamSet r s
  | .svStreamGet r => Sys2Proof.Machine.execSvStreamGet r s
  | .svStreamHold r => Sys2Proof.Machine.execSvStreamHold r s
  | .svStreamRestart r => Sys2Proof.Machine.execSvStreamRestart r s
  | .svStreamStatus r => Sys2Proof.Machine.execSvStreamStatus r s
  | .svLoadGet r => Sys2Proof.Machine.execSvLoadGet r s
  | .svSimReset r => Sys2Proof.Machine.execSvSimReset r s
  | .svCountersClear r => Sys2Proof.Machine.execSvCountersClear r s
  | .filterChannelSet r => Sys2Proof.Machine.execFilterChannelSet r s
  | .filterChannelGet r => Sys2Proof.Machine.execFilterChannelGet r s
  | .filterRomGet r => Sys2Proof.Machine.execFilterRomGet r s
  | .filterPairsGet r => Sys2Proof.Machine.execFilterPairsGet r s
  | .filterGridRead r => Sys2Proof.Machine.execFilterGridRead r s
  | .filterResync r => Sys2Proof.Machine.execFilterResync r s
  | .filterDetectorSet r => Sys2Proof.Machine.execFilterDetectorSet r s
  | .filterDetectorGet r => Sys2Proof.Machine.execFilterDetectorGet r s
  | .filterDetectorClear r => Sys2Proof.Machine.execFilterDetectorClear r s
  | .elementSetLoad r => Sys2Proof.Machine.execElementSetLoad r s
  | .elementSetGet r => Sys2Proof.Machine.execElementSetGet r s
  | .elementParamSet r => Sys2Proof.Machine.execElementParamSet r s
  | .elementParamGet r => Sys2Proof.Machine.execElementParamGet r s
  | .elementAdmitCheck r => Sys2Proof.Machine.execElementAdmitCheck r s
  | .elementLoadGet r => Sys2Proof.Machine.execElementLoadGet r s
  | .elementSlotStatus r => Sys2Proof.Machine.execElementSlotStatus r s
  | .elementStateGet r => Sys2Proof.Machine.execElementStateGet r s
  | .elementLaneStatus r => Sys2Proof.Machine.execElementLaneStatus r s
  | .elementCatalogueGet r => Sys2Proof.Machine.execElementCatalogueGet r s
  | .elementCountersClear r => Sys2Proof.Machine.execElementCountersClear r s
  | .logicProgramLoad r => Sys2Proof.Machine.execLogicProgramLoad r s
  | .logicProgramGet r => Sys2Proof.Machine.execLogicProgramGet r s
  | .logicProgramInfo r => Sys2Proof.Machine.execLogicProgramInfo r s
  | .logicSignalRead r => Sys2Proof.Machine.execLogicSignalRead r s
  | .logicControlWrite r => Sys2Proof.Machine.execLogicControlWrite r s
  | .logicForceSet r => Sys2Proof.Machine.execLogicForceSet r s
  | .logicForceClear r => Sys2Proof.Machine.execLogicForceClear r s
  | .logicForceList r => Sys2Proof.Machine.execLogicForceList r s
  | .logicStateGet r => Sys2Proof.Machine.execLogicStateGet r s
  | .logicExchangeReport r => Sys2Proof.Machine.execLogicExchangeReport r s
  | .logicSweepGet r => Sys2Proof.Machine.execLogicSweepGet r s
  | .logicEngineSet r => Sys2Proof.Machine.execLogicEngineSet r s
  | .goosePubSet r => Sys2Proof.Machine.execGoosePubSet r s
  | .goosePubGet r => Sys2Proof.Machine.execGoosePubGet r s
  | .goosePubStatus r => Sys2Proof.Machine.execGoosePubStatus r s
  | .goosePubRelease r => Sys2Proof.Machine.execGoosePubRelease r s
  | .gooseSubSet r => Sys2Proof.Machine.execGooseSubSet r s
  | .gooseSubGet r => Sys2Proof.Machine.execGooseSubGet r s
  | .gooseSubStatus r => Sys2Proof.Machine.execGooseSubStatus r s
  | .gooseCountersClear r => Sys2Proof.Machine.execGooseCountersClear r s
  | .tripOutputSet r => Sys2Proof.Machine.execTripOutputSet r s
  | .tripOutputGet r => Sys2Proof.Machine.execTripOutputGet r s
  | .tripOutputTest r => Sys2Proof.Machine.execTripOutputTest r s
  | .tripReactionGet r => Sys2Proof.Machine.execTripReactionGet r s
  | .tandemStatusGet r => Sys2Proof.Machine.execTandemStatusGet r s
  | .tandemPairSet r => Sys2Proof.Machine.execTandemPairSet r s
  | .tandemPairGet r => Sys2Proof.Machine.execTandemPairGet r s
  | .tandemSwitchover r => Sys2Proof.Machine.execTandemSwitchover r s
  | .tandemIsolate r => Sys2Proof.Machine.execTandemIsolate r s
  | .tandemRejoin r => Sys2Proof.Machine.execTandemRejoin r s
  | .tandemResyncGet r => Sys2Proof.Machine.execTandemResyncGet r s
  | .tandemCountersGet r => Sys2Proof.Machine.execTandemCountersGet r s
  | .tandemCountersClear r => Sys2Proof.Machine.execTandemCountersClear r s
  | .tandemRefereeGet r => Sys2Proof.Machine.execTandemRefereeGet r s
  | .portConfigSet r => Sys2Proof.Machine.execPortConfigSet r s
  | .portConfigGet r => Sys2Proof.Machine.execPortConfigGet r s
  | .portStatusGet r => Sys2Proof.Machine.execPortStatusGet r s
  | .portHold r => Sys2Proof.Machine.execPortHold r s
  | .portRestart r => Sys2Proof.Machine.execPortRestart r s
  | .portCountersClear r => Sys2Proof.Machine.execPortCountersClear r s
  | .portGclSet r => Sys2Proof.Machine.execPortGclSet r s
  | .portGclGet r => Sys2Proof.Machine.execPortGclGet r s
  | .portVportSet r => Sys2Proof.Machine.execPortVportSet r s
  | .portVportGet r => Sys2Proof.Machine.execPortVportGet r s
  | .switchFdbSet r => Sys2Proof.Machine.execSwitchFdbSet r s
  | .switchFdbGet r => Sys2Proof.Machine.execSwitchFdbGet r s
  | .switchFdbFlush r => Sys2Proof.Machine.execSwitchFdbFlush r s
  | .switchGroupSet r => Sys2Proof.Machine.execSwitchGroupSet r s
  | .switchVlanSet r => Sys2Proof.Machine.execSwitchVlanSet r s
  | .switchMirrorSet r => Sys2Proof.Machine.execSwitchMirrorSet r s
  | .switchRedundancySet r => Sys2Proof.Machine.execSwitchRedundancySet r s
  | .switchRedundancyGet r => Sys2Proof.Machine.execSwitchRedundancyGet r s
  | .switchShelfGet r => Sys2Proof.Machine.execSwitchShelfGet r s
  | .switchStocktakeRun r => Sys2Proof.Machine.execSwitchStocktakeRun r s
  | .switchConfigSet r => Sys2Proof.Machine.execSwitchConfigSet r s
  | .timeStatusGet r => Sys2Proof.Machine.execTimeStatusGet r s
  | .timeNowGet r => Sys2Proof.Machine.execTimeNowGet r s
  | .timeConfigSet r => Sys2Proof.Machine.execTimeConfigSet r s
  | .timeConfigGet r => Sys2Proof.Machine.execTimeConfigGet r s
  | .timePortSet r => Sys2Proof.Machine.execTimePortSet r s
  | .timePortGet r => Sys2Proof.Machine.execTimePortGet r s
  | .timeRestart r => Sys2Proof.Machine.execTimeRestart r s
  | .timeSet r => Sys2Proof.Machine.execTimeSet r s
  | .timeCountersClear r => Sys2Proof.Machine.execTimeCountersClear r s
  | .archiveRecorderSet r => Sys2Proof.Machine.execArchiveRecorderSet r s
  | .archiveRecorderGet r => Sys2Proof.Machine.execArchiveRecorderGet r s
  | .archiveRecorderArm r => Sys2Proof.Machine.execArchiveRecorderArm r s
  | .archiveRecorderHold r => Sys2Proof.Machine.execArchiveRecorderHold r s
  | .archiveRecorderDelete r => Sys2Proof.Machine.execArchiveRecorderDelete r s
  | .archiveTrigger r => Sys2Proof.Machine.execArchiveTrigger r s
  | .archiveStatusGet r => Sys2Proof.Machine.execArchiveStatusGet r s
  | .archiveFolioList r => Sys2Proof.Machine.execArchiveFolioList r s
  | .archiveFolioRelease r => Sys2Proof.Machine.execArchiveFolioRelease r s
  | .archiveFolioKeep r => Sys2Proof.Machine.execArchiveFolioKeep r s
  | .archiveRoomOpen r => Sys2Proof.Machine.execArchiveRoomOpen r s
  | .archiveRoomClose r => Sys2Proof.Machine.execArchiveRoomClose r s
  | .archiveConfigSet r => Sys2Proof.Machine.execArchiveConfigSet r s
  | .archiveCountersClear r => Sys2Proof.Machine.execArchiveCountersClear r s
  | .chronicleRead r => Sys2Proof.Machine.execChronicleRead r s
  | .chronicleStatusGet r => Sys2Proof.Machine.execChronicleStatusGet r s
  | .chronicleClear r => Sys2Proof.Machine.execChronicleClear r s
  | .chronicleNote r => Sys2Proof.Machine.execChronicleNote r s
  | .chronicleConfigSet r => Sys2Proof.Machine.execChronicleConfigSet r s
  | .errorContextsGet r => Sys2Proof.Machine.execErrorContextsGet r s
  | .notifyConfigSet r => Sys2Proof.Machine.execNotifyConfigSet r s
  | .notifyConfigGet r => Sys2Proof.Machine.execNotifyConfigGet r s
  | .notifyAlarmGet r => Sys2Proof.Machine.execNotifyAlarmGet r s
  | .notifyAlarmClear r => Sys2Proof.Machine.execNotifyAlarmClear r s
  | .notifyAlarmpubSet r => Sys2Proof.Machine.execNotifyAlarmpubSet r s
  | .notifyFilterSet r => Sys2Proof.Machine.execNotifyFilterSet r s
  | .keyIdentityGet r => Sys2Proof.Machine.execKeyIdentityGet r s
  | .keyOwnerEnrol r => Sys2Proof.Machine.execKeyOwnerEnrol r s
  | .keyDepositBegin r => Sys2Proof.Machine.execKeyDepositBegin r s
  | .keyDepositChunk r => Sys2Proof.Machine.execKeyDepositChunk r s
  | .keyDepositEnd r => Sys2Proof.Machine.execKeyDepositEnd r s
  | .keyDepositAbort r => Sys2Proof.Machine.execKeyDepositAbort r s
  | .keySlotGet r => Sys2Proof.Machine.execKeySlotGet r s
  | .keySlotPromote r => Sys2Proof.Machine.execKeySlotPromote r s
  | .keyGenerate r => Sys2Proof.Machine.execKeyGenerate r s
  | .keySign r => Sys2Proof.Machine.execKeySign r s
  | .keyAttest r => Sys2Proof.Machine.execKeyAttest r s
  | .keyModeSet r => Sys2Proof.Machine.execKeyModeSet r s
  | .updateStatusGet r => Sys2Proof.Machine.execUpdateStatusGet r s
  | .updateDepositBegin r => Sys2Proof.Machine.execUpdateDepositBegin r s
  | .updateDepositChunk r => Sys2Proof.Machine.execUpdateDepositChunk r s
  | .updateDepositEnd r => Sys2Proof.Machine.execUpdateDepositEnd r s
  | .updateDepositAbort r => Sys2Proof.Machine.execUpdateDepositAbort r s
  | .updateActivate r => Sys2Proof.Machine.execUpdateActivate r s
  | .updateConfirm r => Sys2Proof.Machine.execUpdateConfirm r s
  | .updateCancel r => Sys2Proof.Machine.execUpdateCancel r s
  | .updateWindowSet r => Sys2Proof.Machine.execUpdateWindowSet r s
  | .powerStatusGet r => Sys2Proof.Machine.execPowerStatusGet r s
  | .powerEnergyStart r => Sys2Proof.Machine.execPowerEnergyStart r s
  | .powerEnergyRead r => Sys2Proof.Machine.execPowerEnergyRead r s
  | .powerGatingSet r => Sys2Proof.Machine.execPowerGatingSet r s
  | .powerHoldupTest r => Sys2Proof.Machine.execPowerHoldupTest r s
  | .powerCountersGet r => Sys2Proof.Machine.execPowerCountersGet r s
  | .powerThermalSet r => Sys2Proof.Machine.execPowerThermalSet r s
  | .powerReset r => Sys2Proof.Machine.execPowerReset r s
  | .sqTail slice value => Sys2Proof.Machine.execSqTail slice value s
  | .cqHead slice value => Sys2Proof.Machine.execCqHead slice value s
  | .ringEnable slice value => Sys2Proof.Machine.execRingEnable slice value s
  | .ringDisable slice value => Sys2Proof.Machine.execRingDisable slice value s
  | .rxTail slice value => Sys2Proof.Machine.execRxTail slice value s
  | .txTail slice value => Sys2Proof.Machine.execTxTail slice value s
  | .rxRingEnable slice value => Sys2Proof.Machine.execRxRingEnable slice value s
  | .rxRingDisable slice value => Sys2Proof.Machine.execRxRingDisable slice value s
  | .txRingEnable slice value => Sys2Proof.Machine.execTxRingEnable slice value s
  | .txRingDisable slice value => Sys2Proof.Machine.execTxRingDisable slice value s
  | .snap value => Sys2Proof.Machine.execSnap value s
  | .angCtrlHold d value => Sys2Proof.Machine.execAngCtrlHold d value s
  | .ntfAdmClaim => Sys2Proof.Machine.execNtfAdmClaim s
  | .ntfAdmComplete value => Sys2Proof.Machine.execNtfAdmComplete value s
  | .slcNtfClaim slice v => Sys2Proof.Machine.execSlcNtfClaim slice v s
  | .slcNtfComplete slice value => Sys2Proof.Machine.execSlcNtfComplete slice value s
  | .ptpNowTs32 rid => Sys2Proof.Machine.execPtpNowTs32 rid s
  | .lowWordRead addr rid => Sys2Proof.Machine.execLowWordRead addr rid s
  | .registerWrite addr value => Sys2Proof.Machine.execRegisterWrite addr value s
  | .bar0BadAccess addr write => Sys2Proof.Machine.execBar0BadAccess addr write s
  | .readingRoomRead off => Sys2Proof.Machine.execReadingRoomRead off s
  | .bar2Write off => Sys2Proof.Machine.execBar2Write off s
  | .msixUnmask vec => Sys2Proof.Machine.execMsixUnmask vec s
  | .submissionFetch slice entry => Sys2Proof.Machine.execSubmissionFetch slice entry s
  | .dmaReadCompletion tag ok data => Sys2Proof.Machine.execDmaReadCompletion tag ok data s
  | .dmaReadTimeout tag => Sys2Proof.Machine.execDmaReadTimeout tag s
  | .commandTimeout r => Sys2Proof.Machine.execCommandTimeout r s
  | .completionWrite r => Sys2Proof.Machine.execCompletionWrite r s
  | .perst => Sys2Proof.Machine.execPerst s
  | .functionLevelReset => Sys2Proof.Machine.execFunctionLevelReset s
  | .busMasterChange bme d3 => Sys2Proof.Machine.execBusMasterChange bme d3 s
  | .txFrameFetch slice descs frame => Sys2Proof.Machine.execTxFrameFetch slice descs frame s
  | .instanceRestartBoundary n => Sys2Proof.Machine.execInstanceRestartBoundary n s
  | .freezeBoundary n => Sys2Proof.Machine.execFreezeBoundary n s
  | .instanceResetDiscard n => Sys2Proof.Machine.execInstanceResetDiscard n s
  | .instanceResetComplete n => Sys2Proof.Machine.execInstanceResetComplete n s
  | .domainRestartBoundary d => Sys2Proof.Machine.execDomainRestartBoundary d s
  | .twelveVGood => Sys2Proof.Machine.execTwelveVGood s
  | .modEnLow => Sys2Proof.Machine.execModEnLow s
  | .railsUp => Sys2Proof.Machine.execRailsUp s
  | .railFault rail => Sys2Proof.Machine.execRailFault rail s
  | .supervisorStart dbgEn => Sys2Proof.Machine.execSupervisorStart dbgEn s
  | .pcieEndpointConfigured => Sys2Proof.Machine.execPcieEndpointConfigured s
  | .countersRestored => Sys2Proof.Machine.execCountersRestored s
  | .bankSelect => Sys2Proof.Machine.execBankSelect s
  | .dramTrained => Sys2Proof.Machine.execDramTrained s
  | .settingsLoaded => Sys2Proof.Machine.execSettingsLoaded s
  | .mbxReady => Sys2Proof.Machine.execMbxReady s
  | .pipelineStart => Sys2Proof.Machine.execPipelineStart s
  | .softReset => Sys2Proof.Machine.execSoftReset s
  | .vinLossUnarmed => Sys2Proof.Machine.execVinLossUnarmed s
  | .powerFailWarning => Sys2Proof.Machine.execPowerFailWarning s
  | .pfwOutputsOff => Sys2Proof.Machine.execPfwOutputsOff s
  | .dyingGasp => Sys2Proof.Machine.execDyingGasp s
  | .pfwLinksDown => Sys2Proof.Machine.execPfwLinksDown s
  | .pfwPcieDown => Sys2Proof.Machine.execPfwPcieDown s
  | .pfwChronicleEntry => Sys2Proof.Machine.execPfwChronicleEntry s
  | .supervisorResetHold => Sys2Proof.Machine.execSupervisorResetHold s
  | .holdupTestEnd microfarad => Sys2Proof.Machine.execHoldupTestEnd microfarad s
  | .powerEnergyIntervalEnd => Sys2Proof.Machine.execPowerEnergyIntervalEnd s
  | .thermalAlarm temp => Sys2Proof.Machine.execThermalAlarm temp s
  | .dieOvertemperature temp => Sys2Proof.Machine.execDieOvertemperature temp s
  | .supervisorWatchdog => Sys2Proof.Machine.execSupervisorWatchdog s
  | .eccUncorrected => Sys2Proof.Machine.execEccUncorrected s
  | .demoteResend => Sys2Proof.Machine.execDemoteResend s
  | .demoteTimeout => Sys2Proof.Machine.execDemoteTimeout s
  | .opsecTick => Sys2Proof.Machine.execOpsecTick s
  | .opsecPersist => Sys2Proof.Machine.execOpsecPersist s
  | .portFrameReceive p frame => Sys2Proof.Machine.execPortFrameReceive p frame s
  | .frameTransmit p => Sys2Proof.Machine.execFrameTransmit p s
  | .linkDown p => Sys2Proof.Machine.execLinkDown p s
  | .linkUp p speed => Sys2Proof.Machine.execLinkUp p speed s
  | .linkDownFlush p => Sys2Proof.Machine.execLinkDownFlush p s
  | .pauseWatchdog p => Sys2Proof.Machine.execPauseWatchdog p s
  | .pauseWdRelease p => Sys2Proof.Machine.execPauseWdRelease p s
  | .wake p => Sys2Proof.Machine.execWake p s
  | .fdbAgeExpiry vid mac => Sys2Proof.Machine.execFdbAgeExpiry vid mac s
  | .ddAgeExpiry pair src => Sys2Proof.Machine.execDdAgeExpiry pair src s
  | .stocktake => Sys2Proof.Machine.execStocktake s
  | .gateEvent p => Sys2Proof.Machine.execGateEvent p s
  | .gclChange p => Sys2Proof.Machine.execGclChange p s
  | .preemptionVerify p ok => Sys2Proof.Machine.execPreemptionVerify p ok s
  | .supervisionFrameSend pair => Sys2Proof.Machine.execSupervisionFrameSend pair s
  | .launchTime p => Sys2Proof.Machine.execLaunchTime p s
  | .svFrameIngest => Sys2Proof.Machine.execSvFrameIngest s
  | .sampleMissing stream => Sys2Proof.Machine.execSampleMissing stream s
  | .streamTimeout stream => Sys2Proof.Machine.execStreamTimeout stream s
  | .gridSampleProduce ch d => Sys2Proof.Machine.execGridSampleProduce ch d s
  | .thresholdDetectorEvent k => Sys2Proof.Machine.execThresholdDetectorEvent k s
  | .acquisitionPass d => Sys2Proof.Machine.execAcquisitionPass d s
  | .lockSet d => Sys2Proof.Machine.execLockSet d s
  | .holdLockTimeout d => Sys2Proof.Machine.execHoldLockTimeout d s
  | .coastTimeout d => Sys2Proof.Machine.execCoastTimeout d s
  | .holdoffExpiry d => Sys2Proof.Machine.execHoldoffExpiry d s
  | .refSetResume d => Sys2Proof.Machine.execRefSetResume d s
  | .stepDispatch d => Sys2Proof.Machine.execStepDispatch d s
  | .laneEvaluationComplete n slot upset => Sys2Proof.Machine.execLaneEvaluationComplete n slot upset s
  | .stepClose d => Sys2Proof.Machine.execStepClose d s
  | .stepDeadline d => Sys2Proof.Machine.execStepDeadline d s
  | .laneSelftest failed => Sys2Proof.Machine.execLaneSelftest failed s
  | .logicSweep => Sys2Proof.Machine.execLogicSweep s
  | .exchangeShadowReady n => Sys2Proof.Machine.execExchangeShadowReady n s
  | .powLaunch k => Sys2Proof.Machine.execPowLaunch k s
  | .minPulseExpiry k => Sys2Proof.Machine.execMinPulseExpiry k s
  | .maxPulseExpiry k => Sys2Proof.Machine.execMaxPulseExpiry k s
  | .energTimeExpiry k mV => Sys2Proof.Machine.execEnergTimeExpiry k mV s
  | .supervisionWindow k mV => Sys2Proof.Machine.execSupervisionWindow k mV s
  | .outputTest k => Sys2Proof.Machine.execOutputTest k s
  | .outputTestPhase k mV => Sys2Proof.Machine.execOutputTestPhase k mV s
  | .discTimeExpiry k => Sys2Proof.Machine.execDiscTimeExpiry k s
  | .filteredInputEdge k level ts => Sys2Proof.Machine.execFilteredInputEdge k level ts s
  | .x3LatchEdge k rising => Sys2Proof.Machine.execX3LatchEdge k rising s
  | .gooseLaunch n p => Sys2Proof.Machine.execGooseLaunch n p s
  | .gooseRetransmit n p => Sys2Proof.Machine.execGooseRetransmit n p s
  | .gooseFrameReceive => Sys2Proof.Machine.execGooseFrameReceive s
  | .gooseTalExpiry n sub => Sys2Proof.Machine.execGooseTalExpiry n sub s
  | .ptpMessageHandle => Sys2Proof.Machine.execPtpMessageHandle s
  | .residenceDiscard p seq => Sys2Proof.Machine.execResidenceDiscard p seq s
  | .sourceLoss => Sys2Proof.Machine.execSourceLoss s
  | .holdoverLimitExpiry => Sys2Proof.Machine.execHoldoverLimitExpiry s
  | .ppsInEdge => Sys2Proof.Machine.execPpsInEdge s
  | .freqInLoss => Sys2Proof.Machine.execFreqInLoss s
  | .ppsOutPulse => Sys2Proof.Machine.execPpsOutPulse s
  | .idle h role gen tcl alarms => Sys2Proof.Machine.execIdle h role gen tcl alarms s
  | .notice h recs => Sys2Proof.Machine.execNotice h recs s
  | .forward h input data => Sys2Proof.Machine.execForward h input data s
  | .settle h recs => Sys2Proof.Machine.execSettle h recs s
  | .report h digests x3 => Sys2Proof.Machine.execReport h digests x3 s
  | .close h b settled steps crc => Sys2Proof.Machine.execClose h b settled steps crc s
  | .closeAck h b crc => Sys2Proof.Machine.execCloseAck h b crc s
  | .carry h ident op slice effect params input => Sys2Proof.Machine.execCarry h ident op slice effect params input s
  | .carryAck h ident status => Sys2Proof.Machine.execCarryAck h ident status s
  | .nak h first last => Sys2Proof.Machine.execNak h first last s
  | .gasp h cause => Sys2Proof.Machine.execGasp h cause s
  | .hello h serial position pairId tclMin tclMax proposal => Sys2Proof.Machine.execHello h serial position pairId tclMin tclMax proposal s
  | .resync h chunk => Sys2Proof.Machine.execResync h chunk s
  | .linkFrameResend seq => Sys2Proof.Machine.execLinkFrameResend seq s
  | .linkDead => Sys2Proof.Machine.execLinkDead s
  | .laneDead lane => Sys2Proof.Machine.execLaneDead lane s
  | .idleSend => Sys2Proof.Machine.execIdleSend s
  | .helloSend => Sys2Proof.Machine.execHelloSend s
  | .fwdWaitExpiry input => Sys2Proof.Machine.execFwdWaitExpiry input s
  | .ballotPeriodEnd => Sys2Proof.Machine.execBallotPeriodEnd s
  | .ballotDeadline => Sys2Proof.Machine.execBallotDeadline s
  | .hbReply => Sys2Proof.Machine.execHbReply s
  | .grant => Sys2Proof.Machine.execGrant s
  | .revoke => Sys2Proof.Machine.execRevoke s
  | .demoteAck => Sys2Proof.Machine.execDemoteAck s
  | .heartbeat => Sys2Proof.Machine.execHeartbeat s
  | .refereeHello => Sys2Proof.Machine.execRefereeHello s
  | .peerGaspResend => Sys2Proof.Machine.execPeerGaspResend s
  | .refereeUnreachable path => Sys2Proof.Machine.execRefereeUnreachable path s
  | .resyncPhaseEnd => Sys2Proof.Machine.execResyncPhaseEnd s
  | .resyncFailure => Sys2Proof.Machine.execResyncFailure s
  | .resyncRetry => Sys2Proof.Machine.execResyncRetry s
  | .selftestScrubComplete ok => Sys2Proof.Machine.execSelftestScrubComplete ok s
  | .archiveRow rec => Sys2Proof.Machine.execArchiveRow rec s
  | .triggerAccept => Sys2Proof.Machine.execTriggerAccept s
  | .autoTimeout rec => Sys2Proof.Machine.execAutoTimeout rec s
  | .folioClose folio => Sys2Proof.Machine.execFolioClose folio s
  | .moderationExpiry slice v => Sys2Proof.Machine.execModerationExpiry slice v s
  | .chronicleItemWrite good0 good1 => Sys2Proof.Machine.execChronicleItemWrite good0 good1 s
  | .framDeviceFailed dev => Sys2Proof.Machine.execFramDeviceFailed dev s
  | .keyLapse slot => Sys2Proof.Machine.execKeyLapse slot s
  | .depositSessionTimeout firmware => Sys2Proof.Machine.execDepositSessionTimeout firmware s
  | .trialWindowExpiry => Sys2Proof.Machine.execTrialWindowExpiry s
  | .freqInPresent => Sys2Proof.Machine.execFreqInPresent s
  | .thermalAlarmCleared temp => Sys2Proof.Machine.execThermalAlarmCleared temp s
  | .pauseTimeExpiry p => Sys2Proof.Machine.execPauseTimeExpiry p s
  | .switchHardwareFault => Sys2Proof.Machine.execSwitchHardwareFault s

end Sys2Proof.Machine
end

