-- ==== Sys2Proof/Machine/Tick.lean ====
section
/-! DEFINITION. The passing of time: what a step does on an empty queue (DESIGN CHOICE, log entry 2). Events that the
command table names come as commands; what happens at an instant and has no row happens here. -/

namespace Sys2Proof.Machine

/-- Input voltage, current and the two temperatures as sampled each millisecond (R52, R59): physical quantities, free
values. -/
def sampleSupply (s : State) : State :=
  { s with fresh := s.fresh + 1,
           pwr := { s.pwr with vin := Config.free 4 s.fresh % 65536, iin := Config.free 5 s.fresh % 65536, trpTemp := Config.free 6 s.fresh % 65536,
                               dieTemp := Config.free 9 s.fresh % 65536 } }

/-- PPS_OUT stays high for 100 ms (R386). -/
def ppsFall (s : State) : State :=
  if s.time.ppsOut && decide (s.time.ppsOutAt + 100 * ms ≤ s.clk) then updTime (fun t => { t with ppsOut := false }) s else s

/-- What falls due at an instant: launch hand-ins (R389), the end of PPS_OUT, samples of the supply, and the module's
periodic PTP messages once the ports run. -/
def tickDue (s : State) : State :=
  let s := ppsFall (launchHandIns s)
  let s := if s.clk % ms = 0 then sampleSupply s else s
  if s.sw.forwarding && s.clk % sec1 == 0 then ptpPeriodic s else s

/-- One nanosecond passes. A module without power keeps no time. -/
def tick (s : State) : State :=
  let s := { s with clk := s.clk + 1 }
  if s.pwr.good then tickDue (updTime advance s) else s

end Sys2Proof.Machine
end

