-- ==== Sys2Proof/WellFormed.lean ====
section
/-! DEFINITION. Which commands are well formed: every operand inside the range the manual gives it. The model gives a
meaning to an operand outside its range as well; a claim may ask for well-formed commands. -/

namespace Sys2Proof

/-- At most `m`. -/
def upTo (m v : Nat) : Bool := decide (v ≤ m)

/-- A field of `w` bits. -/
def fits (w v : Nat) : Bool := decide (v < 2 ^ w)

/-- A protection instance, 1 to 512 (R99). -/
def instOk (n : Nat) : Bool := decide (1 ≤ n) && decide (n ≤ 512)

/-- A mailbox command: slice 0 to 512, CID of 16 bits (R66, R70). -/
def cmdOk (r : CmdId) : Bool := upTo 512 r.slice && fits 16 r.cid

/-- A submission entry of 64 bytes, where the read is given with the fetch (R70). -/
def entryOk (e : Option (List Byte)) : Bool :=
  match e with
  | some b => b.length == 64
  | none => true

/-- A frame: 48-bit addresses, a 12-bit VID, a 3-bit priority, and one of the three FCS outcomes (R340, R349). -/
def frameOk (f : Frame) : Bool :=
  fits 48 f.dst && fits 48 f.src && upTo 2 f.fcs &&
    (match f.tag with
     | some t => fits 12 t.vid && fits 3 t.pcp
     | none => true)

/-- The descriptors of a transmit frame: at least one, classes of 3 bits (R95). -/
def descsOk (ds : List TxDesc) : Bool := !ds.isEmpty && ds.all fun d => fits 3 d.cls && fits 16 d.len

/-- The header of a link frame: lane 0 or 1 (R301). -/
def hdrOk (h : LinkHdr) : Bool := upTo 1 h.lane && fits 32 h.session && fits 32 h.seq && fits 32 h.ack && fits 64 h.ballot

/-- The identity of a ballot input (R303). -/
def inputOk (i : InputId) : Bool :=
  match i with
  | .sample stream _ _ => upTo 2047 stream
  | .goose inst sub _ _ => instOk inst && upTo 63 sub

/-- Lanes that fail their self-test: 0 to 63, none twice (R221). -/
def lanesOk (ls : List Nat) : Bool := ls.all (upTo 63) && decide ls.Nodup

/-- Every operand of a command is inside its range. -/
def Instr.wf : Instr → Bool
  | .adminIdentify r | .adminServiceGet r | .adminServiceSet r | .adminEcho r | .adminAbort r
  | .adminTimeoutSet r | .adminBoundsGet r | .adminCountersGet r | .adminConfigSave r | .adminAutoserviceSet r
  | .adminVectorSet r | .instanceStatusGet r | .instanceSliceAssign r | .instanceSliceRelease r
  | .instanceAtuMap r | .instanceAtuUnmap r | .instanceShareSet r | .instanceConfigSet r | .instanceConfigGet r
  | .instanceHold r | .instanceRestart r | .instanceReset r | .instanceFreeze r | .instanceSave r
  | .instanceRestore r | .instanceThaw r | .angleDomainGet r | .angleDomainSet r | .angleDomainHold r
  | .angleDomainRestart r | .angleLoopHold r | .angleConvert r | .angleSpareSet r | .angleSpareGet r
  | .angleSpareHold r | .svStreamSubscribe r | .svStreamUnsubscribe r | .svStreamSet r | .svStreamGet r
  | .svStreamHold r | .svStreamRestart r | .svStreamStatus r | .svLoadGet r | .svSimReset r
  | .svCountersClear r | .filterChannelSet r | .filterChannelGet r | .filterRomGet r | .filterPairsGet r
  | .filterGridRead r | .filterResync r | .filterDetectorSet r | .filterDetectorGet r | .filterDetectorClear r
  | .elementSetLoad r | .elementSetGet r | .elementParamSet r | .elementParamGet r | .elementAdmitCheck r
  | .elementLoadGet r | .elementSlotStatus r | .elementStateGet r | .elementLaneStatus r
  | .elementCatalogueGet r | .elementCountersClear r | .logicProgramLoad r | .logicProgramGet r
  | .logicProgramInfo r | .logicSignalRead r | .logicControlWrite r | .logicForceSet r | .logicForceClear r
  | .logicForceList r | .logicStateGet r | .logicExchangeReport r | .logicSweepGet r | .logicEngineSet r
  | .goosePubSet r | .goosePubGet r | .goosePubStatus r | .goosePubRelease r | .gooseSubSet r | .gooseSubGet r
  | .gooseSubStatus r | .gooseCountersClear r | .tripOutputSet r | .tripOutputGet r | .tripOutputTest r
  | .tripReactionGet r | .tandemStatusGet r | .tandemPairSet r | .tandemPairGet r | .tandemSwitchover r
  | .tandemIsolate r | .tandemRejoin r | .tandemResyncGet r | .tandemCountersGet r | .tandemCountersClear r
  | .tandemRefereeGet r | .portConfigSet r | .portConfigGet r | .portStatusGet r | .portHold r | .portRestart r
  | .portCountersClear r | .portGclSet r | .portGclGet r | .portVportSet r | .portVportGet r | .switchFdbSet r
  | .switchFdbGet r | .switchFdbFlush r | .switchGroupSet r | .switchVlanSet r | .switchMirrorSet r
  | .switchRedundancySet r | .switchRedundancyGet r | .switchShelfGet r | .switchStocktakeRun r
  | .switchConfigSet r | .timeStatusGet r | .timeNowGet r | .timeConfigSet r | .timeConfigGet r
  | .timePortSet r | .timePortGet r | .timeRestart r | .timeSet r | .timeCountersClear r
  | .archiveRecorderSet r | .archiveRecorderGet r | .archiveRecorderArm r | .archiveRecorderHold r
  | .archiveRecorderDelete r | .archiveTrigger r | .archiveStatusGet r | .archiveFolioList r
  | .archiveFolioRelease r | .archiveFolioKeep r | .archiveRoomOpen r | .archiveRoomClose r
  | .archiveConfigSet r | .archiveCountersClear r | .chronicleRead r | .chronicleStatusGet r
  | .chronicleClear r | .chronicleNote r | .chronicleConfigSet r | .errorContextsGet r | .notifyConfigSet r
  | .notifyConfigGet r | .notifyAlarmGet r | .notifyAlarmClear r | .notifyAlarmpubSet r | .notifyFilterSet r
  | .keyIdentityGet r | .keyOwnerEnrol r | .keyDepositBegin r | .keyDepositChunk r | .keyDepositEnd r
  | .keyDepositAbort r | .keySlotGet r | .keySlotPromote r | .keyGenerate r | .keySign r | .keyAttest r
  | .keyModeSet r | .updateStatusGet r | .updateDepositBegin r | .updateDepositChunk r | .updateDepositEnd r
  | .updateDepositAbort r | .updateActivate r | .updateConfirm r | .updateCancel r | .updateWindowSet r
  | .powerStatusGet r | .powerEnergyStart r | .powerEnergyRead r | .powerGatingSet r | .powerHoldupTest r
  | .powerCountersGet r | .powerThermalSet r | .powerReset r | .commandTimeout r | .completionWrite r => cmdOk r
  | .sqTail slice value | .cqHead slice value | .ringEnable slice value | .ringDisable slice value
  | .rxTail slice value | .txTail slice value | .rxRingEnable slice value | .rxRingDisable slice value
  | .txRingEnable slice value | .txRingDisable slice value | .slcNtfComplete slice value => upTo 512 slice && fits 32 value
  | .snap value | .ntfAdmComplete value => fits 32 value
  | .angCtrlHold d value => upTo 15 d && fits 32 value
  | .ntfAdmClaim | .dmaReadCompletion _ _ _ | .dmaReadTimeout _ | .perst | .functionLevelReset
  | .busMasterChange _ _ | .twelveVGood | .modEnLow | .railsUp | .supervisorStart _ | .pcieEndpointConfigured
  | .countersRestored | .bankSelect | .dramTrained | .settingsLoaded | .mbxReady | .pipelineStart | .softReset
  | .vinLossUnarmed | .powerFailWarning | .pfwOutputsOff | .dyingGasp | .pfwLinksDown | .pfwPcieDown
  | .pfwChronicleEntry | .supervisorResetHold | .powerEnergyIntervalEnd | .supervisorWatchdog | .eccUncorrected
  | .demoteResend | .demoteTimeout | .opsecTick | .opsecPersist | .stocktake | .svFrameIngest | .logicSweep
  | .gooseFrameReceive | .ptpMessageHandle | .sourceLoss | .holdoverLimitExpiry | .ppsInEdge | .freqInLoss
  | .ppsOutPulse | .linkDead | .idleSend | .helloSend | .ballotPeriodEnd | .ballotDeadline | .hbReply | .grant
  | .revoke | .demoteAck | .heartbeat | .refereeHello | .peerGaspResend | .resyncPhaseEnd | .resyncFailure
  | .resyncRetry | .selftestScrubComplete _ | .triggerAccept | .chronicleItemWrite _ _
  | .depositSessionTimeout _ | .trialWindowExpiry | .freqInPresent | .switchHardwareFault => true
  | .slcNtfClaim slice v | .moderationExpiry slice v => upTo 512 slice && upTo 3 v
  | .ptpNowTs32 rid => fits 16 rid
  | .lowWordRead addr rid => fits 26 addr && fits 16 rid
  | .registerWrite addr value => fits 26 addr && fits 32 value
  | .bar0BadAccess addr _ => fits 26 addr
  | .readingRoomRead off | .bar2Write off => fits 28 off
  | .msixUnmask vec => fits 11 vec
  | .submissionFetch slice entry => upTo 512 slice && entryOk entry
  | .txFrameFetch slice descs frame => upTo 512 slice && descsOk descs && frameOk frame
  | .instanceRestartBoundary n | .freezeBoundary n | .instanceResetDiscard n | .instanceResetComplete n
  | .exchangeShadowReady n => instOk n
  | .domainRestartBoundary d | .acquisitionPass d | .lockSet d | .holdLockTimeout d | .coastTimeout d
  | .holdoffExpiry d | .refSetResume d | .stepDispatch d | .stepClose d | .stepDeadline d => upTo 15 d
  | .railFault rail => upTo 7 rail
  | .holdupTestEnd microfarad => fits 32 microfarad
  | .thermalAlarm temp | .dieOvertemperature temp | .thermalAlarmCleared temp => fits 16 temp
  | .portFrameReceive p frame => upTo 47 p && frameOk frame
  | .frameTransmit p | .linkDown p | .linkDownFlush p | .pauseWatchdog p | .pauseWdRelease p | .wake p
  | .gateEvent p | .gclChange p | .preemptionVerify p _ | .launchTime p | .pauseTimeExpiry p => upTo 47 p
  | .linkUp p speed => upTo 47 p && upTo 3 speed
  | .fdbAgeExpiry vid mac => fits 12 vid && fits 48 mac
  | .ddAgeExpiry pair src => upTo 23 pair && fits 48 src
  | .supervisionFrameSend pair => upTo 23 pair
  | .sampleMissing stream | .streamTimeout stream => upTo 2047 stream
  | .gridSampleProduce ch d => upTo 16383 ch && upTo 15 d
  | .thresholdDetectorEvent i => upTo 1023 i
  | .laneEvaluationComplete n slot _ => instOk n && upTo 63 slot
  | .laneSelftest failed => lanesOk failed
  | .powLaunch k | .minPulseExpiry k | .maxPulseExpiry k | .outputTest k | .discTimeExpiry k => upTo 7 k
  | .energTimeExpiry k mV | .supervisionWindow k mV | .outputTestPhase k mV => upTo 7 k && fits 12 mV
  | .filteredInputEdge i _ ts => upTo 19 i && fits 32 ts
  | .x3LatchEdge i _ => upTo 19 i
  | .gooseLaunch n p | .gooseRetransmit n p => upTo 512 n && upTo 31 p
  | .gooseTalExpiry n sub => instOk n && upTo 63 sub
  | .residenceDiscard p seq => upTo 47 p && fits 32 seq
  | .idle h role gen tcl alarms => hdrOk h && fits 2 role && fits 32 gen && fits 8 tcl && fits 32 alarms
  | .notice h _ | .settle h _ | .report h _ _ => hdrOk h
  | .forward h input _ => hdrOk h && inputOk input
  | .close h b settled _ crc => hdrOk h && fits 64 b && fits 64 settled && fits 64 crc
  | .closeAck h b crc => hdrOk h && fits 64 b && fits 64 crc
  | .carry h ident op slice effect _ _ => hdrOk h && fits 32 ident && fits 16 op && upTo 512 slice && fits 32 effect
  | .carryAck h ident status => hdrOk h && fits 32 ident && fits 16 status
  | .nak h first last => hdrOk h && fits 32 first && fits 32 last
  | .gasp h cause => hdrOk h && fits 8 cause
  | .hello h _ position pairId tclMin tclMax proposal => hdrOk h && fits 1 position && fits 64 pairId && fits 8 tclMin && fits 8 tclMax && fits 32 proposal
  | .resync h chunk => hdrOk h && fits 3 chunk.phase
  | .linkFrameResend seq => fits 32 seq
  | .laneDead lane => upTo 1 lane
  | .fwdWaitExpiry input => inputOk input
  | .refereeUnreachable path => upTo 1 path
  | .archiveRow rec | .autoTimeout rec => upTo 255 rec
  | .folioClose folio => fits 32 folio
  | .framDeviceFailed dev => upTo 1 dev
  | .keyLapse slot => upTo 1023 slot

/-- The command is well formed. -/
abbrev WellFormed (i : Instr) : Prop := i.wf = true

end Sys2Proof
end

