-- ==== Sys2Proof/Safety.lean ====
section
/-! DEFINITION. What the claims mean by a command that starts, completes, is answered with data or is refused, and the
conditions and invariants they are stated under. -/

namespace Sys2Proof.Machine

/-- The outcome is a next state. -/
abbrev Completes (o : Res) : Prop := ∃ t, o = .next t

/-! ## Mailbox commands -/

/-- The command `r`, of opcode `op`, is outstanding as `c`: fetched, free to start (R79), and its instance is not being
reset (R117). -/
abbrev Starts (op : Nat) (r : CmdId) (c : Cmd) (s : State) : Prop := ready op r s = some c ∧ heldByReset c s = false

/-- The command came from the admin slice. -/
abbrev Admin (c : Cmd) : Prop := c.id.slice = 0

/-- The service state is neither BOOT nor HALTED. -/
abbrev Open (s : State) : Prop := bootOrHalted s = false

/-- The service state is not BOOT. -/
abbrev Booted (s : State) : Prop := (s.svc.state == .boot) = false

/-- The unit changes its own state without carrying the change to a partner: it is standalone, or ACTIVE with no partner in
the ballot (R325). -/
abbrev Alone (s : State) : Prop := s.tdm.standalone = true ∨ (s.tdm.role = .active ∧ s.tdm.inStep = false)

/-- The command's buffer exists, holds `n` bytes and translates for writing (R75, R108, R492). -/
abbrev Takes (c : Cmd) (s : State) (n : Nat) : Prop :=
  0 < c.bufLen ∧ n ≤ c.bufLen ∧ atuCheck s c.id.slice c.bufAddr n true = none

/-- The state once a command that turns `s` into `t` has been answered with data: the data leave for the buffer, and the
reply is ready, with the number of bytes in RESULT1 where the reply gives no other (R73). -/
def sentFrom (c : Cmd) (b : List Byte) (r : Reply) (s t : State) : State :=
  reply c.id { r with out := [], res1 := some (r.res1.getD b.length) }
    (post (.dmaWrite c.id.slice (busAddr s c.id.slice c.bufAddr) b) t)

/-- The state once a command that only reads has been answered with data. -/
def sent (c : Cmd) (b : List Byte) (r : Reply) (s : State) : State := sentFrom c b r s s

/-- The command reads the bytes `b`, with the reply `r`, and changes nothing but the list of commands and what leaves the
block. Data that fit go to the buffer; a command without a buffer gets the reply alone (R492); a buffer too short is NOSPACE
with the bytes needed in RESULT1 (R75). -/
def GivesData (i : Instr) (c : Cmd) (b : List Byte) (r : Reply) (s : State) : Prop :=
  (b = [] ∨ c.bufLen = 0 → exec i s = .next (reply c.id r s)) ∧
  (b ≠ [] → Takes c s b.length → exec i s = .next (sent c b r s)) ∧
  (0 < c.bufLen → c.bufLen < b.length → exec i s = .next (reply c.id { nospace with res1 := some b.length } s))

/-- The command reads a fixed number of bytes so. -/
def Gives (i : Instr) (c : Cmd) (n : Nat) (r : Reply) (s : State) : Prop := ∃ b, b.length = n ∧ GivesData i c b r s

/-- The state once a command has been refused: the reply is ready, and one free value has been drawn. -/
def refusedWith (c : Cmd) (r : Reply) (s : State) : State := reply c.id (refusal r s) { s with fresh := s.fresh + 1 }

/-! ## Commands that a rule refuses -/

/-- The rows accepted on the admin slice only, with their opcodes (R97, R128, R159, R187, R209, R239, R272, R298, R329,
R371 to R374, R394, R418, R450, R478, R479, R59). -/
def adminRows : List ((CmdId → Instr) × Nat) :=
  [(.adminServiceSet, 0x0103), (.adminBoundsGet, 0x0107), (.adminConfigSave, 0x0109), (.adminAutoserviceSet, 0x010A),
   (.adminVectorSet, 0x010B), (.instanceSliceAssign, 0x0202), (.instanceSliceRelease, 0x0203), (.instanceAtuMap, 0x0204),
   (.instanceAtuUnmap, 0x0205), (.instanceShareSet, 0x0206), (.instanceReset, 0x020B), (.instanceFreeze, 0x020C),
   (.instanceSave, 0x020D), (.instanceRestore, 0x020E), (.instanceThaw, 0x020F), (.angleDomainSet, 0x0302),
   (.angleDomainHold, 0x0303), (.angleDomainRestart, 0x0304), (.angleLoopHold, 0x0305), (.svStreamSubscribe, 0x0401),
   (.svStreamUnsubscribe, 0x0402), (.svStreamSet, 0x0403), (.svStreamHold, 0x0405), (.svStreamRestart, 0x0406),
   (.svLoadGet, 0x0408), (.svSimReset, 0x0409), (.svCountersClear, 0x040A)] ++
  [(.filterChannelSet, 0x0501), (.filterPairsGet, 0x0504), (.filterResync, 0x0506), (.filterDetectorSet, 0x0507),
   (.filterDetectorClear, 0x0509), (.elementLoadGet, 0x0606), (.elementLaneStatus, 0x0609),
   (.elementCountersClear, 0x060B), (.logicSweepGet, 0x070B), (.logicEngineSet, 0x070C), (.gooseCountersClear, 0x0808),
   (.tripOutputSet, 0x0809), (.tripOutputTest, 0x080B), (.tandemStatusGet, 0x0901), (.tandemPairSet, 0x0902),
   (.tandemPairGet, 0x0903), (.tandemSwitchover, 0x0904), (.tandemIsolate, 0x0905), (.tandemRejoin, 0x0906),
   (.tandemResyncGet, 0x0907), (.tandemCountersGet, 0x0908), (.tandemCountersClear, 0x0909), (.tandemRefereeGet, 0x090A)] ++
  [(.portConfigSet, 0x0A01), (.portConfigGet, 0x0A02), (.portHold, 0x0A04), (.portRestart, 0x0A05),
   (.portCountersClear, 0x0A06), (.portGclSet, 0x0A07), (.portGclGet, 0x0A08), (.portVportSet, 0x0A09),
   (.switchFdbSet, 0x0A0B), (.switchFdbGet, 0x0A0C), (.switchFdbFlush, 0x0A0D), (.switchGroupSet, 0x0A0E),
   (.switchVlanSet, 0x0A0F), (.switchMirrorSet, 0x0A10), (.switchRedundancySet, 0x0A11), (.switchRedundancyGet, 0x0A12),
   (.switchShelfGet, 0x0A13), (.switchStocktakeRun, 0x0A14), (.switchConfigSet, 0x0A15), (.timeConfigSet, 0x0B03),
   (.timeConfigGet, 0x0B04), (.timePortSet, 0x0B05), (.timePortGet, 0x0B06), (.timeRestart, 0x0B07), (.timeSet, 0x0B08),
   (.timeCountersClear, 0x0B09), (.archiveConfigSet, 0x0C0D), (.archiveCountersClear, 0x0C0E)] ++
  [(.chronicleClear, 0x0D03), (.chronicleConfigSet, 0x0D05), (.errorContextsGet, 0x0D06), (.notifyConfigSet, 0x0D07),
   (.notifyAlarmGet, 0x0D09), (.notifyAlarmClear, 0x0D0A), (.notifyAlarmpubSet, 0x0D0B), (.notifyFilterSet, 0x0D0C),
   (.keyOwnerEnrol, 0x0E02), (.keyDepositBegin, 0x0E03), (.keyDepositChunk, 0x0E04), (.keyDepositEnd, 0x0E05),
   (.keyDepositAbort, 0x0E06), (.keySlotGet, 0x0E07), (.keySlotPromote, 0x0E08), (.keyGenerate, 0x0E09), (.keySign, 0x0E0A),
   (.keyModeSet, 0x0E0C), (.updateStatusGet, 0x0F01), (.updateDepositBegin, 0x0F02), (.updateDepositChunk, 0x0F03),
   (.updateDepositEnd, 0x0F04), (.updateDepositAbort, 0x0F05), (.updateActivate, 0x0F06), (.updateConfirm, 0x0F07),
   (.updateCancel, 0x0F08), (.updateWindowSet, 0x0F09), (.powerStatusGet, 0x1001), (.powerEnergyStart, 0x1002),
   (.powerEnergyRead, 0x1003), (.powerGatingSet, 0x1004), (.powerHoldupTest, 0x1005), (.powerCountersGet, 0x1006),
   (.powerThermalSet, 0x1007), (.powerReset, 0x1008)]

/-- Rows that BOOT and HALTED refuse before anything but the slice is judged (R98, R128, R159, R187, R209, R239, R272,
R298). -/
def closedRows : List ((CmdId → Instr) × Nat) :=
  [(.adminConfigSave, 0x0109), (.instanceSliceAssign, 0x0202), (.instanceSliceRelease, 0x0203),
   (.instanceAtuMap, 0x0204), (.instanceAtuUnmap, 0x0205), (.instanceShareSet, 0x0206), (.instanceConfigSet, 0x0207),
   (.instanceHold, 0x0209), (.instanceRestart, 0x020A), (.instanceReset, 0x020B), (.instanceFreeze, 0x020C),
   (.instanceSave, 0x020D), (.instanceRestore, 0x020E), (.instanceThaw, 0x020F), (.angleDomainSet, 0x0302),
   (.angleDomainHold, 0x0303), (.angleDomainRestart, 0x0304), (.angleLoopHold, 0x0305), (.angleSpareSet, 0x0307),
   (.angleSpareHold, 0x0309), (.svStreamSubscribe, 0x0401), (.svStreamUnsubscribe, 0x0402), (.svStreamSet, 0x0403),
   (.svStreamHold, 0x0405), (.svStreamRestart, 0x0406), (.svSimReset, 0x0409)] ++
  [(.svCountersClear, 0x040A), (.filterChannelSet, 0x0501), (.filterResync, 0x0506), (.filterDetectorSet, 0x0507),
   (.filterDetectorClear, 0x0509), (.elementSetLoad, 0x0601), (.elementParamSet, 0x0603),
   (.elementAdmitCheck, 0x0605), (.elementCountersClear, 0x060B), (.logicProgramLoad, 0x0701),
   (.logicControlWrite, 0x0705), (.logicForceSet, 0x0706), (.logicForceClear, 0x0707), (.logicEngineSet, 0x070C),
   (.goosePubSet, 0x0801), (.goosePubRelease, 0x0804), (.gooseSubSet, 0x0805), (.gooseCountersClear, 0x0808),
   (.tripOutputSet, 0x0809), (.tripOutputTest, 0x080B)]

/-- Rows that BOOT alone refuses before anything but the slice is judged (R371, R374, R394, R450, R478, R479). -/
def bootRows : List ((CmdId → Instr) × Nat) :=
  [(.portConfigSet, 0x0A01), (.portConfigGet, 0x0A02), (.portStatusGet, 0x0A03), (.portHold, 0x0A04),
   (.portRestart, 0x0A05), (.portCountersClear, 0x0A06), (.portGclSet, 0x0A07), (.portGclGet, 0x0A08),
   (.portVportSet, 0x0A09), (.portVportGet, 0x0A0A), (.switchFdbSet, 0x0A0B), (.switchFdbGet, 0x0A0C),
   (.switchFdbFlush, 0x0A0D), (.switchGroupSet, 0x0A0E), (.switchVlanSet, 0x0A0F), (.switchMirrorSet, 0x0A10),
   (.switchRedundancySet, 0x0A11), (.switchRedundancyGet, 0x0A12), (.switchShelfGet, 0x0A13),
   (.switchStocktakeRun, 0x0A14), (.switchConfigSet, 0x0A15), (.timeStatusGet, 0x0B01), (.timeNowGet, 0x0B02),
   (.timeConfigSet, 0x0B03), (.timeConfigGet, 0x0B04), (.timePortSet, 0x0B05)] ++
  [(.timePortGet, 0x0B06), (.timeRestart, 0x0B07), (.timeSet, 0x0B08), (.timeCountersClear, 0x0B09),
   (.chronicleRead, 0x0D01), (.chronicleStatusGet, 0x0D02), (.chronicleNote, 0x0D04), (.chronicleConfigSet, 0x0D05),
   (.errorContextsGet, 0x0D06), (.notifyConfigSet, 0x0D07), (.notifyAlarmGet, 0x0D09), (.notifyAlarmClear, 0x0D0A),
   (.notifyAlarmpubSet, 0x0D0B), (.notifyFilterSet, 0x0D0C), (.keyDepositBegin, 0x0E03), (.keyDepositChunk, 0x0E04),
   (.keyDepositEnd, 0x0E05), (.keyDepositAbort, 0x0E06), (.updateStatusGet, 0x0F01), (.updateDepositBegin, 0x0F02),
   (.updateDepositChunk, 0x0F03), (.updateDepositEnd, 0x0F04), (.updateDepositAbort, 0x0F05),
   (.updateActivate, 0x0F06), (.updateConfirm, 0x0F07), (.updateCancel, 0x0F08)] ++
  [(.updateWindowSet, 0x0F09)]

/-- Commands reserved to the ACTIVE unit of a pair, with their opcodes (R114, R184, R210, R298, R325, R326). -/
def carriedRows : List ((CmdId → Instr) × Nat) :=
  [(.instanceConfigSet, 0x0207), (.instanceHold, 0x0209), (.instanceRestart, 0x020A), (.instanceReset, 0x020B),
   (.instanceFreeze, 0x020C), (.instanceSave, 0x020D), (.instanceRestore, 0x020E), (.instanceThaw, 0x020F),
   (.angleDomainSet, 0x0302), (.angleDomainHold, 0x0303), (.angleDomainRestart, 0x0304), (.angleLoopHold, 0x0305),
   (.angleSpareSet, 0x0307), (.angleSpareHold, 0x0309), (.svStreamSubscribe, 0x0401), (.svStreamUnsubscribe, 0x0402),
   (.svStreamSet, 0x0403), (.svStreamHold, 0x0405), (.svStreamRestart, 0x0406), (.svSimReset, 0x0409)] ++
  [(.filterChannelSet, 0x0501), (.filterResync, 0x0506), (.filterDetectorSet, 0x0507), (.elementSetLoad, 0x0601),
   (.elementParamSet, 0x0603), (.logicProgramLoad, 0x0701), (.logicControlWrite, 0x0705), (.logicForceSet, 0x0706),
   (.logicForceClear, 0x0707), (.goosePubSet, 0x0801), (.goosePubRelease, 0x0804), (.gooseSubSet, 0x0805),
   (.gooseCountersClear, 0x0808), (.tripOutputSet, 0x0809), (.tripOutputTest, 0x080B)]

/-- The rows that act on an instance, but for `instance.status.get`, with their opcodes (R117). -/
def instanceRows : List ((CmdId → Instr) × Nat) :=
  [(.instanceSliceAssign, 0x0202), (.instanceSliceRelease, 0x0203), (.instanceAtuMap, 0x0204),
   (.instanceAtuUnmap, 0x0205), (.instanceShareSet, 0x0206), (.instanceConfigSet, 0x0207),
   (.instanceConfigGet, 0x0208), (.instanceHold, 0x0209), (.instanceRestart, 0x020A), (.instanceReset, 0x020B),
   (.instanceFreeze, 0x020C), (.instanceSave, 0x020D), (.instanceRestore, 0x020E), (.instanceThaw, 0x020F),
   (.angleSpareSet, 0x0307), (.angleSpareGet, 0x0308), (.angleSpareHold, 0x0309), (.elementSetLoad, 0x0601),
   (.elementSetGet, 0x0602), (.elementParamSet, 0x0603), (.elementParamGet, 0x0604), (.elementAdmitCheck, 0x0605),
   (.elementSlotStatus, 0x0607), (.elementStateGet, 0x0608)] ++
  [(.elementCountersClear, 0x060B), (.logicProgramLoad, 0x0701), (.logicProgramGet, 0x0702),
   (.logicProgramInfo, 0x0703), (.logicSignalRead, 0x0704), (.logicControlWrite, 0x0705), (.logicForceSet, 0x0706),
   (.logicForceClear, 0x0707), (.logicForceList, 0x0708), (.logicStateGet, 0x0709), (.logicExchangeReport, 0x070A),
   (.goosePubSet, 0x0801), (.goosePubGet, 0x0802), (.goosePubStatus, 0x0803), (.goosePubRelease, 0x0804),
   (.gooseSubSet, 0x0805), (.gooseSubGet, 0x0806), (.gooseSubStatus, 0x0807), (.gooseCountersClear, 0x0808)]

/-- Rows that change an instance and that its own slice may send. -/
def ownRows : List (CmdId → Instr) :=
  [.instanceConfigSet, .instanceHold, .instanceRestart, .angleSpareSet, .angleSpareHold, .elementSetLoad, .elementParamSet,
   .logicProgramLoad, .logicControlWrite, .logicForceSet, .logicForceClear, .goosePubSet, .goosePubRelease, .gooseSubSet]

/-- The commands of keys, firmware update, power, signalling, the Chronicle, network time, the switch core, the ports and
the Archive that touch no part of the protection pipeline. -/
def quietRows : List (CmdId → Instr) :=
  [.keyIdentityGet, .keyOwnerEnrol, .keyDepositBegin, .keyDepositChunk, .keyDepositEnd, .keyDepositAbort, .keySlotGet,
   .keySlotPromote, .keyGenerate, .keySign, .keyAttest, .keyModeSet, .updateStatusGet, .updateDepositBegin,
   .updateDepositChunk, .updateDepositEnd, .updateDepositAbort, .updateActivate, .updateCancel, .updateWindowSet,
   .powerStatusGet, .powerEnergyStart, .powerEnergyRead, .powerGatingSet, .powerHoldupTest, .powerCountersGet,
   .powerThermalSet, .powerReset] ++
  [.chronicleRead, .chronicleStatusGet, .chronicleClear, .chronicleNote, .chronicleConfigSet, .errorContextsGet,
   .notifyConfigSet, .notifyConfigGet, .notifyAlarmGet, .notifyAlarmClear, .notifyAlarmpubSet, .notifyFilterSet,
   .timeStatusGet, .timeNowGet, .timeConfigSet, .timeConfigGet, .timePortSet, .timePortGet, .timeSet, .timeCountersClear,
   .switchFdbSet, .switchFdbGet, .switchFdbFlush, .switchGroupSet, .switchVlanSet, .switchMirrorSet, .switchRedundancySet,
   .switchRedundancyGet, .switchShelfGet, .switchStocktakeRun, .switchConfigSet] ++
  [.portConfigGet, .portStatusGet, .portHold, .portCountersClear, .portGclSet, .portGclGet, .portVportSet, .portVportGet,
   .archiveStatusGet, .archiveFolioList, .archiveFolioRelease, .archiveFolioKeep, .archiveRoomOpen, .archiveRoomClose,
   .archiveConfigSet, .archiveCountersClear]

/-- The protection pipeline of two states is the same: instances, domains, resampling, lanes, logic engine, streams. -/
def SameProtection (s t : State) : Prop :=
  t.insts = s.insts ∧ t.doms = s.doms ∧ t.filt = s.filt ∧ t.lanes = s.lanes ∧ t.logic = s.logic ∧ t.sv = s.sv

end Sys2Proof.Machine
end

