-- ==== Sys2Proof/Certificates/Slice0/Obligations.lean ====
section
/-! DEFINITION. The statements for the provers. -/

open Sys2Proof Sys2Proof.Machine

/-- A step takes the command at the front of the queue and runs it with the queue's rest: the form in which commands come to
the block (log entry 1). [95_what_each_step_holds.md, opening paragraph] -/
def Obligations.StepTakesFront : Prop :=
  ∀ (i : Instr) (l : List Instr) (s : State), s.pending = i :: l → step s = exec i { s with pending := l }

/-- The model's choice (log entry 2): on an empty queue one nanosecond of the free-running clock passes. No command comes to
wait and the fuse minimum stands; without power nothing but the clock moves. [R245, R471, 95_what_each_step_holds.md] -/
def Obligations.IdleStepPassesTime : Prop :=
  ∀ s : State, s.pending = [] →
    ∃ t, step s = .next t ∧ t.clk = s.clk + 1 ∧ t.pending = [] ∧ t.upd.minSvn = s.upd.minSvn ∧
      (s.pwr.good = false → t = { s with clk := s.clk + 1 })

/-- Before the module starts: the queue is empty; the service state is BOOT with nothing counted or stamped; every instance
is EMPTY with its settings at their reset values; every ring is off, with window EPOCH 1; all sources are enabled; the
unit is standalone; network time is 0 and not traceable; ports hold their reset settings; no alarm stands; every cell of
the switch's buffer is free. Values that rest on a choice of the model (log entries 3 to 6) are not among them. [R33,
R68, R102, R116, R328, R369, R375, R421, R486] -/
def Obligations.ColdStartLeaves : Prop :=
  State.reset.pending = [] ∧ State.reset.svc.state = .boot ∧ svcWord State.reset = 0 ∧ State.reset.svc.count = 0 ∧
    State.reset.svc.ts32 = 0 ∧
    (∀ n, (inst State.reset n).st = .empty ∧ (inst State.reset n).streams = [] ∧
      (∀ d, fval (inst State.reset n).cfg d = d.rst)) ∧
    (∀ n, (win State.reset n).sqTail = 0 ∧ (n ≠ 0 → (win State.reset n).epoch = 1) ∧ ringOn (win State.reset n) = false) ∧
    (ntf State.reset 0).enable = 0x7FFF ∧ (∀ n, n ≠ 0 → (ntf State.reset n).enable = 0x7FF) ∧
    State.reset.tdm.standalone = true ∧ State.reset.time.n = 0 ∧ State.reset.time.traceable = false ∧
    (∀ p d, fval (port State.reset p).cfg d = d.rst) ∧ State.reset.sig.alarm = 0 ∧ State.reset.sw.free = 131072

/-- Whatever the state, every command and every event ends in a next state. None moves the free-running clock that the sweep
clock counts, which is never stepped or slewed, and none disturbs the commands that wait behind it. (That one event is
one instant is the model's form, log entries 1 and 2.) [R245, R79, 95_what_each_step_holds.md] -/
def Obligations.EveryCommandCompletes : Prop :=
  ∀ (i : Instr) (s : State), ∃ t, exec i s = .next t ∧ t.clk = s.clk ∧ t.pending = s.pending

/-- An invariant that every step keeps, for every bound k: where the fuse minimum is at least k it is still at least k after
any command, event, reset, power cycle or passing of time. [R471, R473] -/
def Obligations.MinSvnNeverFalls : Prop :=
  ∀ (k : Nat) (s t : State), k ≤ s.upd.minSvn → step s = .next t → k ≤ t.upd.minSvn

/-- Only the boot ROM's bank selection and a confirmation of an update change the fuse minimum. [R471, R473] -/
def Obligations.MinSvnAdvancesOnlyThere : Prop :=
  ∀ (i : Instr) (s t : State), exec i s = .next t → t.upd.minSvn ≠ s.upd.minSvn →
    i = .bankSelect ∨ ∃ r, i = .updateConfirm r

/-- A refused command has changed nothing but the list of commands. Its reply has drawn a free value, which stands in
RESULT0 only where no rule names the unmet precondition (log entry 9). [R75, R76] -/
def Obligations.RefusedCommandsChangeNothing : Prop :=
  ∀ (c : Cmd) (r : Reply) (s : State), ∃ l, refusedWith c r s = { s with cmds := l, fresh := s.fresh + 1 }

/-- Each of the rows accepted on the admin slice only, sent from another slice, completes DENIED with DETAIL 0x0002 and none
of its effect. [R75, R97, R98, R128, R159, R187, R209, R272, R298, R329, R371, R450] -/
def Obligations.AdminRowsRefuseOtherSlices : Prop :=
  ∀ e ∈ adminRows, ∀ (r : CmdId) (c : Cmd) (s : State), Starts e.2 r c s → ¬ Admin c →
    exec (e.1 r) s = .next (refusedWith c (denied 2) s)

/-- Each row that BOOT and HALTED refuse, and each that BOOT alone refuses, sent there from the admin slice, completes
DENIED with DETAIL 0x0001 and none of its effect. [R98, R128, R159, R187, R209, R239, R272, R298, R371, R450, R479, R75]
-/
def Obligations.ServiceStateRefusals : Prop :=
  (∀ e ∈ closedRows, ∀ (r : CmdId) (c : Cmd) (s : State), Starts e.2 r c s → Admin c → bootOrHalted s = true →
    exec (e.1 r) s = .next (refusedWith c (denied 1) s)) ∧
  (∀ e ∈ bootRows, ∀ (r : CmdId) (c : Cmd) (s : State), Starts e.2 r c s → Admin c → s.svc.state = .boot →
    exec (e.1 r) s = .next (refusedWith c (denied 1) s))

/-- In a pair, a unit that is not ACTIVE completes a command reserved to the ACTIVE unit DENIED with DETAIL 0x0001. The
ACTIVE unit of a pair in step carries it to its partner, and the command is from then on past its commit point (log
entry 25). [R325, R326, R114] -/
def Obligations.ReservedCommandsInAPair : Prop :=
  ∀ e ∈ carriedRows, ∀ (r : CmdId) (c : Cmd) (s : State), Starts e.2 r c s → Admin c → Open s → s.tdm.standalone = false →
    (s.tdm.role ≠ .active → exec (e.1 r) s = .next (refusedWith c (denied 1) s)) ∧
    (s.tdm.role = .active → s.tdm.inStep = true →
      exec (e.1 r) s = .next (setPhase c.id .committed (sendCarry c s)))

/-- While an instance is RESETTING, every command for it completes BUSY with none of its effect; instance.status.get is
answered OK with INST_STATUS and EPOCH (log entry 15). [R117, R128] -/
def Obligations.ResettingInstanceIsBusy : Prop :=
  (∀ e ∈ instanceRows, ∀ (r : CmdId) (c : Cmd) (s : State), ready e.2 r s = some c → Open s →
    (inst s (instOf c)).st = .resetting → exec (e.1 r) s = .next (refusedWith c busy s)) ∧
  (∀ (r : CmdId) (c : Cmd) (s : State), ready 0x0201 r s = some c → (inst s (instOf c)).st = .resetting →
    exec (.instanceStatusGet r) s = .next (reply c.id
      { ok with res0 := instStatus s (instOf c), res1 := some (win s (instOf c)).epoch.toNat } s))

/-- A command sent from an instance slice, of the rows that change an instance, leaves every other instance exactly as it
was: its state, settings, element set, program, publications and subscriptions. [R99, R126, R128] -/
def Obligations.OwnSliceTouchesOwnInstance : Prop :=
  ∀ e ∈ ownRows, ∀ (r : CmdId) (s t : State) (m : Nat), r.slice ≠ 0 → m ≠ r.slice → exec (e r) s = .next t →
    inst t m = inst s m

/-- The commands of keys, firmware update, power, signalling, the Chronicle, network time, the switch core, the ports and
the Archive (quietRows) leave instances, domains, resampling, lanes, the logic engine and streams as they were. [R18,
R126, R98, 01_architecture.md, 16_keys_update.md] -/
def Obligations.QuietRowsLeaveProtection : Prop :=
  ∀ e ∈ quietRows, ∀ (r : CmdId) (s t : State), exec (e r) s = .next t → SameProtection s t

/-- A fetched entry is checked in the order CID, EPOCH, OPCODE, form, BUF_OUT, parameters, required keys, and only the first
failure is reported, with its status and DETAIL; an entry that passes them all becomes a command, its parameter list or
input read from the buffer first where it has one. [R490] -/
def Obligations.EntryChecks : Prop :=
  ∀ (n : Nat) (b : List Byte) (c : Cmd) (e : Nat) (raw : List RawParam) (s : State), b.length = 64 →
    c = { id := { slice := n, cid := leAt b 2 2 }, op := leAt b 0 2, seq := s.seq, flags := leAt b 4 1, timeout := leAt b 6 2,
          bufLen := leAt b 12 4, bufAddr := leAt b 16 8 } → e = leAt b 8 4 →
    raw = rawParams (min 5 (leAt b 5 1)) (b.drop 24) →
    ((∃ x ∈ s.cmds, x.id = c.id) → receiveEntry n b s = refused c (badarg 0xFFFD) s) ∧
    ((∀ x ∈ s.cmds, x.id ≠ c.id) →
      (n = 0 → e ≠ 0 → receiveEntry n b s = refused c (badarg 0xFFFE) s) ∧
      (n ≠ 0 → e ≠ (win s n).epoch.toNat → receiveEntry n b s = refused c { status := 7 } s) ∧
      ((n = 0 → e = 0) → (n ≠ 0 → e = (win s n).epoch.toNat) →
        (opSpec c.op = none → receiveEntry n b s = refused c (badarg 0xFFFF) s) ∧
        (∀ o, opSpec c.op = some o →
          (wellFormed o b c = false ∨ dirOk o c = false → receiveEntry n b s = refused c (badarg 0xFFFE) s) ∧
          (∀ more, wellFormed o b c = true → dirOk o c = true →
            more = (takesList o && c.bufLen != 0 && !descriptorForm c.op c.bufLen) →
            (∀ i, badParam (keysFrom o n) (joinParams 0 (inlineNow raw more)) = some i →
              receiveEntry n b s = refused c (badarg i) s) ∧
            (badParam (keysFrom o n) (joinParams 0 (inlineNow raw more)) = none →
              (more = true →
                receiveEntry n b s = startRead { c with inline := sliceOf b 24 (8 * raw.length) } (inputLen o c) s) ∧
              (more = false → (checked o c raw).phase = .fetched → inputLen o c ≠ 0 →
                receiveEntry n b s = startRead (checked o c raw) (inputLen o c) s) ∧
              (more = false → (checked o c raw).phase ≠ .fetched ∨ inputLen o c = 0 →
                receiveEntry n b s = addCmd (checked o c raw) s)))))) ∧
    (∀ (o : OpSpec) (x : Cmd) (l : List RawParam),
      (wellFormed o b x = true ↔ x.flags < 8 ∧ leAt b 5 1 ≤ 5 ∧ x.bufLen ≤ 1048576 ∧
        (takesList o = true → x.bufLen % 8 = 0) ∧ (x.bufLen ≠ 0 → x.bufAddr % 8 = 0)) ∧
      (dirOk o x = true ↔ x.bufLen = 0 ∨ bitOf x.flags 1 = writesBuffer o) ∧
      (∀ i, badParam (keysFrom o x.id.slice) (joinParams 0 l) = some i →
        checked o x l = { x with phase := .completing, reply := badarg i, inline := [] }) ∧
      (∀ k, badParam (keysFrom o x.id.slice) (joinParams 0 l) = none → missingKey (keysFrom o x.id.slice) x.id.slice (joinParams 0 l) = some k →
        checked o x l = { x with phase := .completing, reply := { status := 3, detail := 0xFFFC, res0 := k, nres := 1 }, inline := [] }) ∧
      (badParam (keysFrom o x.id.slice) (joinParams 0 l) = none → missingKey (keysFrom o x.id.slice) x.id.slice (joinParams 0 l) = none →
        checked o x l = { x with params := joinParams 0 l, phase := .fetched, inline := [] }))

/-- The effective timeout is the largest of TIMEOUT (or CMD_TIMEOUT.DEFAULT), 4 CTO + 1 ms and the command's floor of 2 ms
for admin.service.set. It runs from the entry into EXECUTING. At its expiry a command short of its commit point
completes ABORTED with DETAIL 0x0002; one past it, or before the expiry, is left alone. [R84] -/
def Obligations.CommandTimeouts : Prop :=
  ∀ (r : CmdId) (c : Cmd) (s : State),
    (effTimeout s c =
      max ((if c.timeout = 0 then fval (win s c.id.slice).cfg wTimeout else c.timeout) * 1000000)
        (max (4 * cto s + 1000000) (if c.op = 0x0103 then 2000000 else 0))) ∧
    (∀ p, c ∈ s.cmds → c.id = r → c.phase = .fetched → c.input = [] →
      { c with phase := p, started := s.clk } ∈ (setPhase r p s).cmds) ∧
    (s.cmds.find? (fun c => c.id == r && executing c) = some c →
      (committed s c = false → c.started + effTimeout s c ≤ s.clk →
        exec (.commandTimeout r) s = .next (reply r (aborted 2) (cancelCmd r s))) ∧
      (committed s c = true ∨ s.clk < c.started + effTimeout s c → exec (.commandTimeout r) s = .next s))

/-- A write to BAR2 changes nothing but the access-error registers, and posts the admin access source, in the way of a bad
access to BAR0. [R64] -/
def Obligations.ReadOnlyArchiveWindow : Prop :=
  ∀ (addr : Nat) (s : State), regsOpen s = true →
    exec (.bar2Write addr) s = .next (edge 0 1 { s with
      sig := { s.sig with accAddr := addr, accBar2 := true, accWrite := true, accCount := (s.sig.accCount + 1) % 65536 } })

/-- Reading a low word answers it and latches the high word for its Requester; the next read of the high word answers the
latched value. A latch of another pair, or of another Requester while no more than seven others hold one, is not
disturbed. A pair holds at most eight, and a ninth Requester takes the place of the one that went longest without using
that pair. [R6] -/
def Obligations.HighWordLatches : Prop :=
  ∀ (p rid h v : Nat) (l : List (Nat × Nat × Nat)) (s : State),
    (hostUp s = true → msixOpen s = true → p % 4 = 0 → pairSeen s p = some v →
      exec (.lowWordRead p rid) s = .next (emit (.value (v % 2 ^ 32))
        (updPcie (fun q => { q with latches := keepLatch p rid (v / 2 ^ 32) q.latches }) s))) ∧
    (hostUp s = true → msixOpen s = true → p % 4 = 0 → pairSeen s (p + 4) = none → pairSeen s p = some v →
      latchOf p rid s.pcie.latches = some h → exec (.lowWordRead (p + 4) rid) s = .next (emit (.value h)
        (updPcie (fun q => { q with latches := keepLatch p rid h q.latches }) s))) ∧
    latchOf p rid (keepLatch p rid h l) = some h ∧
    (∀ q x, q ≠ p → latchOf q x (keepLatch p rid h l) = latchOf q x l) ∧
    (∀ x, x ≠ rid → (l.filter fun e => e.1 == p && e.2.1 != rid).length ≤ 7 →
      latchOf p x (keepLatch p rid h l) = latchOf p x l) ∧
    (keepLatch p rid h l).length ≤ 1 + 7 + (l.filter fun e => e.1 != p).length ∧
    (∀ m e, (l.filter fun e => e.1 == p && e.2.1 != rid) = m ++ [e] → m.length = 7 →
      (keepLatch p rid h l) = (p, rid, h) :: m ++ l.filter fun e => e.1 != p)

/-- Of the sources that qualify a claim takes the lowest group, then the lowest sub-priority, then the lowest ID. Both
priorities are two-bit fields. A vector is exempt from moderation exactly while a source that qualifies has a group
below its BYPASS. [R425] -/
def Obligations.ClaimOrder : Prop :=
  ∀ (u : Ntf) (l : List Nat) (n v : Nat) (s : State),
    (ntfBest u l = none ↔ l = []) ∧
    (∀ k, l.Pairwise (· < ·) → ntfBest u l = some k → k ∈ l ∧ ∀ j ∈ l, ntfPrio u k < ntfPrio u j ∨
      (ntfPrio u k = ntfPrio u j ∧ k ≤ j)) ∧
    ((ntfReady s n v).Pairwise (· < ·)) ∧
    (∀ i, ntfPrio u i / 4 = bitsOf u.prio (4 * i + 2) 2 ∧ ntfPrio u i % 4 = bitsOf u.prio (4 * i) 2) ∧
    (ntfExempt s n v = true ↔ ∃ i ∈ ntfReady s n v, ntfPrio (ntf s n) i / 4 < tget 1 (ntf s n).bypass v)

/-- Where they start, admin.identify, service.get, echo, bounds.get, counters.get, instance.status.get and
instance.config.get answer their data and change nothing; service.set, abort, timeout.set, config.save, autoservice.set
and vector.set have the effect of their rules on the admissible operands. [R32, R88, R97, R98, R128, R73] -/
def Obligations.AdminCommands : Prop :=
  (∀ (r : CmdId) (c : Cmd) (s : State),
      (Starts 0x0101 r c s → Gives (.adminIdentify r) c 64 ok s) ∧
      (Starts 0x0102 r c s → Gives (.adminServiceGet r) c 16 { ok with res0 := svcWord s } s) ∧
      (Starts 0x0104 r c s → exec (.adminEcho r) s = .next (reply c.id { ok with full := true } s)) ∧
      (Starts 0x0107 r c s → Admin c → Gives (.adminBoundsGet r) c 1048 ok s) ∧
      (Starts 0x0108 r c s → Admin c ∨ argD c 1 c.id.slice = c.id.slice → Gives (.adminCountersGet r) c 28 ok s) ∧
      (Starts 0x0201 r c s → exec (.instanceStatusGet r) s = .next (reply c.id
        { ok with res0 := instStatus s (instOf c), res1 := some (win s (instOf c)).epoch.toNat } s)) ∧
      (Starts 0x0208 r c s → Open s → (inst s (instOf c)).st ≠ .resetting → GivesData (.instanceConfigGet r) c
        (keyList instFields (inst s (instOf c)).cfg ++
          ((inst s (instOf c)).streamsStaged.getD (inst s (instOf c)).streams).flatMap fun x =>
            entryBytes 0x10 x (inst s (instOf c)).streamsStaged.isSome)
        (okOrStaged (anyStaged (inst s (instOf c)).cfg || (inst s (instOf c)).streamsStaged.isSome)) s)) ∧
  (∀ (r : CmdId) (c : Cmd) (s : State),
      (∀ t, Starts 0x0103 r c s → Admin c → Alone s → Svc.ofCode (argD c 2 0) = some t → s.svc.change = none →
        s.svc.state.code = argD c 1 0 → svcAllowed s.svc.state t = true → svcPrecondition s t = none →
        exec (.adminServiceSet r) s = .next
          (if t = .halted then reply c.id ok (enterHalted 1 s)
           else setPhase c.id .executing (svcStart t 1 (some c.id) s))) ∧
      (∀ x ∈ s.cmds, Starts 0x0105 r c s → x.id = ⟨argD c 1 0, argD c 2 0⟩ → x.id ≠ c.id → uncommitted s x = true →
        Admin c ∨ argD c 1 0 = c.id.slice →
        exec (.adminAbort r) s = .next (reply c.id ok (abortCmd x.id 3 s))) ∧
      (Starts 0x0106 r c s → exec (.adminTimeoutSet r) s = .next
        (reply c.id ok (updWin c.id.slice (fun w => { w with cfg := fset w.cfg wTimeout (argD c 1 500) }) s))) ∧
      (Starts 0x0109 r c s → Admin c → Open s → exec (.adminConfigSave r) s = .next
        (reply c.id { ok with res0 := (configSave s).2 } (configSave s).1)) ∧
      (Starts 0x010A r c s → Admin c → exec (.adminAutoserviceSet r) s = .next
        (reply c.id stagedR { s with svc := { s.svc with autoStaged := some (argD c 1 0 != 0) } })) ∧
      (Starts 0x010B r c s → Admin c → exec (.adminVectorSet r) s = .next
        (reply c.id ok (updWin 0 (fun w => { w with cfg := fset w.cfg wVec (argD c 1 0x7FF) }) s))))

/-- Where they start on operands their rules admit, instance.slice.assign and release, atu.map and unmap, config.set and
share.set complete OK or STAGED and change exactly the assignment, the translations, the settings or the shares named;
config.set makes an EMPTY instance HELD. [R106, R107, R109, R111, R129, R103] -/
def Obligations.SliceResources : Prop :=
  ∀ (r : CmdId) (c : Cmd) (s : State), Open s → Admin c → (inst s (instOf c)).st ≠ .resetting →
    (Starts 0x0202 r c s → (∀ e ∈ s.wins, e.1 ≠ instOf c → e.2.pasid ≠ some (argD c 2 0)) → ringOn (win s (instOf c)) = false →
      exec (.instanceSliceAssign r) s = .next
        (reply c.id ok (updWin (instOf c) (fun w => { w with pasid := some (argD c 2 0) }) s))) ∧
    (Starts 0x0203 r c s → ringOn (win s (instOf c)) = false → exec (.instanceSliceRelease r) s = .next
      (reply c.id ok (atuRemove (instOf c) (fun _ => true) (updWin (instOf c) (fun w => { w with pasid := none }) s)))) ∧
    (∀ k es, Starts 0x0204 r c s → c.input.length = 24 * k → 1 ≤ k → k ≤ 1024 → es = (chunks 24 k c.input).map (mapRec (instOf c)) →
      mapBad (s.atu.entries.filter fun e => e.slice == instOf c) (chunks 24 k c.input) es = none →
      s.atu.entries.length + k ≤ 65536 →
      (s.atu.entries.filter fun e => e.slice == instOf c).length + k ≤ (win s (instOf c)).quota →
      exec (.instanceAtuMap r) s = .next
        (reply c.id ok { s with atu := { s.atu with entries := s.atu.entries ++ es } })) ∧
    (Starts 0x0205 r c s → argD c 3 0 = 1 → exec (.instanceAtuUnmap r) s = .next
      (reply c.id ok (atuRemove (instOf c) (fun _ => true) s))) ∧
    (∀ a, Starts 0x0205 r c s → argD c 3 0 ≠ 1 → arg c 2 = some a →
      (∃ e ∈ s.atu.entries, e.slice = instOf c ∧ e.addr = a) →
      exec (.instanceAtuUnmap r) s = .next (reply c.id ok (atuRemove (instOf c) (fun e => e.addr == a) s))) ∧
    (∀ l cfg stg t u, Starts 0x0207 r c s → Alone s → l = args c 0x10 → l.length ≤ 32 → l.eraseDups = l →
      writeKeys instFields (fun _ => instMode (inst s (instOf c))) c.params (inst s (instOf c)).cfg false = .ok (cfg, stg) →
      conflict s (instOf c) cfg = none →
      t = updInst (instOf c) (fun i => { i with cfg := cfg, streamsStaged := if l = [] then i.streamsStaged else some l }) s →
      u = (if (inst s (instOf c)).st = .empty then changeInst (instOf c) .held 0 c.id.slice false t else t) → pairsFit u = true →
      exec (.instanceConfigSet r) s = .next (reply c.id (okOrStaged (stg || !l.isEmpty)) (syncPairs u))) ∧
    (Starts 0x0206 r c s → exec (.instanceShareSet r) s = .next (reply c.id ok (updWin (instOf c)
      (fun w => { w with weight := argD c 2 w.weight, cap := argD c 3 w.cap, quota := argD c 4 w.quota }) s)))

/-- In the states their rules name: hold completes at once for a HELD instance and otherwise waits for the close of a step;
restart, restore and thaw wait for the restart boundary; reset begins at once, past its commit point; freeze waits for
its boundary; save answers the captured state, once. [R112, R113, R115, R118, R119, R121, R124] -/
def Obligations.InstanceMoves : Prop :=
  ∀ (r : CmdId) (c : Cmd) (s : State) (n : Nat), Open s → Alone s → n = instOf c →
    (Starts 0x0209 r c s → (inst s n).st = .held → exec (.instanceHold r) s = .next (reply c.id ok (dropRestart n 3 s))) ∧
    (Starts 0x0209 r c s → (inst s n).st = .running → (inst s n).holdReq = none → exec (.instanceHold r) s = .next
      (setPhase c.id .executing (updInst n (fun i => { i with holdReq := some (some c.id) }) (dropExch n 3 s)))) ∧
    (Starts 0x020A r c s → (inst s n).st = .held → (inst s n).restart = none → domHeld s n = false → arg c 2 = none →
      exec (.instanceRestart r) s = .next (setPhase c.id .executing (startWait n .restart c none [] s))) ∧
    (∀ a, Starts 0x020A r c s → (inst s n).st = .held → (inst s n).restart = none → domHeld s n = false → arg c 2 = some a →
      targetOk (dom s (fread (inst s n).cfg iDomain)) (BitVec.ofNat 32 a) = true →
      isBoundary (dom s (fread (inst s n).cfg iDomain)) (BitVec.ofNat 32 a) = true →
      exec (.instanceRestart r) s = .next
        (setPhase c.id .executing (startWait n .restart c (some (BitVec.ofNat 32 a)) [] s))) ∧
    (Starts 0x020B r c s → Admin c → (inst s n).st ≠ .resetting → (inst s n).st ≠ .empty →
      exec (.instanceReset r) s = .next
        (setPhase c.id .committed (resetInst n (argD c 2 0 == 1) (some c.id) c.id.slice s))) ∧
    (Starts 0x020C r c s → Admin c → (inst s n).st = .running ∨ (inst s n).st = .held → (inst s n).freezeReq = none →
      exec (.instanceFreeze r) s = .next
        (setPhase c.id .executing (updInst n (fun i => { i with freezeReq := some (some c.id) }) (dropExch n 3 s)))) ∧
    (∀ b, Starts 0x020D r c s → Admin c → (inst s n).st = .frozen → (inst s n).saved = true → (inst s n).captured = some b →
      GivesData (.instanceSave r) c b ok s) ∧
    (∀ b, Starts 0x020D r c s → Admin c → (inst s n).st = .frozen → (inst s n).saved = false → (inst s n).captured = some b →
      b ≠ [] → Takes c s b.length → exec (.instanceSave r) s = .next
        (sentFrom c b ok s (stopPubs n (updInst n (fun i => { i with saved := true }) s)))) ∧
    (Starts 0x020E r c s → Admin c → (inst s n).st = .held → (inst s n).restart = none → domHeld s n = false →
      restoreCheck s n c.input = none →
      exec (.instanceRestore r) s = .next (setPhase c.id .executing (startWait n .restore c none c.input s))) ∧
    (Starts 0x020F r c s → Admin c → (inst s n).st = .frozen → (inst s n).restart = none → domHeld s n = false →
      exec (.instanceThaw r) s = .next
        (setPhase c.id .executing (startWait n .thaw c none ((inst s n).captured.getD []) s)))

/-- Readings of a domain, of a spare loop and of a conversion answer their data and change nothing. Writes of domain and
loop keys act or are staged by class; hold, restart, loop hold and spare hold wait for the grid sample or boundary of
their rule. [R139, R145, R150, R153, R155, R158, R159, R160] -/
def Obligations.AngleCommands : Prop :=
  (∀ (r : CmdId) (c : Cmd) (s : State),
      (Starts 0x0301 r c s → Admin c ∨ instDom (inst s c.id.slice) = argD c 1 0 →
        GivesData (.angleDomainGet r) c (keyList angFields (dom s (argD c 1 0)).cfg)
          { okOrStaged (anyStaged (dom s (argD c 1 0)).cfg) with res0 := angStatus s (argD c 1 0) } s) ∧
      (∀ t, Starts 0x0306 r c s → Admin c ∨ instDom (inst s c.id.slice) = argD c 1 0 → argD c 2 0 = 0 →
        angleTime (dom s (argD c 1 0)) (BitVec.ofNat 32 (argD c 3 0)) = .at t →
        exec (.angleConvert r) s = .next (reply c.id (convStatus (dom s (argD c 1 0))
          { res0 := (fullAt s t).sec, res1 := some (fullAt s t).ns, notTraceable := (fullAt s t).notTraceable }) s)) ∧
      (∀ a, Starts 0x0306 r c s → Admin c ∨ instDom (inst s c.id.slice) = argD c 1 0 → argD c 2 0 ≠ 0 →
        timeAngle (dom s (argD c 1 0)) (nearTs s (BitVec.ofNat 32 (argD c 3 0))) = .at a →
        exec (.angleConvert r) s = .next (reply c.id (convStatus (dom s (argD c 1 0)) { res0 := a.toNat }) s)) ∧
      (Starts 0x0308 r c s → bitOf (fval (inst s (instOf c)).cfg iSpare) (argD c 2 0) = true →
        GivesData (.angleSpareGet r) c (spareRec (argD c 2 0) (spareAt s c) ++ keyList loopFields (spareAt s c).cfg)
          (okOrStaged (anyStaged (spareAt s c).cfg)) s)) ∧
  (∀ (r : CmdId) (c : Cmd) (s : State) (n : Nat), Open s → Alone s →
      (∀ cfg stg t, Starts 0x0302 r c s → Admin c → n = argD c 1 0 →
        writeKeys angFields (fun _ => domMode (dom s n)) (c.params.filter fun p => p.key != 1) (dom s n).cfg false = .ok (cfg, stg) →
        limitsBad (fun _ => domMode (dom s n)) (c.params.filter fun p => p.key != 1) (dom s n).cfg = none → fmaxFits s n cfg = true → arcFits s n cfg = true →
        t = updDom n (fun d => { d with cfg := cfg }) s → pairsFit t = true →
        exec (.angleDomainSet r) s = .next (reply c.id (okOrStaged stg) (syncPairs t))) ∧
      (Starts 0x0303 r c s → Admin c → n = argD c 1 0 → domBusy s n = false →
        exec (.angleDomainHold r) s = .next (if (dom s n).held then reply c.id ok s
          else setPhase c.id .executing (addWait (.domHold n) (some c.id) s))) ∧
      (Starts 0x0304 r c s → Admin c → n = argD c 1 0 → waiting (.domRestart n) s = false →
        refsMalformed (dom s n).cfg = none → fval (dom s n).cfg aStep = fread (dom s n).cfg aStep ∨
          loadFits s s.insts (fmaxOf s) (fun x => if x = n then fread (dom s n).cfg aStep else stepOf s x) = true →
        exec (.angleDomainRestart r) s = .next (setPhase c.id .executing (addWait (.domRestart n) (some c.id) s))) ∧
      (Starts 0x0305 r c s → Admin c → n = argD c 1 0 →
        exec (.angleLoopHold r) s = .next (setPhase c.id .executing (addWait (.loopHold n (argD c 2 0 == 1)) (some c.id)
          (updDom n (fun d => { d with cfg := fset d.cfg aHold (argD c 2 0) }) s)))) ∧
      (∀ cfg stg t, Starts 0x0307 r c s → n = instOf c → bitOf (fval (inst s n).cfg iSpare) (argD c 2 0) = true →
        writeKeys loopFields (loopMode (inst s n)) (c.params.filter fun p => 2 < p.key)
          (spareAt s c).cfg false = .ok (cfg, stg) →
        loopChanOk s n cfg = true → sext 32 (fread cfg lMin) < sext 32 (fread cfg lMax) →
        t = updSpare (instDom (inst s n)) (argD c 2 0) (fun l => { l with cfg := cfg }) s → pairsFit t = true →
        exec (.angleSpareSet r) s = .next (reply c.id (okOrStaged stg) (syncPairs t))) ∧
      (Starts 0x0309 r c s → n = instOf c → bitOf (fval (inst s n).cfg iSpare) (argD c 2 0) = true →
        exec (.angleSpareHold r) s = .next (setPhase c.id .executing
          (addWait (.spareHold (instDom (inst s n)) (argD c 2 0) (argD c 3 0 == 1)) (some c.id) s))))

/-- Readings of a stream, its status and the load answer their data and change nothing. subscribe, unsubscribe, set, hold,
restart, sim.reset and counters.clear change exactly the stream or the counters named; a change of the authentication
setting is noted. [R163, R169, R183, R186, R187] -/
def Obligations.StreamCommands : Prop :=
  (∀ (r : CmdId) (c : Cmd) (s : State) (t : Stream), tfind s.sv.streams (streamIx c) = some t →
      (Starts 0x0404 r c s → Admin c ∨ c.id.slice ∈ referers s (streamIx c) →
        GivesData (.svStreamGet r) c (streamDesc t ++ descKeys t ++ keyList streamLiveFields t.cfg)
          (okOrStaged (anyStaged t.cfg || t.descStaged.isSome)) s) ∧
      (Starts 0x0407 r c s → Admin c ∨ c.id.slice ∈ referers s (streamIx c) →
        Gives (.svStreamStatus r) c 64 { ok with
          res0 := t.state.code + b2n t.simActive * 4 + b2n t.notTraceable * 8 + t.lastCnt % 65536 * 65536,
          res1 := some t.lastTs.toNat } s) ∧
      (Starts 0x0408 r c s → Admin c → Gives (.svLoadGet r) c 88 ok s)) ∧
  (∀ (r : CmdId) (c : Cmd) (s : State) (x : Nat) (t : Stream), x = streamIx c →
      (∀ u, Starts 0x0401 r c s → Admin c → Open s → Alone s → thas s.sv.streams x = false → descJudge s x c.input = none →
        u = { s with sv := { s.sv with streams := tput s.sv.streams x { desc := c.input } } } → pairsFit u = true →
        exec (.svStreamSubscribe r) s = .next (reply c.id ok (syncPairs u))) ∧
      (Starts 0x0402 r c s → Admin c → Open s → Alone s → tfind s.sv.streams x = some t → referers s x = [] → refNamed s t = false →
        exec (.svStreamUnsubscribe r) s = .next (reply c.id ok (syncPairs (finishWaits (.streamRestart x) stale
          { s with sv := { s.sv with streams := tdel s.sv.streams x } })))) ∧
      (∀ u k, Starts 0x0403 r c s → Admin c → Open s → Alone s → tfind s.sv.streams x = some t →
        descriptorForm c.op c.bufLen = false → setKeys c t = .ok (u, k) →
        exec (.svStreamSet r) s = .next (reply c.id (okOrStaged k) (if authNext u = authNext t then updStream x (fun _ => u) s
          else note 0x0405 0 c.id.slice x [b2n (authNext u)] (updStream x (fun _ => u) s)))) ∧
      (∀ u k, Starts 0x0403 r c s → Admin c → Open s → Alone s → tfind s.sv.streams x = some t →
        descriptorForm c.op c.bufLen = true → t.state = .held → descJudge s x c.input = none →
        setKeys c (stageDesc c.input t) = .ok (u, k) →
        exec (.svStreamSet r) s = .next (reply c.id stagedR (if authNext u = authNext t then updStream x (fun _ => u) s
          else note 0x0405 0 c.id.slice x [b2n (authNext u)] (updStream x (fun _ => u) s)))) ∧
      (Starts 0x0405 r c s → Admin c → Open s → Alone s → tfind s.sv.streams x = some t → streamBusy s x = false →
        exec (.svStreamHold r) s = .next (reply c.id ok (setStream x .held (endSequence x s)))) ∧
      (Starts 0x0406 r c s → Admin c → Open s → Alone s → tfind s.sv.streams x = some t → t.state = .held → t.restart = false →
        exec (.svStreamRestart r) s = .next (setPhase c.id .executing (addWait (.streamRestart x) (some c.id)
          (updStream x (fun t => { t with restart := true }) s)))) ∧
      (Starts 0x0409 r c s → Admin c → Open s → Alone s → tfind s.sv.streams x = some t → t.simActive = true →
        exec (.svSimReset r) s = .next (reply c.id ok (setSim x false s))) ∧
      (Starts 0x040A r c s → Admin c → Open s → x = 0xFFFF → exec (.svCountersClear r) s = .next (reply c.id ok
        { s with sv := { streams := tmap (fun _ t => { t with counts := [] }) s.sv.streams, unknown := 0 } })) ∧
      (Starts 0x040A r c s → Admin c → Open s → x ≠ 0xFFFF → tfind s.sv.streams x = some t →
        exec (.svCountersClear r) s = .next (reply c.id ok (updStream x (fun t => { t with counts := [] }) s))))

/-- Readings of channels, responses, pairs, grid samples and detectors answer their data and change nothing. channel.set
stages; resync waits for the pairs it names; detector.set acts at once and starts a detector that it enables;
detector.clear zeroes the counters. [R201, R209, R210, R211] -/
def Obligations.FilterCommands : Prop :=
  (∀ (r : CmdId) (c : Cmd) (s : State) (i : Nat), i = argD c 1 0 →
      (Starts 0x0502 r c s → Admin c → GivesData (.filterChannelGet r) c
        (keyList chanFields (chanCfg s i) ++ (pairsOf s i).flatMap (pairBytes s))
        { okOrStaged (anyStaged (chanCfg s i)) with res0 := (pairsOf s i).length } s) ∧
      (Starts 0x0503 r c s → i ≠ 3 → argD c 2 0 ∈ inRates →
        Gives (.filterRomGet r) c (4 + 257 * respTaps i (argD c 2 0) * 4) ok s) ∧
      (Starts 0x0503 r c s → i = 3 → 1 ≤ argD c 2 0 → argD c 2 0 ≤ 4 →
        Gives (.filterRomGet r) c (4 + hbTaps (argD c 2 0) * 4) ok s) ∧
      (Starts 0x0504 r c s → Admin c → Gives (.filterPairsGet r) c 40 ok s) ∧
      (∀ p, Starts 0x0505 r c s → Admin c → pairAt s i (argD c 2 0) = some p →
        Gives (.filterGridRead r) c (12 * min (argD c 3 1) p.hist.length) ok s) ∧
      (Starts 0x0508 r c s → Open s → Admin c ∨ fval (det s i).cfg tdOwner = c.id.slice →
        GivesData (.filterDetectorGet r) c
          (keyList detFields (det s i).cfg ++ le 4 (det s i).asserts.toNat ++ le 4 (det s i).deasserts.toNat ++
            le 4 (det s i).suppressed.toNat)
          { okOrStaged (anyStaged (det s i).cfg) with
            res0 := b2n (det s i).state + fval (det s i).cfg tdEnable * 2 + (det s i).run * 4 } s)) ∧
  (∀ (r : CmdId) (c : Cmd) (s : State) (i : Nat), i = argD c 1 0 →
      (Starts 0x0501 r c s → Admin c → Open s → Alone s → scsBad c (stageKeys chanFields c (chanCfg s i)) = none →
        exec (.filterChannelSet r) s = .next (reply c.id stagedR
          (updFilt (fun f => { f with chans := tset {} f.chans i (stageKeys chanFields c (chanCfg s i)) }) s))) ∧
      (Starts 0x0506 r c s → Admin c → Open s → Alone s → s.svc.state = .commissioning ∨ s.svc.state = .test →
        (∃ p ∈ s.filt.pairs, p.chan = i ∧ (argD c 2 0 = 0xFF ∨ p.dom = argD c 2 0)) →
        exec (.filterResync r) s = .next (setPhase c.id .executing (addWait (.resync i (argD c 2 0)) (some c.id)
          (mapPairs (fun p => p.chan == i && (argD c 2 0 == 0xFF || p.dom == argD c 2 0)) pairWait s)))) ∧
      (∀ g stg t, Starts 0x0507 r c s → Admin c → Open s → Alone s →
        writeKeys detFields (fun _ => if fon (det s i).cfg tdEnable then .run else .idle) (c.params.filter fun p => p.key != 1)
          (det s i).cfg false = .ok (g, stg) →
        fval g tdHyst ≤ fval g tdLevel → ownerOk s g = true →
        t = updDet i (fun d => if fon g tdEnable && !fon (det s i).cfg tdEnable then
            { d with cfg := g, state := false, run := 0, lastK := none, event := none } else { d with cfg := g }) s →
        pairsFit t = true → exec (.filterDetectorSet r) s = .next (reply c.id ok (syncPairs t))) ∧
      (Starts 0x0509 r c s → Admin c → Open s → exec (.filterDetectorClear r) s = .next (reply c.id ok
        (if i = 0xFFFF then updFilt (fun f => { f with dets := tmapD {} (fun _ d => clearDet d) f.dets }) s
         else updDet i clearDet s))))

/-- Readings of sets, parameters, loads, slots, lanes and the catalogue answer their data and change nothing. set.load
stages a sealed set; param.set writes live fields of a running set at once and stages the others; admit.check judges the
set the next restart would bring; counters.clear zeroes the slot counters. [R231, R235, R236, R237, R238, R239] -/
def Obligations.ElementCommands : Prop :=
  (∀ (r : CmdId) (c : Cmd) (s : State) (e : Elems), e = (inst s (instOf c)).el →
      (∀ g, Starts 0x0602 r c s → argD c 3 0 = 0 → e.img = some g → GivesData (.elementSetGet r) c g ok s) ∧
      (∀ g, Starts 0x0602 r c s → argD c 3 0 ≠ 0 → e.staged = some g → GivesData (.elementSetGet r) c g ok s) ∧
      (∀ g o x, Starts 0x0604 r c s → e.staged = none → e.img = some g → findRec g (argD c 2 0) = some (o, x) →
        GivesData (.elementParamGet r) c ((slotKeys x).flatMap fun p => entryBytes p.1 p.2 false) ok s) ∧
      (∀ g o x, Starts 0x0604 r c s → e.staged = some g → findRec g (argD c 2 0) = some (o, x) →
        GivesData (.elementParamGet r) c ((slotKeys x).flatMap fun p => entryBytes p.1 p.2
          (!((((e.img.bind fun g => findRec g (argD c 2 0)).map (·.2)).map slotKeys).getD []).contains p)) stagedR s) ∧
      (Starts 0x0606 r c s → Admin c → Gives (.elementLoadGet r) c 148 ok s) ∧
      (∀ x, Starts 0x0607 r c s → e.reserved.find? (fun x => x.slot == argD c 2 0) = some x →
        GivesData (.elementSlotStatus r) c
          (le 4 (tget {} e.slots x.slot).evals.toNat ++ le 4 (tget {} e.slots x.slot).blocked.toNat ++
            le 4 (tget {} e.slots x.slot).mismatch.toNat ++ le 4 (tget {} e.slots x.slot).overrun.toNat)
          { ok with res0 := (tget {} e.slots x.slot).word + x.gslot * 65536,
                    res1 := some (tget {} e.slots x.slot).lastAngle.toNat } s) ∧
      (∀ x, Starts 0x0608 r c s → e.reserved.find? (fun x => x.slot == argD c 2 0) = some x →
        GivesData (.elementStateGet r) c (slotBytes x.type (tget {} e.slots x.slot)) ok s) ∧
      (Starts 0x0609 r c s → Admin c → exec (.elementLaneStatus r) s = .next (reply c.id { ok with
        res0 := b2n (lane s (argD c 3 0)).retired + b2n (lane s (argD c 3 0)).failed * 2 +
          recentCharges s (lane s (argD c 3 0)) * 4,
        res1 := some (lane s (argD c 3 0)).evals.toNat } s)) ∧
      (∀ x, Starts 0x060A r c s → catalogue (argD c 3 0) = some x → Gives (.elementCatalogueGet r) c 80 ok s)) ∧
  (∀ (r : CmdId) (c : Cmd) (s : State) (n : Nat), n = instOf c →
      (Starts 0x0601 r c s → Open s → Alone s → sealed c.input = true → setBad c.input = none →
        exec (.elementSetLoad r) s = .next (reply c.id stagedR
          (updEl n (fun e => { e with staged := some c.input, fieldsOnly := false }) s))) ∧
      (∀ g o x ps live wait, Starts 0x0603 r c s → Open s → Alone s → ps = (c.params.filter fun p => 2 < p.key) →
        ((inst s n).el.staged <|> (inst s n).el.img) = some g → findRec g (argD c 2 0) = some (o, x) →
        (∀ p ∈ ps, keyClass (rType x) p.key = some .live ∨ keyClass (rType x) p.key = some .staged) →
        fieldBad g (argD c 2 0) ps = none → (inst s n).el.staged.isSome = false ∨ (inst s n).el.fieldsOnly = true →
        live = (if (inst s n).st = .running then ps.filter fun p => keyClass (rType x) p.key == some .live else []) →
        wait = (if (inst s n).st = .running then ps.filter fun p => keyClass (rType x) p.key == some .staged else ps) →
        exec (.elementParamSet r) s = .next (reply c.id (okOrStaged (!wait.isEmpty)) (updEl n (fun e => { e with
          img := e.img.map fun m => putFields m (argD c 2 0) live
          staged := if wait.isEmpty && e.staged.isNone then none else some (putFields g (argD c 2 0) ps)
          fieldsOnly := true }) s))) ∧
      (∀ g o x ps, Starts 0x0603 r c s → Open s → Alone s → ps = (c.params.filter fun p => 2 < p.key) →
        (inst s n).el.staged = some g → (inst s n).el.fieldsOnly = false → findRec g (argD c 2 0) = some (o, x) →
        (∀ p ∈ ps, keyClass (rType x) p.key = some .live ∨ keyClass (rType x) p.key = some .staged) →
        fieldBad g (argD c 2 0) ps = none →
        exec (.elementParamSet r) s = .next (reply c.id stagedR
          (updEl n (fun e => { e with staged := some (putFields g (argD c 2 0) ps) }) s))) ∧
      (∀ rs t, Starts 0x0605 r c s → Open s → Alone s → t = updInst n applyStaged s →
        admitSet t n (inst t n).el.img = .ok rs →
        exec (.elementAdmitCheck r) s = .next (reply c.id { ok with res1 := some (loadShare s (loadU
          (tmod {} t.insts n fun i => { i with el := { i.el with reserved := rs, resDom := instDom i } })
          (fmaxOf s) (stepOf s))) } s)) ∧
      (Starts 0x060B r c s → Admin c → Open s → exec (.elementCountersClear r) s = .next (reply c.id ok
        (updEl n (fun e => { e with slots := tmap (fun i x =>
          if argD c 2 0 = 0xFF ∨ i = argD c 2 0 then { x with evals := 0, blocked := 0, mismatch := 0, overrun := 0 } else x) e.slots }) s))))

/-- Readings of programs, signals, forces, states, exchange reports and the sweep answer their data and change nothing.
program.load stages a sealed program or begins an exchange; control.write, force.set and force.clear act on the instance
named, with their Chronicle entries; engine.set writes the shortest sweep. [R243, R261, R265, R267, R269, R271, R272] -/
def Obligations.LogicCommands : Prop :=
  (∀ (r : CmdId) (c : Cmd) (s : State) (l : Logic), l = (inst s (instOf c)).lg →
      (∀ p, Starts 0x0702 r c s → argD c 3 0 = 0 → l.prog = some p → GivesData (.logicProgramGet r) c p.img ok s) ∧
      (∀ p, Starts 0x0702 r c s → argD c 3 0 ≠ 0 → l.staged = some p → GivesData (.logicProgramGet r) c p.img ok s) ∧
      (∀ p, Starts 0x0703 r c s → l.prog = some p → GivesData (.logicProgramInfo r) c
        (le 1 l.bank ++ zeros 3 ++ le 4 p.code.length ++ le 4 p.states.length ++ le 4 p.sigs.length ++ sha384 p.img) ok s) ∧
      (Starts 0x0704 r c s → argD c 3 0 + argD c 4 1 ≤ 4096 → GivesData (.logicSignalRead r) c
        (le ((argD c 4 1 + 7) / 8) (bitsOf l.space (argD c 3 0) (argD c 4 1)))
        { ok with res1 := some (s.logic.sweep % 2 ^ 32) } s) ∧
      (Starts 0x0708 r c s → GivesData (.logicForceList r) c (l.forces.flatMap (forceRec l.prog)) ok s) ∧
      (∀ x, Starts 0x0709 r c s → l.recs.find? (fun x => x.ident == argD c 3 0) = some x →
        GivesData (.logicStateGet r) c (logicRec x) ok s) ∧
      (∀ b, Starts 0x070A r c s → l.report = some b → GivesData (.logicExchangeReport r) c b ok s) ∧
      (Starts 0x070B r c s → Admin c → Gives (.logicSweepGet r) c 64 ok s)) ∧
  (∀ (r : CmdId) (c : Cmd) (s : State) (n : Nat), n = instOf c →
      (Starts 0x0701 r c s → Open s → Alone s → (inst s n).lg.exch = none → sealed c.input = true → progBad c.input = none →
        argD c 2 0 = 0 → exec (.logicProgramLoad r) s = .next (reply c.id stagedR
          (updLogic n (fun l => { l with staged := some (readProg c.input) }) s))) ∧
      (∀ p b, Starts 0x0701 r c s → Open s → Alone s → (inst s n).lg.exch = none → sealed c.input = true → progBad c.input = none →
        argD c 2 0 ≠ 0 → (inst s n).st = .running → (inst s n).lg.prog = some p → placeProg s.insts (readProg c.input) = some b →
        exec (.logicProgramLoad r) s = .next (setPhase c.id .executing (updLogic n (fun l => { l with
          exch := some { prog := readProg c.input, bank := b, start := s.clk, ballot := exchBallot s, cmd := some c.id } }) s))) ∧
      (Starts 0x0705 r c s → Open s → Alone s → args c 3 ≠ [] → (args c 3).length = (args c 4).length → (args c 3).length ≤ 32 →
        exec (.logicControlWrite r) s = .next (reply c.id ok (updLogic n (fun l => { l with
          controls := ((args c 3).zip (args c 4)).foldl (fun m p => putBit m (p.1 - 1664) (p.2 != 0)) l.controls }) s))) ∧
      (Starts 0x0706 r c s → Alone s → s.svc.state = .commissioning ∨ s.svc.state = .test →
        (identAddr (inst s n).lg.prog (argD c 3 0)).isSome = true →
        (inst s n).lg.forces.length < 64 ∨ thas (inst s n).lg.forces (argD c 3 0) = true →
        exec (.logicForceSet r) s = .next (reply c.id ok (note 0x0703 n c.id.slice 0xFFFF [argD c 3 0, argD c 4 0]
          (updLogic n (fun l => { l with forces := tput l.forces (argD c 3 0) (argD c 4 0) }) s)))) ∧
      (Starts 0x0707 r c s → Open s → Alone s → argD c 3 0 = 0xFFFFFFFF →
        exec (.logicForceClear r) s = .next (reply c.id ok (clearForces n c.id.slice s))) ∧
      (∀ v, Starts 0x0707 r c s → Open s → Alone s → argD c 3 0 ≠ 0xFFFFFFFF → tfind (inst s n).lg.forces (argD c 3 0) = some v →
        exec (.logicForceClear r) s = .next (reply c.id ok (note 0x0704 n c.id.slice 0xFFFF [argD c 3 0, v]
          (updLogic n (fun l => { l with forces := tdel l.forces (argD c 3 0) }) s)))) ∧
      (Starts 0x070C r c s → Admin c → Open s → exec (.logicEngineSet r) s = .next
        (reply c.id ok { s with logic := { s.logic with sweepMin := argD c 2 25 } })))

/-- output.get and trip.reaction answer their data and change nothing. output.set writes an output's keys by class;
output.test begins the test of an owned output that is not energised. [R279, R298, R299] -/
def Obligations.TripCommands : Prop :=
  ∀ (r : CmdId) (c : Cmd) (s : State) (k : Nat), k = argD c 2 0 →
    (∀ g stg, Starts 0x0809 r c s → Admin c → Open s → Alone s →
      writeKeys outFields (fun _ => outMode s k) (c.params.filter fun p => 2 < p.key) (outp s k).cfg false = .ok (g, stg) →
      outRuleBad g = none → exec (.tripOutputSet r) s = .next (reply c.id (okOrStaged stg)
        (outChanged k c.id.slice (outp s k).cfg (updOut k (fun o => { o with cfg := g }) s)))) ∧
    (Starts 0x080A r c s → Admin c ∨ ownerOf s k = some c.id.slice → GivesData (.tripOutputGet r) c
      (keyList outFields (outp s k).cfg ++ le 4 ((outp s k).operations + (outp s k).testFails * 65536) ++
        le 4 ((outp s k).powUnlocked + (outp s k).testBlocked * 65536))
      { okOrStaged (anyStaged (outp s k).cfg) with res0 := outStatus s k } s) ∧
    (∀ m, Starts 0x080B r c s → Admin c → Open s → Alone s → ownerOf s k = some m → (outp s k).energised = false →
      (∀ e ∈ s.trip.outs, e.2.test = none) → exec (.tripOutputTest r) s = .next
        (setPhase c.id .executing (addWait (.outTest k) (some c.id) (startTest k s)))) ∧
    (Starts 0x080C r c s → Gives (.tripReactionGet r) c 32 ok s)

/-- Readings of descriptors and status answer their data and change nothing. A new descriptor is STAGED; one written over
another acts at once in its live fields and stages the rest; release removes a publication of an instance that is not
running; counters.clear zeroes the counters named. [R281, R287, R298] -/
def Obligations.GooseCommands : Prop :=
  (∀ (r : CmdId) (c : Cmd) (s : State),
      (∀ u, Starts 0x0802 r c s → tfind (inst s (instOf c)).pubs (localIx c) = some u →
        GivesData (.goosePubGet r) c (u.staged.getD u.desc) (okOrStaged u.staged.isSome) s) ∧
      (∀ u, Starts 0x0803 r c s → tfind (inst s (instOf c)).pubs (localIx c) = some u → GivesData (.goosePubStatus r) c
        (le 4 u.sentCount.toNat ++ le 4 u.superseded.toNat ++ le 4 u.powUnlocked.toNat ++ timeBytes u.at_)
        { ok with res0 := u.stNum.toNat, res1 := some u.sqNum.toNat } s) ∧
      (∀ u, Starts 0x0806 r c s → tfind (inst s (instOf c)).subs (localIx c) = some u →
        GivesData (.gooseSubGet r) c (u.staged.getD u.desc) (okOrStaged u.staged.isSome) s) ∧
      (∀ u, Starts 0x0807 r c s → tfind (inst s (instOf c)).subs (localIx c) = some u → GivesData (.gooseSubStatus r) c
        ([u.authFail, u.decodeErr, u.simDiscard, u.seqErr, u.missed, u.restarts, u.validChanges].flatMap fun w => le 4 w.toNat)
        { ok with res0 := subSignal u, res1 := some u.stNum.toNat } s)) ∧
  (∀ (r : CmdId) (c : Cmd) (s : State) (n k : Nat), n = instOf c → k = localIx c →
      (∀ u, Starts 0x0801 r c s → Open s → Alone s → pubBad c.input = none → tfind (inst s n).pubs k = some u →
        exec (.goosePubSet r) s = .next (reply c.id
          (okOrStaged (writeDesc pubLive ((inst s n).st == .running && u.live) c.input u.desc).2.isSome)
          (putPub n k { u with
            desc := (writeDesc pubLive ((inst s n).st == .running && u.live) c.input u.desc).1,
            staged := (writeDesc pubLive ((inst s n).st == .running && u.live) c.input u.desc).2 } s))) ∧
      (Starts 0x0801 r c s → Open s → Alone s → pubBad c.input = none → tfind (inst s n).pubs k = none → pubCount s < 4096 →
        exec (.goosePubSet r) s = .next (reply c.id stagedR (putPub n k { desc := c.input, staged := some c.input } s))) ∧
      (∀ u, Starts 0x0804 r c s → Open s → Alone s → tfind (inst s n).pubs k = some u → (inst s n).st ≠ .running →
        exec (.goosePubRelease r) s = .next (reply c.id ok (updInst n (fun i => { i with pubs := tdel i.pubs k }) s))) ∧
      (∀ u, Starts 0x0805 r c s → Open s → Alone s → subBad c.input = none → tfind (inst s n).subs k = some u →
        exec (.gooseSubSet r) s = .next (reply c.id
          (okOrStaged (writeDesc subLive ((inst s n).st == .running && u.live) c.input u.desc).2.isSome)
          (updInst n (fun i => { i with subs := tput i.subs k { u with
            desc := (writeDesc subLive ((inst s n).st == .running && u.live) c.input u.desc).1,
            staged := (writeDesc subLive ((inst s n).st == .running && u.live) c.input u.desc).2 } }) s))) ∧
      (Starts 0x0805 r c s → Open s → Alone s → subBad c.input = none → tfind (inst s n).subs k = none → subCount s < 8192 →
        exec (.gooseSubSet r) s = .next (reply c.id stagedR
          (updInst n (fun i => { i with subs := tput i.subs k { desc := c.input, staged := some c.input } }) s))) ∧
      (Starts 0x0808 r c s → Admin c → Open s → Alone s → exec (.gooseCountersClear r) s = .next (reply c.id ok
        (updInst n (fun i => { i with
          pubs := tmap (fun p u => if k == 0xFF || p == k then { u with sentCount := 0, superseded := 0, powUnlocked := 0 } else u) i.pubs,
          subs := tmap (fun p u => if k == 0xFF || p == k then clearSub u else u) i.subs }) s))))

/-- Readings of status, settings, resynchronisation, counters and referees answer their data and change nothing. pair.set
writes its keys; switchover asks the referees; isolate ends in the role ISOLATED out of step; rejoin returns an ISOLATED
unit without a fault to DETACHED; counters.clear zeroes the counters. [R314, R320, R329, R330] -/
def Obligations.TandemCommands : Prop :=
  (∀ (r : CmdId) (c : Cmd) (s : State), Admin c →
      (Starts 0x0901 r c s → GivesData (.tandemStatusGet r) c
        (le 8 s.tdm.closed ++ le 1 s.tdm.tcl ++ le 1 (tdmStatus s / 64 % 4) ++ zeros 6 ++ timeBytes s.tdm.roleAt)
        { ok with res0 := tdmStatus s, res1 := some s.tdm.gen } s) ∧
      (Starts 0x0903 r c s → GivesData (.tandemPairGet r) c (keyList tdmFields s.tdm.cfg) (okOrStaged (anyStaged s.tdm.cfg)) s) ∧
      (Starts 0x0907 r c s → Gives (.tandemResyncGet r) c 32 ok s) ∧
      (Starts 0x0908 r c s → GivesData (.tandemCountersGet r) c
        ((List.range 12).flatMap fun i => le 4 (tget 0 s.tdm.counts i).toNat) ok s) ∧
      (Starts 0x090A r c s → Gives (.tandemRefereeGet r) c 320 ok s)) ∧
  (∀ (r : CmdId) (c : Cmd) (s : State), Admin c →
      (∀ g stg, Starts 0x0902 r c s → writeKeys tdmFields (fun _ => .run) c.params s.tdm.cfg false = .ok (g, stg) →
        pairBad s c g = none → exec (.tandemPairSet r) s = .next (reply c.id (okOrStaged stg)
          (updTdm (fun t => { t with cfg := g }) s))) ∧
      (Starts 0x0904 r c s → Open s → s.tdm.standalone = false → s.tdm.role = .active → waiting .switchover s = false →
        s.tdm.switchH = none → exec (.tandemSwitchover r) s = .next (setPhase c.id .executing
          (addWait .switchover (some c.id) (refSend 0x000F 0 0 s)))) ∧
      (Starts 0x0905 r c s → s.tdm.standalone = false →
        exec (.tandemIsolate r) s = .next (reply c.id ok (isolate s)) ∧ (isolate s).tdm.role = .isolated ∧
          (isolate s).tdm.inStep = false) ∧
      (Starts 0x0906 r c s → s.tdm.standalone = false → s.tdm.role = .isolated → s.sig.fault = false →
        exec (.tandemRejoin r) s = .next (reply c.id ok (toDetached 11 (updTdm (fun t => { t with
          attempts := 0, disagreements := [], phase := if t.session.isSome then 1 else 0, phaseAt := s.clk,
          startAt := s.clk }) s)))) ∧
      (Starts 0x0909 r c s → exec (.tandemCountersClear r) s = .next (reply c.id ok (updTdm (fun t => { t with counts := [] }) s))))

/-- The forwarding, group and VLAN tables, the mirror, the redundancy pairs and the switch settings change by the records
and keys of their commands; readings answer their data and change nothing; stocktake.run waits for its pass. [R358,
R360, R365, R371, R374] -/
def Obligations.SwitchCommands : Prop :=
  ∀ (r : CmdId) (c : Cmd) (s : State), Booted s → Admin c →
    (∀ rs t, Starts 0x0A0B r c s → rs = recordsOf 16 c.input → c.input.length % 16 = 0 → 1 ≤ rs.length → rs.length ≤ 1024 →
      (∀ x ∈ rs, fdbOk s x = true) →
      t = updSw (fun w => { w with fdb := (rs.map (fdbRecord s.clk)).foldl fdbApply s.sw.fdb }) s →
      t.sw.fdb.length ≤ 32768 → staticUsed t ≤ 16384 → exec (.switchFdbSet r) s = .next (reply c.id ok t)) ∧
    (Starts 0x0A0C r c s → GivesData (.switchFdbGet r) c (((s.sw.fdb.drop (argD c 2 0)).take (argD c 3 1)).zipIdx.flatMap
      fun e => fdbBytes e.1 (argD c 2 0 + e.2)) ok s) ∧
    (Starts 0x0A0D r c s → exec (.switchFdbFlush r) s = .next (reply c.id ok (updSw (fun w => { w with
      fdb := w.fdb.filter fun e => e.static || (argD c 1 0 != 0xFF && (e.group || e.target != argD c 1 0)) }) s))) ∧
    (∀ k vs, Starts 0x0A0E r c s → k = leAt c.input 12 2 → k ≤ 32 → c.input.length = 16 + 2 * k → leAt c.input 0 2 ≤ 4095 →
      leAt c.input 4 8 < 2 ^ 51 → vs = ((List.range k).map fun i => leAt c.input (16 + 2 * i) 2) →
      (∀ v ∈ vs, 51 ≤ v ∧ v ≤ 562) → exec (.switchGroupSet r) s = .next (reply c.id ok (updSw (fun w => { w with
        groups := tput w.groups (leAt c.input 0 2) { ports := leAt c.input 4 8, vports := vs } }) s))) ∧
    (∀ rs, Starts 0x0A0F r c s → rs = recordsOf 24 c.input → c.input.length % 24 = 0 → 1 ≤ rs.length →
      (∀ x ∈ rs, vlanOk x = true) → exec (.switchVlanSet r) s = .next (reply c.id ok
        (updSw (fun w => { w with vlans := rs.foldl vlanApply w.vlans }) s))) ∧
    (∀ g stg, Starts 0x0A10 r c s → writeKeys mirFields (fun _ => .run) c.params (tget {} s.sw.mirrors (argD c 2 0)) false =
      .ok (g, stg) → transcriptOk s (fval g mrPort) = true ∨ (arg c 6 = none ∧ fon g mrEnable = false) →
      exec (.switchMirrorSet r) s = .next (reply c.id ok
        (updSw (fun w => { w with mirrors := tset {} w.mirrors (argD c 2 0) g }) s))) ∧
    (∀ k g stg, Starts 0x0A11 r c s → k = argD c 2 0 →
      writeKeys pairFields (fun _ => .run) c.params (rpair s k).cfg false = .ok (g, stg) →
      (arg c 3 = none ∨ pairPortOk s k (fread g rpFirst) = true) →
      (arg c 4 = none ∨ (pairPortOk s k (fread g rpSecond) = true ∧ fread g rpSecond ≠ fread g rpFirst)) →
      (fread g rpEnable ≠ 1 ∨ (pairPortOk s k (fread g rpFirst) = true ∧ pairPortOk s k (fread g rpSecond) = true ∧
        fread g rpSecond ≠ fread g rpFirst)) →
      exec (.switchRedundancySet r) s = .next (reply c.id stagedR
        (updSw (fun w => { w with pairs := tput w.pairs k { rpair s k with cfg := g, done := [] } }) s))) ∧
    (∀ k, Starts 0x0A12 r c s → k = argD c 2 0 → GivesData (.switchRedundancyGet r) c
      (keyList pairFields (rpair s k).cfg ++ le 4 (pairSources s k) ++ le 4 (rpair s k).dup.toNat ++
        le 4 (rpair s k).outWindow.toNat ++ le 4 (rpair s k).wrongLan.toNat ++ le 4 (rpair s k).nodeFull.toNat)
      (okOrStaged (anyStaged (rpair s k).cfg)) s) ∧
    (Starts 0x0A13 r c s → Gives (.switchShelfGet r) c 100 ok s) ∧
    (Starts 0x0A14 r c s → s.sw.stRunning = false → exec (.switchStocktakeRun r) s = .next (setPhase c.id .executing
      (addWait .stocktake (some c.id) (updSw (fun w => { w with stRunning := true }) s)))) ∧
    (∀ g stg t, Starts 0x0A15 r c s → writeKeys swFields (fun _ => .run) c.params s.sw.cfg false = .ok (g, stg) →
      t = updSw (fun w => { w with cfg := g }) s → floorOk t = true →
      exec (.switchConfigSet r) s = .next (reply c.id (okOrStaged stg) t))

/-- Readings of ports, gates and virtual ports answer their data and change nothing. config.set writes by class; hold and
restart act at once; gcl.set waits for its change; vport.set acts in its live fields and stages its lists;
counters.clear zeroes the counters named. [R338, R361, R371, R372, R373] -/
def Obligations.PortCommands : Prop :=
  (∀ (r : CmdId) (c : Cmd) (s : State) (p : Nat), Booted s → p = argD c 1 0 →
      (Starts 0x0A02 r c s → Admin c → GivesData (.portConfigGet r) c (portKeys (port s p).cfg)
        (okOrStaged (anyStaged (port s p).cfg)) s) ∧
      (Starts 0x0A03 r c s → GivesData (.portStatusGet r) c
        ((List.range 40).flatMap fun i => le 4 (tget 0 (port s p).counts i).toNat) { ok with res0 := portStatus s p, nres := 0 } s) ∧
      (∀ g, Starts 0x0A08 r c s → Admin c → argD c 2 0 = 0 → (port s p).gcl = some g →
        GivesData (.portGclGet r) c (gclBytes g) ok s) ∧
      (∀ g t, Starts 0x0A08 r c s → Admin c → argD c 2 0 ≠ 0 → (port s p).gclNext = some (g, t) →
        GivesData (.portGclGet r) c (gclBytes g) ok s) ∧
      (Starts 0x0A0A r c s → Admin c ∨ p = c.id.slice → GivesData (.portVportGet r) c (vportKeys (vport s (argD c 1 1)))
        (okOrStaged ((vport s (argD c 1 1)).macsStaged.isSome || (vport s (argD c 1 1)).vlansStaged.isSome)) s)) ∧
  (∀ (r : CmdId) (c : Cmd) (s : State) (p : Nat), Booted s → Admin c → p = argD c 1 0 →
      (∀ g t, Starts 0x0A01 r c s → portWrite (if (port s p).held then .held else .run) c.params (port s p).cfg = .ok g →
        portLaneOk g = true → t = updPort p (fun q => { q with cfg := g }) s → arg c 0x0E = none ∨ floorOk t = true →
        exec (.portConfigSet r) s = .next (reply c.id (okOrStaged (stagedAny c.params g)) (portEffects p t))) ∧
      (Starts 0x0A04 r c s → exec (.portHold r) s = .next (reply c.id ok (portHold p s)) ∧ (port (portHold p s) p).held = true) ∧
      (Starts 0x0A05 r c s → exec (.portRestart r) s = .next (reply c.id ok (portRestart p s))) ∧
      (Starts 0x0A06 r c s → p = 0xFF → exec (.portCountersClear r) s = .next (reply c.id ok
        { s with ports := tmapD {} (fun _ q => { q with counts := [] }) s.ports })) ∧
      (Starts 0x0A06 r c s → p ≠ 0xFF → exec (.portCountersClear r) s = .next (reply c.id ok
        (updPort p (fun q => { q with counts := [] }) s))) ∧
      (∀ g, Starts 0x0A07 r c s → (port s p).gclNext = none → readGcl c.input = some g →
        exec (.portGclSet r) s = .next (setPhase c.id .executing (addWait (.gcl p) (some c.id)
          (updPort p (fun q => { q with gclNext := some (g, firstStart g (s.time.n + ms * 65536)) }) s)))) ∧
      (∀ v g stg t, Starts 0x0A09 r c s → (args c 2).length ≤ 4 → (args c 3).length ≤ 16 → v = vport s (argD c 1 1) →
        writeKeys vpFields (fun _ => .run) c.params v.cfg false = .ok (g, stg) →
        t = updSw (fun w => { w with vports := tset {} w.vports (argD c 1 1) { v with
          cfg := g, macsStaged := if args c 2 = [] then v.macsStaged else some (args c 2),
          vlansStaged := if args c 3 = [] then v.vlansStaged else some (args c 3) } }) s → staticUsed t ≤ 16384 →
        exec (.portVportSet r) s = .next (reply c.id (okOrStaged (!(args c 2).isEmpty || !(args c 3).isEmpty)) t)))

/-- Readings of the clock and of its settings answer their data and change nothing. config.set and port.set write by class;
time.restart restarts the clock; time.set waits for the next pulse; counters.clear zeroes the counters named. [R375,
R385, R390, R393, R394] -/
def Obligations.TimeCommands : Prop :=
  ∀ (r : CmdId) (c : Cmd) (s : State), Booted s →
    (Starts 0x0B01 r c s → Gives (.timeStatusGet r) c 64 { ok with res0 := ptpStatus s } s) ∧
    (Starts 0x0B02 r c s → exec (.timeNowGet r) s = .next (reply c.id { ok with full := true } s)) ∧
    (∀ g stg, Starts 0x0B03 r c s → Admin c → writeKeys timeFields (fun _ => .run) c.params s.time.cfg false = .ok (g, stg) →
      timeCfgOk g = true ∨ (arg c 4 = none ∧ arg c 5 = none) → exec (.timeConfigSet r) s = .next
        (reply c.id (okOrStaged stg) (updTime (fun t => { t with cfg := g }) s))) ∧
    (Starts 0x0B04 r c s → Admin c → GivesData (.timeConfigGet r) c (keyList timeFields s.time.cfg)
      (okOrStaged (anyStaged s.time.cfg)) s) ∧
    (∀ p g stg t, Starts 0x0B05 r c s → Admin c → p = argD c 1 0 →
      writeKeys timePortFields (portMode (port s p)) c.params (port s p).ptp false = .ok (g, stg) →
      t = updPort p (fun q => { q with ptp := g }) s →
      arg c 2 ≠ some 1 ∨ fread s.time.cfg tType ≠ 0 ∨ (ptpEnabled t).length ≤ 1 →
      exec (.timePortSet r) s = .next (reply c.id (okOrStaged stg) t)) ∧
    (∀ q, Starts 0x0B06 r c s → Admin c → q = port s (argD c 1 0) → GivesData (.timePortGet r) c
      (keyList timePortFields q.ptp ++ (le 4 q.pstate ++ le 4 (q.pdelay / nsU) ++ le 4 q.tsqOvf.toNat ++
        le 4 q.launchLate.toNat ++ le 4 q.foreign.toNat)) (okOrStaged (anyStaged q.ptp)) s) ∧
    (Starts 0x0B07 r c s → Admin c → s.svc.state ≠ .inService ∨ anyGcl s = false →
      exec (.timeRestart r) s = .next (reply c.id ok (timeRestart s))) ∧
    (Starts 0x0B08 r c s → Admin c → s.time.source = 2 → s.time.setSec = none → exec (.timeSet r) s = .next
      (setPhase c.id .executing (addWait .timeSet (some c.id)
        (updTime (fun t => { t with setSec := some (argD c 2 0, argD c 3 0 == 1) }) s)))) ∧
    (Starts 0x0B09 r c s → Admin c → argD c 1 0 = 0xFF → exec (.timeCountersClear r) s = .next (reply c.id ok
      (updTime (fun t => { t with ppsRejects := 0 }) { s with ports := tmapD {} (fun _ q => ptpClear q) s.ports }))) ∧
    (Starts 0x0B09 r c s → Admin c → argD c 1 0 ≠ 0xFF → exec (.timeCountersClear r) s = .next (reply c.id ok
      (updPort (argD c 1 0) (fun q => { q with tsqOvf := 0, launchLate := 0, foreign := 0 }) s)))

/-- recorder.set makes, stages or writes a recorder by its state; get answers its descriptor; arm, hold, delete and trigger
act on it; status and list answer their data; folios are released, kept, opened in the Reading Room and closed there;
the Archive's own setting and counters are written. [R397, R401, R407, R415, R416, R418, R419] -/
def Obligations.ArchiveCommands : Prop :=
  (∀ (r : CmdId) (c : Cmd) (s : State) (n : Nat), Open s → n = argD c 1 0 →
      (Starts 0x0C01 r c s → tfind s.arc.recs n = none → rdBad s n c.input = none → Admin c ∨ rdOwner c.input = c.id.slice →
        exec (.archiveRecorderSet r) s = .next (reply c.id ok (updArc (fun a => { a with recs := tput a.recs n { desc := c.input } }) s))) ∧
      (∀ x, Starts 0x0C01 r c s → tfind s.arc.recs n = some x → rdBad s n c.input = none →
        Admin c ∨ (rdOwner x.desc = c.id.slice ∧ rdOwner c.input = c.id.slice) → x.st = .held →
        exec (.archiveRecorderSet r) s = .next (reply c.id stagedR (updRec n (fun x => { x with staged := some c.input }) s))) ∧
      (∀ x, Starts 0x0C01 r c s → tfind s.arc.recs n = some x → rdBad s n c.input = none →
        Admin c ∨ (rdOwner x.desc = c.id.slice ∧ rdOwner c.input = c.id.slice) → x.st ≠ .held → rdLocked c.input = rdLocked x.desc →
        exec (.archiveRecorderSet r) s = .next (reply c.id (okOrStaged (recWrite x c.input).staged.isSome)
          (updRec n (fun _ => recWrite x c.input) s))) ∧
      (∀ x, tfind s.arc.recs n = some x → Admin c ∨ rdOwner x.desc = c.id.slice →
        (Starts 0x0C02 r c s → GivesData (.archiveRecorderGet r) c (x.staged.getD x.desc) (okOrStaged x.staged.isSome) s) ∧
        (∀ t, Starts 0x0C03 r c s → x.st = .held → armRec n s = .ok t → exec (.archiveRecorderArm r) s = .next (reply c.id ok t)) ∧
        (Starts 0x0C04 r c s → exec (.archiveRecorderHold r) s = .next (reply c.id ok (holdRec n s))) ∧
        (Starts 0x0C05 r c s → x.st = .held → exec (.archiveRecorderDelete r) s = .next (reply c.id ok
          (updArc (fun a => { a with recs := tdel a.recs n }) s))) ∧
        (∀ t y, Starts 0x0C06 r c s → x.st = .armed →
          t = acceptTrig { recorder := n, cause := 8, t := s.time.n, notTraceable := !s.time.traceable } s →
          (tfind t.arc.recs n).bind (·.cur) = some y →
          exec (.archiveTrigger r) s = .next (reply c.id { ok with res0 := y.folio } t)))) ∧
  (∀ (r : CmdId) (c : Cmd) (s : State), Open s →
      (Starts 0x0C07 r c s → Gives (.archiveStatusGet r) c 52 { ok with res0 := arcStatus s } s) ∧
      (∀ l, Starts 0x0C08 r c s → l = (s.arc.folios.filter fun e => e.2.closed && decide (argD c 2 0 ≤ e.1) &&
          (c.id.slice == 0 || e.2.owner == c.id.slice)) →
        GivesData (.archiveFolioList r) c ((l.take (argD c 3 1)).flatMap fun (e : Nat × Folio) => listRec s e.1 e.2) ok s) ∧
      (∀ ns, Starts 0x0C09 r c s → ns = ((List.range (argD c 3 1)).map fun i => argD c 2 0 + i) →
        (∀ n ∈ ns, ∃ f, folioOk c s n = .ok f) → (∀ n ∈ ns, openInRoom s n = false) →
        exec (.archiveFolioRelease r) s = .next (reply c.id ok
          (updArc (fun a => { a with folios := ns.foldl (fun t n => tdel t n) a.folios }) s))) ∧
      (∀ f, Starts 0x0C0A r c s → folioOk c s (argD c 2 0) = .ok f → exec (.archiveFolioKeep r) s = .next (reply c.id ok
        (updFolio (argD c 2 0) (fun f => { f with keep := argD c 3 0 == 1 }) s))) ∧
      (∀ f, Starts 0x0C0B r c s → tfind s.arc.room (argD c 2 0) = none → folioOk c s (argD c 3 0) = .ok f →
        argD c 4 0 * 65536 < folioLen f → exec (.archiveRoomOpen r) s = .next (reply c.id
          { ok with res0 := min (folioLen f - argD c 4 0 * 65536) 0x1000000 }
          (updArc (fun a => { a with room := tput a.room (argD c 2 0) { folio := argD c 3 0, off := argD c 4 0, slice := c.id.slice } }) s))) ∧
      (∀ w, Starts 0x0C0C r c s → tfind s.arc.room (argD c 2 0) = some w → Admin c ∨ w.slice = c.id.slice →
        exec (.archiveRoomClose r) s = .next (reply c.id ok (updArc (fun a => { a with room := tdel a.room (argD c 2 0) }) s))) ∧
      (Starts 0x0C0D r c s → Admin c → exec (.archiveConfigSet r) s = .next
        (reply c.id ok (updArc (fun a => { a with recycle := argD c 2 0 == 1 }) s))) ∧
      (Starts 0x0C0E r c s → Admin c → exec (.archiveCountersClear r) s = .next
        (reply c.id ok (updArc (fun a => { a with counts := [] }) s))))

/-- Readings of the Chronicle, error contexts, notification units and alarms answer their data and change nothing.
chronicle.clear empties the Chronicle in COMMISSIONING and TEST on the right accession; note queues an entry;
notification settings, alarm bits, the alarm publication and the input filters are written. [R424, R428, R429, R430,
R441, R443, R450] -/
def Obligations.SignallingCommands : Prop :=
  (∀ (r : CmdId) (c : Cmd) (s : State), Booted s →
      (∀ es, Starts 0x0D01 r c s → es = (chrFrom s.chr c.id.slice (argD c 2 0)).take (argD c 3 1) → es = [] ∨ 64 ≤ c.bufLen →
        GivesData (.chronicleRead r) c ((es.take (c.bufLen / 64)).flatMap (chrReply s.chr))
          { ok with res0 := b2n (decide (argD c 2 0 < chrFirst s.chr)) + 2 * b2n (chrReserve s.chr),
                    res1 := some (es.take (c.bufLen / 64)).length } s) ∧
      (Starts 0x0D02 r c s → Gives (.chronicleStatusGet r) c 32 { ok with res0 := chrStatus s } s) ∧
      (Starts 0x0D03 r c s → Admin c → s.svc.state = .commissioning ∨ s.svc.state = .test → argD c 2 0 = s.chr.next →
        exec (.chronicleClear r) s = .next (reply c.id ok (chrClear s))) ∧
      (∀ t, Starts 0x0D04 r c s → 16 ≤ c.input.length → t = note 0x0105 c.id.slice c.id.slice noObj (wordsOf 4 c.input) s →
        t.chr.dropped = s.chr.dropped → exec (.chronicleNote r) s = .next
          (reply c.id { ok with res1 := some ((t.chr.newest.map (·.acc)).getD 0 % 2 ^ 32) } t)) ∧
      (Starts 0x0D05 r c s → Admin c → exec (.chronicleConfigSet r) s = .next
        (reply c.id ok (updChr (fun x => { x with notifySev := argD c 2 2 }) s))) ∧
      (Starts 0x0D06 r c s → Admin c → Gives (.errorContextsGet r) c 64 ok s)) ∧
  (∀ (r : CmdId) (c : Cmd) (s : State) (n : Nat), Booted s →
      (∀ u, Starts 0x0D07 r c s → Admin c → n = argD c 1 0 → ntfKeys n none (c.params.filter fun p => p.key != 1) (ntf s n) = .ok u →
        n = 0 ∨ assigned s n = false ∨ arg c 4 = none →
        exec (.notifyConfigSet r) s = .next (reply c.id ok (withNtf n (updNtf n fun _ => u) s))) ∧
      (Starts 0x0D08 r c s → n = argD c 1 c.id.slice → Admin c ∨ n = c.id.slice →
        GivesData (.notifyConfigGet r) c (ntfBytes n (ntf s n)) ok s) ∧
      (Starts 0x0D09 r c s → Admin c → exec (.notifyAlarmGet r) s = .next (reply c.id
        { ok with res0 := s.sig.alarm, res1 := some (s.sig.faultCause + b2n s.sig.fault * 256) } s)) ∧
      (Starts 0x0D0A r c s → Admin c → exec (.notifyAlarmClear r) s = .next (reply c.id ok (alarmClear (argD c 2 0) s))) ∧
      (∀ u, Starts 0x0D0B r c s → Admin c → alarmPubBad c.input = none → s.trip.alarmPub = some u →
        exec (.notifyAlarmpubSet r) s = .next (reply c.id ok (alarmPubJudge
          { s with trip := { s.trip with alarmPub := some { u with desc := c.input, sent := none } } }))) ∧
      (Starts 0x0D0B r c s → Admin c → alarmPubBad c.input = none → s.trip.alarmPub = none →
        exec (.notifyAlarmpubSet r) s = .next (reply c.id ok (alarmPubJudge
          { s with trip := { s.trip with alarmPub := some { desc := c.input, live := true } } }))) ∧
      (Starts 0x0D0C r c s → Admin c → exec (.notifyFilterSet r) s = .next (reply c.id ok (updX3 (fun x => { x with
        trigFilt := argD c 2 x.trigFilt, bkFilt := argD c 3 x.bkFilt }) s))))

/-- A deposit begins, takes chunks, ends in a verified bank or UNTRUSTED, and is dropped by an abort; activation makes the
other bank the trial; confirmation and cancellation end the trial; status answers its data and the window is written.
[R459, R469, R472, R473, R479] -/
def Obligations.UpdateCommands : Prop :=
  ∀ (r : CmdId) (c : Cmd) (s : State), Booted s → Admin c →
    (Starts 0x0F01 r c s → Gives (.updateStatusGet r) c 32 { ok with res0 := updStatus s } s) ∧
    (Starts 0x0F02 r c s → s.pwr.pfw = .idle → s.upd.boot.trialState = 0 → s.upd.session = none →
      exec (.updateDepositBegin r) s = .next (reply c.id ok (updUpd (fun u => { u with
        session := some { total := argD c 2 320, at_ := s.clk } }) (setOther .loading {} s)))) ∧
    (∀ x y, Starts 0x0F03 r c s → s.upd.session = some x → c.input ≠ [] →
      (takeChunk x (argD c 2 0) c.input s.clk = .repeated ∧ y = { x with at_ := s.clk }) ∨
        takeChunk x (argD c 2 0) c.input s.clk = .accepted y →
      exec (.updateDepositChunk r) s = .next (reply c.id ok (updUpd (fun u => { u with session := some y }) s))) ∧
    (∀ x k, Starts 0x0F04 r c s → s.pwr.pfw = .idle → s.upd.session = some x → sessionFull x = true → imageOk x.got = true →
      k = bankFrom x.got → exec (.updateDepositEnd r) s = .next (reply c.id ok (noteMod 0x0F01 0 (otherBank s) [k.version, k.svn]
        (updUpd (fun u => { u with session := none }) (setOther .loaded k s))))) ∧
    (∀ x, Starts 0x0F04 r c s → s.pwr.pfw = .idle → s.upd.session = some x → sessionFull x = true → imageOk x.got = false →
      exec (.updateDepositEnd r) s = .next (reply c.id untrusted (dropImage s))) ∧
    (∀ x, Starts 0x0F05 r c s → s.pwr.pfw = .idle → s.upd.session = some x →
      exec (.updateDepositAbort r) s = .next (reply c.id ok (dropImage s))) ∧
    (∀ b, Starts 0x0F06 r c s → s.pwr.pfw = .idle → argD c 2 0 ≠ 1 ∨ restartOk s = true → activateBad s (argD c 3 0 == 1) = none →
      b = otherBank s → exec (.updateActivate r) s = .next (reply c.id { ok with reset := argD c 2 0 == 1 }
        (noteMod 0x0F03 0 b [] (writeRec { s.upd.boot with
          trial := some b, trialState := 1, window := s.upd.window, areaT := 1 - s.upd.boot.areaP,
          fmtT := (bankOf s b).storeFmt } s)))) ∧
    (Starts 0x0F07 r c s → s.pwr.pfw = .idle → trialRuns s = true → s.sig.fault = false → s.svc.state ≠ .halted →
      exec (.updateConfirm r) s = .next (reply c.id ok (confirmTrial s))) ∧
    (Starts 0x0F08 r c s → s.pwr.pfw = .idle → s.upd.boot.trialState = 1 → exec (.updateCancel r) s = .next (reply c.id ok
      (noteMod 0x0F09 0 (otherBank s) [] (writeRec { s.upd.boot with trial := none, trialState := 0 } s)))) ∧
    (Starts 0x0F09 r c s → exec (.updateWindowSet r) s = .next
      (reply c.id ok (updUpd (fun u => { u with window := argD c 2 10 }) s)))

/-- Identity, slots, signatures and statements are answered as data; the owner is enrolled in COMMISSIONING where none is; a
deposit session takes chunks and a whole, signed, fresh deposit is applied; next keys are promoted and a new signing key
is generated (its value free, log entry 8); the key mode is staged. [R457, R458, R459, R462, R463, R465, R466, R478] -/
def Obligations.KeyCommands : Prop :=
  (∀ (r : CmdId) (c : Cmd) (s : State) (i : Nat), i = argD c 2 0 →
      (Starts 0x0E01 r c s → GivesData (.keyIdentityGet r) c
        (padTo 96 Config.identityPub ++ le 4 Config.deviceCert.length ++ Config.deviceCert ++ aliasCert s) ok s) ∧
      (Starts 0x0E07 r c s → Admin c → GivesData (.keySlotGet r) c
        (keyBytes s (tget {} s.keys.slots i).cur true ++ keyBytes s (tget {} s.keys.slots i).nxt false) ok s) ∧
      (∀ p q, Starts 0x0E09 r c s → Admin c → Takes c s 96 → p = Config.random s.fresh → q = padTo 96 (Config.publicOf p) →
        exec (.keyGenerate r) s = .next (sentFrom c q ok s (noteMod 0x0E09 0 i []
          (updStore (fun k => { k with sign := tput k.sign i { priv := p, pub := q } }) { s with fresh := s.fresh + 1 })))) ∧
      (∀ k, Starts 0x0E0A r c s → Admin c → 48 ≤ c.input.length → tfind s.keys.store.sign i = some k →
        GivesData (.keySign r) c (padTo 96 (Config.sign k.priv (c.input.take 48))) ok s) ∧
      (∀ x k, Starts 0x0E0B r c s → i ≤ 2 → k = (if i = 0 then 0 else argD c 3 0) → k ≤ (if i = 1 then 1023 else 15) →
        48 ≤ c.input.length → subjectOf s i k = some x →
        GivesData (.keyAttest r) c (statement s i k (c.input.take 48) x) ok s)) ∧
  (∀ (r : CmdId) (c : Cmd) (s : State) (i : Nat), Admin c → i = argD c 2 0 →
      (Starts 0x0E02 r c s → s.svc.state = .commissioning → s.keys.store.owner = none → 224 ≤ c.input.length →
        exec (.keyOwnerEnrol r) s = .next (reply c.id ok (noteMod 0x0E01 0 noObj [] (updStore (fun k => { k with
          owner := some { issuer0 := sliceOf c.input 0 96, issuer1 := sliceOf c.input 96 96, otk := sliceOf c.input 192 32 } }) s)))) ∧
      (Starts 0x0E03 r c s → Booted s → s.keys.session = none → exec (.keyDepositBegin r) s = .next (reply c.id ok
        (updKeys (fun k => { k with session := some { total := argD c 2 240, at_ := s.clk } }) s))) ∧
      (∀ x y, Starts 0x0E04 r c s → Booted s → s.keys.session = some x → c.input ≠ [] →
        (takeChunk x i c.input s.clk = .repeated ∧ y = { x with at_ := s.clk }) ∨ takeChunk x i c.input s.clk = .accepted y →
        exec (.keyDepositChunk r) s = .next (reply c.id ok (updKeys (fun k => { k with session := some y }) s))) ∧
      (∀ x d b, Starts 0x0E05 r c s → Booted s → s.keys.session = some x → d = x.got → sessionFull x = true →
        depositBad d = none → dpFormat d = 1 ∨ s.keys.mode ≠ 0 → openDeposit s d = some b → bindingOk d = true →
        s.keys.store.counter < dpCounter d → recordsBad (dpNrec d) b = none →
        exec (.keyDepositEnd r) s = .next (reply c.id { ok with res1 := some (dpNrec d) } (applyDeposit d b s))) ∧
      (∀ x, Starts 0x0E06 r c s → Booted s → s.keys.session = some x → exec (.keyDepositAbort r) s = .next
        (reply c.id ok (updKeys (fun k => { k with session := none }) s))) ∧
      (∀ k, Starts 0x0E08 r c s → Alone s → (tget {} s.keys.slots i).nxt = some k →
        exec (.keySlotPromote r) s = .next (reply c.id ok (promoteKey i s))) ∧
      (Starts 0x0E0C r c s → s.svc.state = .commissioning → exec (.keyModeSet r) s = .next (reply c.id stagedR
        (noteMod 0x0E07 0 noObj [] (updKeys (fun k => { k with modeStaged := some i }) s)))))

/-- Status and counters are answered as data; an energy interval is started and read; gating is staged while the lane pool
runs and otherwise acts at once; a hold-up test starts when its conditions hold; the thermal alarm is written;
power.reset completes, with the reset to follow, unless the module is in service. [R49, R59] -/
def Obligations.PowerCommands : Prop :=
  ∀ (r : CmdId) (c : Cmd) (s : State), Admin c →
    (Starts 0x1001 r c s → GivesData (.powerStatusGet r) c
      (le 4 (pwrStatus s) ++ le 4 (s.pwr.vin % 65536 + s.pwr.iin % 65536 * 65536) ++
        le 4 (s.pwr.trpTemp % 65536 + s.pwr.dieTemp % 65536 * 65536)) ok s) ∧
    (Starts 0x1002 r c s → energyRuns s = false → exec (.powerEnergyStart r) s = .next (reply c.id ok (energyStart (argD c 1 10) s))) ∧
    (∀ i e p, Starts 0x1003 r c s → Takes c s 24 → s.met.interval = some i → i.soft = false → i.running = false →
      e = i.energy1 - i.energy0 → p = i.pcs1 - i.pcs0 → exec (.powerEnergyRead r) s = .next
        (sentFrom c (le 8 e ++ le 8 p ++ le 4 (quotient s e p) ++ zeros 4) ok s { s with fresh := s.fresh + 1 })) ∧
    (Starts 0x1004 r c s → fread s.pwr.cfg pGating = argD c 1 0 → exec (.powerGatingSet r) s = .next
      (reply c.id (okOrStaged (fstaged s.pwr.cfg pGating)) s)) ∧
    (Starts 0x1004 r c s → fread s.pwr.cfg pGating ≠ argD c 1 0 → lanePoolRuns s = true → exec (.powerGatingSet r) s = .next
      (reply c.id stagedR (updPwr (fun p => { p with cfg := fstage p.cfg pGating (argD c 1 0) }) s))) ∧
    (Starts 0x1004 r c s → fread s.pwr.cfg pGating ≠ argD c 1 0 → lanePoolRuns s = false → exec (.powerGatingSet r) s = .next
      (reply c.id ok (updPwr (fun p => { p with cfg := fset p.cfg pGating (argD c 1 0) }) s))) ∧
    (Starts 0x1005 r c s → s.met.holdup = none → 11500 ≤ s.pwr.vin → s.pwr.holdupReady = true →
      exec (.powerHoldupTest r) s = .next (setPhase c.id .executing
        (addWait .holdup (some c.id) (updMet (fun m => { m with holdup := some s.clk }) s)))) ∧
    (Starts 0x1006 r c s → Gives (.powerCountersGet r) c 32 ok s) ∧
    (Starts 0x1007 r c s → exec (.powerThermalSet r) s = .next (reply c.id ok
      (updPwr (fun p => { p with cfg := fset p.cfg pTrpAlarm (argD c 1 0x55) }) s))) ∧
    (Starts 0x1008 r c s → s.svc.state ≠ .inService →
      exec (.powerReset r) s = .next (reply c.id { ok with reset := true } s))

/-- A tail or head within its ring, and within what is outstanding, is taken; any other is a ring error. Receive and
transmit tails are taken for an assigned slice and denied for one that is not. [R72, R92, R95] -/
def Obligations.Doorbells : Prop :=
  ∀ (n value v : Nat) (s : State), hostUp s = true → n ≤ 512 → v = value % 4096 →
    (v < sqLen (win s n) → unfetched (win s n) + (v + sqLen (win s n) - (win s n).sqTail % sqLen (win s n)) % sqLen (win s n) <
        sqLen (win s n) → exec (.sqTail n value) s = .next (updWin n (fun w => { w with sqTail := v }) s)) ∧
    (sqLen (win s n) ≤ v ∨ sqLen (win s n) - 1 < unfetched (win s n) +
        (v + sqLen (win s n) - (win s n).sqTail % sqLen (win s n)) % sqLen (win s n) →
      exec (.sqTail n value) s = .next (ringErr n s)) ∧
    (v < cqLen (win s n) → (v + cqLen (win s n) - (win s n).cqHead % cqLen (win s n)) % cqLen (win s n) ≤ unconsumed (win s n) →
      exec (.cqHead n value) s = .next (updWin n (fun w => { w with cqHead := v }) s)) ∧
    (cqLen (win s n) ≤ v ∨ unconsumed (win s n) < (v + cqLen (win s n) - (win s n).cqHead % cqLen (win s n)) % cqLen (win s n) →
      exec (.cqHead n value) s = .next (ringErr n s)) ∧
    (n ≠ 0 → (win s n).pasid.isSome = true →
      exec (.rxTail n value) s = .next (deliver n (updWin n (fun w => { w with rxTail := v }) s)) ∧
      exec (.txTail n value) s = .next (updWin n (fun w => { w with txTail := v }) s)) ∧
    (n ≠ 0 → (win s n).pasid = none →
      exec (.rxTail n value) s = .next (deniedWr n s) ∧ exec (.txTail n value) s = .next (deniedWr n s))

/-- Turning a ring on starts it empty, turning it off stops it, a write that does not turn it leaves its indices, and a
write that the window refuses is denied; a receive ring that starts restarts its virtual port. [R68, R72, R344] -/
def Obligations.RingEnables : Prop :=
  ∀ (n value : Nat) (g : Cfg) (s : State), hostUp s = true → n ≤ 512 →
    (winWrite n 0x010 value s = some g → bitOf value 8 = true → fon g wEnable = true → fon (win s n).cfg wEnable = false →
      exec (.ringEnable n value) s = .next (updWin n (fun w => { w with
        sqHead := 0, sqTail := 0, cqHead := 0, cqIdx := 0, cqPhase := true, enabled := true, cqFailed := false,
        resetStop := false }) (updWin n (fun w => { w with cfg := g }) s))) ∧
    (winWrite n 0x010 value s = some g → bitOf value 8 = true → fon g wEnable = true → fon (win s n).cfg wEnable = true →
      exec (.ringEnable n value) s = .next (updWin n (fun w => { w with cfg := g }) s)) ∧
    (winWrite n 0x010 value s = some g → bitOf value 8 = false → fon g wEnable = false → fon (win s n).cfg wEnable = true →
      exec (.ringDisable n value) s = .next (sqStop n (updWin n (fun w => { w with cfg := g }) s))) ∧
    (winWrite n 0x010 value s = none → bitOf value 8 = true → exec (.ringEnable n value) s = .next (deniedWr n s)) ∧
    (n ≠ 0 → winWrite n 0x048 value s = some g → bitOf value 16 = true → fon g wRxEn = true → fon (win s n).cfg wRxEn = false →
      exec (.rxRingEnable n value) s = .next (vportRestart n (updWin n (fun w => { w with rxHead := 0, rxTail := 0 })
        (updWin n (fun w => { w with cfg := g }) s)))) ∧
    (n ≠ 0 → winWrite n 0x048 value s = some g → bitOf value 16 = false → fon g wRxEn = false → fon (win s n).cfg wRxEn = true →
      exec (.rxRingDisable n value) s = .next (flushVport n (updWin n (fun w => { w with cfg := g }) s))) ∧
    (n ≠ 0 → winWrite n 0x068 value s = some g → bitOf value 16 = true → fon g wTxEn = true → fon (win s n).cfg wTxEn = false →
      exec (.txRingEnable n value) s = .next (updWin n (fun w => { w with txHead := 0, txTail := 0 })
        (updWin n (fun w => { w with cfg := g }) s))) ∧
    (n ≠ 0 → winWrite n 0x068 value s = some g → bitOf value 16 = false → fon g wTxEn = false →
      exec (.txRingDisable n value) s = .next (updWin n (fun w => { w with cfg := g }) s))

/-- A claim answers the first source that is routed to the vector, enabled and pending, and marks it claimed, or answers
0x3FF and changes nothing. A completion clears the claim; an edge that recurred while claimed is pending again, once; a
level source is pending while its condition holds and it is not claimed; a completion of a source that is not claimed
changes nothing. An edge is pending from its event until it is claimed. [R422] -/
def Obligations.ClaimComplete : Prop :=
  ∀ (n v i : Nat) (s : State), hostUp s = true →
    (∀ k, ntfBest (ntf s 0) (ntfReady s 0 0) = some k → exec .ntfAdmClaim s = .next (emit (.value k)
      (updNtf 0 (fun u => { u with claimed := setBit u.claimed k, pend := clrBit u.pend k }) s))) ∧
    (ntfBest (ntf s 0) (ntfReady s 0 0) = none → exec .ntfAdmClaim s = .next (emit (.value 0x3FF) s)) ∧
    (∀ k, n ≠ 0 → n ≤ 512 → v < 4 → ntfBest (ntf s n) (ntfReady s n v) = some k → exec (.slcNtfClaim n v) s = .next (emit (.value k)
      (updNtf n (fun u => { u with claimed := setBit u.claimed k, pend := clrBit u.pend k }) s))) ∧
    (n ≠ 0 → n ≤ 512 → v < 4 → ntfBest (ntf s n) (ntfReady s n v) = none →
      exec (.slcNtfClaim n v) s = .next (emit (.value 0x3FF) s)) ∧
    (i < 1024 → exec (.ntfAdmComplete i) s = .next (ntfComplete 0 i s)) ∧
    (n ≠ 0 → n ≤ 512 → i < 1024 → exec (.slcNtfComplete n i) s = .next (ntfComplete n i s)) ∧
    (bitOf (ntf s n).claimed i = false ∨ ntfSources n ≤ i → ntfComplete n i s = s) ∧
    (i < ntfSources n → bitOf (ntf s n).claimed i = true →
      (ntf (ntfComplete n i s) n).claimed = clrBit (ntf s n).claimed i ∧
      (ntf (ntfComplete n i s) n).pend =
        (if bitOf (ntf s n).again i = true then setBit (ntf s n).pend i else (ntf s n).pend)) ∧
    (∀ k, k ∈ ntfReady s n v ↔ k < ntfSources n ∧ bitOf (ntf s n).enable k = true ∧ ntfRoute n (ntf s n) k = v ∧
      (if bitOf (ntfLevelMask n) k = true then bitOf (ntfLevel s n) k = true ∧ bitOf (ntf s n).claimed k = false
       else bitOf (ntf s n).pend k = true)) ∧
    (ntf (edge n i s) n).pend = (if bitOf (ntf s n).claimed i = true then (ntf s n).pend else setBit (ntf s n).pend i) ∧
    (ntf (edge n i s) n).again = (if bitOf (ntf s n).claimed i = true then setBit (ntf s n).again i else (ntf s n).again)

/-- A read of the time stamp latches the full time for its Requester; a low word latches its high word, which the next read
answers; a Reading Room read answers four bytes of the folio in its window, and one with no folio answers ones and is an
access error. [R2, R6, R390, R415] -/
def Obligations.RegisterReads : Prop :=
  ∀ (addr rid off v : Nat) (s : State), hostUp s = true → msixOpen s = true →
    (exec (.ptpNowTs32 rid) s = .next (emit (.value (ts32 s).toNat)
      (updTime (fun t => { t with latches := latchNow rid (fullNow s) t.latches }) s))) ∧
    (addr % 4 = 0 → pairSeen s addr = some v → exec (.lowWordRead addr rid) s = .next (emit (.value (v % 2 ^ 32))
      (updPcie (fun p => { p with latches := keepLatch addr rid (v / 2 ^ 32) p.latches }) s))) ∧
    (∀ h, addr % 4 = 0 → pairSeen s (addr + 4) = none → pairSeen s addr = some v → latchOf addr rid s.pcie.latches = some h →
      exec (.lowWordRead (addr + 4) rid) s = .next (emit (.value h)
        (updPcie (fun p => { p with latches := keepLatch addr rid h p.latches }) s))) ∧
    (∀ w f, tfind s.arc.room (off / 0x1000000) = some w → off % 4096 ≤ 4092 → tfind s.arc.folios w.folio = some f →
      exec (.readingRoomRead off) s = .next (emit (.room
        (padTo 4 (sliceOf (folioBytes w.folio f) (w.off * 65536 + off % 0x1000000) 4))) s)) ∧
    (tfind s.arc.room (off / 0x1000000) = none → exec (.readingRoomRead off) s = .next
      (emit (.room (List.replicate 4 255)) (accessError true false off s)))

/-- A write reaches the register at its address; a misaligned write or access is an access error, and a read of that kind
answers ones; SNAP takes its snapshot; a domain's hold register acts; unmasking a vector sends a message that waits.
[R2, R4, R54, R64, R139, R427] -/
def Obligations.RegisterWrites : Prop :=
  ∀ (addr value d : Nat) (s : State),
    (addr % 4 = 0 → reaches s addr = true → value < 2 ^ 32 → exec (.registerWrite addr value) s = .next (writeAt addr value s)) ∧
    (addr % 4 ≠ 0 → regsOpen s = true → exec (.registerWrite addr value) s = .next (accessError false true addr s)) ∧
    (msixOpen s = true → regsOpen s = true → exec (.bar0BadAccess addr true) s = .next (accessError false true addr s) ∧
      exec (.bar0BadAccess addr false) s = .next (emit (.value 0xFFFFFFFF) (accessError false false addr s))) ∧
    (regsOpen s = true → exec (.bar2Write addr) s = .next (accessError true true addr s)) ∧
    (4 ≤ s.pwr.phase → s.pcie.down = false → bitOf value 0 = true → exec (.snap value) s = .next (snapshot s)) ∧
    (hostUp s = true → d < 16 → exec (.angCtrlHold d value) s = .next (angWrite d 0 value s)) ∧
    (msixOpen s = true → d < 2048 → d ∈ s.pcie.pba → exec (.msixUnmask d) s = .next (post (.msi d) (stampSent d
      (updPcie (fun p => { p with
        msix := tset 0 p.msix (16 * d + 12) 0, unmasked := insNat p.unmasked d, pba := p.pba.filter fun y => y != d }) s)))) ∧
    (msixOpen s = true → d < 2048 → d ∉ s.pcie.pba → exec (.msixUnmask d) s = .next (updPcie (fun p => { p with
      msix := tset 0 p.msix (16 * d + 12) 0, unmasked := insNat p.unmasked d, pba := p.pba.filter fun y => y != d }) s))

/-- A fetch takes the next entry, asks for it or faults on its address; a completion of a read ends it with or without data;
one that does not come is asked for once more and then failed; frames to transmit are taken from their ring or stop it
on a fault. [R85, R96, R108, R490] -/
def Obligations.MailboxEvents : Prop :=
  (∀ (n : Nat) (s t : State) (a : Nat), takeTurn n s = some t → a = sqAddr (win t n) (win t n).sqHead →
      (∀ b, atuCheck t n a 64 false = none → exec (.submissionFetch n (some b)) s = .next
        (receiveEntry n b (updWin n (fun w => { w with sqHead := (w.sqHead + 1) % sqLen w }) t))) ∧
      (atuCheck t n a 64 false = none → exec (.submissionFetch n none) s = .next
        (issueRead { tag := 0, purpose := .entry n, addr := a, len := 64, attempt := 0, at_ := t.clk }
          (updWin n (fun w => { w with sqHead := (w.sqHead + 1) % sqLen w }) t))) ∧
      (∀ e k x, atuCheck t n a 64 false = some (k, x) → exec (.submissionFetch n e) s = .next
        (ringErr n (sqStop n (atuFault n k x false 2 0 t))))) ∧
  (∀ (r : Rd) (s : State), s.pcie.reads.find? (fun x => x.tag == r.tag) = some r →
      (∀ b, exec (.dmaReadCompletion r.tag true b) s = .next (readDone r b (endRead r.tag s))) ∧
      (∀ b, exec (.dmaReadCompletion r.tag false b) s = .next (readFailed r (endRead r.tag s))) ∧
      (r.at_ + cto s ≤ s.clk → wanted s r = true → r.attempt = 0 → exec (.dmaReadTimeout r.tag) s = .next
        (issueRead { r with attempt := 1 } (endRead r.tag s))) ∧
      (r.at_ + cto s ≤ s.clk → wanted s r = true → r.attempt ≠ 0 → exec (.dmaReadTimeout r.tag) s = .next
        (readFailed r (endRead r.tag s))) ∧
      (r.at_ + cto s ≤ s.clk → wanted s r = false → exec (.dmaReadTimeout r.tag) s = .next (endRead r.tag s))) ∧
  (∀ (n i : Nat) (ds : List TxDesc) (f : Frame) (s : State), txReady s n ds.length = true → i = (win s n).txHead →
      (txFault s n i ds.length = none → txBufFault s n s.fresh ds = none → exec (.txFrameFetch n ds f) s = .next
        (txFrame n i ds f (updWin n (fun w => { w with txHead := (i + ds.length) % ringLen (fval w.cfg wTxLog2) })
          { s with fresh := s.fresh + ds.length }))) ∧
      (∀ k a, txFault s n i ds.length = some (k, a) →
        exec (.txFrameFetch n ds f) s = .next (txStop n (atuFault n k a false 5 0 s))))

/-- An expired command is aborted; a completion is written where the queue has room, waits where it has none, and fails the
queue where its address faults, and is held while bus mastering is off; PERST# and FLR discard commands, translations, latches, reads and assignments; bus
mastering changes. [R80, R84, R89, R90, R108] -/
def Obligations.CompletionAndResetEvents : Prop :=
  (∀ (r : CmdId) (c : Cmd) (s : State),
      (s.cmds.find? (fun c => c.id == r && executing c) = some c → committed s c = false → c.started + effTimeout s c ≤ s.clk →
        exec (.commandTimeout r) s = .next (reply r (aborted 2) (cancelCmd r s))) ∧
      (s.cmds.find? (fun c => c.id == r && c.phase == .completing) = some c → s.pcie.down = false → busOff s = true →
        exec (.completionWrite r) s = .next (holdCqe r s)) ∧
      (s.cmds.find? (fun c => c.id == r && c.phase == .completing) = some c → s.pcie.down = false → busOff s = false →
        ((win s r.slice).cqFailed = true →
          exec (.completionWrite r) s = .next (retire r (countAborted r.slice s))) ∧
        ((win s r.slice).cqFailed = false → cqFull (win s r.slice) = false →
          atuCheck s r.slice (cqAddr (win s r.slice) (win s r.slice).cqIdx) 32 true = none →
          exec (.completionWrite r) s = .next (writeCqe c s)) ∧
        ((win s r.slice).cqFailed = false → cqFull (win s r.slice) = true → exec (.completionWrite r) s = .next s) ∧
        (∀ k a, (win s r.slice).cqFailed = false → cqFull (win s r.slice) = false →
          atuCheck s r.slice (cqAddr (win s r.slice) (win s r.slice).cqIdx) 32 true = some (k, a) →
          exec (.completionWrite r) s = .next (failCq c k a s)))) ∧
  (∀ (s t : State) (b d : Bool),
      exec .perst s = .next (hostReset s) ∧
      (s.pcie.down = false → exec .functionLevelReset s = .next (hostReset s)) ∧
      (t = hostReset s → t.cmds = [] ∧ t.heldOut = [] ∧ t.atu.entries = [] ∧ t.pcie.reads = [] ∧ t.pcie.latches = [] ∧
        t.pcie.unmasked = [] ∧ t.ntfs = [] ∧ ∀ n, (win t n).pasid = none ∧ (win t n).enabled = false) ∧
      (s.pcie.down = false → exec (.busMasterChange b d) s = .next (busChange b d s)))

/-- A due restart, freeze or domain restart takes effect at its boundary; a reset discards what waits after 1 ms, not
before, and ends. [R112, R115, R118, R155] -/
def Obligations.InstanceEvents : Prop :=
  ∀ (n d : Nat) (s : State),
    (∀ r a, restartDue s n = some (r, a) → exec (.instanceRestartBoundary n) s = .next (subSimEnd n (simEnd (restartBoundary n r s)))) ∧
    (∀ c a, (inst s n).freezeReq = some c → (inst s n).st = .running → (inst s n).freezeAt = some a →
      exec (.freezeBoundary n) s = .next (svcDrop n (freezeInst n a c s))) ∧
    (∀ c a, (inst s n).freezeReq = some c → (inst s n).st = .held → heldFreeze s n c = some a →
      exec (.freezeBoundary n) s = .next (freezeInst n a c s)) ∧
    (∀ r, (inst s n).reset = some r → r.start + 1000000 ≤ s.clk → exec (.instanceResetDiscard n) s = .next (discardWaiting n s)) ∧
    (∀ r, (inst s n).reset = some r → r.start + 1000000 > s.clk → exec (.instanceResetDiscard n) s = .next s) ∧
    (∀ r, (inst s n).reset = some r → (sliceCmds s n = [] ∨ r.start + 1000000 ≤ s.clk) →
      exec (.instanceResetComplete n) s = .next (simEnd (resetEnd n r s))) ∧
    (domRestartDue s d = true → exec (.domainRestartBoundary d) s = .next (restartDomain d s))

/-- Power starts the module cold; rails, supervisor, endpoint, counters, bank selection, memory, settings, mailboxes and the
pipeline come up in their phases; a soft reset runs when due; MOD_EN# low and an unarmed loss of power turn the module
off. [R41, R43, R46, R55, R471, R491] -/
def Obligations.PowerUp : Prop :=
  ∀ (s : State) (dbg : Bool),
    (s.pwr.good = false ∨ s.pwr.pfw = .entered → exec .twelveVGood s = .next (coldStart s)) ∧
    (exec .modEnLow s = .next (powerOff false s)) ∧
    (s.pwr.good = true → s.pwr.rails < 8 → s.pwr.fail = false → exec .railsUp s = .next (updPwr (fun p => { p with
      rails := p.rails + 1, phase := if p.rails = 7 ∧ p.phase = 1 then 2 else p.phase }) s)) ∧
    (phaseIs 0 s = true → s.pwr.soft = false → exec (.supervisorStart dbg) s = .next (updPwr (fun p => { p with
      dbg := dbg, phase := if p.rails = 8 then 2 else 1 }) s)) ∧
    (phaseIs 0 s = true → s.pwr.soft = true → exec (.supervisorStart dbg) s = .next (setPhaseTo 3 s)) ∧
    (phaseIs 2 s = true → exec .pcieEndpointConfigured s = .next (setPhaseTo 3 s)) ∧
    (phaseIs 3 s = true → s.pwr.soft = true →
      exec .countersRestored s = .next (setPhaseTo 4 (updPwr (fun p => { p with pfwArmed := true }) s))) ∧
    (∀ t, phaseIs 3 s = true → s.pwr.soft = false → t = noteMod 0x1001 0 noObj [] (coldCounters (updChr chrScan
        (setPhaseTo 4 (updPwr (fun p => { p with pfwArmed := true }) s)))) →
      exec .countersRestored s = .next (if t.pwr.dbg then noteMod 0x1003 0 noObj [] t else t)) ∧
    (phaseIs 4 s = true → exec .bankSelect s = .next (bankSelect s)) ∧
    (phaseIs 5 s = true → exec .dramTrained s = .next (setPhaseTo 6 (updPwr (fun p => { p with holdupReady := true }) s))) ∧
    (phaseIs 6 s = true → exec .settingsLoaded s = .next (loadSettings s)) ∧
    (phaseIs 7 s = true → exec .mbxReady s = .next (setPhaseTo 8 (updPwr (fun p => { p with mbxReady := true }) s))) ∧
    (phaseIs 8 s = true → s.svc.state = .boot → s.pwr.bootFault = false → exec .pipelineStart s = .next (startPipeline s)) ∧
    (s.pwr.resetDue = true → s.pwr.good = true → s.pwr.pfw = .idle → exec .softReset s = .next (softReset s)) ∧
    (s.pwr.good = true → s.pwr.pfwArmed = false → exec .vinLossUnarmed s = .next (powerOff s.pwr.modEn s))

/-- A power-fail warning and the steps after it, each no sooner than its instant: outputs off, the dying gasp, links down,
PCIe down, the Chronicle's last entry and the reset hold. [R45] -/
def Obligations.PowerFail : Prop :=
  ∀ s : State,
    (s.pwr.good = true → s.pwr.pfwArmed = true → s.pwr.pfw = .idle → exec .powerFailWarning s = .next (alertPin
      { updPwr (fun p => { p with pfw := .warned, pfwAt := s.clk }) s with pins := { s.pins with pfwOut := true } })) ∧
    (s.pwr.good = true → s.pwr.pfw = .warned → s.pwr.pfwAt + 100000 ≤ s.clk → exec .pfwOutputsOff s = .next
      (setPfw .outputsOff (updPwr (fun p => { p with state := 2 }) (pipelineOff (haltArchive (holdAll (stopAlarmPub (dropOuts s)))))))) ∧
    (s.pwr.good = true → s.pwr.pfw = .outputsOff → s.pwr.pfwAt + 500000 ≤ s.clk → exec .dyingGasp s = .next
      (if s.tdm.standalone then setPfw .gasped s else refSend 0x0004 1 0 (linkSend (.gasp 1) (setPfw .gasped s)))) ∧
    (s.pwr.good = true → s.pwr.pfw = .gasped → s.pwr.pfwAt + 600000 ≤ s.clk → exec .pfwLinksDown s = .next
      (setPfw .linksDown { updTdm (fun t => { t with laneA := false, laneB := false, session := none, inStep := false }) s with
        sw := { s.sw with forwarding := false }
        ports := tmapD {} (fun _ q => { q with link := false, txOff := true }) s.ports })) ∧
    (s.pwr.good = true → s.pwr.pfw = .linksDown → s.pwr.pfwAt + 1000000 ≤ s.clk →
      exec .pfwPcieDown s = .next (setPfw .pcieDown (pcieOff (edge 0 4 s)))) ∧
    (s.pwr.good = true → s.pwr.pfw = .pcieDown → s.pwr.pfwAt + 4000000 ≤ s.clk → exec .pfwChronicleEntry s = .next
      (setPfw .entered (persist (updChr chrDrain (noteMod 0x1002 0 noObj [s.sig.x3.rise, s.sig.x3.fall] (updChr chrDrain s)))))) ∧
    (s.pwr.good = true → s.pwr.pfw ≠ .idle → exec .supervisorResetHold s = .next (powerOff s.pwr.modEn s))

/-- Thermal alarm and its end, die over-temperature, watchdog, ECC, switch and rail faults, the end of the hold-up test and
of the energy interval, and the counting and keeping of operating hours have the effect of their rules. [R36, R38, R44,
R49, R56, R57, R59, R246, R428] -/
def Obligations.FaultEvents : Prop :=
  ∀ (s : State) (x : Nat), s.pwr.good = true →
    (s.pwr.therm = false → trpAlarm s ≤ tempOf x → exec (.thermalAlarm x) s = .next (setAlarm 0 (noteMod 0x1005 0 noObj [x % 65536]
      (alertPin (updPwr (fun p => { p with therm := true, trpTemp := x % 65536 }) s))))) ∧
    (s.pwr.therm = true → tempOf x < trpAlarm s → exec (.thermalAlarmCleared x) s = .next
      (alertPin (updPwr (fun p => { p with therm := false, trpTemp := x % 65536 }) s))) ∧
    (1760 ≤ tempOf x → exec (.dieOvertemperature x) s = .next (moduleFault 1 (updPwr (fun p => { p with dieTemp := x % 65536 }) s))) ∧
    (exec .supervisorWatchdog s = .next (moduleFault 3 s)) ∧
    (exec .eccUncorrected s = .next (moduleFault 6 s)) ∧
    (exec .switchHardwareFault s = .next (moduleFault 9 s)) ∧
    (x < 8 → s.pwr.fail = false → exec (.railFault x) s = .next (railFault x s)) ∧
    (s.met.holdup.isSome = true → exec (.holdupTestEnd x) s = .next (finishWaits .holdup
      { withKey 1 (b2n (decide (7400 ≤ x))) ok with res1 := some (x % 2 ^ 32) }
      (noteAs (if 7400 ≤ x then 1 else 2) 0x1006 0 noObj noObj []
        (updPwr (fun p => { p with holdupFail := !decide (7400 ≤ x) }) (updMet (fun m => { m with holdup := none }) s))))) ∧
    (∀ i, s.met.interval = some i → i.running = true → i.start + i.duration * 1000000000 ≤ s.clk →
      exec .powerEnergyIntervalEnd s = .next (updMet (fun m => { m with interval := some { i with
        running := false, energy1 := meter m.energy 11, pcs1 := m.pcs } }) (readMeters s))) ∧
    (exec .opsecTick s = .next (updMet (fun m => { m with opsec := (m.opsec + 1) % 2 ^ 40 }) s)) ∧
    (s.pwr.pfw = .idle → exec .opsecPersist s = .next (persist s))

/-- A port receives and transmits frames, loses and gains its link and flushes, honours pause and its watchdog, wakes,
verifies preemption, runs its gates, changes its gate list and launches frames, each where its condition holds. [R336,
R337, R340, R355, R357, R361, R364, R389] -/
def Obligations.PortEvents : Prop :=
  (∀ (p x : Nat) (b : Bool) (f : Frame) (s : State), p < 48 →
      (portReceives s p = true → exec (.portFrameReceive p f) s = .next (receiveFrame p f s)) ∧
      (portOpen s p = true → ∀ c, readyClass (ageAll p s) p 8 = some c → exec (.frameTransmit p) s = .next (sendHead p c (ageAll p s))) ∧
      (exec (.linkDown p) s = .next (linkLost p s)) ∧
      (s.sw.forwarding = true → (port s p).held = false → (port s p).txOff = false → portf s p prRole ≠ 0 → (port s p).link = false →
        speedOk (port s p) x = true → exec (.linkUp p x) s = .next (preemptJudge (updPort p (fun q => { q with
          link := true, frozen := false, speedAct := x, verify := fval q.cfg prVerifyEn, verifyAt := s.clk }) (downFlush p s)))) ∧
      ((port s p).frozen = true → (port s p).link = false → (port s p).frozenAt + 10000000 ≤ s.clk →
        exec (.linkDownFlush p) s = .next (updPort p (fun q => { q with frozen := false }) (txSettle (flushPort p s)))) ∧
      ((port s p).paused = true → (port s p).wdActive = false →
        (port s p).pausedSince + fval (port s p).cfg prPauseWd * 1000000 ≤ s.clk → exec (.pauseWatchdog p) s = .next
          (setAlarm 6 (passError 0x0A01 p (noteMod 0x0A01 0 p [] (count p 19 (updPort p (fun q => { q with
            pauseWd := true, wdActive := true, paused := false, unpausedAt := s.clk }) s)))))) ∧
      ((port s p).wdActive = true → (port s p).lastPause + 1000000000 ≤ s.clk →
        exec (.pauseWdRelease p) s = .next (updPort p (fun q => { q with wdActive := false }) s)) ∧
      ((port s p).paused = true → (port s p).pauseEnd ≤ s.clk →
        exec (.pauseTimeExpiry p) s = .next (updPort p (fun q => { q with paused := false, unpausedAt := s.clk }) s)) ∧
      (s.sw.forwarding = true → portf s p prRole = 0 → exec (.wake p) s = .next
        (edge 0 10 (noteMod 0x0A02 0 p [] (count p 20 (updPort p (fun q => { q with wake := true }) s))))) ∧
      ((port s p).link = true → portf s p prVerifyEn = 1 → (port s p).verify ≠ 2 →
        (port s p).verifyAt + portf s p prVerifyTime * 1000000 ≤ s.clk → exec (.preemptionVerify p b) s = .next
          (preemptJudge (updPort p (fun q => { q with verify := if b then 2 else 3, verifyAt := s.clk }) s)))) ∧
  (∀ (p c : Nat) (g : Gcl) (t : Nat) (s : State), p < 48 →
      ((port s p).gcl = some g → gatesWanted s p = true → (port s p).gatesRun = true → (port s p).gateEnd ≤ s.time.n →
        exec (.gateEvent p) s = .next (runEntry p g (((port s p).entry + 1) % g.entries.length) (port s p).gateEnd s)) ∧
      ((port s p).gcl = some g → gatesWanted s p = true → (port s p).gatesRun = false → (port s p).gateAt = some t → t ≤ s.time.n →
        exec (.gateEvent p) s = .next (runEntry p g 0 t s)) ∧
      ((port s p).gclNext = some (g, t) → t ≤ s.time.n → busyTx s p = false → gatesWanted s p = true →
        exec (.gclChange p) s = .next (finishWaits (.gcl p) ok (runEntry p g 0 t
          (updPort p (fun q => { q with gcl := some g, gclNext := none, gateAt := none }) s)))) ∧
      ((port s p).gclNext = some (g, t) → t ≤ s.time.n → busyTx s p = true → gatesWanted s p = true →
        gatesWanted (count p 17 s) p = true → exec (.gclChange p) s = .next (finishWaits (.gcl p) ok (runEntry p g 0 t
          (updPort p (fun q => { q with gcl := some g, gclNext := none, gateAt := none }) (count p 17 s))))) ∧
      (launchClass s p 8 = some c → portOpen s p = true → (classReady s p c).isSome = true →
        exec (.launchTime p) s = .next (sendHead p c s)) ∧
      (∀ q l, launchClass s p 8 = some c → portOpen s p = false ∨ classReady s p c = none → queueOf s p c = q :: l →
        exec (.launchTime p) s = .next (updPort p (fun o => { o with launchLate := o.launchLate + 1 })
          (setQueue p c ({ q with launch := none } :: l) s))))

/-- Forwarding and duplicate entries past their age are forgotten and no others; a due stocktake compares and ends; a
supervision frame is sent every two seconds on an enabled pair. [R343, R359, R365, R368] -/
def Obligations.SwitchEvents : Prop :=
  ∀ (s : State) (k x : Nat),
    (exec (.fdbAgeExpiry k x) s = .next (updSw (fun w => { w with fdb := w.fdb.filter fun e =>
      !(e.vid == k && e.mac == x && !e.static && decide (e.seen + swf s swFdbAge * 1000000000 ≤ s.clk)) }) s)) ∧
    (exec (.ddAgeExpiry k x) s = .next (updSw (fun w => { w with dd := w.dd.filter fun d =>
      !(d.pair == k && d.src == x && !ddLive s d) }) s)) ∧
    (stockDue s = true → exec .stocktake s = .next (stockEnd (stockPass s).1 (stockPass s).2.1 (stockPass s).2.2)) ∧
    (∀ r, tfind s.sw.pairs k = some r → fon r.cfg rpEnable = true → s.sw.forwarding = true → r.supAt + 2000000000 ≤ s.clk →
      exec (.supervisionFrameSend k) s = .next (sendSupervision k r s))

/-- Frames are ingested, samples declared missing, silent streams lost and detector events offered; lock, hold, coast, hold-
off, reference-set resumption and acquisition of a domain change where their counts are reached. [R133, R141, R142,
R143, R164, R177, R180, R207] -/
def Obligations.StreamAndDomainEvents : Prop :=
  (∀ (s : State) (x : Nat),
      (∀ q t, joining s 3 = false → takeFrom 48 isSv 8 s = some (q, t) → ingestRuns t = true → exec .svFrameIngest s = .next (svFrame q t)) ∧
      (∀ t n, tfind s.sv.streams x = some t → t.state ≠ .held → s.tdm.standalone = true → nextUnknown t = some n →
        missingDue s t n = true → exec (.sampleMissing x) s = .next (declareMissing x n s)) ∧
      (∀ t, tfind s.sv.streams x = some t → t.state = .running → t.lastAt + fval t.cfg sTimeout * 1000000 ≤ s.clk →
        exec (.streamTimeout x) s = .next (setStream x .lost (strCount x 15 (endSequence x s)))) ∧
      (∀ d up n t, tfind s.filt.dets x = some d → d.event = some (up, n, t) → exec (.thresholdDetectorEvent x) s = .next
        (offerEvent 3 x up t (!s.time.traceable)
          (updFilt (fun f => { f with dets := tmod {} f.dets x fun d => { d with event := none } }) s)))) ∧
  (∀ (s : State) (d : Nat) (x : Dom), x = dom s d →
      (x.mode = .track → x.lock = false → 512 ≤ x.lockRun → exec (.lockSet d) s = .next
        (updDom d (fun x => { x with lock := true, everLock := true }) s)) ∧
      (x.mode = .hold → x.lock = true → fval x.cfg aCoastMax * 64 ≤ x.holdRun → exec (.holdLockTimeout d) s = .next
        (updDom d (fun x => { x with lock := false }) s)) ∧
      (x.mode = .coast → fval x.cfg aCoastMax * 64 ≤ x.coastRun → exec (.coastTimeout d) s = .next
        (updDom d (fun x => endCoast { x with coastTimeout := true }) s)) ∧
      (x.mode = .coast → x.fd = true → fval x.cfg aHoldoff * 64 ≤ x.fdClear → exec (.holdoffExpiry d) s = .next
        (updDom d (fun x => endCoast { x with fd := false, fdRun := [], fdClear := 0 }) s)) ∧
      (x.mode ≠ .coast → x.fd = true → fval x.cfg aHoldoff * 64 ≤ x.fdClear → exec (.holdoffExpiry d) s = .next
        (updDom d (fun x => { x with fd := false, fdRun := [], fdClear := 0 }) s)) ∧
      (x.setB = true → 64 ≤ x.aRun → exec (.refSetResume d) s = .next
        (updDom d (fun x => { x with setB := false, bumpless := true, switched := true, fdRun := [] }) s)) ∧
      (x.setB = false → x.mode = .glide → 64 ≤ x.anyRun → exec (.refSetResume d) s = .next
        (updDom d (fun x => enterAcquire x (!x.everLock)) s)) ∧
      (passDone x = true → (acquirePass x).2 = false → exec (.acquisitionPass d) s = .next
        (updDom d (fun _ => (acquirePass x).1) s)))

/-- Grid samples are produced, steps dispatched at their boundary with inputs ready, evaluations end, steps close when
complete or at the deadline; lane self-tests, sweeps and the shadow of an exchange follow. [R198, R214, R217, R218,
R219, R221, R242, R262] -/
def Obligations.StepEvents : Prop :=
  ∀ (s : State) (n d slot : Nat) (u : LaneUpset) (l : List Nat),
    (∀ p q, pipeUp s = true → pairAt s n d = some p → producePair s p = some q →
      exec (.gridSampleProduce n d) s = .next (trackAll d (runDets q (putPair q s)))) ∧
    (∀ tk ts, (dom s d).boundary = tk :: ts → pipeUp s = true → (dom s d).running = true → (dom s d).stepOpen = false →
      boundaryBusy s d = false → inputsReady s d tk.k (stepIndex (dom s d) tk.angle) = true → boundaryBusy (atBoundary d tk s) d = false →
      exec (.stepDispatch d) s = .next (dispatchStep d tk (atBoundary d tk s))) ∧
    (∀ x, jobAt s n slot = some (d, x) → exec (.laneEvaluationComplete n slot u) s = .next (endEval d x u s)) ∧
    (∀ r, (dom s d).stepOpen = true → tfind s.lanes.steps d = some r → allComplete r = true →
      exec (.stepClose d) s = .next (closeStep d r s)) ∧
    (∀ r, (dom s d).stepOpen = true → tfind s.lanes.steps d = some r → allComplete r = false →
      exec (.stepClose d) s = .next s) ∧
    (∀ r, (dom s d).stepOpen = true → tfind s.lanes.steps d = some r →
      r.at_ + stepNs (dom s d) (fmaxRaw (dom s d).cfg) ≤ s.clk → exec (.stepDeadline d) s = .next (closeStep d r s)) ∧
    (s.lanes.testAt + 10000000000 ≤ s.clk → s.lanes.steps ≠ [] → exec (.laneSelftest l) s = .next
      (((List.range 64).filter fun k => l.contains k && !(lane s k).retired).foldl
        (fun s k => updLane k (fun x => { x with failed := true, due := true }) s) (updLanes (fun p => { p with testAt := s.clk }) s))) ∧
    (s.lanes.testAt + 10000000000 ≤ s.clk → s.lanes.steps = [] →
      exec (.laneSelftest l) s = .next (retireLanes (failLanes l s))) ∧
    (pipeUp s = true → s.tdm.standalone = true → sweepFree s = true → exec .logicSweep s = .next (sweepWith none
      (match s.logic.lastStart with
        | some t => s.clk / 1000 - t / 1000
        | none => 0) latchStandalone s)) ∧
    (∀ w ws, pipeUp s = true → s.tdm.standalone = false → joining s 5 = false → s.tdm.sweepTodo = w :: ws → exec .logicSweep s = .next (sweepBallot w s)) ∧
    (exec (.exchangeShadowReady n) s = .next (updLogic n (fun l => { l with exch := l.exch.map fun x => { x with ready := true } }) s))

/-- Launches at an output, shortest and longest pulse, supervision of circuit and energisation, output tests and the
discrepancy of a breaker, filtered input edges and the latches before the filters run. [R275, R276, R278, R279, R280,
R430, R431] -/
def Obligations.OutputAndInputEvents : Prop :=
  (∀ (s : State) (k mV : Nat) (o : Outp), o = outp s k →
      (outActs s k = true → exec (.powLaunch k) s = .next (powJudge k s)) ∧
      (o.energised = true → o.energAt + fval o.cfg oMinPulse * 1000000 ≤ s.clk →
        exec (.minPulseExpiry k) s = .next (updOut k (fun o => { o with minDone := true }) s)) ∧
      (o.energised = true → fval o.cfg oMaxPulse ≠ 0 → o.energAt + fval o.cfg oMaxPulse * 10000000 ≤ s.clk →
        exec (.maxPulseExpiry k) s = .next (noteMod 0x0801 0 k [] (deenergise k
          (updOut k (fun o => { o with maxPulse := true, blocked := o.trip || o.powReq }) s)))) ∧
      (o.energised = true → o.triph = true → o.tripl = true → o.energSeen = false → fon o.cfg oSupEn = true →
        o.energAt + fval o.cfg oEnergTime * 100000 ≤ s.clk → fval o.cfg oEnergMin ≤ mV →
        exec (.energTimeExpiry k mV) s = .next (updOut k (fun o => { o with tripi := mV % 4096, energSeen := true }) s)) ∧
      (o.energised = true → o.triph = true → o.tripl = true → o.energSeen = false → fon o.cfg oSupEn = true →
        o.energAt + fval o.cfg oEnergTime * 100000 ≤ s.clk → mV < fval o.cfg oEnergMin →
        exec (.energTimeExpiry k mV) s = .next
          (setSupFault k (updOut k (fun o => { o with tripi := mV % 4096, energSeen := true }) s))) ∧
      (fon o.cfg oSupEn = true → o.energised = false → o.test = none → fval o.cfg oSupMin ≤ mV → mV ≤ fval o.cfg oSupMax →
        exec (.supervisionWindow k mV) s = .next
          (updOut k (fun o => { o with tripi := mV % 4096, inRangeNow := true, outWindows := 0 }) s)) ∧
      (fon o.cfg oSupEn = true → o.energised = false → o.test = none → mV < fval o.cfg oSupMin ∨ fval o.cfg oSupMax < mV →
        9 ≤ o.outWindows → exec (.supervisionWindow k mV) s = .next
          (setSupFault k (updOut k (fun o => { o with tripi := mV % 4096, inRangeNow := false, outWindows := min 10 (o.outWindows + 1) }) s))) ∧
      (k < 8 → testReady s k = true → exec (.outputTest k) s = .next (startTest k s)) ∧
      (∀ t, o.test = some t → t.start + testAt t.step ≤ s.clk → exec (.outputTestPhase k mV) s = .next (testStep k mV t s)) ∧
      (∀ t, o.discSince = some t → fon o.cfg oBkEn = true → o.outDisc = false → t + fval o.cfg oDiscTime * 1000000 ≤ s.clk →
        exec (.discTimeExpiry k) s = .next (noteMod 0x0804 0 k [] (updOut k (fun o => { o with outDisc := true, discEvt := true }) s)))) ∧
  (∀ (s : State) (i ts : Nat) (b : Bool), i < 20 →
      (s.sig.x3.running = true → bitOf s.sig.x3.state i ≠ b → exec (.filteredInputEdge i b ts) s = .next (x3Edge i b ts s)) ∧
      (s.pwr.good = true → s.pwr.rails ≠ 0 → s.sig.x3.running = false → bitOf s.sig.x3.pins i ≠ b →
        exec (.x3LatchEdge i b) s = .next (x3Latch i b s)))

/-- A pending state is launched at its instant, or counted where its angle is not locked; a message is repeated when due; a
received one is handled, and a lifetime that ends is handled in a unit that stands alone. [R282, R283, R288, R291] -/
def Obligations.GooseEvents : Prop :=
  ∀ (s : State) (n p : Nat),
    (∀ u m l k, tfind (inst s n).pubs p = some u → u.pending = some (m, l) → pubActs s n = true →
      k = freezeLaunch (dom s (instDom (inst s n))) s.time.n l → k.frozen = true → k.notLocked = true →
      exec (.gooseLaunch n p) s = .next (pubUnlocked n p (launchPub n p u m false none s))) ∧
    (∀ u m l k, tfind (inst s n).pubs p = some u → u.pending = some (m, l) → pubActs s n = true →
      k = freezeLaunch (dom s (instDom (inst s n))) s.time.n l → k.frozen = true → k.notLocked = false →
      k.due ≤ s.time.n + 327680000 → exec (.gooseLaunch n p) s = .next
        (updInst n (fun i => { i with pubs := tupd i.pubs p fun u => { u with launchAt := s.clk + (k.due - s.time.n) / 65536 } })
          (launchPub n p u m false (if s.time.n < k.due then some k.due else none) s))) ∧
    (∀ u, n ≠ 0 → tfind (inst s n).pubs p = some u → pubDue s u = true → s.pwr.pfw = .idle →
      exec (.gooseRetransmit n p) s = .next (repeatPub n p u u.launchAt s)) ∧
    (∀ u, s.trip.alarmPub = some u → pubDue s u = true → s.svc.state ≠ .boot → s.pwr.pfw = .idle →
      exec (.gooseRetransmit 0 p) s = .next (sendPub true (s.svc.state == .test) { u with sqNum := nextCount u.sqNum } u.n none
        { s with trip := { s.trip with alarmPub := some { u with
          sqNum := nextCount u.sqNum, n := u.n + 1, sentCount := u.sentCount + 1 } } })) ∧
    (∀ q t, joining s 3 = false → takeFrom 49 isGoose 8 s = some (q, t) → ingestRuns t = true → exec .gooseFrameReceive s = .next (gooseFrame q t)) ∧
    (s.tdm.standalone = true → exec (.gooseTalExpiry n p) s = .next (talOut n p s))

/-- PTP messages are handled, residence entries dropped, sources lost, the holdover limit ended, pulse and frequency inputs
taken and the pulse output raised. [R377, R381, R384, R385, R386] -/
def Obligations.TimeEvents : Prop :=
  ∀ (s : State) (p n : Nat),
    (∀ q t, takeFrom 50 isPtpCopy 8 s = some (q, t) → exec .ptpMessageHandle s = .next (ptpHandle q t)) ∧
    (p < 48 → exec (.residenceDiscard p n) s = .next (updPort p (fun q => { q with
      residence := q.residence.filter fun r => !(r.seq == n && decide (r.at_ + 1000000000 ≤ s.clk)) }) s)) ∧
    (sourceGone s = true → s.time.source ≠ 1 → exec .sourceLoss s = .next (loseSource s)) ∧
    (sourceGone s = true → s.time.source = 1 → exec .sourceLoss s = .next
      (bmca (updPort s.time.slavePort (fun q => { q with announce := none, sync := none }) (loseSource s)))) ∧
    (s.time.state = .holdover → s.time.holdAt + timef s tHoldover * 1000000000 ≤ s.clk →
      exec .holdoverLimitExpiry s = .next (holdoverEnd s)) ∧
    (timef s tPpsInEn = 1 → exec .ppsInEdge s = .next (ppsEdge s)) ∧
    (exec .freqInLoss s = .next (updTime (fun t => { t with freqOk := false }) s)) ∧
    (timef s tFreqInEn = 1 → exec .freqInPresent s = .next (updTime (fun t => { t with freqOk := true }) s)) ∧
    (ppsOutOn s = true → (secondOffset ((s.time.n : Int) - fvalI s.time.cfg tPpsOff * nsU)).natAbs ≤ 20 * nsU →
      exec .ppsOutPulse s = .next (updTime (fun t => { t with ppsOut := true, ppsOutAt := s.clk }) s))

/-- Each frame of the link is processed in sequence; a frame not acknowledged is sent again, and a lane or link that falls
silent is dead; IDLE and HELLO are sent when due. [R301, R302, R304, R305, R308, R310, R314, R322, R323, R325] -/
def Obligations.LinkEvents : Prop :=
  (∀ (s : State) (h : LinkHdr) (a b c d e : Nat),
      exec (.idle h a b c d) s = .next (linkArrive h (.idle a b c d) s) ∧
      (∀ l, exec (.notice h l) s = .next (linkArrive h (.notice l) s)) ∧
      (∀ x y, exec (.forward h x y) s = .next (linkArrive h (.forward x y) s)) ∧
      (∀ l, exec (.settle h l) s = .next (linkArrive h (.settle l) s)) ∧
      (∀ l x, exec (.report h l x) s = .next (linkArrive h (.report l x) s)) ∧
      (∀ l, exec (.close h a b l c) s = .next (linkArrive h (.close a b l c) s)) ∧
      exec (.closeAck h a b) s = .next (linkArrive h (.closeAck a b) s) ∧
      (∀ l i, exec (.carry h a b c d l i) s = .next (linkArrive h (.carry a b c d l i) s)) ∧
      exec (.carryAck h a b) s = .next (linkArrive h (.carryAck a b) s) ∧
      exec (.nak h a b) s = .next (linkArrive h (.nak a b) s) ∧
      exec (.gasp h a) s = .next (linkArrive h (.gasp a) s) ∧
      (∀ f, exec (.hello h a b c d e f) s = .next (linkArrive h (.hello a b c d e f) s)) ∧
      (∀ x, exec (.resync h x) s = .next (linkArrive h (.resync x) s))) ∧
  (∀ (s : State) (n : Nat), pairUp s = true →
      (exec (.linkFrameResend n) s = .next (linkResend (fun f => f.seq == n && decide (f.at_ + 15000 ≤ s.clk)) s)) ∧
      (max s.tdm.lastA s.tdm.lastB + tdmf s dLinkDead * 1000 ≤ s.clk → exec .linkDead s = .next (linkDie 5 s)) ∧
      (s.tdm.laneA = true → s.tdm.lastA + 100000 ≤ s.clk →
        exec (.laneDead 0) s = .next (updTdm (fun t => { t with laneA := false }) s)) ∧
      (s.tdm.laneB = true → s.tdm.lastB + 100000 ≤ s.clk →
        exec (.laneDead 1) s = .next (updTdm (fun t => { t with laneB := false }) s)) ∧
      (s.tdm.session.isSome = true → s.tdm.lastSent + 10000 ≤ s.clk → exec .idleSend s = .next
        (linkOut false s.tdm.txSeq (.idle s.tdm.role.code s.tdm.gen s.tdm.tcl s.sig.alarm) s)) ∧
      (s.tdm.session = none → s.tdm.lastHello + 1000000 ≤ s.clk → exec .helloSend s = .next
        (linkOut false 0 (.hello Config.serialNo (tdmf s dPosition) (tdmf s dPairId) (tclRange s).1 (tclRange s).2 s.tdm.proposal)
          (updTdm (fun t => { t with lastHello := s.clk }) s))))

/-- An input without the partner's copy settles at its wait's end; ballot periods end and due ballots close;
resynchronisation moves on, fails, is tried again, and a scrub ends in DETACHED or a module fault. [R304, R308, R311,
R323, R324] -/
def Obligations.BallotAndResyncEvents : Prop :=
  (∀ (s : State) (i : InputId) (x : BInput) (v : InputData),
      (findInput s i = some x → x.own = some v → x.settled = none → x.peerCrc = none → x.ownAt + tdmf s dFwdWait * 1000 ≤ s.clk →
        exec (.fwdWaitExpiry i) s = .next (fwdExpired x v s)) ∧
      (pairUp s = true → (s.tdm.ballot + 1) * periodT ≤ s.time.n → s.tdm.inStep = false →
        exec .ballotPeriodEnd s = .next (updTdm (fun t => { t with ballot := t.ballot + 1 })
          (updTdm (fun t => { t with ownX3 := tput t.ownX3 t.ballot s.sig.x3.state }) s))) ∧
      (pairUp s = true → (s.tdm.ballot + 1) * periodT ≤ s.time.n → s.tdm.inStep = true →
        exec .ballotPeriodEnd s = .next (updTdm (fun t => { t with ballot := t.ballot + 1 }) (linkSend (.report [] (some s.sig.x3.state))
          (updTdm (fun t => { t with ownX3 := tput t.ownX3 t.ballot s.sig.x3.state }) s)))) ∧
      (pairUp s = true → settler s = true → deadlineT (s.tdm.closed + 1) ≤ s.time.n → s.tdm.closed + 1 < s.tdm.ballot →
        exec .ballotDeadline s = .next (closeNext s))) ∧
  (∀ s : State,
      (pairUp s = true → phaseDone s = true → exec .resyncPhaseEnd s = .next (nextPhase s)) ∧
      (pairUp s = true → s.tdm.role = .detached → s.tdm.phase ≠ 0 → s.tdm.phaseAt + phaseBound s s.tdm.phase < s.clk →
        exec .resyncFailure s = .next (resyncFail s)) ∧
      (pairUp s = true → s.tdm.role = .detached → s.tdm.phase = 0 → s.tdm.attempts = 1 → s.tdm.session.isSome = true →
        s.tdm.failedAt + 1000000000 ≤ s.clk → exec .resyncRetry s = .next (closeError 0x0903 noObj (updTdm (fun t => { t with
          phase := 1, phaseAt := s.clk, startAt := s.clk }) s))) ∧
      (s.tdm.scrub = true → exec (.selftestScrubComplete false) s = .next
        (moduleFault 8 (closeError 0x0902 noObj (updTdm (fun t => { t with scrub := false }) s)))) ∧
      (∀ u, s.tdm.scrub = true → u = closeError 0x0902 noObj (updTdm (fun t => { t with scrub := false }) s) →
        u.tdm.role = .isolated → u.tdm.roleCause = 8 →
        (u.tdm.disagreements.filter fun x => decide (u.clk ≤ x + 3600000000000)).length < 3 →
        exec (.selftestScrubComplete true) s = .next (toDetached 11 (updTdm (fun t => { t with
          phase := if t.session.isSome then 1 else 0, phaseAt := u.clk, startAt := u.clk }) u))))

/-- Replies, grants, revocations and demotion acknowledgements arrive; demotion, heartbeat, hello and the partner's gasp are
sent again when due; an unreachable referee raises its alarm, and a demotion without answer ends in HALTED. [R30, R316,
R317, R320, R327] -/
def Obligations.RefereeEvents : Prop :=
  ∀ s : State, pairUp s = true →
    (exec .hbReply s = .next (refArrive 0x0003 (fun _ s => updTdm (fun t => { t with helloOpen := false }) s) s)) ∧
    (exec .grant s = .next (refArrive 0x0009 takeGrant s)) ∧
    (exec .revoke s = .next (refArrive 0x000C takeRevoke s)) ∧
    (exec .demoteAck s = .next (refArrive 0x0007 (fun _ s => if s.tdm.demote = 0 then s
      else enterHalted 5 (updTdm (fun t => { t with demote := 0 }) s)) s)) ∧
    (1 ≤ s.tdm.demote → s.tdm.demote < 3 → s.tdm.demoteAt + 2000000 ≤ s.clk → exec .demoteResend s = .next
      (updTdm (fun t => { t with demote := t.demote + 1, demoteAt := s.clk }) (refResend s.tdm.demoteSeq 0x0006 0 0 s))) ∧
    (s.tdm.demote ≠ 0 → s.tdm.demoteStart + tdmf s dDemote * 1000000 ≤ s.clk → exec .demoteTimeout s = .next
      (enterHalted 5 (updTdm (fun t => { t with demote := 0 }) s))) ∧
    (s.tdm.lastHb + tdmf s dHbPeriod * 1000000 ≤ s.clk → exec .heartbeat s = .next
      (refSend 0x0002 0 0 (updTdm (fun t => { t with lastHb := s.clk }) s))) ∧
    (s.tdm.helloOpen = true → s.tdm.helloAt + 100000000 ≤ s.clk → exec .refereeHello s = .next
      (refResend s.tdm.helloSeq 0x0001 0 0 (updTdm (fun t => { t with helloAt := s.clk }) s))) ∧
    (1 ≤ s.tdm.peerGasp → s.tdm.peerGasp < 3 → s.tdm.peerGaspAt + 2000000 ≤ s.clk → exec .peerGaspResend s = .next
      (refResend s.tdm.peerGaspSeq 0x0005 1 0 (updTdm (fun t => { t with peerGasp := t.peerGasp + 1, peerGaspAt := s.clk }) s))) ∧
    (s.tdm.ref0 = true → s.tdm.refLast0 + 4 * tdmf s dHbPeriod * 1000000 ≤ s.clk → exec (.refereeUnreachable 0) s = .next
      (setAlarm 11 (updTdm (fun t => { t with ref0 := false }) s))) ∧
    (s.tdm.ref1 = true → s.tdm.refLast1 + 4 * tdmf s dHbPeriod * 1000000 ≤ s.clk → exec (.refereeUnreachable 1) s = .next
      (setAlarm 11 (updTdm (fun t => { t with ref1 := false }) s)))

/-- A recorder writes its rows, a judged trigger is accepted, a quiet recorder triggers itself, and a full folio is closed
and ends its recording. [R396, R401, R403, R411] -/
def Obligations.ArchiveEvents : Prop :=
  ∀ (s : State) (r n : Nat),
    (∀ c x, tfind s.arc.recs r = some c → recRuns c = true → (if rdKind c.desc = 0 then rawRow s c else gridRow s c) = some x →
      exec (.archiveRow r) s = .next (writeRow r c x s)) ∧
    (∀ t l, execTriggerAccept.pickTrig s s.arc.trigs = some (t, l) →
      exec .triggerAccept s = .next (acceptTrig t (updArc (fun a => { a with trigs := l }) s))) ∧
    (∀ c t, tfind s.arc.recs r = some c → c.st = .armed → rdFlag c.desc 2 = true → c.quietFrom + rdAuto c.desc * 1000000 ≤ s.clk →
      t = arcCount 8 (updRec r (fun c => { c with quietFrom := s.clk }) s) → exec (.autoTimeout r) s = .next
        (acceptTrig { recorder := r, cause := 11, t := t.time.n, notTraceable := !t.time.traceable } t)) ∧
    (∀ f, tfind s.arc.folios n = some f → f.full = true → f.closed = false → folioEnds (closeFolio n s) n = none →
      exec (.folioClose n) s = .next (closeFolio n s)) ∧
    (∀ f k, tfind s.arc.folios n = some f → f.full = true → f.closed = false → folioEnds (closeFolio n s) n = some k →
      exec (.folioClose n) s = .next (endRecording k (closeFolio n s)))

/-- A held message is sent or released at the end of its moderation; Chronicle items are written and devices fail; due keys
lapse, in a pair through the carried change; deposit sessions and trials end at their times. [R426, R439, R444, R456,
R459, R473] -/
def Obligations.SignallingAndKeyEvents : Prop :=
  (∀ (s : State) (n v : Nat) (a b : Bool),
      (∀ t, bitOf (ntf s n).held v = true → tfind (ntf s n).last v = some t → t + tget 0 (ntf s n).modInt v * 1000 ≤ s.clk →
        exec (.moderationExpiry n v) s = .next (if hasWork s n v then ntfSend n v s
          else updNtf n (fun u => { u with held := clrBit u.held v }) s)) ∧
      (s.pwr.good = true → exec (.chronicleItemWrite a b) s = .next (chrStep a b s)) ∧
      (s.pwr.good = true → 4 ≤ s.pwr.phase → s.chr.ok0 = true → exec (.framDeviceFailed 0) s = .next (deviceFailed 0 s)) ∧
      (s.pwr.good = true → 4 ≤ s.pwr.phase → s.chr.ok1 = true → exec (.framDeviceFailed 1) s = .next (deviceFailed 1 s))) ∧
  (∀ (s : State) (k : Nat) (x : Session),
      (lapseDue s k = true → unitLive s = true → pairLeads s = false → exec (.keyLapse k) s = .next (lapseKey k s)) ∧
      (lapseDue s k = true → unitLive s = true → pairLeads s = true → exec (.keyLapse k) s = .next (sendOwn 2 [(2, k)] s)) ∧
      (s.keys.session = some x → x.at_ + 60000000000 ≤ s.clk → exec (.depositSessionTimeout false) s = .next
        (updKeys (fun k => { k with session := none }) s)) ∧
      (s.upd.session = some x → x.at_ + 60000000000 ≤ s.clk → exec (.depositSessionTimeout true) s = .next (dropImage s)) ∧
      (s.pwr.good = true → s.pwr.pfw = .idle → s.upd.trialFrom.isSome = true → trialRuns s = true → confirmLeft s = 0 →
        exec .trialWindowExpiry s = .next (softReset s)))
end

