-- ==== Sys2Proof/Laws/Bytes.lean ====
section
/-! SUPPORT. Lengths of byte strings: what a reading's size is computed from. -/

namespace Sys2Proof.Machine

@[simp] theorem le_length (n v : Nat) : (le n v).length = n := by
  induction n generalizing v with
  | zero => rfl
  | succ n ih => simp [le, ih]

@[simp] theorem zeros_length (n : Nat) : (zeros n).length = n := by simp [zeros]

@[simp] theorem padTo_length (n : Nat) (l : List Byte) : (padTo n l).length = n := by
  simp [padTo]
  omega

/-- A list of records of one size. -/
theorem flatMap_length {α : Type} (f : α → List Byte) (k : Nat) (l : List α) (h : ∀ x ∈ l, (f x).length = k) :
    (l.flatMap f).length = l.length * k := by
  induction l with
  | nil => simp
  | cons x t ih =>
    simp only [List.flatMap_cons, List.length_append, List.length_cons]
    rw [ih fun y hy => h y (List.mem_cons_of_mem _ hy), h x List.mem_cons_self]
    rw [Nat.succ_mul]
    omega

/-- A list of `n` numbers in `k` bytes each. -/
@[simp] theorem flatMap_le_length (k : Nat) (l : List Nat) : (l.flatMap (le k)).length = l.length * k :=
  flatMap_length _ k l fun x _ => le_length k x

/-- Numbers of a range in `k` bytes each. -/
@[simp] theorem flatMap_le_fun_length {α : Type} (k : Nat) (f : α → Nat) (l : List α) :
    (l.flatMap fun x => le k (f x)).length = l.length * k :=
  flatMap_length _ k l fun x _ => le_length k (f x)

end Sys2Proof.Machine
end

