-- ==== Sys2Proof/Laws/Feljo.lean ====
section
/-! SUPPORT. What the wrapper of a mailbox command does (R75, R79): the lemmas that a proof about a command cites in place
of unfolding it. -/

namespace Sys2Proof.Machine

/-- A command that starts settles by the answer of its meaning. -/
theorem feljo_starts {op : Nat} {r : CmdId} {c : Cmd} {s : State} {k : Cmd → State → Ans} (h : Starts op r c s) :
    feljo op r k s = .next (settle c s (k c s)) := by
  simp [feljo, h.1, h.2]

/-- With no command of that opcode outstanding a row does nothing. -/
theorem feljo_none {op : Nat} {r : CmdId} {s : State} {k : Cmd → State → Ans} (h : ready op r s = none) :
    feljo op r k s = .next s := by
  simp [feljo, h]

/-- A command for an instance that is being reset is BUSY. -/
theorem feljo_held {op : Nat} {r : CmdId} {c : Cmd} {s : State} {k : Cmd → State → Ans} (h : ready op r s = some c)
    (g : heldByReset c s = true) : feljo op r k s = .next (refusedWith c busy s) := by
  simp [feljo, h, g, settle, refusedWith]

/-- A mailbox row always answers a next state. -/
theorem feljo_next (op : Nat) (r : CmdId) (k : Cmd → State → Ans) (s : State) : ∃ t, feljo op r k s = .next t := by
  unfold feljo
  split
  · exact ⟨_, rfl⟩
  · exact ⟨_, rfl⟩

theorem settle_fail (c : Cmd) (s : State) (r : Reply) : settle c s (.fail r) = refusedWith c r s := rfl

theorem settle_wait (c : Cmd) (s t : State) : settle c s (.wait t) = setPhase c.id .executing t := rfl

theorem settle_going (c : Cmd) (s t : State) : settle c s (.going t) = setPhase c.id .committed t := rfl

/-- An answer without data is the reply. -/
theorem settle_done {c : Cmd} {s t : State} {r : Reply} (h : r.out = []) : settle c s (.done t r) = reply c.id r t := by
  obtain ⟨⟩ := r
  simp only at h
  subst h
  simp [settle]

/-- Data that the buffer takes are sent to it. -/
theorem settle_data {c : Cmd} {s t : State} {b : List Byte} {r : Reply} (h : Takes c s b.length) :
    settle c s (.done t (withOut b r)) =
      (if b = [] then reply c.id { r with out := [] } t
       else reply c.id { r with out := [], res1 := some (r.res1.getD b.length) }
         (post (.dmaWrite c.id.slice (busAddr s c.id.slice c.bufAddr) b) t)) := by
  obtain ⟨h1, h2, h3⟩ := h
  have h4 : (c.bufLen == 0) = false := by simp; omega
  have h5 : ¬ c.bufLen < b.length := by omega
  cases b with
  | nil => simp [settle, withOut]
  | cons x l =>
    simp only [List.length_cons] at h3 h5
    simp [settle, withOut, h4, h5, h3]

/-- A command that changes the state and answers with data. -/
theorem settle_sentFrom {c : Cmd} {s t : State} {b : List Byte} {r : Reply} (h : Takes c s b.length) (hb : b ≠ []) :
    settle c s (.done t (withOut b r)) = sentFrom c b r s t := by
  rw [settle_data h, if_neg hb]
  rfl

/-- A reading that leaves the state alone sends its data. -/
theorem settle_sent {c : Cmd} {s : State} {b : List Byte} {r : Reply} (h : Takes c s b.length) (hb : b ≠ []) :
    settle c s (.done s (withOut b r)) = sent c b r s := by
  rw [settle_data h, if_neg hb]
  rfl

/-- Data for a command without a buffer are written nowhere. -/
theorem settle_noBuffer {c : Cmd} {s t : State} {b : List Byte} {r : Reply} (h : c.bufLen = 0) :
    settle c s (.done t (withOut b r)) = reply c.id { r with out := [] } t := by
  simp [settle, withOut, h]

/-- A row whose meaning reads bytes gives them. -/
theorem gives_data {i : Instr} {c : Cmd} {s : State} {b : List Byte} {r : Reply}
    (h : exec i s = .next (settle c s (.done s (withOut b r)))) (hr : r.out = []) : GivesData i c b r s := by
  have hr' : { r with out := [] } = r := by
    obtain ⟨⟩ := r
    simp_all
  refine ⟨fun g => ?_, fun g t => ?_, fun g t => ?_⟩
  · rw [h]
    rcases g with g | g
    · subst g
      simp [settle, withOut, hr, hr']
    · rw [settle_noBuffer g, hr']
  · rw [h, settle_sent t g]
  · have h4 : (c.bufLen == 0) = false := by simp; omega
    rw [h]
    cases b with
    | nil => simp at t
    | cons x l =>
      simp only [List.length_cons] at t
      simp [settle, withOut, h4, t]

theorem adminOnly_admin {c : Cmd} {k : Ans} (h : Admin c) : adminOnly c k = k := by
  unfold Admin at h
  simp [adminOnly, require, fromAdmin, h]

theorem adminOnly_other {c : Cmd} {k : Ans} (h : ¬ Admin c) : adminOnly c k = .fail (denied 2) := by
  unfold Admin at h
  simp [adminOnly, require, fromAdmin, h]

theorem notBootHalted_open {s : State} {k : Ans} (h : Open s) : notBootHalted s k = k := by
  unfold Open at h
  simp [notBootHalted, require, h]

theorem notBoot_booted {s : State} {k : Ans} (h : Booted s) : notBoot s k = k := by
  unfold Booted at h
  simp [notBoot, require, bne, h]

theorem carried_alone {c : Cmd} {s : State} {body : Cmd → State → Ans} (h : Alone s) : carried c s body = body c s := by
  rcases h with h | ⟨h1, h2⟩
  · simp [carried, h]
  · simp [carried, h1, h2]

end Sys2Proof.Machine
end

