-- ==== Sys2Proof/Laws/Keep.lean ====
section
/-! SUPPORT. What every operation of the machine keeps: the queue of waiting commands, the free-running clock and
the fuse minimum (`State.keep`). One lemma per operation, by its own name, then one per row; `UPDATE_CONFIRM`
and `BANK_SELECT`, which advance the fuse minimum, and the passing of time have none. -/

namespace Sys2Proof.Machine

def State.keep (s : State) : List Instr × Nat × Nat := (s.pending, s.clk, s.upd.minSvn)

def Ans.keepFrom (s : State) : Ans → List Instr × Nat × Nat
  | .fail _ => s.keep
  | .wait t => t.keep
  | .going t => t.keep
  | .done t _ => t.keep

theorem fail_keep (r : Reply) (s : State) : (Ans.fail r).keepFrom s = s.keep := rfl

theorem wait_keep (s t : State) : (Ans.wait t).keepFrom s = t.keep := rfl

theorem going_keep (s t : State) : (Ans.going t).keepFrom s = t.keep := rfl

theorem done_keep (s t : State) (r : Reply) : (Ans.done t r).keepFrom s = t.keep := rfl

def resKeep : Res → Option (List Instr × Nat × Nat)
  | .next t => some t.keep
  | _ => none

theorem next_keep (t : State) : resKeep (.next t) = some t.keep := rfl

theorem keep_fold (s : State) : (s.pending, s.clk, s.upd.minSvn) = s.keep := rfl

theorem foldl_keep {α : Type} (g : State → α → State) (l : List α) (h : ∀ s a, (g s a).keep = s.keep) (s : State) :
    (l.foldl g s).keep = s.keep := by
  induction l generalizing s with
  | nil => rfl
  | cons a l ih => rw [List.foldl_cons, ih, h]

theorem ite_from (c : Prop) [Decidable c] (a b : Ans) (s : State) : (if c then a else b).keepFrom s = if c then
  a.keepFrom s else b.keepFrom s := by
  split <;> rfl

theorem ite_keep (c : Prop) [Decidable c] (a b : State) : (if c then a else b).keep = if c then a.keep else b.keep := by
  split <;> rfl

theorem getD_keep {o : Option State} {s t : State} (h : ∀ u, o = some u → u.keep = t.keep) (g : s.keep = t.keep) :
    (o.getD s).keep = t.keep := by
  cases o with
  | none => exact g
  | some u => exact h u rfl

theorem keep_mk {x0 x1 x2 x3 x4 x5 x6 x7 x8 x9 x10 x11 x12 x13 x14 x15 x16 x17 x18 x19 x20 x21 x22 x23 x24 x25 x26 x27
  x28 x29 x30 x31 x32 x33 x34 x35} : (State.mk x0 x1 x2 x3 x4 x5 x6 x7 x8 x9 x10 x11 x12 x13 x14 x15 x16 x17 x18
  x19 x20 x21 x22 x23 x24 x25 x26 x27 x28 x29 x30 x31 x32 x33 x34 x35).keep = (x0, x1, x32.minSvn) := rfl

theorem updWin_keep (a0 a1) (s : State) : (updWin a0 a1 s).keep = s.keep := by
  unfold updWin
  simp only [keep_mk, keep_fold]

theorem updInst_keep (a0 a1) (s : State) : (updInst a0 a1 s).keep = s.keep := by
  unfold updInst
  simp only [keep_mk, keep_fold]

theorem updDom_keep (a0 a1) (s : State) : (updDom a0 a1 s).keep = s.keep := by
  unfold updDom
  simp only [keep_mk, keep_fold]

theorem updPort_keep (a0 a1) (s : State) : (updPort a0 a1 s).keep = s.keep := by
  unfold updPort
  simp only [keep_mk, keep_fold]

theorem updOut_keep (a0 a1) (s : State) : (updOut a0 a1 s).keep = s.keep := by
  unfold updOut
  simp only [keep_mk, keep_fold]

theorem draw_keep (s : State) : (draw s).2.keep = s.keep := by
  simp only [draw, keep_mk, keep_fold]

theorem emit_keep (a0) (s : State) : (emit a0 s).keep = s.keep := by
  unfold emit
  simp only [keep_mk, keep_fold]

theorem post_keep (a0) (s : State) : (post a0 s).keep = s.keep := by
  unfold post
  simp only [emit_keep, keep_mk, keep_fold, ite_keep, ite_self]

theorem updNtf_keep (a0 a1) (s : State) : (updNtf a0 a1 s).keep = s.keep := by
  unfold updNtf
  simp only [keep_mk, keep_fold, ite_keep, ite_self]

theorem ntfSend_keep (a0 a1) (s : State) : (ntfSend a0 a1 s).keep = s.keep := by
  unfold ntfSend
  simp only [post_keep, updNtf_keep, keep_mk, keep_fold, ite_keep, ite_self]

theorem ntfDue_keep (a0 a1) (s : State) : (ntfDue a0 a1 s).keep = s.keep := by
  unfold ntfDue
  repeat' (first | simp only [updNtf_keep, ntfSend_keep, ite_keep, ite_self] | split)

theorem ntfJudge_keep (b : State) (n v : Nat) (s : State) : (ntfJudge b n v s).keep = s.keep := by
  unfold ntfJudge
  repeat' (first | simp only [ntfDue_keep, ntfSend_keep] | split)

theorem withNtf_keep (n : Nat) (f : State → State) (s : State) (h : ∀ s, (f s).keep = s.keep) : (withNtf n f s).keep =
  s.keep := by
  unfold withNtf
  split <;> simp only [ntfJudge_keep, h]

theorem edge_keep (a0 a1) (s : State) : (edge a0 a1 s).keep = s.keep := by
  unfold edge
  simp only [withNtf_keep, updNtf_keep, implies_true]

theorem ringErr_keep (a0) (s : State) : (ringErr a0 s).keep = s.keep := by
  unfold ringErr
  simp only [withNtf_keep, updWin_keep, implies_true]

theorem deniedWr_keep (a0) (s : State) : (deniedWr a0 s).keep = s.keep := by
  unfold deniedWr
  simp only [withNtf_keep, updWin_keep, implies_true]

theorem accessError_keep (a0 a1 a2) (s : State) : (accessError a0 a1 a2 s).keep = s.keep := by
  unfold accessError
  simp only [edge_keep, keep_mk, keep_fold]

theorem atuFault_keep (a0 a1 a2 a3 a4 a5) (s : State) : (atuFault a0 a1 a2 a3 a4 a5
  s).keep = s.keep := by
  unfold atuFault
  repeat' (first | simp only [edge_keep, updWin_keep] | (refine Eq.trans (withNtf_keep _ _ _ (fun _ => rfl)) ?_))

theorem noteAs_keep (a0 a1 a2 a3 a4 a5) (s : State) : (noteAs a0 a1 a2 a3 a4 a5
  s).keep = s.keep := by
  unfold noteAs
  repeat' (first | simp only [edge_keep, keep_mk, keep_fold, ite_keep, ite_self] | split)

theorem note_keep (a0 a1 a2 a3 a4) (s : State) : (note a0 a1 a2 a3 a4 s).keep = s.keep := by
  unfold note
  simp only [noteAs_keep]

theorem noteMod_keep (a0 a1 a2 a3) (s : State) : (noteMod a0 a1 a2 a3 s).keep = s.keep := by
  unfold noteMod
  simp only [note_keep]

theorem addWait_keep (a0 a1) (s : State) : (addWait a0 a1 s).keep = s.keep := by
  unfold addWait
  simp only [keep_mk, keep_fold]

theorem dropWaits_keep (a0) (s : State) : (dropWaits a0 s).keep = s.keep := by
  unfold dropWaits
  simp only [keep_mk, keep_fold]

theorem reply_keep (a0 a1) (s : State) : (reply a0 a1 s).keep = s.keep := by
  unfold reply
  simp only [keep_mk, keep_fold]

theorem replyTo_keep (a0 a1) (s : State) : (replyTo a0 a1 s).keep = s.keep := by
  unfold replyTo
  repeat' (first | simp only [reply_keep] | split)

theorem finishWaits_keep (a0 a1) (s : State) : (finishWaits a0 a1 s).keep = s.keep := by
  unfold finishWaits
  simp only [dropWaits_keep, replyTo_keep, foldl_keep, implies_true]

theorem setPhase_keep (a0 a1) (s : State) : (setPhase a0 a1 s).keep = s.keep := by
  unfold setPhase
  simp only [keep_mk, keep_fold]

theorem settle_keep (c : Cmd) (s : State) (a : Ans) (h : a.keepFrom s = s.keep) : (settle c s a).keep = s.keep := by
  unfold settle
  cases a with
  | fail r => simp only [reply_keep, keep_mk, keep_fold]
  | wait t => simp only [setPhase_keep, show t.keep = s.keep from h]
  | going t => simp only [setPhase_keep, show t.keep = s.keep from h]
  | done t r =>
    simp only
    repeat' (first | simp only [reply_keep, post_keep, atuFault_keep, show t.keep = s.keep from h] | split)

theorem feljo_keep (op : Nat) (r : CmdId) (k : Cmd → State → Ans) (s : State) (h : ∀ c s, (k c s).keepFrom s = s.keep)
  : resKeep (feljo op r k s) = some s.keep := by
  unfold feljo
  split
  · simp only [next_keep]
    rw [settle_keep]
    split
    · rfl
    · exact h _ _
  · rfl

theorem require_keep (p : Bool) (r : Reply) (k : Ans) (t : State) : (require p r k).keepFrom t = if p = true then
  k.keepFrom t else t.keep := by
  unfold require
  split <;> rfl

theorem notBootHalted_keep (s : State) (k : Ans) (t : State) (h : k.keepFrom t = t.keep) : (notBootHalted s
  k).keepFrom t = t.keep := by
  unfold notBootHalted
  simp only [require_keep, h, ite_self]

theorem notBootHalted_or (s : State) (k : Ans) (t : State) : (notBootHalted s k).keepFrom t = if (!bootOrHalted s) =
  true then k.keepFrom t else t.keep := by
  unfold notBootHalted
  exact require_keep _ _ _ _

theorem adminOnly_keep (c : Cmd) (k : Ans) (t : State) (h : k.keepFrom t = t.keep) : (adminOnly c k).keepFrom t =
  t.keep := by
  unfold adminOnly
  simp only [require_keep, h, ite_self]

theorem adminOnly_or (c : Cmd) (k : Ans) (t : State) : (adminOnly c k).keepFrom t = if fromAdmin c = true then
  k.keepFrom t else t.keep := by
  unfold adminOnly
  exact require_keep _ _ _ _

theorem activeOnly_keep (s : State) (k : Ans) (t : State) (h : k.keepFrom t = t.keep) : (activeOnly s k).keepFrom t =
  t.keep := by
  unfold activeOnly
  simp only [require_keep, h, ite_self]

theorem updSw_keep (a0) (s : State) : (updSw a0 s).keep = s.keep := by
  unfold updSw
  simp only [keep_mk, keep_fold]

theorem updEg_keep (a0 a1) (s : State) : (updEg a0 a1 s).keep = s.keep := by
  unfold updEg
  simp only [updSw_keep]

theorem setQueue_keep (a0 a1 a2) (s : State) : (setQueue a0 a1 a2 s).keep = s.keep := by
  unfold setQueue
  simp only [updEg_keep]

theorem count_keep (a0 a1) (s : State) : (count a0 a1 s).keep = s.keep := by
  unfold count
  simp only [updPort_keep, ite_keep, ite_self]

theorem countOctets_keep (a0 a1 a2) (s : State) : (countOctets a0 a1 a2 s).keep = s.keep := by
  unfold countOctets
  simp only [updPort_keep, ite_keep, ite_self]

theorem rxNobuf_keep (a0) (s : State) : (rxNobuf a0 s).keep = s.keep := by
  unfold rxNobuf
  simp only [updWin_keep]

theorem holdCells_keep (a0 a1 a2) (s : State) : (holdCells a0 a1 a2 s).keep = s.keep := by
  unfold holdCells
  simp only [updSw_keep, updEg_keep]

theorem release_keep (a0 a1) (s : State) : (release a0 a1 s).keep = s.keep := by
  unfold release
  simp only [updSw_keep, updEg_keep]

theorem enqueue_keep (a0 a1 a2) (s : State) : (enqueue a0 a1 a2 s).keep = s.keep := by
  unfold enqueue
  repeat' (first | simp only [holdCells_keep, setQueue_keep, count_keep] | split)

theorem enqueueMirror_keep (a0 a1 a2) (s : State) : (enqueueMirror a0 a1 a2 s).keep = s.keep := by
  unfold enqueueMirror
  simp only [holdCells_keep, setQueue_keep, count_keep, ite_keep, ite_self]

theorem flushQueues_keep (p : Nat) (f : Copy → State → State) (s : State) (h : ∀ q s, (f q s).keep = s.keep) :
    (flushQueues p f s).keep = s.keep := by
  unfold flushQueues
  exact foldl_keep _ _ (fun s c => by simp only [implies_true, h, foldl_keep, release_keep, setQueue_keep]) s

theorem flushPort_keep (a0) (s : State) : (flushPort a0 s).keep = s.keep := by
  unfold flushPort
  simp only [flushQueues_keep, count_keep, implies_true]

theorem flushVport_keep (a0) (s : State) : (flushVport a0 s).keep = s.keep := by
  unfold flushVport
  simp only [flushQueues_keep, rxNobuf_keep, implies_true]

theorem popHead_keep {p c : Nat} {s t : State} {q : Copy} (h : popHead p c s = some (q, t)) : t.keep = s.keep := by
  unfold popHead at h
  repeat' (first | (cases h; done)
                 | (simp only [Option.some.injEq, Prod.mk.injEq] at h)
                 | split at h
                 | (obtain ⟨rfl, rfl, rfl⟩ := h)
                 | (obtain ⟨rfl, rfl⟩ := h)
                 | subst h
                 | simp only [release_keep, setQueue_keep])

theorem dropAged_keep (a0 a1) (s : State) : (dropAged a0 a1 s).keep = s.keep := by
  unfold dropAged
  simp only [count_keep, release_keep, setQueue_keep, foldl_keep, ite_keep, ite_self, implies_true]

theorem takeFrom_keep {p : Nat} {f : Copy → Bool} {c : Nat} {s t : State} {q : Copy} (h : takeFrom p f c s = some (q,
  t)) :
    t.keep = s.keep := by
  induction c generalizing s with
  | zero => cases h
  | succ c ih =>
    simp only [takeFrom] at h
    split at h
    · cases h
      simp only [release_keep, setQueue_keep, dropAged_keep]
    · rw [ih h, dropAged_keep]

theorem rxStop_keep (a0) (s : State) : (rxStop a0 s).keep = s.keep := by
  unfold rxStop
  simp only [flushVport_keep, ringErr_keep, updWin_keep]

theorem rxWriteBacks_keep (n : Nat) (f : Nat → List Byte) (i j k : Nat) (s : State) : (rxWriteBacks n f i j k s).keep
  = s.keep := by
  induction k generalizing i j s with
  | zero => simp only [rxWriteBacks]
  | succ k ih => simp only [rxWriteBacks, ih, post_keep]

theorem deliverCopy_keep (a0 a1 a2) (s : State) : (deliverCopy a0 a1 a2 s).keep = s.keep := by
  unfold deliverCopy
  repeat' (first | simp only [rxNobuf_keep, rxStop_keep, atuFault_keep, updWin_keep, post_keep, rxWriteBacks_keep,
                     edge_keep, keep_mk, keep_fold, ite_keep, ite_self]
                 | split)

theorem deliverLoop_keep (n fuel c : Nat) (s : State) : (deliverLoop n fuel c s).keep = s.keep := by
  induction fuel generalizing c s with
  | zero => simp only [deliverLoop]
  | succ k ih =>
    cases c with
    | zero => simp only [deliverLoop]
    | succ c =>
      simp only [deliverLoop]
      repeat' (first | simp only [ih, deliverCopy_keep, dropAged_keep,
                         ite_keep]
                     | (refine Eq.trans (popHead_keep (by assumption)) ?_)
                     | split)

theorem deliver_keep (a0) (s : State) : (deliver a0 s).keep = s.keep := by
  unfold deliver
  simp only [deliverLoop_keep]

theorem copyTo_keep (a0 a1 a2) (s : State) : (copyTo a0 a1 a2 s).keep = s.keep := by
  unfold copyTo
  simp only [count_keep, enqueue_keep, deliver_keep, rxNobuf_keep, ite_keep, ite_self]

theorem pairSeq_keep (a0) (s : State) : (pairSeq a0 s).keep = s.keep := by
  unfold pairSeq
  simp only [updSw_keep]

theorem copyPair_keep (a0 a1 a2 a3 a4 a5) (s : State) : (copyPair a0 a1 a2 a3 a4 a5
  s).keep = s.keep := by
  unfold copyPair
  simp only [copyTo_keep, pairSeq_keep]

theorem copyAll_keep (n vid pcp : Nat) (q : Copy) (l served : List Nat) (s : State) : (copyAll n vid pcp q l served
  s).keep = s.keep := by
  induction l generalizing served s with
  | nil => simp only [copyAll]
  | cons p l ih =>
    simp only [copyAll]
    repeat' (first | simp only [ih, copyPair_keep, copyTo_keep,
                       ite_keep]
                   | split)

theorem newFid_keep {s t : State} {n : Nat} (h : newFid s = (n, t)) : t.keep = s.keep := by
  unfold newFid at h
  repeat' (first | (cases h; done)
                 | (simp only [Prod.mk.injEq] at h)
                 | split at h
                 | (obtain ⟨rfl, rfl, rfl⟩ := h)
                 | (obtain ⟨rfl, rfl⟩ := h)
                 | subst h
                 | simp only [updSw_keep])

theorem newFid_keeps (s : State) : (newFid s).2.keep = s.keep := newFid_keep rfl

theorem capture_keep (a0 a1) (s : State) : (capture a0 a1 s).keep = s.keep := by
  unfold capture
  simp only [enqueue_keep]

theorem mirrorFrame_keep (a0 a1 a2) (s : State) : (mirrorFrame a0 a1 a2 s).keep = s.keep := by
  unfold mirrorFrame
  simp only [deliver_keep, enqueueMirror_keep, rxNobuf_keep, count_keep, foldl_keep, ite_keep, ite_self, implies_true]

theorem handInGoose_keep (a0 a1 a2 a3 a4) (s : State) : (handInGoose a0 a1 a2 a3 a4
  s).keep = s.keep := by
  unfold handInGoose
  simp only [capture_keep, copyAll_keep, ite_keep, ite_self, newFid_keeps]

theorem handInMgt_keep (a0 a1 a2 a3) (s : State) : (handInMgt a0 a1 a2 a3 s).keep = s.keep := by
  unfold handInMgt
  simp only [copyTo_keep, newFid_keeps]

theorem sendPub_keep (a0 a1 a2 a3 a4) (s : State) : (sendPub a0 a1 a2 a3 a4 s).keep =
  s.keep := by
  unfold sendPub
  simp only [handInGoose_keep, ite_keep, ite_self]

theorem putPub_keep (a0 a1 a2) (s : State) : (putPub a0 a1 a2 s).keep = s.keep := by
  unfold putPub
  simp only [updInst_keep]

theorem launchPub_keep (a0 a1 a2 a3 a4 a5) (s : State) : (launchPub a0 a1 a2 a3 a4
  a5 s).keep = s.keep := by
  unfold launchPub
  simp only [sendPub_keep, putPub_keep]

theorem holdPubs_keep (a0) (s : State) : (holdPubs a0 s).keep = s.keep := by
  unfold holdPubs
  simp only [launchPub_keep, foldl_keep, ite_keep, ite_self, implies_true]

theorem stopPubs_keep (a0) (s : State) : (stopPubs a0 s).keep = s.keep := by
  unfold stopPubs
  simp only [updInst_keep]

theorem alarmPubJudge_keep (s : State) : (alarmPubJudge s).keep = s.keep := by
  unfold alarmPubJudge
  repeat' (first | simp only [sendPub_keep, keep_mk, keep_fold, ite_keep, ite_self] | split)

theorem refreshOut_keep (a0) (s : State) : (refreshOut a0 s).keep = s.keep := by
  unfold refreshOut
  simp only [updOut_keep, ite_keep, ite_self]

theorem refreshOuts_keep (s : State) : (refreshOuts s).keep = s.keep := by
  unfold refreshOuts
  simp only [refreshOut_keep, foldl_keep, implies_true]

theorem endTest_keep (a0) (s : State) : (endTest a0 s).keep = s.keep := by
  unfold endTest
  simp only [finishWaits_keep, updOut_keep, ite_keep, ite_self]

theorem energise_keep (a0) (s : State) : (energise a0 s).keep = s.keep := by
  unfold energise
  simp only [endTest_keep, updOut_keep, refreshOut_keep, ite_keep, ite_self]

theorem deenergise_keep (a0) (s : State) : (deenergise a0 s).keep = s.keep := by
  unfold deenergise
  simp only [refreshOut_keep, updOut_keep]

theorem holdOut_keep (a0) (s : State) : (holdOut a0 s).keep = s.keep := by
  unfold holdOut
  simp only [deenergise_keep, updOut_keep, endTest_keep]

theorem holdOuts_keep (a0) (s : State) : (holdOuts a0 s).keep = s.keep := by
  unfold holdOuts
  simp only [holdOut_keep, foldl_keep, ite_keep, ite_self, implies_true]

theorem dropOuts_keep (s : State) : (dropOuts s).keep = s.keep := by
  unfold dropOuts
  simp only [holdOut_keep, keep_mk, keep_fold, foldl_keep, implies_true]

theorem alertPin_keep (s : State) : (alertPin s).keep = s.keep := by
  unfold alertPin
  simp only [keep_mk, keep_fold]

theorem setAlarm_keep (a0) (s : State) : (setAlarm a0 s).keep = s.keep := by
  unfold setAlarm
  repeat' (first | simp only [alarmPubJudge_keep] | (refine Eq.trans (withNtf_keep _ _ _ (fun _ => rfl)) ?_))

theorem edgeOwner_keep (a0 a1) (s : State) : (edgeOwner a0 a1 s).keep = s.keep := by
  unfold edgeOwner
  repeat' (first | simp only [edge_keep] | split)

theorem updTdm_keep (a0) (s : State) : (updTdm a0 s).keep = s.keep := by
  unfold updTdm
  simp only [keep_mk, keep_fold]

theorem tdmCount_keep (a0) (s : State) : (tdmCount a0 s).keep = s.keep := by
  unfold tdmCount
  simp only [updTdm_keep]

theorem linkOut_keep (a0 a1 a2) (s : State) : (linkOut a0 a1 a2 s).keep = s.keep := by
  unfold linkOut
  simp only [emit_keep, keep_mk, keep_fold]

theorem linkSend_keep (a0) (s : State) : (linkSend a0 s).keep = s.keep := by
  unfold linkSend
  simp only [linkOut_keep, updTdm_keep, ite_keep, ite_self]

theorem sendOwn_keep (a0 a1) (s : State) : (sendOwn a0 a1 s).keep = s.keep := by
  unfold sendOwn
  simp only [linkSend_keep, updTdm_keep, ite_keep, ite_self]

theorem refOut_keep (a0) (s : State) : (refOut a0 s).keep = s.keep := by
  unfold refOut
  simp only [handInMgt_keep, updTdm_keep]

theorem refSend_keep (a0 a1 a2) (s : State) : (refSend a0 a1 a2 s).keep = s.keep := by
  unfold refSend
  simp only [refOut_keep, updTdm_keep]

theorem refResend_keep (a0 a1 a2 a3) (s : State) : (refResend a0 a1 a2 a3 s).keep = s.keep := by
  unfold refResend
  simp only [refOut_keep]

theorem setRole_keep (a0 a1) (s : State) : (setRole a0 a1 s).keep = s.keep := by
  unfold setRole
  simp only [noteMod_keep, withNtf_keep, updTdm_keep, setAlarm_keep, refreshOuts_keep, keep_mk, keep_fold, ite_keep,
    ite_self, implies_true]

theorem updArc_keep (a0) (s : State) : (updArc a0 s).keep = s.keep := by
  unfold updArc
  simp only [keep_mk, keep_fold]

theorem updFolio_keep (a0 a1) (s : State) : (updFolio a0 a1 s).keep = s.keep := by
  unfold updFolio
  simp only [updArc_keep]

theorem arcCount_keep (a0) (s : State) : (arcCount a0 s).keep = s.keep := by
  unfold arcCount
  simp only [updArc_keep]

theorem updRec_keep (a0 a1) (s : State) : (updRec a0 a1 s).keep = s.keep := by
  unfold updRec
  simp only [updArc_keep]

theorem closeFolio_keep (a0) (s : State) : (closeFolio a0 s).keep = s.keep := by
  unfold closeFolio
  repeat' (first | simp only [updFolio_keep, edge_keep, noteMod_keep, ite_keep, ite_self] | split)

theorem truncateRec_keep (a0) (s : State) : (truncateRec a0 s).keep = s.keep := by
  unfold truncateRec
  repeat' (first | simp only [closeFolio_keep, arcCount_keep, updFolio_keep, updRec_keep, ite_keep, ite_self] | split)

theorem haltArchive_keep (s : State) : (haltArchive s).keep = s.keep := by
  unfold haltArchive
  simp only [updRec_keep, truncateRec_keep, foldl_keep, implies_true]

theorem clearForces_keep (a0 a1) (s : State) : (clearForces a0 a1 s).keep = s.keep := by
  unfold clearForces
  simp only [note_keep, updInst_keep, foldl_keep, implies_true]

theorem recJudge_keep (s : State) : (recJudge s).keep = s.keep := by
  unfold recJudge
  simp only [keep_mk, keep_fold, ite_keep, ite_self]

theorem changeInst_keep (a0 a1 a2 a3 a4) (s : State) : (changeInst a0 a1 a2 a3 a4 s).keep
  = s.keep := by
  unfold changeInst
  simp only [holdOuts_keep, updInst_keep, stopPubs_keep, holdPubs_keep, noteAs_keep, edge_keep, recJudge_keep,
    setAlarm_keep, ite_keep, ite_self]

theorem closeError_keep (a0 a1) (s : State) : (closeError a0 a1 s).keep = s.keep := by
  unfold closeError
  repeat' (first | simp only [noteMod_keep, keep_mk, keep_fold] | split)

theorem preemptJudge_keep (s : State) : (preemptJudge s).keep = s.keep := by
  unfold preemptJudge
  simp only [keep_mk, keep_fold]

theorem openGates_keep (s : State) : (openGates s).keep = s.keep := by
  unfold openGates
  simp only [keep_mk, keep_fold]

theorem armGates_keep (s : State) : (armGates s).keep = s.keep := by
  unfold armGates
  simp only [keep_mk, keep_fold]

theorem svcCommit_keep (a0 a1) (s : State) : (svcCommit a0 a1 s).keep = s.keep := by
  unfold svcCommit
  simp only [noteMod_keep, closeError_keep, edge_keep, openGates_keep, preemptJudge_keep, armGates_keep,
    setAlarm_keep, recJudge_keep, keep_mk, keep_fold, foldl_keep, ite_keep, ite_self, implies_true]

theorem svcInst_keep (a0 a1) (s : State) : (svcInst a0 a1 s).keep = s.keep := by
  unfold svcInst
  simp only [updInst_keep, clearForces_keep, holdOut_keep, foldl_keep, ite_keep, ite_self, implies_true]

theorem svcOthers_keep (a0) (s : State) : (svcOthers a0 s).keep = s.keep := by
  unfold svcOthers
  simp only [svcInst_keep, foldl_keep, ite_keep, ite_self, implies_true]

theorem svcFinish_keep (a0) (s : State) : (svcFinish a0 s).keep = s.keep := by
  unfold svcFinish
  simp only [svcOthers_keep, finishWaits_keep, replyTo_keep, svcCommit_keep, keep_mk, keep_fold]

theorem svcStart_keep (a0 a1 a2) (s : State) : (svcStart a0 a1 a2 s).keep = s.keep := by
  unfold svcStart
  simp only [svcFinish_keep, keep_mk, keep_fold, ite_keep, ite_self]

theorem recoveryStart_keep (s : State) : (recoveryStart s).keep = s.keep := by
  unfold recoveryStart
  repeat' (first | simp only [svcStart_keep, replyTo_keep, keep_mk, keep_fold, ite_keep, ite_self] | split)

theorem autoRecovery_keep (s : State) : (autoRecovery s).keep = s.keep := by
  unfold autoRecovery
  repeat' (first | simp only [sendOwn_keep, recoveryStart_keep, ite_keep, ite_self] | split)

theorem svcBoundary_keep (a0) (s : State) : (svcBoundary a0 s).keep = s.keep := by
  unfold svcBoundary
  repeat' (first | simp only [svcInst_keep, autoRecovery_keep, svcFinish_keep, keep_mk, keep_fold, ite_keep, ite_self]
                 | split)

theorem svcDrop_keep (a0) (s : State) : (svcDrop a0 s).keep = s.keep := by
  unfold svcDrop
  simp only [svcBoundary_keep, ite_keep, ite_self]

theorem svcBreak_keep (s : State) : (svcBreak s).keep = s.keep := by
  unfold svcBreak
  split <;> simp only [replyTo_keep, keep_mk, keep_fold]

theorem enterHalted_keep (a0) (s : State) : (enterHalted a0 s).keep = s.keep := by
  unfold enterHalted
  repeat' (first | simp only [svcBreak_keep, dropOuts_keep, alarmPubJudge_keep, updInst_keep, changeInst_keep,
                     stopPubs_keep, haltArchive_keep, svcCommit_keep, keep_mk, keep_fold, foldl_keep, ite_keep,
                     ite_self, implies_true]
                 | split)

theorem txOffAll_keep (s : State) : (txOffAll s).keep = s.keep := by
  unfold txOffAll
  simp only [updPort_keep, foldl_keep, implies_true]

theorem moduleFault_keep (a0) (s : State) : (moduleFault a0 s).keep = s.keep := by
  unfold moduleFault
  repeat' (first | simp only [noteMod_keep, alarmPubJudge_keep, alertPin_keep, txOffAll_keep, enterHalted_keep, svcBreak_keep,
                     setRole_keep, linkSend_keep, refSend_keep, updTdm_keep, keep_mk, keep_fold, ite_keep, ite_self]
                 | split
                 | (refine Eq.trans (withNtf_keep _ _ _ (fun _ => rfl)) ?_))

theorem openError_keep (a0 a1) (s : State) : (openError a0 a1 s).keep = s.keep := by
  unfold openError
  repeat' (first | simp only [edge_keep, noteMod_keep, moduleFault_keep, keep_mk, keep_fold, ite_keep] | split)

theorem passError_keep (a0 a1) (s : State) : (passError a0 a1 s).keep = s.keep := by
  unfold passError
  simp only [closeError_keep, openError_keep]

theorem updPcie_keep (a0) (s : State) : (updPcie a0 s).keep = s.keep := by
  unfold updPcie
  simp only [keep_mk, keep_fold]

theorem updCmds_keep (a0) (s : State) : (updCmds a0 s).keep = s.keep := by
  unfold updCmds
  simp only [keep_mk, keep_fold]

theorem ringSettle_keep (a0) (s : State) : (ringSettle a0 s).keep = s.keep := by
  unfold ringSettle
  simp only [updWin_keep, ite_keep, ite_self]

theorem sqStop_keep (a0) (s : State) : (sqStop a0 s).keep = s.keep := by
  unfold sqStop
  simp only [ringSettle_keep, updPcie_keep, updWin_keep]

theorem translateRead_keep (a0 a1 a2) (s : State) : (translateRead a0 a1 a2 s).keep = s.keep := by
  unfold translateRead
  split <;> simp only [ringErr_keep, sqStop_keep, reply_keep, atuFault_keep]

theorem sendRead_keep (a0) (s : State) : (sendRead a0 s).keep = s.keep := by
  unfold sendRead
  split <;> simp only [translateRead_keep, emit_keep, keep_mk, keep_fold]

theorem issueRead_keep (a0) (s : State) : (issueRead a0 s).keep = s.keep := by
  unfold issueRead
  simp only [updPcie_keep, sendRead_keep, ite_keep, ite_self]

theorem pumpList_keep (l : List Rd) (s : State) : (pumpList l s).keep = s.keep := by
  induction l generalizing s with
  | nil => simp only [pumpList, updPcie_keep]
  | cons r l ih =>
    simp only [pumpList]
    repeat' (first | simp only [ih, updPcie_keep, sendRead_keep,
                       ite_keep, ite_self]
                   | split)

theorem pumpReads_keep (s : State) : (pumpReads s).keep = s.keep := by
  unfold pumpReads
  simp only [pumpList_keep]

theorem newRound_keep (s : State) : (newRound s).keep = s.keep := by
  unfold newRound
  simp only [updWin_keep, foldl_keep, implies_true]

theorem takeTurn_keep {n : Nat} {s t : State} (h : takeTurn n s = some t) : t.keep = s.keep := by
  unfold takeTurn at h
  repeat' (first | (cases h; done)
                 | (simp only [Option.some.injEq] at h)
                 | split at h
                 | (obtain ⟨rfl, rfl, rfl⟩ := h)
                 | (obtain ⟨rfl, rfl⟩ := h)
                 | subst h
                 | simp only [newRound_keep, updWin_keep,
                     keep_mk, keep_fold])

theorem addCmd_keep (a0) (s : State) : (addCmd a0 s).keep = s.keep := by
  unfold addCmd
  simp only [keep_mk, keep_fold]

theorem refused_keep (a0 a1) (s : State) : (refused a0 a1 s).keep = s.keep := by
  unfold refused
  simp only [addCmd_keep]

theorem startRead_keep (a0 a1) (s : State) : (startRead a0 a1 s).keep = s.keep := by
  unfold startRead
  repeat' (first | simp only [refused_keep, atuFault_keep, issueRead_keep, addCmd_keep] | split)

theorem receiveEntry_keep (a0 a1) (s : State) : (receiveEntry a0 a1 s).keep = s.keep := by
  unfold receiveEntry
  repeat' (first | simp only [refused_keep, startRead_keep, addCmd_keep, ite_keep, ite_self] | split)

theorem receiveInput_keep (a0 a1) (s : State) : (receiveInput a0 a1 s).keep = s.keep := by
  unfold receiveInput
  simp only [updCmds_keep]

theorem undoWait_keep (a0) (s : State) : (undoWait a0 s).keep = s.keep := by
  unfold undoWait
  repeat' (first | simp only [refreshOut_keep, updOut_keep, updTdm_keep, updPort_keep, keep_mk, keep_fold, ite_keep,
                     ite_self]
                 | split)

theorem cancelCmd_keep (a0) (s : State) : (cancelCmd a0 s).keep = s.keep := by
  unfold cancelCmd
  simp only [undoWait_keep, updPcie_keep, updArc_keep, keep_mk, keep_fold, foldl_keep, implies_true]

theorem abortCmd_keep (a0 a1) (s : State) : (abortCmd a0 a1 s).keep = s.keep := by
  unfold abortCmd
  simp only [reply_keep, cancelCmd_keep]

theorem retire_keep (a0) (s : State) : (retire a0 s).keep = s.keep := by
  unfold retire
  simp only [ringSettle_keep, updCmds_keep]

theorem countAborted_keep (a0) (s : State) : (countAborted a0 s).keep = s.keep := by
  unfold countAborted
  simp only [updWin_keep]

theorem writeCqe_keep (a0) (s : State) : (writeCqe a0 s).keep = s.keep := by
  unfold writeCqe
  simp only [post_keep, updWin_keep, countAborted_keep, retire_keep, edge_keep, keep_mk, keep_fold, ite_keep, ite_self]

theorem failCq_keep (a0 a1 a2) (s : State) : (failCq a0 a1 a2 s).keep = s.keep := by
  unfold failCq
  simp only [retire_keep, countAborted_keep, updWin_keep, sqStop_keep, atuFault_keep]

theorem vportInstall_keep (a0) (s : State) : (vportInstall a0 s).keep = s.keep := by
  unfold vportInstall
  simp only [updSw_keep]

theorem vportRestart_keep (a0) (s : State) : (vportRestart a0 s).keep = s.keep := by
  unfold vportRestart
  simp only [vportInstall_keep, updSw_keep]

theorem hostReset_keep (s : State) : (hostReset s).keep = s.keep := by
  unfold hostReset
  simp only [cancelCmd_keep, noteMod_keep, flushVport_keep, keep_mk, keep_fold, foldl_keep, ite_keep, ite_self,
    implies_true]

theorem sendCarry_keep (a0) (s : State) : (sendCarry a0 s).keep = s.keep := by
  unfold sendCarry
  simp only [linkSend_keep, addWait_keep, updTdm_keep]

theorem carried_keep (c : Cmd) (s : State) (k : Cmd → State → Ans) (h : ∀ c s, (k c s).keepFrom s = s.keep) : (carried
  c s k).keepFrom s = s.keep := by
  unfold carried
  repeat' (first | simp only [h, fail_keep, going_keep, sendCarry_keep] | split)

theorem storeWrite_keep (a0) (s : State) : (storeWrite a0 s).keep = s.keep := by
  unfold storeWrite
  simp only [keep_mk, keep_fold, ite_keep, ite_self]

theorem execAdminIdentify_keep (a0) (s : State) : resKeep (execAdminIdentify a0 s) = some s.keep := by
  unfold execAdminIdentify
  repeat' (first | simp only [done_keep] | (apply feljo_keep; (intro _ _)))

theorem execAdminServiceGet_keep (a0) (s : State) : resKeep (execAdminServiceGet a0 s) = some s.keep := by
  unfold execAdminServiceGet
  repeat' (first | simp only [done_keep] | (apply feljo_keep; (intro _ _)))

theorem serviceSet_keep (a0) (s : State) : (serviceSet a0 s).keepFrom s = s.keep := by
  unfold serviceSet
  repeat' (first | simp only [enterHalted_keep, svcStart_keep, fail_keep, wait_keep, done_keep, ite_from, ite_self]
                 | split)

theorem execAdminServiceSet_keep (a0) (s : State) : resKeep (execAdminServiceSet a0 s) = some s.keep := by
  unfold execAdminServiceSet
  simp only [feljo_keep, adminOnly_or, carried_keep, serviceSet_keep, ite_self, implies_true]

theorem execAdminEcho_keep (a0) (s : State) : resKeep (execAdminEcho a0 s) = some s.keep := by
  unfold execAdminEcho
  repeat' (first | simp only [done_keep] | (apply feljo_keep; (intro _ _)))

theorem adminAbort_keep (a0) (s : State) : (adminAbort a0 s).keepFrom s = s.keep := by
  unfold adminAbort
  repeat' (first | simp only [abortCmd_keep, fail_keep, done_keep, ite_from] | split)

theorem execAdminAbort_keep (a0) (s : State) : resKeep (execAdminAbort a0 s) = some s.keep := by
  unfold execAdminAbort
  simp only [feljo_keep, adminAbort_keep, implies_true]

theorem execAdminTimeoutSet_keep (a0) (s : State) : resKeep (execAdminTimeoutSet a0 s) = some s.keep := by
  unfold execAdminTimeoutSet
  simp only [feljo_keep, updWin_keep, done_keep, implies_true]

theorem execAdminBoundsGet_keep (a0) (s : State) : resKeep (execAdminBoundsGet a0 s) = some s.keep := by
  unfold execAdminBoundsGet
  simp only [feljo_keep, adminOnly_or, done_keep, ite_self, implies_true]

theorem execAdminCountersGet_keep (a0) (s : State) : resKeep (execAdminCountersGet a0 s) = some s.keep := by
  unfold execAdminCountersGet
  simp only [feljo_keep, require_keep, done_keep, ite_self, implies_true]

theorem configSave_keep (s : State) : (configSave s).1.keep = s.keep := by
  simp only [configSave, recJudge_keep, noteMod_keep, storeWrite_keep, keep_mk, keep_fold]

theorem execAdminConfigSave_keep (a0) (s : State) : resKeep (execAdminConfigSave a0 s) = some s.keep := by
  unfold execAdminConfigSave
  simp only [feljo_keep, adminOnly_or, notBootHalted_or, configSave_keep, done_keep, ite_self, implies_true,
    configSave_keep]

theorem execAdminAutoserviceSet_keep (a0) (s : State) : resKeep (execAdminAutoserviceSet a0 s) = some s.keep := by
  unfold execAdminAutoserviceSet
  simp only [feljo_keep, adminOnly_or, done_keep, keep_mk, keep_fold, ite_self, implies_true]

theorem execAdminVectorSet_keep (a0) (s : State) : resKeep (execAdminVectorSet a0 s) = some s.keep := by
  unfold execAdminVectorSet
  simp only [feljo_keep, adminOnly_or, updWin_keep, done_keep, ite_self, implies_true]

theorem updStream_keep (a0 a1) (s : State) : (updStream a0 a1 s).keep = s.keep := by
  unfold updStream
  simp only [keep_mk, keep_fold]

theorem updFilt_keep (a0) (s : State) : (updFilt a0 s).keep = s.keep := by
  unfold updFilt
  simp only [keep_mk, keep_fold]

theorem syncPairs_keep (s : State) : (syncPairs s).keep = s.keep := by
  unfold syncPairs
  simp only [updFilt_keep]

theorem withPairs_keep (s t : State) (r : Reply) (h : s.keep = t.keep) : (withPairs s r).keepFrom t = t.keep := by
  unfold withPairs
  split
  · simp only [done_keep, syncPairs_keep, h]
  · rfl

theorem mapPairs_keep (a0 a1) (s : State) : (mapPairs a0 a1 s).keep = s.keep := by
  unfold mapPairs
  simp only [updFilt_keep]

theorem streamAwait_keep (a0) (s : State) : (streamAwait a0 s).keep = s.keep := by
  unfold streamAwait
  simp only [mapPairs_keep]

theorem streamReset_keep (a0 a1 a2) (s : State) : (streamReset a0 a1 a2 s).keep = s.keep := by
  unfold streamReset
  simp only [mapPairs_keep, finishWaits_keep, foldl_keep, implies_true]

theorem domReset_keep (a0 a1) (s : State) : (domReset a0 a1 s).keep = s.keep := by
  unfold domReset
  simp only [mapPairs_keep]

theorem spareRun_keep (a0 a1) (s : State) : (spareRun a0 a1 s).keep = s.keep := by
  unfold spareRun
  repeat' (first | simp only [finishWaits_keep, updDom_keep]
                 | split
                 | (refine Eq.trans (foldl_keep _ _ ?_ _) ?_; (intro _ _)))

theorem relaunch_keep (a0) (s : State) : (relaunch a0 s).keep = s.keep := by
  unfold relaunch
  repeat' (first | simp only [updOut_keep, keep_mk, keep_fold, ite_keep, ite_self]
                 | split
                 | (refine Eq.trans (foldl_keep _ _ ?_ _) ?_; (intro _ _)))

theorem trackOne_keep (a0) (s : State) : (trackOne a0 s).keep = s.keep := by
  unfold trackOne
  simp only [updDom_keep, finishWaits_keep, spareRun_keep, relaunch_keep, ite_keep, ite_self]

theorem trackRun_keep (d n : Nat) (s : State) : (trackRun d n s).keep = s.keep := by
  induction n generalizing s with
  | zero => simp only [trackRun]
  | succ n ih =>
    simp only [trackRun]
    repeat' (first | simp only [ih, trackOne_keep,
                       ite_keep, ite_self]
                   | split)

theorem runDets_keep (a0) (s : State) : (runDets a0 s).keep = s.keep := by
  unfold runDets
  simp only [updFilt_keep]

theorem updLanes_keep (a0) (s : State) : (updLanes a0 s).keep = s.keep := by
  unfold updLanes
  simp only [keep_mk, keep_fold]

theorem updLane_keep (a0 a1) (s : State) : (updLane a0 a1 s).keep = s.keep := by
  unfold updLane
  simp only [updLanes_keep]

theorem dispatchStep_keep (a0 a1) (s : State) : (dispatchStep a0 a1 s).keep = s.keep := by
  unfold dispatchStep
  simp only [updDom_keep, updLanes_keep]

theorem charge_keep (a0) (s : State) : (charge a0 s).keep = s.keep := by
  unfold charge
  simp only [updLane_keep]

theorem pickLane_keep {l : List Nat} {n : Nat} {s t : State} (h : pickLane l s = (n, t)) : t.keep = s.keep := by
  unfold pickLane at h
  repeat' (first | (cases h; done)
                 | (simp only [Prod.mk.injEq] at h)
                 | split at h
                 | (obtain ⟨rfl, rfl, rfl⟩ := h)
                 | (obtain ⟨rfl, rfl⟩ := h)
                 | subst h
                 | simp only [keep_mk, keep_fold])

theorem pickLane_keeps (l : List Nat) (s : State) : (pickLane l s).2.keep = s.keep := by
  simp only [pickLane, keep_mk, keep_fold]

theorem retireLanes_keep (s : State) : (retireLanes s).keep = s.keep := by
  unfold retireLanes
  simp only [setAlarm_keep, noteMod_keep, updLane_keep, moduleFault_keep, foldl_keep, ite_keep, ite_self, implies_true]

theorem completeJob_keep (a0 a1 a2 a3) (s : State) : (completeJob a0 a1 a2 a3 s).keep = s.keep
  := by
  unfold completeJob
  simp only [updLanes_keep]

theorem countEval_keep (a0) (s : State) : (countEval a0 s).keep = s.keep := by
  unfold countEval
  simp only [updLane_keep]

theorem endEval_keep (a0 a1 a2) (s : State) : (endEval a0 a1 a2 s).keep = s.keep := by
  unfold endEval
  simp only [countEval_keep, completeJob_keep, charge_keep, ite_keep, ite_self, pickLane_keeps]

theorem updSlot_keep (a0 a1 a2) (s : State) : (updSlot a0 a1 a2 s).keep = s.keep := by
  unfold updSlot
  simp only [updInst_keep]

theorem commitJob_keep (a0 a1) (s : State) : (commitJob a0 a1 s).keep = s.keep := by
  unfold commitJob
  simp only [noteMod_keep, updSlot_keep, ite_keep, ite_self]

theorem clearEval_keep (a0) (s : State) : (clearEval a0 s).keep = s.keep := by
  unfold clearEval
  simp only [updInst_keep]

theorem countPcs_keep (a0 a1) (s : State) : (countPcs a0 a1 s).keep = s.keep := by
  unfold countPcs
  repeat' (first | simp only [keep_mk, keep_fold] | split | (refine Eq.trans (foldl_keep _ _ ?_ _) ?_; (intro _ _)))

theorem commitStep_keep (a0) (s : State) : (commitStep a0 s).keep = s.keep := by
  unfold commitStep
  simp only [updInst_keep, clearEval_keep, commitJob_keep, countPcs_keep, updLanes_keep, moduleFault_keep,
    foldl_keep, ite_keep, ite_self, implies_true]

theorem armRec_keep {n : Nat} {s t : State} (h : armRec n s = .ok t) : t.keep = s.keep := by
  unfold armRec at h
  repeat' (first | (cases h; done)
                 | (simp only [Except.ok.injEq] at h)
                 | split at h
                 | (obtain ⟨rfl, rfl, rfl⟩ := h)
                 | (obtain ⟨rfl, rfl⟩ := h)
                 | subst h
                 | simp only [updRec_keep, syncPairs_keep])

theorem holdRec_keep (a0) (s : State) : (holdRec a0 s).keep = s.keep := by
  unfold holdRec
  simp only [syncPairs_keep, updRec_keep, truncateRec_keep]

theorem refillRecs_keep (a0) (s : State) : (refillRecs a0 s).keep = s.keep := by
  unfold refillRecs
  simp only [updRec_keep, truncateRec_keep, foldl_keep, implies_true]

theorem clearRecs_keep (a0) (s : State) : (clearRecs a0 s).keep = s.keep := by
  unfold clearRecs
  simp only [updArc_keep, holdRec_keep, foldl_keep, implies_true]

theorem discardFor_keep {n : Nat} {b : Bool} {l : List (Nat × Folio)} {s t : State} (h : discardFor n b l s = some t) :
    t.keep = s.keep := by
  induction l generalizing s with
  | nil =>
    simp only [discardFor] at h
    split at h
    · cases h
      rfl
    · cases h
  | cons e l ih =>
    simp only [discardFor] at h
    split at h
    · cases h
      rfl
    · rw [ih h, arcCount_keep, updArc_keep]

theorem makeRoom_keep {n : Nat} {b : Bool} {s t : State} (h : makeRoom n b s = some t) : t.keep = s.keep := by
  unfold makeRoom at h
  repeat' (first | (cases h; done)
                 | (simp only [Option.some.injEq, Prod.mk.injEq, Except.ok.injEq] at h)
                 | split at h
                 | (obtain ⟨rfl, rfl, rfl⟩ := h)
                 | (obtain ⟨rfl, rfl⟩ := h)
                 | subst h
                 | (refine Eq.trans (discardFor_keep (by assumption)) ?_)
                 | simp only [])

theorem offerTargets_keep (a0 a1) (s : State) : (offerTargets a0 a1 s).keep = s.keep := by
  unfold offerTargets
  simp only [updArc_keep, ite_keep, ite_self]

theorem ignoreTrig_keep (a0) (s : State) : (ignoreTrig a0 s).keep = s.keep := by
  unfold ignoreTrig
  simp only [arcCount_keep, updArc_keep]

theorem noRoom_keep (s : State) : (noRoom s).keep = s.keep := by
  unfold noRoom
  simp only [ignoreTrig_keep, updArc_keep]

theorem segFull_keep (a0 a1) (s : State) : (segFull a0 a1 s).keep = s.keep := by
  unfold segFull
  simp only [updRec_keep, updFolio_keep]

theorem resolveTrig_keep (a0) (s : State) : (resolveTrig a0 s).keep = s.keep := by
  unfold resolveTrig
  repeat' (first | simp only [updFolio_keep, updRec_keep, segFull_keep, ite_keep, ite_self] | split)

theorem beginFolio_keep {r : Nat} {c : Recorder} {x : Trig} {a b : Nat} {s t : State} (h : beginFolio r c x a b s =
  some t) : t.keep = s.keep := by
  unfold beginFolio at h
  repeat' (first | (cases h; done)
                 | (simp only [Option.some.injEq] at h)
                 | split at h
                 | (obtain ⟨rfl, rfl, rfl⟩ := h)
                 | (obtain ⟨rfl, rfl⟩ := h)
                 | subst h
                 | (refine Eq.trans (makeRoom_keep (by assumption)) ?_)
                 | simp only [updArc_keep, resolveTrig_keep, updRec_keep])

theorem endRecording_keep (a0) (s : State) : (endRecording a0 s).keep = s.keep := by
  unfold endRecording
  repeat' (first | simp only [updRec_keep, holdRec_keep, ite_keep, ite_self] | split)

theorem acceptArmed_keep (a0 a1 a2) (s : State) : (acceptArmed a0 a1 a2 s).keep = s.keep := by
  unfold acceptArmed
  repeat' (first | simp only [ignoreTrig_keep, noteMod_keep, updRec_keep, offerTargets_keep, arcCount_keep,
                     noRoom_keep, ite_keep, ite_self]
                 | (refine Eq.trans (beginFolio_keep (by assumption)) ?_)
                 | split)

theorem extendRec_keep (a0 a1 a2 a3 a4 a5) (s : State) : (extendRec a0 a1 a2 a3 a4
  a5 s).keep = s.keep := by
  unfold extendRec
  repeat' (first | simp only [updFolio_keep, offerTargets_keep, arcCount_keep, updRec_keep, noRoom_keep]
                 | (refine Eq.trans (makeRoom_keep (by assumption)) ?_)
                 | split)

theorem acceptBusy_keep (a0 a1 a2 a3 a4) (s : State) : (acceptBusy a0 a1 a2 a3 a4 s).keep
  = s.keep := by
  unfold acceptBusy
  repeat' (first | simp only [ignoreTrig_keep, offerTargets_keep, arcCount_keep, endRecording_keep, updFolio_keep,
                     noRoom_keep, extendRec_keep, ite_keep, ite_self]
                 | (refine Eq.trans (beginFolio_keep (by assumption)) ?_)
                 | split)

theorem acceptTrig_keep (a0) (s : State) : (acceptTrig a0 s).keep = s.keep := by
  unfold acceptTrig
  repeat' (first | simp only [arcCount_keep, acceptArmed_keep, acceptBusy_keep] | split)

theorem offerEvent_keep (a0 a1 a2 a3 a4) (s : State) : (offerEvent a0 a1 a2 a3 a4 s).keep
  = s.keep := by
  unfold offerEvent
  simp only [updArc_keep, ite_keep, ite_self]

theorem maskAct_keep (a0 a1 a2) (s : State) : (maskAct a0 a1 a2 s).keep = s.keep := by
  unfold maskAct
  repeat' (first | simp only [arcCount_keep, updArc_keep, acceptTrig_keep, updRec_keep, endRecording_keep,
                     updFolio_keep, holdRec_keep, ite_keep, ite_self]
                 | split)

theorem maskTest_keep (a0 a1 a2) (s : State) : (maskTest a0 a1 a2 s).keep = s.keep := by
  unfold maskTest
  repeat' (first | simp only [maskAct_keep, updRec_keep, ite_keep, ite_self] | split)

theorem folioRow_keep (a0 a1) (s : State) : (folioRow a0 a1 s).keep = s.keep := by
  unfold folioRow
  repeat' (first | simp only [resolveTrig_keep, updFolio_keep, segFull_keep, ite_keep, ite_self] | split)

theorem writeRow_keep (a0 a1 a2) (s : State) : (writeRow a0 a1 a2 s).keep = s.keep := by
  unfold writeRow
  simp only [updRec_keep, maskTest_keep, folioRow_keep]

theorem updLogic_keep (a0 a1) (s : State) : (updLogic a0 a1 s).keep = s.keep := by
  unfold updLogic
  simp only [updInst_keep]

theorem dropExch_keep (a0 a1) (s : State) : (dropExch a0 a1 s).keep = s.keep := by
  unfold dropExch
  repeat' (first | simp only [replyTo_keep, updLogic_keep] | split)

theorem dropRestart_keep (a0 a1) (s : State) : (dropRestart a0 a1 s).keep = s.keep := by
  unfold dropRestart
  repeat' (first | simp only [replyTo_keep, updInst_keep] | split)

theorem applySaved_keep (a0 a1) (s : State) : (applySaved a0 a1 s).keep = s.keep := by
  unfold applySaved
  simp only [updInst_keep, updDom_keep, noteMod_keep, ite_keep, ite_self]

theorem startLoops_keep (a0) (s : State) : (startLoops a0 s).keep = s.keep := by
  unfold startLoops
  simp only [updDom_keep]

theorem startOutputs_keep (a0) (s : State) : (startOutputs a0 s).keep = s.keep := by
  unfold startOutputs
  simp only [updOut_keep, foldl_keep, ite_keep, ite_self, implies_true]

theorem startInst_keep {n : Nat} {k : RestartKind} {m : List Byte} {x : Nat} {s t : State} (h : startInst n k m x s =
  .ok t) : t.keep = s.keep := by
  unfold startInst at h
  repeat' (first | (cases h; done)
                 | (simp only [Except.ok.injEq] at h)
                 | split at h
                 | (obtain ⟨rfl, rfl, rfl⟩ := h)
                 | (obtain ⟨rfl, rfl⟩ := h)
                 | subst h
                 | simp only [updInst_keep, startOutputs_keep, startLoops_keep, syncPairs_keep, applySaved_keep,
                     changeInst_keep])

theorem restartBoundary_keep (a0 a1) (s : State) : (restartBoundary a0 a1 s).keep = s.keep := by
  unfold restartBoundary
  repeat' (first | simp only [replyTo_keep, updInst_keep, noteMod_keep, ite_keep, ite_self]
                 | (refine Eq.trans (startInst_keep (by assumption)) ?_)
                 | split)

theorem holdInst_keep (a0 a1) (s : State) : (holdInst a0 a1 s).keep = s.keep := by
  unfold holdInst
  simp only [replyTo_keep, changeInst_keep, updInst_keep]

theorem freezeInst_keep (a0 a1 a2) (s : State) : (freezeInst a0 a1 a2 s).keep = s.keep := by
  unfold freezeInst
  simp only [changeInst_keep, replyTo_keep, updInst_keep]

theorem closeHolds_keep (a0) (s : State) : (closeHolds a0 s).keep = s.keep := by
  unfold closeHolds
  repeat' (first | simp only [holdInst_keep, ite_keep, ite_self]
                 | split
                 | (refine Eq.trans (foldl_keep _ _ ?_ _) ?_; (intro _ _)))

theorem dropOthers_keep (a0) (s : State) : (dropOthers a0 s).keep = s.keep := by
  unfold dropOthers
  repeat' (first | simp only [dropExch_keep, dropRestart_keep, replyTo_keep, updInst_keep] | split)

theorem dropJobs_keep (a0) (s : State) : (dropJobs a0 s).keep = s.keep := by
  unfold dropJobs
  simp only [updLanes_keep]

theorem resetInst_keep (a0 a1 a2 a3) (s : State) : (resetInst a0 a1 a2 a3 s).keep = s.keep := by
  unfold resetInst
  simp only [updWin_keep, abortCmd_keep, dropOthers_keep, dropJobs_keep, clearForces_keep, updInst_keep, edge_keep,
    keep_mk, keep_fold, svcDrop_keep, changeInst_keep, foldl_keep, implies_true]

theorem discardWaiting_keep (a0) (s : State) : (discardWaiting a0 s).keep = s.keep := by
  unfold discardWaiting
  simp only [retire_keep, countAborted_keep, updInst_keep, foldl_keep, ite_keep, ite_self, implies_true]

theorem retireAll_keep (a0) (s : State) : (retireAll a0 s).keep = s.keep := by
  unfold retireAll
  simp only [cancelCmd_keep, updCmds_keep, updInst_keep, keep_mk, keep_fold, foldl_keep, ite_keep, ite_self,
    implies_true]

theorem clearSlice_keep (a0) (s : State) : (clearSlice a0 s).keep = s.keep := by
  unfold clearSlice
  simp only [sqStop_keep, flushVport_keep, updWin_keep, updPcie_keep, keep_mk, keep_fold]

theorem releaseAll_keep (a0) (s : State) : (releaseAll a0 s).keep = s.keep := by
  unfold releaseAll
  simp only [holdOut_keep, updDom_keep, updFilt_keep, syncPairs_keep, clearRecs_keep, updInst_keep, foldl_keep,
    ite_keep, ite_self, implies_true]

theorem resetEnd_keep (a0 a1) (s : State) : (resetEnd a0 a1 s).keep = s.keep := by
  unfold resetEnd
  simp only [clearSlice_keep, retireAll_keep, releaseAll_keep, updInst_keep, changeInst_keep, replyTo_keep,
    ite_keep, ite_self]

theorem angWrite_keep (a0 a1 a2) (s : State) : (angWrite a0 a1 a2 s).keep = s.keep := by
  unfold angWrite
  repeat' (first | simp only [updDom_keep, syncPairs_keep, ite_keep, ite_self] | split)

theorem execAngCtrlHold_keep (a0 a1) (s : State) : resKeep (execAngCtrlHold a0 a1 s) = some s.keep := by
  unfold execAngCtrlHold
  simp only [angWrite_keep, next_keep, ite_keep, ite_self]

theorem ownDomain_keep (s : State) (c : Cmd) (k : Ans) (t : State) (h : k.keepFrom t = t.keep) : (ownDomain s c
  k).keepFrom t = t.keep := by
  unfold ownDomain
  simp only [require_keep, h, ite_self]

theorem execAngleDomainGet_keep (a0) (s : State) : resKeep (execAngleDomainGet a0 s) = some s.keep := by
  unfold execAngleDomainGet
  repeat' (first | simp only [done_keep] | (apply feljo_keep; (intro _ _)) | (apply ownDomain_keep))

theorem domainSet_keep (a0) (s : State) : (domainSet a0 s).keepFrom s = s.keep := by
  unfold domainSet
  repeat' (first | simp only [withPairs_keep, updDom_keep, fail_keep, ite_from, ite_self]
                 | (apply withPairs_keep)
                 | split)

theorem execAngleDomainSet_keep (a0) (s : State) : resKeep (execAngleDomainSet a0 s) = some s.keep := by
  unfold execAngleDomainSet
  simp only [feljo_keep, adminOnly_or, notBootHalted_or, carried_keep, domainSet_keep, ite_self, implies_true]

theorem domainHold_keep (a0) (s : State) : (domainHold a0 s).keepFrom s = s.keep := by
  unfold domainHold
  simp only [require_keep, addWait_keep, wait_keep, done_keep, ite_from, ite_self]

theorem execAngleDomainHold_keep (a0) (s : State) : resKeep (execAngleDomainHold a0 s) = some s.keep := by
  unfold execAngleDomainHold
  simp only [feljo_keep, adminOnly_or, notBootHalted_or, carried_keep, domainHold_keep, ite_self, implies_true]

theorem domainRestart_keep (a0) (s : State) : (domainRestart a0 s).keepFrom s = s.keep := by
  unfold domainRestart
  repeat' (first | simp only [require_keep, addWait_keep, fail_keep, wait_keep, ite_from, ite_self] | split)

theorem execAngleDomainRestart_keep (a0) (s : State) : resKeep (execAngleDomainRestart a0 s) = some s.keep := by
  unfold execAngleDomainRestart
  simp only [feljo_keep, adminOnly_or, notBootHalted_or, carried_keep, domainRestart_keep, ite_self, implies_true]

theorem loopHold_keep (a0) (s : State) : (loopHold a0 s).keepFrom s = s.keep := by
  unfold loopHold
  simp only [addWait_keep, updDom_keep, wait_keep]

theorem execAngleLoopHold_keep (a0) (s : State) : resKeep (execAngleLoopHold a0 s) = some s.keep := by
  unfold execAngleLoopHold
  simp only [feljo_keep, adminOnly_or, notBootHalted_or, carried_keep, loopHold_keep, ite_self, implies_true]

theorem angleConvert_keep (a0) (s : State) : (angleConvert a0 s).keepFrom s = s.keep := by
  unfold angleConvert
  repeat' (first | simp only [fail_keep, done_keep, ite_from] | split)

theorem execAngleConvert_keep (a0) (s : State) : resKeep (execAngleConvert a0 s) = some s.keep := by
  unfold execAngleConvert
  simp only [feljo_keep, ownDomain_keep, angleConvert_keep, implies_true]

theorem ownLoop_keep (s : State) (c : Cmd) (k : Ans) (t : State) (h : k.keepFrom t = t.keep) : (ownLoop s c
  k).keepFrom t = t.keep := by
  unfold ownLoop
  simp only [require_keep, h, ite_self]

theorem updSpare_keep (a0 a1 a2) (s : State) : (updSpare a0 a1 a2 s).keep = s.keep := by
  unfold updSpare
  simp only [updDom_keep]

theorem spareSet_keep (a0) (s : State) : (spareSet a0 s).keepFrom s = s.keep := by
  unfold spareSet
  repeat' (first | simp only [withPairs_keep, updSpare_keep, fail_keep, ite_from, ite_self]
                 | (apply ownLoop_keep)
                 | (apply withPairs_keep)
                 | split)

theorem execAngleSpareSet_keep (a0) (s : State) : resKeep (execAngleSpareSet a0 s) = some s.keep := by
  unfold execAngleSpareSet
  simp only [feljo_keep, notBootHalted_or, carried_keep, spareSet_keep, ite_self, implies_true]

theorem execAngleSpareGet_keep (a0) (s : State) : resKeep (execAngleSpareGet a0 s) = some s.keep := by
  unfold execAngleSpareGet
  repeat' (first | simp only [done_keep] | (apply feljo_keep; (intro _ _)) | (apply ownLoop_keep))

theorem spareHold_keep (a0) (s : State) : (spareHold a0 s).keepFrom s = s.keep := by
  unfold spareHold
  simp only [ownLoop_keep, addWait_keep, wait_keep]

theorem execAngleSpareHold_keep (a0) (s : State) : resKeep (execAngleSpareHold a0 s) = some s.keep := by
  unfold execAngleSpareHold
  simp only [feljo_keep, notBootHalted_or, carried_keep, spareHold_keep, ite_self, implies_true]

theorem staleTargets_keep (d) (s : State) : (staleTargets d s).keep = s.keep := by
  unfold staleTargets
  refine foldl_keep _ _ (fun s n => ?_) s
  repeat' (first | simp only [replyTo_keep, updInst_keep, ite_keep, ite_self] | split)

theorem execAcquisitionPass_keep (a0) (s : State) : resKeep (execAcquisitionPass a0 s) = some s.keep := by
  unfold execAcquisitionPass
  repeat' (first | simp only [staleTargets_keep, updDom_keep, domReset_keep, next_keep, ite_keep, ite_self] | split)

theorem execLockSet_keep (a0) (s : State) : resKeep (execLockSet a0 s) = some s.keep := by
  unfold execLockSet
  simp only [updDom_keep, next_keep, ite_keep, ite_self]

theorem execHoldLockTimeout_keep (a0) (s : State) : resKeep (execHoldLockTimeout a0 s) = some s.keep := by
  unfold execHoldLockTimeout
  simp only [updDom_keep, next_keep, ite_keep, ite_self]

theorem execCoastTimeout_keep (a0) (s : State) : resKeep (execCoastTimeout a0 s) = some s.keep := by
  unfold execCoastTimeout
  simp only [updDom_keep, next_keep, ite_keep, ite_self]

theorem execHoldoffExpiry_keep (a0) (s : State) : resKeep (execHoldoffExpiry a0 s) = some s.keep := by
  unfold execHoldoffExpiry
  simp only [updDom_keep, next_keep, ite_keep, ite_self]

theorem execRefSetResume_keep (a0) (s : State) : resKeep (execRefSetResume a0 s) = some s.keep := by
  unfold execRefSetResume
  simp only [updDom_keep, next_keep, ite_keep, ite_self]

theorem restartDomain_keep (a0) (s : State) : (restartDomain a0 s).keep = s.keep := by
  unfold restartDomain
  simp only [refillRecs_keep, domReset_keep, updDom_keep, updLanes_keep, finishWaits_keep, syncPairs_keep, ite_keep,
    ite_self]

theorem execDomainRestartBoundary_keep (a0) (s : State) : resKeep (execDomainRestartBoundary a0 s) = some s.keep
  := by
  unfold execDomainRestartBoundary
  simp only [restartDomain_keep, next_keep, ite_keep, ite_self]

theorem arcService_keep (s : State) (b : Bool) (k : Ans) (t : State) (h : k.keepFrom t = t.keep) : (arcService s b
  k).keepFrom t = t.keep := by
  unfold arcService
  simp only [require_keep, h, ite_self]

theorem withRec_keep (c : Cmd) (s : State) (m : Reply) (k : Recorder → Ans) (t : State) (h : ∀ r, (k r).keepFrom t =
  t.keep) : (withRec c s m k).keepFrom t = t.keep := by
  unfold withRec
  repeat' (first | simp only [h, fail_keep] | split)

theorem recorderSet_keep (a0) (s : State) : (recorderSet a0 s).keepFrom s = s.keep := by
  unfold recorderSet
  repeat' (first | simp only [updArc_keep, updRec_keep, fail_keep, done_keep, ite_from, ite_self] | split)

theorem execArchiveRecorderSet_keep (a0) (s : State) : resKeep (execArchiveRecorderSet a0 s) = some s.keep := by
  unfold execArchiveRecorderSet
  simp only [feljo_keep, arcService_keep, recorderSet_keep, implies_true]

theorem execArchiveRecorderGet_keep (a0) (s : State) : resKeep (execArchiveRecorderGet a0 s) = some s.keep := by
  unfold execArchiveRecorderGet
  repeat' (first | simp only [done_keep]
                 | (apply feljo_keep; (intro _ _))
                 | (apply arcService_keep)
                 | (apply withRec_keep; (intro _)))

theorem execArchiveRecorderArm_keep (a0) (s : State) : resKeep (execArchiveRecorderArm a0 s) = some s.keep := by
  unfold execArchiveRecorderArm
  repeat' (first | simp only [require_keep, fail_keep, done_keep]
                 | (refine Eq.trans (armRec_keep (by assumption)) ?_)
                 | (apply feljo_keep; (intro _ _))
                 | (apply arcService_keep)
                 | (apply withRec_keep; (intro _))
                 | split)

theorem execArchiveRecorderHold_keep (a0) (s : State) : resKeep (execArchiveRecorderHold a0 s) = some s.keep := by
  unfold execArchiveRecorderHold
  repeat' (first | simp only [arcService_keep, withRec_keep, holdRec_keep, done_keep, implies_true]
                 | (apply feljo_keep; (intro _ _))
                 | (apply arcService_keep)
                 | (apply withRec_keep; (intro _)))

theorem execArchiveRecorderDelete_keep (a0) (s : State) : resKeep (execArchiveRecorderDelete a0 s) = some s.keep
  := by
  unfold execArchiveRecorderDelete
  repeat' (first | simp only [arcService_keep, withRec_keep, require_keep, updArc_keep, done_keep, ite_self,
                     implies_true]
                 | (apply feljo_keep; (intro _ _))
                 | (apply arcService_keep)
                 | (apply withRec_keep; (intro _)))

theorem archiveTrigger_keep (a0) (s : State) : (archiveTrigger a0 s).keepFrom s = s.keep := by
  unfold archiveTrigger
  repeat' (first | simp only [require_keep, acceptTrig_keep, fail_keep, done_keep]
                 | (apply withRec_keep; (intro _))
                 | split)

theorem execArchiveTrigger_keep (a0) (s : State) : resKeep (execArchiveTrigger a0 s) = some s.keep := by
  unfold execArchiveTrigger
  simp only [feljo_keep, arcService_keep, archiveTrigger_keep, implies_true]

theorem execArchiveStatusGet_keep (a0) (s : State) : resKeep (execArchiveStatusGet a0 s) = some s.keep := by
  unfold execArchiveStatusGet
  repeat' (first | simp only [done_keep] | (apply feljo_keep; (intro _ _)) | (apply arcService_keep))

theorem execArchiveFolioList_keep (a0) (s : State) : resKeep (execArchiveFolioList a0 s) = some s.keep := by
  unfold execArchiveFolioList
  repeat' (first | simp only [done_keep] | (apply feljo_keep; (intro _ _)) | (apply arcService_keep))

theorem folioRelease_keep (a0) (s : State) : (folioRelease a0 s).keepFrom s = s.keep := by
  unfold folioRelease
  repeat' (first | simp only [updArc_keep, fail_keep, done_keep, ite_from, ite_self] | split)

theorem execArchiveFolioRelease_keep (a0) (s : State) : resKeep (execArchiveFolioRelease a0 s) = some s.keep := by
  unfold execArchiveFolioRelease
  simp only [feljo_keep, arcService_keep, folioRelease_keep, implies_true]

theorem execArchiveFolioKeep_keep (a0) (s : State) : resKeep (execArchiveFolioKeep a0 s) = some s.keep := by
  unfold execArchiveFolioKeep
  repeat' (first | simp only [updFolio_keep, fail_keep, done_keep]
                 | (apply feljo_keep; (intro _ _))
                 | (apply arcService_keep)
                 | split)

theorem roomOpen_keep (a0) (s : State) : (roomOpen a0 s).keepFrom s = s.keep := by
  unfold roomOpen
  repeat' (first | simp only [updArc_keep, fail_keep, done_keep, ite_from, ite_self] | split)

theorem execArchiveRoomOpen_keep (a0) (s : State) : resKeep (execArchiveRoomOpen a0 s) = some s.keep := by
  unfold execArchiveRoomOpen
  simp only [feljo_keep, arcService_keep, roomOpen_keep, implies_true]

theorem execArchiveRoomClose_keep (a0) (s : State) : resKeep (execArchiveRoomClose a0 s) = some s.keep := by
  unfold execArchiveRoomClose
  repeat' (first | simp only [require_keep, updArc_keep, done_keep, ite_self]
                 | (apply feljo_keep; (intro _ _))
                 | (apply arcService_keep)
                 | split)

theorem execArchiveConfigSet_keep (a0) (s : State) : resKeep (execArchiveConfigSet a0 s) = some s.keep := by
  unfold execArchiveConfigSet
  simp only [feljo_keep, adminOnly_or, arcService_keep, updArc_keep, done_keep, ite_self, implies_true]

theorem execArchiveCountersClear_keep (a0) (s : State) : resKeep (execArchiveCountersClear a0 s) = some s.keep := by
  unfold execArchiveCountersClear
  simp only [feljo_keep, adminOnly_or, arcService_keep, updArc_keep, done_keep, ite_self, implies_true]

theorem archiveRow_keep (a0) (s : State) : (archiveRow a0 s).keep = s.keep := by
  unfold archiveRow
  repeat' (first | simp only [writeRow_keep, ite_keep] | split)

theorem execArchiveRow_keep (a0) (s : State) : resKeep (execArchiveRow a0 s) = some s.keep := by
  unfold execArchiveRow
  simp only [archiveRow_keep, next_keep]

theorem execTriggerAccept_keep (s : State) : resKeep (execTriggerAccept s) = some s.keep := by
  unfold execTriggerAccept
  repeat' (first | simp only [acceptTrig_keep, updArc_keep, next_keep] | split)

theorem autoTrigger_keep (a0) (s : State) : (autoTrigger a0 s).keep = s.keep := by
  unfold autoTrigger
  repeat' (first | simp only [arcCount_keep, updRec_keep, acceptTrig_keep, ite_keep, ite_self] | split)

theorem execAutoTimeout_keep (a0) (s : State) : resKeep (execAutoTimeout a0 s) = some s.keep := by
  unfold execAutoTimeout
  simp only [autoTrigger_keep, next_keep]

theorem execFolioClose_keep (a0) (s : State) : resKeep (execFolioClose a0 s) = some s.keep := by
  unfold execFolioClose
  repeat' (first | simp only [closeFolio_keep, endRecording_keep, next_keep, ite_keep] | split)

theorem roomRead_keep (a0) (s : State) : (roomRead a0 s).keep = s.keep := by
  unfold roomRead
  repeat' (first | simp only [emit_keep, accessError_keep, ite_keep] | split)

theorem execReadingRoomRead_keep (a0) (s : State) : resKeep (execReadingRoomRead a0 s) = some s.keep := by
  unfold execReadingRoomRead
  simp only [roomRead_keep, next_keep, ite_keep, ite_self]

theorem execThresholdDetectorEvent_keep (a0) (s : State) : resKeep (execThresholdDetectorEvent a0 s) = some s.keep
  := by
  unfold execThresholdDetectorEvent
  repeat' (first | simp only [offerEvent_keep, updFilt_keep, next_keep] | split)

theorem strCount_keep (a0 a1) (s : State) : (strCount a0 a1 s).keep = s.keep := by
  unfold strCount
  simp only [updStream_keep]

theorem streamEdges_keep (a0) (s : State) : (streamEdges a0 s).keep = s.keep := by
  unfold streamEdges
  simp only [edge_keep, foldl_keep, implies_true]

theorem setStream_keep (a0 a1) (s : State) : (setStream a0 a1 s).keep = s.keep := by
  unfold setStream
  repeat' (first | simp only [streamEdges_keep, noteMod_keep, updStream_keep, ite_keep, ite_self] | split)

theorem setSim_keep (a0 a1) (s : State) : (setSim a0 a1 s).keep = s.keep := by
  unfold setSim
  repeat' (first | simp only [streamEdges_keep, noteMod_keep, updStream_keep, ite_keep, ite_self] | split)

theorem simEnd_keep (s : State) : (simEnd s).keep = s.keep := by
  unfold simEnd
  refine foldl_keep _ _ ?_ _
  intro _ _
  simp only [setSim_keep, ite_keep, ite_self]

theorem pushFinal_keep (a0 a1) (s : State) : (pushFinal a0 a1 s).keep = s.keep := by
  unfold pushFinal
  simp only [updStream_keep]

theorem voidRun_keep (a0) (s : State) : (voidRun a0 s).keep = s.keep := by
  unfold voidRun
  repeat' (first | simp only [pushFinal_keep, updStream_keep, foldl_keep, ite_keep, ite_self, implies_true] | split)

theorem resolvePlaced_keep (a0 a1 a2) (s : State) : (resolvePlaced a0 a1 a2 s).keep = s.keep := by
  unfold resolvePlaced
  repeat' (first | simp only [strCount_keep, pushFinal_keep, streamReset_keep, updStream_keep, foldl_keep, ite_keep,
                     ite_self, implies_true]
                 | split)

theorem resolveMissing_keep (a0 a1 a2) (s : State) : (resolveMissing a0 a1 a2 s).keep = s.keep := by
  unfold resolveMissing
  repeat' (first | simp only [updStream_keep, pushFinal_keep, strCount_keep, foldl_keep, ite_keep, ite_self,
                     implies_true]
                 | split)

theorem drain_keep (x n : Nat) (s : State) : (drain x n s).keep = s.keep := by
  induction n generalizing s with
  | zero => simp only [drain]
  | succ n ih =>
    simp only [drain]
    repeat' (first | simp only [ih, resolvePlaced_keep, resolveMissing_keep]
                   | split)

theorem endSequence_keep (a0) (s : State) : (endSequence a0 s).keep = s.keep := by
  unfold endSequence
  simp only [updStream_keep, voidRun_keep]

theorem svTimeStep_keep (s : State) : (svTimeStep s).keep = s.keep := by
  unfold svTimeStep
  simp only [keep_mk, keep_fold]

theorem placeRunning_keep (a0 a1 a2) (s : State) : (placeRunning a0 a1 a2 s).keep = s.keep := by
  unfold placeRunning
  simp only [strCount_keep, updStream_keep, drain_keep, streamReset_keep, ite_keep, ite_self]

theorem placeWaiting_keep (a0 a1 a2) (s : State) : (placeWaiting a0 a1 a2 s).keep = s.keep := by
  unfold placeWaiting
  simp only [strCount_keep, pushFinal_keep, updStream_keep, setStream_keep, streamReset_keep, voidRun_keep, ite_keep, ite_self]

theorem placeAsdu_keep (a0 a1 a2 a3 a4) (s : State) : (placeAsdu a0 a1 a2 a3 a4 s).keep =
  s.keep := by
  unfold placeAsdu
  repeat' (first | simp only [updStream_keep, strCount_keep, voidRun_keep, placeRunning_keep, placeWaiting_keep,
                     ite_keep, ite_self]
                 | split)

theorem declareMissing_keep (a0 a1) (s : State) : (declareMissing a0 a1 s).keep = s.keep := by
  unfold declareMissing
  simp only [drain_keep, updStream_keep]

theorem withStream_keep (c : Cmd) (s : State) (k : Stream → Ans) (t : State) (h : ∀ r, (k r).keepFrom t = t.keep) :
  (withStream c s k).keepFrom t = t.keep := by
  unfold withStream
  repeat' (first | simp only [h, fail_keep] | split)

theorem referenced_keep (c : Cmd) (s : State) (k : Ans) (t : State) (h : k.keepFrom t = t.keep) : (referenced c s
  k).keepFrom t = t.keep := by
  unfold referenced
  simp only [require_keep, h, ite_self]

theorem svReserved_keep (c : Cmd) (s : State) (k : Cmd → State → Ans) (h : ∀ c s, (k c s).keepFrom s = s.keep) :
  (svReserved c s k).keepFrom s = s.keep := by
  unfold svReserved
  simp only [adminOnly_or, notBootHalted_or, carried_keep _ _ _ h, ite_self]

theorem streamSubscribe_keep (a0) (s : State) : (streamSubscribe a0 s).keepFrom s = s.keep := by
  unfold streamSubscribe
  repeat' (first | simp only [fail_keep, ite_from, keep_mk, keep_fold] | (apply withPairs_keep) | split)

theorem execSvStreamSubscribe_keep (a0) (s : State) : resKeep (execSvStreamSubscribe a0 s) = some s.keep := by
  unfold execSvStreamSubscribe
  simp only [feljo_keep, svReserved_keep, streamSubscribe_keep, implies_true]

theorem streamUnsubscribe_keep (a0) (s : State) : (streamUnsubscribe a0 s).keepFrom s = s.keep := by
  unfold streamUnsubscribe
  simp only [withStream_keep, require_keep, syncPairs_keep, finishWaits_keep, done_keep, keep_mk, keep_fold,
    ite_self, implies_true]

theorem execSvStreamUnsubscribe_keep (a0) (s : State) : resKeep (execSvStreamUnsubscribe a0 s) = some s.keep := by
  unfold execSvStreamUnsubscribe
  simp only [feljo_keep, svReserved_keep, streamUnsubscribe_keep, implies_true]

theorem streamSetAs_keep (c : Cmd) (s : State) (o u : Stream) (b : Bool) : (streamSetAs c s o u b).keepFrom s = s.keep
  := by
  unfold streamSetAs
  repeat' (first | simp only [updStream_keep, note_keep, fail_keep, done_keep,
                     ite_keep, ite_self]
                 | split)

theorem streamSet_keep (a0) (s : State) : (streamSet a0 s).keepFrom s = s.keep := by
  unfold streamSet
  repeat' (first | simp only [streamSetAs_keep, fail_keep, ite_from] | (apply withStream_keep; (intro _)) | split)

theorem execSvStreamSet_keep (a0) (s : State) : resKeep (execSvStreamSet a0 s) = some s.keep := by
  unfold execSvStreamSet
  simp only [feljo_keep, svReserved_keep, streamSet_keep, implies_true]

theorem streamGet_keep (a0) (s : State) : (streamGet a0 s).keepFrom s = s.keep := by
  unfold streamGet
  repeat' (first | simp only [done_keep] | (apply referenced_keep) | (apply withStream_keep; (intro _)))

theorem execSvStreamGet_keep (a0) (s : State) : resKeep (execSvStreamGet a0 s) = some s.keep := by
  unfold execSvStreamGet
  simp only [feljo_keep, streamGet_keep, implies_true]

theorem streamHold_keep (a0) (s : State) : (streamHold a0 s).keepFrom s = s.keep := by
  unfold streamHold
  simp only [withStream_keep, require_keep, setStream_keep, endSequence_keep, done_keep, ite_self, implies_true]

theorem execSvStreamHold_keep (a0) (s : State) : resKeep (execSvStreamHold a0 s) = some s.keep := by
  unfold execSvStreamHold
  simp only [feljo_keep, svReserved_keep, streamHold_keep, implies_true]

theorem streamRestart_keep (a0) (s : State) : (streamRestart a0 s).keepFrom s = s.keep := by
  unfold streamRestart
  simp only [withStream_keep, addWait_keep, updStream_keep, fail_keep, wait_keep, ite_from, ite_self, implies_true]

theorem execSvStreamRestart_keep (a0) (s : State) : resKeep (execSvStreamRestart a0 s) = some s.keep := by
  unfold execSvStreamRestart
  simp only [feljo_keep, svReserved_keep, streamRestart_keep, implies_true]

theorem streamStatus_keep (a0) (s : State) : (streamStatus a0 s).keepFrom s = s.keep := by
  unfold streamStatus
  repeat' (first | simp only [done_keep] | (apply referenced_keep) | (apply withStream_keep; (intro _)))

theorem execSvStreamStatus_keep (a0) (s : State) : resKeep (execSvStreamStatus a0 s) = some s.keep := by
  unfold execSvStreamStatus
  simp only [feljo_keep, streamStatus_keep, implies_true]

theorem execSvLoadGet_keep (a0) (s : State) : resKeep (execSvLoadGet a0 s) = some s.keep := by
  unfold execSvLoadGet
  simp only [feljo_keep, adminOnly_or, done_keep, ite_self, implies_true]

theorem simReset_keep (a0) (s : State) : (simReset a0 s).keepFrom s = s.keep := by
  unfold simReset
  simp only [withStream_keep, require_keep, setSim_keep, done_keep, ite_self, implies_true]

theorem execSvSimReset_keep (a0) (s : State) : resKeep (execSvSimReset a0 s) = some s.keep := by
  unfold execSvSimReset
  simp only [feljo_keep, svReserved_keep, simReset_keep, implies_true]

theorem svClear_keep (a0) (s : State) : (svClear a0 s).keepFrom s = s.keep := by
  unfold svClear
  simp only [withStream_keep, updStream_keep, done_keep, ite_from, keep_mk, keep_fold, ite_self, implies_true]

theorem execSvCountersClear_keep (a0) (s : State) : resKeep (execSvCountersClear a0 s) = some s.keep := by
  unfold execSvCountersClear
  simp only [feljo_keep, adminOnly_or, notBootHalted_or, svClear_keep, ite_self, implies_true]

theorem execStreamTimeout_keep (a0) (s : State) : resKeep (execStreamTimeout a0 s) = some s.keep := by
  unfold execStreamTimeout
  repeat' (first | simp only [setStream_keep, strCount_keep, endSequence_keep, next_keep, ite_keep, ite_self] | split)

theorem chanReferenced_keep (c : Cmd) (s : State) (k : Ans) (t : State) (h : k.keepFrom t = t.keep) : (chanReferenced
  c s k).keepFrom t = t.keep := by
  unfold chanReferenced
  simp only [require_keep, h, ite_self]

theorem channelSet_keep (a0) (s : State) : (channelSet a0 s).keepFrom s = s.keep := by
  unfold channelSet
  repeat' (first | simp only [updFilt_keep, fail_keep, done_keep] | split)

theorem execFilterChannelSet_keep (a0) (s : State) : resKeep (execFilterChannelSet a0 s) = some s.keep := by
  unfold execFilterChannelSet
  simp only [feljo_keep, svReserved_keep, channelSet_keep, implies_true]

theorem channelGet_keep (a0) (s : State) : (channelGet a0 s).keepFrom s = s.keep := by
  unfold channelGet
  repeat' (first | simp only [done_keep] | (apply chanReferenced_keep))

theorem execFilterChannelGet_keep (a0) (s : State) : resKeep (execFilterChannelGet a0 s) = some s.keep := by
  unfold execFilterChannelGet
  simp only [feljo_keep, channelGet_keep, implies_true]

theorem romGet_keep (a0) (s : State) : (romGet a0 s).keepFrom s = s.keep := by
  unfold romGet
  simp only [require_keep, done_keep, ite_self]

theorem execFilterRomGet_keep (a0) (s : State) : resKeep (execFilterRomGet a0 s) = some s.keep := by
  unfold execFilterRomGet
  simp only [feljo_keep, romGet_keep, implies_true]

theorem execFilterPairsGet_keep (a0) (s : State) : resKeep (execFilterPairsGet a0 s) = some s.keep := by
  unfold execFilterPairsGet
  simp only [feljo_keep, adminOnly_or, done_keep, ite_self, implies_true]

theorem gridRead_keep (a0) (s : State) : (gridRead a0 s).keepFrom s = s.keep := by
  unfold gridRead
  repeat' (first | simp only [fail_keep, done_keep] | (apply chanReferenced_keep) | split)

theorem execFilterGridRead_keep (a0) (s : State) : resKeep (execFilterGridRead a0 s) = some s.keep := by
  unfold execFilterGridRead
  simp only [feljo_keep, gridRead_keep, implies_true]

theorem resync_keep (a0) (s : State) : (resync a0 s).keepFrom s = s.keep := by
  unfold resync
  simp only [require_keep, addWait_keep, mapPairs_keep, wait_keep, ite_self]

theorem execFilterResync_keep (a0) (s : State) : resKeep (execFilterResync a0 s) = some s.keep := by
  unfold execFilterResync
  simp only [feljo_keep, svReserved_keep, resync_keep, implies_true]

theorem updDet_keep (a0 a1) (s : State) : (updDet a0 a1 s).keep = s.keep := by
  unfold updDet
  simp only [updFilt_keep]

theorem detectorSet_keep (a0) (s : State) : (detectorSet a0 s).keepFrom s = s.keep := by
  unfold detectorSet
  repeat' (first | simp only [updDet_keep, withPairs_keep, fail_keep, ite_from, ite_self]
                 | (apply withPairs_keep)
                 | split)

theorem execFilterDetectorSet_keep (a0) (s : State) : resKeep (execFilterDetectorSet a0 s) = some s.keep := by
  unfold execFilterDetectorSet
  simp only [feljo_keep, svReserved_keep, detectorSet_keep, implies_true]

theorem detectorGet_keep (a0) (s : State) : (detectorGet a0 s).keepFrom s = s.keep := by
  unfold detectorGet
  simp only [require_keep, notBootHalted_or, done_keep, ite_self]

theorem execFilterDetectorGet_keep (a0) (s : State) : resKeep (execFilterDetectorGet a0 s) = some s.keep := by
  unfold execFilterDetectorGet
  simp only [feljo_keep, detectorGet_keep, implies_true]

theorem detectorClear_keep (a0) (s : State) : (detectorClear a0 s).keepFrom s = s.keep := by
  unfold detectorClear
  simp only [updFilt_keep, updDet_keep, done_keep, ite_keep, ite_self]

theorem execFilterDetectorClear_keep (a0) (s : State) : resKeep (execFilterDetectorClear a0 s) = some s.keep := by
  unfold execFilterDetectorClear
  simp only [feljo_keep, adminOnly_or, notBootHalted_or, detectorClear_keep, ite_self, implies_true]

theorem updEl_keep (a0 a1) (s : State) : (updEl a0 a1 s).keep = s.keep := by
  unfold updEl
  simp only [updInst_keep]

theorem ownReady_keep (s : State) (k : Ans) (t : State) (h : k.keepFrom t = t.keep) : (ownReady s k).keepFrom t =
  t.keep := by
  unfold ownReady
  simp only [notBootHalted_or, h, ite_self]

theorem setLoad_keep (a0) (s : State) : (setLoad a0 s).keepFrom s = s.keep := by
  unfold setLoad
  repeat' (first | simp only [updEl_keep, fail_keep, done_keep, ite_from] | split)

theorem execElementSetLoad_keep (a0) (s : State) : resKeep (execElementSetLoad a0 s) = some s.keep := by
  unfold execElementSetLoad
  repeat' (first | simp only [ownReady_keep, carried_keep, setLoad_keep, implies_true]
                 | (apply feljo_keep; (intro _ _))
                 | (apply ownReady_keep)
                 | (apply carried_keep; (intro _ _)))

theorem setGet_keep (a0) (s : State) : (setGet a0 s).keepFrom s = s.keep := by
  unfold setGet
  repeat' (first | simp only [fail_keep, done_keep] | split)

theorem execElementSetGet_keep (a0) (s : State) : resKeep (execElementSetGet a0 s) = some s.keep := by
  unfold execElementSetGet
  simp only [feljo_keep, setGet_keep, implies_true]

theorem paramSet_keep (a0) (s : State) : (paramSet a0 s).keepFrom s = s.keep := by
  unfold paramSet
  repeat' (first | simp only [updEl_keep, fail_keep, done_keep, ite_from, ite_self] | split)

theorem execElementParamSet_keep (a0) (s : State) : resKeep (execElementParamSet a0 s) = some s.keep := by
  unfold execElementParamSet
  repeat' (first | simp only [ownReady_keep, carried_keep, paramSet_keep, implies_true]
                 | (apply feljo_keep; (intro _ _))
                 | (apply ownReady_keep)
                 | (apply carried_keep; (intro _ _)))

theorem paramGet_keep (a0) (s : State) : (paramGet a0 s).keepFrom s = s.keep := by
  unfold paramGet
  repeat' (first | simp only [fail_keep, done_keep] | split)

theorem execElementParamGet_keep (a0) (s : State) : resKeep (execElementParamGet a0 s) = some s.keep := by
  unfold execElementParamGet
  simp only [feljo_keep, paramGet_keep, implies_true]

theorem admitCheck_keep (a0) (s : State) : (admitCheck a0 s).keepFrom s = s.keep := by
  unfold admitCheck
  repeat' (first | simp only [fail_keep, done_keep] | split)

theorem execElementAdmitCheck_keep (a0) (s : State) : resKeep (execElementAdmitCheck a0 s) = some s.keep := by
  unfold execElementAdmitCheck
  simp only [feljo_keep, ownReady_keep, admitCheck_keep, implies_true]

theorem execElementLoadGet_keep (a0) (s : State) : resKeep (execElementLoadGet a0 s) = some s.keep := by
  unfold execElementLoadGet
  simp only [feljo_keep, adminOnly_or, done_keep, ite_self, implies_true]

theorem withSlot_keep (c : Cmd) (s : State) (k : Reserve → SlotSt → Ans) (t : State) (h : ∀ r x, (k r x).keepFrom t =
  t.keep) : (withSlot c s k).keepFrom t = t.keep := by
  unfold withSlot
  repeat' (first | simp only [h, fail_keep] | split)

theorem slotStatus_keep (a0) (s : State) : (slotStatus a0 s).keepFrom s = s.keep := by
  unfold slotStatus
  repeat' (first | simp only [done_keep] | (apply withSlot_keep; (intro _ _)))

theorem execElementSlotStatus_keep (a0) (s : State) : resKeep (execElementSlotStatus a0 s) = some s.keep := by
  unfold execElementSlotStatus
  simp only [feljo_keep, slotStatus_keep, implies_true]

theorem stateGet_keep (a0) (s : State) : (stateGet a0 s).keepFrom s = s.keep := by
  unfold stateGet
  repeat' (first | simp only [done_keep] | (apply withSlot_keep; (intro _ _)))

theorem execElementStateGet_keep (a0) (s : State) : resKeep (execElementStateGet a0 s) = some s.keep := by
  unfold execElementStateGet
  simp only [feljo_keep, stateGet_keep, implies_true]

theorem laneStatus_keep (a0) (s : State) : (laneStatus a0 s).keepFrom s = s.keep := by
  unfold laneStatus
  simp only [done_keep]

theorem execElementLaneStatus_keep (a0) (s : State) : resKeep (execElementLaneStatus a0 s) = some s.keep := by
  unfold execElementLaneStatus
  simp only [feljo_keep, adminOnly_or, laneStatus_keep, ite_self, implies_true]

theorem catalogueGet_keep (a0) (s : State) : (catalogueGet a0 s).keepFrom s = s.keep := by
  unfold catalogueGet
  repeat' (first | simp only [fail_keep, done_keep] | split)

theorem execElementCatalogueGet_keep (a0) (s : State) : resKeep (execElementCatalogueGet a0 s) = some s.keep := by
  unfold execElementCatalogueGet
  simp only [feljo_keep, catalogueGet_keep, implies_true]

theorem elementClear_keep (a0) (s : State) : (elementClear a0 s).keepFrom s = s.keep := by
  unfold elementClear
  simp only [updEl_keep, done_keep]

theorem execElementCountersClear_keep (a0) (s : State) : resKeep (execElementCountersClear a0 s) = some s.keep := by
  unfold execElementCountersClear
  simp only [feljo_keep, adminOnly_or, notBootHalted_or, elementClear_keep, ite_self, implies_true]

theorem execLaneEvaluationComplete_keep (a0 a1 a2) (s : State) : resKeep (execLaneEvaluationComplete
  a0 a1 a2 s) = some s.keep := by
  unfold execLaneEvaluationComplete
  repeat' (first | simp only [endEval_keep, next_keep] | split)

theorem failLanes_keep (a0) (s : State) : (failLanes a0 s).keep = s.keep := by
  unfold failLanes
  simp only [updLane_keep, updLanes_keep, foldl_keep, implies_true]

theorem retireIdle_keep (s : State) : (retireIdle s).keep = s.keep := by
  unfold retireIdle
  simp only [retireLanes_keep, ite_keep, ite_self]

theorem execLaneSelftest_keep (a0) (s : State) : resKeep (execLaneSelftest a0 s) = some s.keep := by
  unfold execLaneSelftest
  simp only [failLanes_keep, retireIdle_keep, next_keep, ite_keep, ite_self]

theorem startExchange_keep (a0 a1) (s : State) : (startExchange a0 a1 s).keepFrom s = s.keep := by
  unfold startExchange
  repeat' (first | simp only [updLogic_keep, fail_keep, wait_keep, ite_from] | split)

theorem programLoad_keep (a0) (s : State) : (programLoad a0 s).keepFrom s = s.keep := by
  unfold programLoad
  repeat' (first | simp only [updLogic_keep, startExchange_keep, fail_keep, done_keep, ite_from, ite_self] | split)

theorem execLogicProgramLoad_keep (a0) (s : State) : resKeep (execLogicProgramLoad a0 s) = some s.keep := by
  unfold execLogicProgramLoad
  repeat' (first | simp only [ownReady_keep, carried_keep, programLoad_keep, implies_true]
                 | (apply feljo_keep; (intro _ _))
                 | (apply ownReady_keep)
                 | (apply carried_keep; (intro _ _)))

theorem programGet_keep (a0) (s : State) : (programGet a0 s).keepFrom s = s.keep := by
  unfold programGet
  repeat' (first | simp only [fail_keep, done_keep] | split)

theorem execLogicProgramGet_keep (a0) (s : State) : resKeep (execLogicProgramGet a0 s) = some s.keep := by
  unfold execLogicProgramGet
  simp only [feljo_keep, programGet_keep, implies_true]

theorem programInfo_keep (a0) (s : State) : (programInfo a0 s).keepFrom s = s.keep := by
  unfold programInfo
  repeat' (first | simp only [fail_keep, done_keep] | split)

theorem execLogicProgramInfo_keep (a0) (s : State) : resKeep (execLogicProgramInfo a0 s) = some s.keep := by
  unfold execLogicProgramInfo
  simp only [feljo_keep, programInfo_keep, implies_true]

theorem signalRead_keep (a0) (s : State) : (signalRead a0 s).keepFrom s = s.keep := by
  unfold signalRead
  simp only [require_keep, done_keep, ite_self]

theorem execLogicSignalRead_keep (a0) (s : State) : resKeep (execLogicSignalRead a0 s) = some s.keep := by
  unfold execLogicSignalRead
  simp only [feljo_keep, signalRead_keep, implies_true]

theorem controlWrite_keep (a0) (s : State) : (controlWrite a0 s).keepFrom s = s.keep := by
  unfold controlWrite
  simp only [updLogic_keep, fail_keep, done_keep, ite_from, ite_self]

theorem execLogicControlWrite_keep (a0) (s : State) : resKeep (execLogicControlWrite a0 s) = some s.keep := by
  unfold execLogicControlWrite
  repeat' (first | simp only [ownReady_keep, carried_keep, controlWrite_keep, implies_true]
                 | (apply feljo_keep; (intro _ _))
                 | (apply ownReady_keep)
                 | (apply carried_keep; (intro _ _)))

theorem forceSet_keep (a0) (s : State) : (forceSet a0 s).keepFrom s = s.keep := by
  unfold forceSet
  simp only [note_keep, updLogic_keep, fail_keep, done_keep, ite_from, ite_self]

theorem execLogicForceSet_keep (a0) (s : State) : resKeep (execLogicForceSet a0 s) = some s.keep := by
  unfold execLogicForceSet
  repeat' (first | simp only [ownReady_keep, carried_keep, forceSet_keep, implies_true]
                 | (apply feljo_keep; (intro _ _))
                 | (apply ownReady_keep)
                 | (apply carried_keep; (intro _ _)))

theorem forceClear_keep (a0) (s : State) : (forceClear a0 s).keepFrom s = s.keep := by
  unfold forceClear
  repeat' (first | simp only [clearForces_keep, note_keep, updLogic_keep, fail_keep, done_keep, ite_from] | split)

theorem execLogicForceClear_keep (a0) (s : State) : resKeep (execLogicForceClear a0 s) = some s.keep := by
  unfold execLogicForceClear
  repeat' (first | simp only [ownReady_keep, carried_keep, forceClear_keep, implies_true]
                 | (apply feljo_keep; (intro _ _))
                 | (apply ownReady_keep)
                 | (apply carried_keep; (intro _ _)))

theorem forceList_keep (a0) (s : State) : (forceList a0 s).keepFrom s = s.keep := by
  unfold forceList
  simp only [done_keep]

theorem execLogicForceList_keep (a0) (s : State) : resKeep (execLogicForceList a0 s) = some s.keep := by
  unfold execLogicForceList
  simp only [feljo_keep, forceList_keep, implies_true]

theorem logicState_keep (a0) (s : State) : (logicState a0 s).keepFrom s = s.keep := by
  unfold logicState
  repeat' (first | simp only [fail_keep, done_keep] | split)

theorem execLogicStateGet_keep (a0) (s : State) : resKeep (execLogicStateGet a0 s) = some s.keep := by
  unfold execLogicStateGet
  simp only [feljo_keep, logicState_keep, implies_true]

theorem exchangeReport_keep (a0) (s : State) : (exchangeReport a0 s).keepFrom s = s.keep := by
  unfold exchangeReport
  repeat' (first | simp only [fail_keep, done_keep] | split)

theorem execLogicExchangeReport_keep (a0) (s : State) : resKeep (execLogicExchangeReport a0 s) = some s.keep := by
  unfold execLogicExchangeReport
  simp only [feljo_keep, exchangeReport_keep, implies_true]

theorem execLogicSweepGet_keep (a0) (s : State) : resKeep (execLogicSweepGet a0 s) = some s.keep := by
  unfold execLogicSweepGet
  simp only [feljo_keep, adminOnly_or, done_keep, ite_self, implies_true]

theorem execLogicEngineSet_keep (a0) (s : State) : resKeep (execLogicEngineSet a0 s) = some s.keep := by
  unfold execLogicEngineSet
  simp only [feljo_keep, adminOnly_or, notBootHalted_or, done_keep, keep_mk, keep_fold, ite_self, implies_true]

theorem execExchangeShadowReady_keep (a0) (s : State) : resKeep (execExchangeShadowReady a0 s) = some s.keep := by
  unfold execExchangeShadowReady
  simp only [updLogic_keep, next_keep]

theorem updSub_keep (a0 a1 a2) (s : State) : (updSub a0 a1 a2 s).keep = s.keep := by
  unfold updSub
  simp only [updInst_keep]

theorem setValid_keep (a0 a1 a2) (s : State) : (setValid a0 a1 a2 s).keep = s.keep := by
  unfold setValid
  repeat' (first | simp only [updSub_keep, noteMod_keep, ite_keep, ite_self] | split)

theorem subEvents_keep (a0 a1 a2 a3) (s : State) : (subEvents a0 a1 a2 a3 s).keep = s.keep := by
  unfold subEvents
  simp only [offerEvent_keep, foldl_keep, ite_keep, ite_self, implies_true]

theorem watchSub_keep (n i t : Nat) (f : State → State) (s : State) (h : ∀ s, (f s).keep = s.keep) : (watchSub n i t f
  s).keep = s.keep := by
  unfold watchSub
  repeat' (first | simp only [subEvents_keep, h] | split)

theorem subSimEnd_keep (a0) (s : State) : (subSimEnd a0 s).keep = s.keep := by
  unfold subSimEnd
  split
  · rfl
  · refine foldl_keep _ _ ?_ _
    intro _ _
    split
    · exact watchSub_keep _ _ _ _ _ fun _ => by simp only [updSub_keep, setValid_keep]
    · rfl

theorem subApply_keep (a0 a1 a2 a3) (s : State) : (subApply a0 a1 a2 a3 s).keep = s.keep := by
  unfold subApply
  repeat' (first | simp only [setValid_keep, updSub_keep] | split)

theorem subChecks_keep {n i : Nat} {u : Sub} {g : GoosePdu} {s t : State} {b : Bool} (h : subChecks n i u g s = (t,
  b)) : t.keep = s.keep := by
  unfold subChecks at h
  repeat' (first | (cases h; done)
                 | (simp only [Prod.mk.injEq] at h)
                 | split at h
                 | (obtain ⟨rfl, rfl, rfl⟩ := h)
                 | (obtain ⟨rfl, rfl⟩ := h)
                 | subst h
                 | simp only [updSub_keep, setValid_keep])

theorem subChecks_keeps (n i : Nat) (u : Sub) (g : GoosePdu) (s : State) : (subChecks n i u g s).1.keep = s.keep :=
  subChecks_keep rfl

theorem pubSet_keep (a0) (s : State) : (pubSet a0 s).keepFrom s = s.keep := by
  unfold pubSet
  repeat' (first | simp only [putPub_keep, require_keep, fail_keep, done_keep, ite_from, ite_self] | split)

theorem execGoosePubSet_keep (a0) (s : State) : resKeep (execGoosePubSet a0 s) = some s.keep := by
  unfold execGoosePubSet
  repeat' (first | simp only [ownReady_keep, carried_keep, pubSet_keep, implies_true]
                 | (apply feljo_keep; (intro _ _))
                 | (apply ownReady_keep)
                 | (apply carried_keep; (intro _ _)))

theorem withPub_keep (c : Cmd) (s : State) (k : Pub → Ans) (t : State) (h : ∀ r, (k r).keepFrom t = t.keep) : (withPub
  c s k).keepFrom t = t.keep := by
  unfold withPub
  repeat' (first | simp only [h, fail_keep] | split)

theorem execGoosePubGet_keep (a0) (s : State) : resKeep (execGoosePubGet a0 s) = some s.keep := by
  unfold execGoosePubGet
  repeat' (first | simp only [done_keep] | (apply feljo_keep; (intro _ _)) | (apply withPub_keep; (intro _)))

theorem execGoosePubStatus_keep (a0) (s : State) : resKeep (execGoosePubStatus a0 s) = some s.keep := by
  unfold execGoosePubStatus
  repeat' (first | simp only [done_keep] | (apply feljo_keep; (intro _ _)) | (apply withPub_keep; (intro _)))

theorem pubRelease_keep (a0) (s : State) : (pubRelease a0 s).keepFrom s = s.keep := by
  unfold pubRelease
  simp only [withPub_keep, require_keep, updInst_keep, fail_keep, done_keep, ite_from, ite_self, implies_true]

theorem execGoosePubRelease_keep (a0) (s : State) : resKeep (execGoosePubRelease a0 s) = some s.keep := by
  unfold execGoosePubRelease
  repeat' (first | simp only [ownReady_keep, carried_keep, pubRelease_keep, implies_true]
                 | (apply feljo_keep; (intro _ _))
                 | (apply ownReady_keep)
                 | (apply carried_keep; (intro _ _)))

theorem subSet_keep (a0) (s : State) : (subSet a0 s).keepFrom s = s.keep := by
  unfold subSet
  repeat' (first | simp only [updInst_keep, require_keep, fail_keep, done_keep, ite_from, ite_self] | split)

theorem execGooseSubSet_keep (a0) (s : State) : resKeep (execGooseSubSet a0 s) = some s.keep := by
  unfold execGooseSubSet
  repeat' (first | simp only [ownReady_keep, carried_keep, subSet_keep, implies_true]
                 | (apply feljo_keep; (intro _ _))
                 | (apply ownReady_keep)
                 | (apply carried_keep; (intro _ _)))

theorem withSub_keep (c : Cmd) (s : State) (k : Sub → Ans) (t : State) (h : ∀ r, (k r).keepFrom t = t.keep) : (withSub
  c s k).keepFrom t = t.keep := by
  unfold withSub
  repeat' (first | simp only [h, fail_keep] | split)

theorem execGooseSubGet_keep (a0) (s : State) : resKeep (execGooseSubGet a0 s) = some s.keep := by
  unfold execGooseSubGet
  repeat' (first | simp only [done_keep] | (apply feljo_keep; (intro _ _)) | (apply withSub_keep; (intro _)))

theorem execGooseSubStatus_keep (a0) (s : State) : resKeep (execGooseSubStatus a0 s) = some s.keep := by
  unfold execGooseSubStatus
  repeat' (first | simp only [done_keep] | (apply feljo_keep; (intro _ _)) | (apply withSub_keep; (intro _)))

theorem gooseClear_keep (a0) (s : State) : (gooseClear a0 s).keepFrom s = s.keep := by
  unfold gooseClear
  simp only [updInst_keep, done_keep]

theorem execGooseCountersClear_keep (a0) (s : State) : resKeep (execGooseCountersClear a0 s) = some s.keep := by
  unfold execGooseCountersClear
  simp only [feljo_keep, adminOnly_or, notBootHalted_or, carried_keep, gooseClear_keep, ite_self, implies_true]

theorem powJudge_keep (a0) (s : State) : (powJudge a0 s).keep = s.keep := by
  unfold powJudge
  repeat' (first | simp only [energise_keep, updOut_keep, ite_keep, ite_self] | split)

theorem powStart_keep (a0 a1) (s : State) : (powStart a0 a1 s).keep = s.keep := by
  unfold powStart
  simp only [powJudge_keep, updOut_keep]

theorem handOut_keep (a0 a1 a2 a3) (s : State) : (handOut a0 a1 a2 a3 s).keep = s.keep := by
  unfold handOut
  simp only [updOut_keep, endTest_keep, energise_keep, powStart_keep, deenergise_keep, ite_keep, ite_self]

theorem execPowLaunch_keep (a0) (s : State) : resKeep (execPowLaunch a0 s) = some s.keep := by
  unfold execPowLaunch
  simp only [powJudge_keep, next_keep, ite_keep, ite_self]

theorem execMinPulseExpiry_keep (a0) (s : State) : resKeep (execMinPulseExpiry a0 s) = some s.keep := by
  unfold execMinPulseExpiry
  simp only [updOut_keep, next_keep, ite_keep, ite_self]

theorem execMaxPulseExpiry_keep (a0) (s : State) : resKeep (execMaxPulseExpiry a0 s) = some s.keep := by
  unfold execMaxPulseExpiry
  simp only [noteMod_keep, deenergise_keep, updOut_keep, next_keep, ite_keep, ite_self]

theorem setSupFault_keep (a0) (s : State) : (setSupFault a0 s).keep = s.keep := by
  unfold setSupFault
  simp only [updOut_keep, setAlarm_keep, edgeOwner_keep, noteMod_keep, ite_keep, ite_self]

theorem execEnergTimeExpiry_keep (a0 a1) (s : State) : resKeep (execEnergTimeExpiry a0 a1 s) = some s.keep
  := by
  unfold execEnergTimeExpiry
  repeat' (first | simp only [updOut_keep, setSupFault_keep, next_keep, ite_keep, ite_self] | split)

theorem execSupervisionWindow_keep (a0 a1) (s : State) : resKeep (execSupervisionWindow a0 a1 s) = some
  s.keep := by
  unfold execSupervisionWindow
  repeat' (first | simp only [updOut_keep, setSupFault_keep, next_keep, ite_keep, ite_self] | split)

theorem startTest_keep (a0) (s : State) : (startTest a0 s).keep = s.keep := by
  unfold startTest
  simp only [updOut_keep]

theorem execOutputTest_keep (a0) (s : State) : resKeep (execOutputTest a0 s) = some s.keep := by
  unfold execOutputTest
  simp only [startTest_keep, next_keep, ite_keep, ite_self]

theorem endOk_keep (a0 a1) (s : State) : (endOk a0 a1 s).keep = s.keep := by
  unfold endOk
  simp only [updOut_keep, setSupFault_keep, noteMod_keep, finishWaits_keep, ite_keep, ite_self]

theorem testStep_keep (a0 a1 a2) (s : State) : (testStep a0 a1 a2 s).keep = s.keep := by
  unfold testStep
  repeat' (first | simp only [updOut_keep, endOk_keep] | split)

theorem execOutputTestPhase_keep (a0 a1) (s : State) : resKeep (execOutputTestPhase a0 a1 s) = some s.keep
  := by
  unfold execOutputTestPhase
  repeat' (first | simp only [testStep_keep, next_keep, ite_keep, ite_self] | split)

theorem discJudge_keep (a0) (s : State) : (discJudge a0 s).keep = s.keep := by
  unfold discJudge
  simp only [updOut_keep, ite_keep, ite_self]

theorem execDiscTimeExpiry_keep (a0) (s : State) : resKeep (execDiscTimeExpiry a0 s) = some s.keep := by
  unfold execDiscTimeExpiry
  repeat' (first | simp only [noteMod_keep, updOut_keep, next_keep, ite_keep, ite_self] | split)

theorem outChanged_keep (a0 a1 a2) (s : State) : (outChanged a0 a1 a2 s).keep = s.keep := by
  unfold outChanged
  simp only [note_keep, holdOut_keep, discJudge_keep, ite_keep, ite_self]

theorem outSet_keep (a0) (s : State) : (outSet a0 s).keepFrom s = s.keep := by
  unfold outSet
  repeat' (first | simp only [outChanged_keep, updOut_keep, fail_keep, done_keep] | split)

theorem execTripOutputSet_keep (a0) (s : State) : resKeep (execTripOutputSet a0 s) = some s.keep := by
  unfold execTripOutputSet
  simp only [feljo_keep, adminOnly_or, notBootHalted_or, carried_keep, outSet_keep, ite_self, implies_true]

theorem outGet_keep (a0) (s : State) : (outGet a0 s).keepFrom s = s.keep := by
  unfold outGet
  simp only [require_keep, done_keep, ite_self]

theorem execTripOutputGet_keep (a0) (s : State) : resKeep (execTripOutputGet a0 s) = some s.keep := by
  unfold execTripOutputGet
  simp only [feljo_keep, outGet_keep, implies_true]

theorem outTest_keep (a0) (s : State) : (outTest a0 s).keepFrom s = s.keep := by
  unfold outTest
  simp only [require_keep, addWait_keep, startTest_keep, wait_keep, ite_self]

theorem execTripOutputTest_keep (a0) (s : State) : resKeep (execTripOutputTest a0 s) = some s.keep := by
  unfold execTripOutputTest
  simp only [feljo_keep, adminOnly_or, notBootHalted_or, carried_keep, outTest_keep, ite_self, implies_true]

theorem execTripReactionGet_keep (a0) (s : State) : resKeep (execTripReactionGet a0 s) = some s.keep := by
  unfold execTripReactionGet
  repeat' (first | simp only [done_keep] | (apply feljo_keep; (intro _ _)))

theorem txStop_keep (a0) (s : State) : (txStop a0 s).keep = s.keep := by
  unfold txStop
  simp only [ringErr_keep, updWin_keep]

theorem txWriteBack_keep (a0 a1 a2) (s : State) : (txWriteBack a0 a1 a2 s).keep = s.keep := by
  unfold txWriteBack
  repeat' (first | simp only [txStop_keep, atuFault_keep, post_keep] | split)

theorem txWriteBacks_keep (n : Nat) (l : List Byte) (i k : Nat) (s : State) : (txWriteBacks n l i k s).keep = s.keep
  := by
  induction k generalizing i s with
  | zero => simp only [txWriteBacks]
  | succ k ih =>
    cases k with
    | zero => exact txWriteBack_keep n i l s
    | succ k =>
      rw [txWriteBacks, ih, txWriteBack_keep]
      intro h
      cases h

theorem txDone_keep (a0 a1 a2 a3) (s : State) : (txDone a0 a1 a2 a3 s).keep = s.keep := by
  unfold txDone
  simp only [edge_keep, txWriteBacks_keep]

theorem txDrop_keep (a0 a1 a2 a3) (s : State) : (txDrop a0 a1 a2 a3 s).keep = s.keep := by
  unfold txDrop
  simp only [txDone_keep, updWin_keep]

theorem txAnswer_keep (a0 a1) (s : State) : (txAnswer a0 a1 s).keep = s.keep := by
  unfold txAnswer
  simp only [txDone_keep, updSw_keep]

theorem txSettle_keep (s : State) : (txSettle s).keep = s.keep := by
  unfold txSettle
  simp only [txAnswer_keep, foldl_keep, implies_true]

theorem linkLost_keep (a0) (s : State) : (linkLost a0 s).keep = s.keep := by
  unfold linkLost
  simp only [count_keep, updPort_keep, ite_keep, ite_self]

theorem portEffects_keep (a0) (s : State) : (portEffects a0 s).keep = s.keep := by
  unfold portEffects
  simp only [preemptJudge_keep, updPort_keep, autoRecovery_keep, recJudge_keep, ite_keep, ite_self]

theorem notBoot_keep (s : State) (k : Ans) (t : State) (h : k.keepFrom t = t.keep) : (notBoot s k).keepFrom t = t.keep
  := by
  unfold notBoot
  simp only [require_keep, h, ite_self]

theorem notBoot_or (s : State) (k : Ans) (t : State) : (notBoot s k).keepFrom t = if (s.svc.state != .boot) = true
  then k.keepFrom t else t.keep := by
  unfold notBoot
  exact require_keep _ _ _ _

theorem portConfigSet_keep (a0) (s : State) : (portConfigSet a0 s).keepFrom s = s.keep := by
  unfold portConfigSet
  repeat' (first | simp only [updPort_keep, portEffects_keep, fail_keep, done_keep, ite_from, ite_self] | split)

theorem execPortConfigSet_keep (a0) (s : State) : resKeep (execPortConfigSet a0 s) = some s.keep := by
  unfold execPortConfigSet
  simp only [feljo_keep, adminOnly_or, notBoot_or, portConfigSet_keep, ite_self, implies_true]

theorem execPortConfigGet_keep (a0) (s : State) : resKeep (execPortConfigGet a0 s) = some s.keep := by
  unfold execPortConfigGet
  simp only [feljo_keep, adminOnly_or, notBoot_or, done_keep, ite_self, implies_true]

theorem execPortStatusGet_keep (a0) (s : State) : resKeep (execPortStatusGet a0 s) = some s.keep := by
  unfold execPortStatusGet
  simp only [feljo_keep, notBoot_or, done_keep, ite_self, implies_true]

theorem portHold_keep (a0) (s : State) : (portHold a0 s).keep = s.keep := by
  unfold portHold
  simp only [txSettle_keep, flushPort_keep, linkLost_keep, updPort_keep]

theorem execPortHold_keep (a0) (s : State) : resKeep (execPortHold a0 s) = some s.keep := by
  unfold execPortHold
  simp only [feljo_keep, adminOnly_or, notBoot_or, portHold_keep, done_keep, ite_self, implies_true]

theorem portRestart_keep (a0) (s : State) : (portRestart a0 s).keep = s.keep := by
  unfold portRestart
  simp only [linkLost_keep, updPort_keep, portEffects_keep, updSw_keep]

theorem execPortRestart_keep (a0) (s : State) : resKeep (execPortRestart a0 s) = some s.keep := by
  unfold execPortRestart
  simp only [feljo_keep, adminOnly_or, notBoot_or, portRestart_keep, done_keep, ite_self, implies_true]

theorem execPortCountersClear_keep (a0) (s : State) : resKeep (execPortCountersClear a0 s) = some s.keep := by
  unfold execPortCountersClear
  simp only [feljo_keep, adminOnly_or, notBoot_or, updPort_keep, done_keep, ite_from, keep_mk, keep_fold, ite_self,
    implies_true]

theorem portGclSet_keep (a0) (s : State) : (portGclSet a0 s).keepFrom s = s.keep := by
  unfold portGclSet
  repeat' (first | simp only [addWait_keep, updPort_keep, fail_keep, wait_keep, ite_from] | split)

theorem execPortGclSet_keep (a0) (s : State) : resKeep (execPortGclSet a0 s) = some s.keep := by
  unfold execPortGclSet
  simp only [feljo_keep, adminOnly_or, notBoot_or, portGclSet_keep, ite_self, implies_true]

theorem execPortGclGet_keep (a0) (s : State) : resKeep (execPortGclGet a0 s) = some s.keep := by
  unfold execPortGclGet
  repeat' (first | simp only [adminOnly_or, notBoot_or, fail_keep, done_keep] | (apply feljo_keep; (intro _ _)) | split)

theorem portVportSet_keep (a0) (s : State) : (portVportSet a0 s).keepFrom s = s.keep := by
  unfold portVportSet
  repeat' (first | simp only [updSw_keep, fail_keep, done_keep, ite_from, ite_self] | split)

theorem execPortVportSet_keep (a0) (s : State) : resKeep (execPortVportSet a0 s) = some s.keep := by
  unfold execPortVportSet
  simp only [feljo_keep, adminOnly_or, notBoot_or, portVportSet_keep, ite_self, implies_true]

theorem execPortVportGet_keep (a0) (s : State) : resKeep (execPortVportGet a0 s) = some s.keep := by
  unfold execPortVportGet
  simp only [feljo_keep, notBoot_or, require_keep, done_keep, ite_self, implies_true]

theorem updKeys_keep (a0) (s : State) : (updKeys a0 s).keep = s.keep := by
  unfold updKeys
  simp only [keep_mk, keep_fold]

theorem updStore_keep (a0) (s : State) : (updStore a0 s).keep = s.keep := by
  unfold updStore
  simp only [updKeys_keep]

theorem chunkAns_keep (c : Cmd) (x : Option Session) (p : Session → State → State) (s : State) (h : ∀ x s, (p x
  s).keep = s.keep) : (chunkAns c x p s).keepFrom s = s.keep := by
  unfold chunkAns
  repeat' (first | simp only [h, fail_keep, done_keep] | split)

theorem promoteKey_keep (a0) (s : State) : (promoteKey a0 s).keep = s.keep := by
  unfold promoteKey
  repeat' (first | simp only [updKeys_keep, updStore_keep, noteMod_keep, ite_keep, ite_self] | split)

theorem lapseKey_keep (a0) (s : State) : (lapseKey a0 s).keep = s.keep := by
  unfold lapseKey
  simp only [promoteKey_keep, updKeys_keep, updStore_keep, noteMod_keep, ite_keep, ite_self]

theorem applyRecord_keep (a0) (s : State) (a2) : (applyRecord a0 s a2).keep = s.keep := by
  unfold applyRecord
  simp only [noteMod_keep, updKeys_keep, ite_keep, ite_self]

theorem applyDeposit_keep (a0 a1) (s : State) : (applyDeposit a0 a1 s).keep = s.keep := by
  unfold applyDeposit
  simp only [updStore_keep, applyRecord_keep, noteMod_keep, updKeys_keep, foldl_keep, ite_keep, ite_self, implies_true]

theorem rejectDeposit_keep (a0 a1) (s : State) : (rejectDeposit a0 a1 s).keepFrom s = s.keep := by
  unfold rejectDeposit
  simp only [noteMod_keep, updKeys_keep, done_keep]

theorem depositEnd_keep (s : State) : (depositEnd s).keepFrom s = s.keep := by
  unfold depositEnd
  repeat' (first | simp only [rejectDeposit_keep, applyDeposit_keep, fail_keep, done_keep, ite_from] | split)

theorem execKeyIdentityGet_keep (a0) (s : State) : resKeep (execKeyIdentityGet a0 s) = some s.keep := by
  unfold execKeyIdentityGet
  repeat' (first | simp only [done_keep] | (apply feljo_keep; (intro _ _)))

theorem ownerEnrol_keep (a0) (s : State) : (ownerEnrol a0 s).keepFrom s = s.keep := by
  unfold ownerEnrol
  simp only [require_keep, noteMod_keep, updStore_keep, done_keep, ite_self]

theorem execKeyOwnerEnrol_keep (a0) (s : State) : resKeep (execKeyOwnerEnrol a0 s) = some s.keep := by
  unfold execKeyOwnerEnrol
  simp only [feljo_keep, adminOnly_or, ownerEnrol_keep, ite_self, implies_true]

theorem execKeyDepositBegin_keep (a0) (s : State) : resKeep (execKeyDepositBegin a0 s) = some s.keep := by
  unfold execKeyDepositBegin
  simp only [feljo_keep, adminOnly_or, notBoot_or, require_keep, updKeys_keep, done_keep, ite_self, implies_true]

theorem execKeyDepositChunk_keep (a0) (s : State) : resKeep (execKeyDepositChunk a0 s) = some s.keep := by
  unfold execKeyDepositChunk
  simp only [feljo_keep, adminOnly_or, notBoot_or, chunkAns_keep, updKeys_keep, ite_self, implies_true]

theorem execKeyDepositEnd_keep (a0) (s : State) : resKeep (execKeyDepositEnd a0 s) = some s.keep := by
  unfold execKeyDepositEnd
  simp only [feljo_keep, adminOnly_or, notBoot_or, depositEnd_keep, ite_self, implies_true]

theorem execKeyDepositAbort_keep (a0) (s : State) : resKeep (execKeyDepositAbort a0 s) = some s.keep := by
  unfold execKeyDepositAbort
  simp only [feljo_keep, adminOnly_or, notBoot_or, require_keep, updKeys_keep, done_keep, ite_self, implies_true]

theorem execKeySlotGet_keep (a0) (s : State) : resKeep (execKeySlotGet a0 s) = some s.keep := by
  unfold execKeySlotGet
  simp only [feljo_keep, adminOnly_or, done_keep, ite_self, implies_true]

theorem keyPromote_keep (a0) (s : State) : (keyPromote a0 s).keepFrom s = s.keep := by
  unfold keyPromote
  simp only [require_keep, promoteKey_keep, done_keep, ite_self]

theorem execKeySlotPromote_keep (a0) (s : State) : resKeep (execKeySlotPromote a0 s) = some s.keep := by
  unfold execKeySlotPromote
  simp only [feljo_keep, adminOnly_or, carried_keep, keyPromote_keep, ite_self, implies_true]

theorem keyGenerate_keep (a0) (s : State) : (keyGenerate a0 s).keepFrom s = s.keep := by
  unfold keyGenerate
  simp only [noteMod_keep, updStore_keep, done_keep, keep_mk, keep_fold]

theorem execKeyGenerate_keep (a0) (s : State) : resKeep (execKeyGenerate a0 s) = some s.keep := by
  unfold execKeyGenerate
  simp only [feljo_keep, adminOnly_or, keyGenerate_keep, ite_self, implies_true]

theorem keySign_keep (a0) (s : State) : (keySign a0 s).keepFrom s = s.keep := by
  unfold keySign
  repeat' (first | simp only [require_keep, fail_keep, done_keep] | split)

theorem execKeySign_keep (a0) (s : State) : resKeep (execKeySign a0 s) = some s.keep := by
  unfold execKeySign
  simp only [feljo_keep, adminOnly_or, keySign_keep, ite_self, implies_true]

theorem keyAttest_keep (a0) (s : State) : (keyAttest a0 s).keepFrom s = s.keep := by
  unfold keyAttest
  repeat' (first | simp only [require_keep, fail_keep, done_keep, ite_from] | split)

theorem execKeyAttest_keep (a0) (s : State) : resKeep (execKeyAttest a0 s) = some s.keep := by
  unfold execKeyAttest
  simp only [feljo_keep, keyAttest_keep, implies_true]

theorem execKeyModeSet_keep (a0) (s : State) : resKeep (execKeyModeSet a0 s) = some s.keep := by
  unfold execKeyModeSet
  simp only [feljo_keep, adminOnly_or, require_keep, noteMod_keep, updKeys_keep, done_keep, ite_self, implies_true]

theorem execKeyLapse_keep (a0) (s : State) : resKeep (execKeyLapse a0 s) = some s.keep := by
  unfold execKeyLapse
  simp only [sendOwn_keep, lapseKey_keep, next_keep, ite_keep, ite_self]

theorem updTime_keep (a0) (s : State) : (updTime a0 s).keep = s.keep := by
  unfold updTime
  simp only [keep_mk, keep_fold]

theorem traceJudge_keep (s : State) : (traceJudge s).keep = s.keep := by
  unfold traceJudge
  simp only [updTime_keep]

theorem setClk_keep (a0) (s : State) : (setClk a0 s).keep = s.keep := by
  unfold setClk
  simp only [traceJudge_keep, updTime_keep, autoRecovery_keep, recJudge_keep, edge_keep, noteMod_keep, ite_keep,
    ite_self]

theorem loseSource_keep (s : State) : (loseSource s).keep = s.keep := by
  unfold loseSource
  repeat' (first | simp only [updTime_keep, setClk_keep] | split)

theorem selectSource_keep (a0 a1) (s : State) : (selectSource a0 a1 s).keep = s.keep := by
  unfold selectSource
  repeat' (first | simp only [updTime_keep, setClk_keep, traceJudge_keep] | split)

theorem dropFar_keep (a0 a1) (s : State) : (dropFar a0 a1 s).keep = s.keep := by
  unfold dropFar
  repeat' (first | simp only [release_keep, txDrop_keep, updSw_keep, setQueue_keep, ite_keep, ite_self]
                 | split
                 | (refine Eq.trans (foldl_keep _ _ ?_ _) ?_; (intro _ _)))

theorem stepLaunches_keep (s : State) : (stepLaunches s).keep = s.keep := by
  unfold stepLaunches
  simp only [txDrop_keep, updSw_keep, dropFar_keep, foldl_keep, implies_true]

theorem stepPhc_keep (a0) (s : State) : (stepPhc a0 s).keep = s.keep := by
  unfold stepPhc
  simp only [updTime_keep, edge_keep, noteMod_keep, stepLaunches_keep, svTimeStep_keep]

theorem servo_keep (s : State) : (servo s).keep = s.keep := by
  unfold servo
  simp only [updTime_keep, keep_mk, keep_fold]

theorem measure_keep (a0) (s : State) : (measure a0 s).keep = s.keep := by
  unfold measure
  simp only [updTime_keep, setClk_keep, servo_keep, stepPhc_keep, ite_keep, ite_self]

theorem ptpSend_keep (a0 a1) (s : State) : (ptpSend a0 a1 s).keep = s.keep := by
  unfold ptpSend
  simp only [handInMgt_keep]

theorem bmca_keep (s : State) : (bmca s).keep = s.keep := by
  unfold bmca
  repeat' (first | simp only [updPort_keep, updTime_keep, traceJudge_keep, selectSource_keep, loseSource_keep,
                     foldl_keep, ite_keep, ite_self, implies_true]
                 | split)

theorem updPwr_keep (a0) (s : State) : (updPwr a0 s).keep = s.keep := by
  unfold updPwr
  simp only [keep_mk, keep_fold]

theorem updMet_keep (a0) (s : State) : (updMet a0 s).keep = s.keep := by
  unfold updMet
  simp only [keep_mk, keep_fold]

theorem updUpd_keep (f : Upd → Upd) (s : State) (h : ∀ u, (f u).minSvn = u.minSvn) : (updUpd f s).keep = s.keep := by
  simp only [updUpd, keep_mk, h, keep_fold]

theorem updChr_keep (a0) (s : State) : (updChr a0 s).keep = s.keep := by
  unfold updChr
  simp only [keep_mk, keep_fold]

theorem persist_keep (s : State) : (persist s).keep = s.keep := by
  unfold persist
  simp only [updMet_keep]

theorem restoreCounters_keep (s : State) : (restoreCounters s).keep = s.keep := by
  unfold restoreCounters
  repeat' (first | simp only [updMet_keep] | split)

theorem nonVolatile_keep (s : State) : (nonVolatile s).keep = s.keep := by
  unfold nonVolatile
  simp only [keep_mk, keep_fold]

theorem coldStart_keep (s : State) : (coldStart s).keep = s.keep := by
  unfold coldStart
  simp only [nonVolatile_keep]

theorem powerOff_keep (a0) (s : State) : (powerOff a0 s).keep = s.keep := by
  unfold powerOff
  simp only [nonVolatile_keep, keep_mk, keep_fold]

theorem softReset_keep (s : State) : (softReset s).keep = s.keep := by
  unfold softReset
  simp only [nonVolatile_keep, noteMod_keep, keep_mk, keep_fold]

theorem setPhaseTo_keep (a0) (s : State) : (setPhaseTo a0 s).keep = s.keep := by
  unfold setPhaseTo
  simp only [updPwr_keep]

theorem bootFailed_keep (s : State) : (bootFailed s).keep = s.keep := by
  unfold bootFailed
  simp only [enterHalted_keep, updPwr_keep]

theorem writeRec_keep (a0) (s : State) : (writeRec a0 s).keep = s.keep := by
  unfold writeRec
  simp only [updUpd_keep, implies_true]

theorem emptyLoading_keep (a0) (s : State) : (emptyLoading a0 s).keep = s.keep := by
  unfold emptyLoading
  repeat' (first | simp only [noteMod_keep, writeRec_keep, updUpd_keep, ite_keep, implies_true] | split)

theorem convertStore_keep (s : State) : (convertStore s).keep = s.keep := by
  unfold convertStore
  simp only [keep_mk, keep_fold, ite_keep, ite_self]

theorem setPfw_keep (a0) (s : State) : (setPfw a0 s).keep = s.keep := by
  unfold setPfw
  simp only [updPwr_keep]

theorem pipelineOff_keep (s : State) : (pipelineOff s).keep = s.keep := by
  unfold pipelineOff
  simp only [keep_mk, keep_fold]

theorem holdAll_keep (s : State) : (holdAll s).keep = s.keep := by
  unfold holdAll
  simp only [updInst_keep, changeInst_keep, stopPubs_keep, foldl_keep, ite_keep, ite_self, implies_true]

theorem stopAlarmPub_keep (s : State) : (stopAlarmPub s).keep = s.keep := by
  unfold stopAlarmPub
  simp only [keep_mk, keep_fold]

theorem pcieOff_keep (s : State) : (pcieOff s).keep = s.keep := by
  unfold pcieOff
  simp only [cancelCmd_keep, keep_mk, keep_fold, foldl_keep, implies_true]

theorem readMeters_keep (s : State) : (readMeters s).keep = s.keep := by
  unfold readMeters
  simp only [keep_mk, keep_fold]

theorem putBank_keep (a0 a1) (s : State) : (putBank a0 a1 s).keep = s.keep := by
  unfold putBank
  repeat' (first | simp only [updUpd_keep, implies_true] | split)

theorem setOther_keep (a0 a1) (s : State) : (setOther a0 a1 s).keep = s.keep := by
  unfold setOther
  simp only [putBank_keep, writeRec_keep]

theorem execUpdateStatusGet_keep (a0) (s : State) : resKeep (execUpdateStatusGet a0 s) = some s.keep := by
  unfold execUpdateStatusGet
  simp only [feljo_keep, adminOnly_or, notBoot_or, done_keep, ite_self, implies_true]

theorem recordFree_keep (s : State) (k : Ans) (t : State) (h : k.keepFrom t = t.keep) : (recordFree s k).keepFrom t =
  t.keep := by
  unfold recordFree
  simp only [require_keep, h, ite_self]

theorem updateBegin_keep (a0) (s : State) : (updateBegin a0 s).keepFrom s = s.keep := by
  unfold updateBegin
  simp only [require_keep, setOther_keep, updUpd_keep, done_keep, ite_self, implies_true]

theorem execUpdateDepositBegin_keep (a0) (s : State) : resKeep (execUpdateDepositBegin a0 s) = some s.keep := by
  unfold execUpdateDepositBegin
  simp only [feljo_keep, adminOnly_or, notBoot_or, recordFree_keep, updateBegin_keep, ite_self, implies_true]

theorem execUpdateDepositChunk_keep (a0) (s : State) : resKeep (execUpdateDepositChunk a0 s) = some s.keep := by
  unfold execUpdateDepositChunk
  repeat' (first | simp only [adminOnly_or, notBoot_or, chunkAns_keep, updUpd_keep, ite_self, implies_true]
                 | (apply feljo_keep; (intro _ _))
                 | (apply chunkAns_keep; (intro _ _)))

theorem dropImage_keep (s : State) : (dropImage s).keep = s.keep := by
  unfold dropImage
  simp only [noteMod_keep, setOther_keep, updUpd_keep, implies_true]

theorem updateEnd_keep (s : State) : (updateEnd s).keepFrom s = s.keep := by
  unfold updateEnd
  repeat' (first | simp only [noteMod_keep, setOther_keep, dropImage_keep, updUpd_keep, fail_keep, done_keep,
                     ite_from, ite_self, implies_true]
                 | split)

theorem execUpdateDepositEnd_keep (a0) (s : State) : resKeep (execUpdateDepositEnd a0 s) = some s.keep := by
  unfold execUpdateDepositEnd
  simp only [feljo_keep, adminOnly_or, notBoot_or, recordFree_keep, updateEnd_keep, ite_self, implies_true]

theorem execUpdateDepositAbort_keep (a0) (s : State) : resKeep (execUpdateDepositAbort a0 s) = some s.keep := by
  unfold execUpdateDepositAbort
  simp only [feljo_keep, adminOnly_or, notBoot_or, recordFree_keep, require_keep, dropImage_keep, done_keep,
    ite_self, implies_true]

theorem updateActivate_keep (a0) (s : State) : (updateActivate a0 s).keepFrom s = s.keep := by
  unfold updateActivate
  repeat' (first | simp only [require_keep, noteMod_keep, writeRec_keep, fail_keep, done_keep] | split)

theorem execUpdateActivate_keep (a0) (s : State) : resKeep (execUpdateActivate a0 s) = some s.keep := by
  unfold execUpdateActivate
  simp only [feljo_keep, adminOnly_or, notBoot_or, recordFree_keep, updateActivate_keep, ite_self, implies_true]

theorem execUpdateCancel_keep (a0) (s : State) : resKeep (execUpdateCancel a0 s) = some s.keep := by
  unfold execUpdateCancel
  simp only [feljo_keep, adminOnly_or, notBoot_or, recordFree_keep, require_keep, noteMod_keep, writeRec_keep,
    done_keep, ite_self, implies_true]

theorem execUpdateWindowSet_keep (a0) (s : State) : resKeep (execUpdateWindowSet a0 s) = some s.keep := by
  unfold execUpdateWindowSet
  simp only [feljo_keep, adminOnly_or, notBoot_or, updUpd_keep, done_keep, ite_self, implies_true]

theorem execDepositSessionTimeout_keep (a0) (s : State) : resKeep (execDepositSessionTimeout a0 s) = some s.keep
  := by
  unfold execDepositSessionTimeout
  simp only [dropImage_keep, updKeys_keep, next_keep, ite_keep, ite_self]

theorem execTrialWindowExpiry_keep (s : State) : resKeep (execTrialWindowExpiry s) = some s.keep := by
  unfold execTrialWindowExpiry
  simp only [softReset_keep, next_keep, ite_keep, ite_self]

theorem instReady_keep (s : State) (c : Cmd) (k : Ans) (t : State) (h : k.keepFrom t = t.keep) : (instReady s c
  k).keepFrom t = t.keep := by
  unfold instReady
  simp only [notBootHalted_or, require_keep, h, ite_self]

theorem execInstanceStatusGet_keep (a0) (s : State) : resKeep (execInstanceStatusGet a0 s) = some s.keep := by
  unfold execInstanceStatusGet
  repeat' (first | simp only [done_keep] | (apply feljo_keep; (intro _ _)))

theorem sliceAssign_keep (a0) (s : State) : (sliceAssign a0 s).keepFrom s = s.keep := by
  unfold sliceAssign
  simp only [require_keep, updWin_keep, done_keep, ite_self]

theorem execInstanceSliceAssign_keep (a0) (s : State) : resKeep (execInstanceSliceAssign a0 s) = some s.keep := by
  unfold execInstanceSliceAssign
  simp only [feljo_keep, adminOnly_or, instReady_keep, sliceAssign_keep, ite_self, implies_true]

theorem atuRemove_keep (a0 a1) (s : State) : (atuRemove a0 a1 s).keep = s.keep := by
  unfold atuRemove
  simp only [keep_mk, keep_fold]

theorem execInstanceSliceRelease_keep (a0) (s : State) : resKeep (execInstanceSliceRelease a0 s) = some s.keep := by
  unfold execInstanceSliceRelease
  simp only [feljo_keep, adminOnly_or, instReady_keep, require_keep, atuRemove_keep, updWin_keep, done_keep,
    ite_self, implies_true]

theorem atuMap_keep (a0) (s : State) : (atuMap a0 s).keepFrom s = s.keep := by
  unfold atuMap
  repeat' (first | simp only [require_keep, fail_keep, done_keep, ite_from, keep_mk, keep_fold, ite_self] | split)

theorem execInstanceAtuMap_keep (a0) (s : State) : resKeep (execInstanceAtuMap a0 s) = some s.keep := by
  unfold execInstanceAtuMap
  simp only [feljo_keep, adminOnly_or, instReady_keep, atuMap_keep, ite_self, implies_true]

theorem atuDrop_keep (a0 a1 a2) (s : State) : (atuDrop a0 a1 a2 s).keepFrom s = s.keep := by
  unfold atuDrop
  split <;> simp only [going_keep, done_keep, addWait_keep, atuRemove_keep]

theorem atuUnmap_keep (a0) (s : State) : (atuUnmap a0 s).keepFrom s = s.keep := by
  unfold atuUnmap
  repeat' (first | simp only [atuDrop_keep, atuRemove_keep, require_keep, fail_keep, done_keep, ite_from, ite_self] | split)

theorem execInstanceAtuUnmap_keep (a0) (s : State) : resKeep (execInstanceAtuUnmap a0 s) = some s.keep := by
  unfold execInstanceAtuUnmap
  simp only [feljo_keep, adminOnly_or, instReady_keep, atuUnmap_keep, ite_self, implies_true]

theorem execInstanceShareSet_keep (a0) (s : State) : resKeep (execInstanceShareSet a0 s) = some s.keep := by
  unfold execInstanceShareSet
  simp only [feljo_keep, adminOnly_or, instReady_keep, updWin_keep, done_keep, ite_self, implies_true]

theorem configSet_keep (a0) (s : State) : (configSet a0 s).keepFrom s = s.keep := by
  unfold configSet
  repeat' (first | simp only [updInst_keep, changeInst_keep, withPairs_keep, fail_keep, ite_from, ite_keep, ite_self]
                 | (apply withPairs_keep)
                 | split)

theorem execInstanceConfigSet_keep (a0) (s : State) : resKeep (execInstanceConfigSet a0 s) = some s.keep := by
  unfold execInstanceConfigSet
  repeat' (first | simp only [instReady_keep, carried_keep, configSet_keep, implies_true]
                 | (apply feljo_keep; (intro _ _))
                 | (apply instReady_keep)
                 | (apply carried_keep; (intro _ _)))

theorem execInstanceConfigGet_keep (a0) (s : State) : resKeep (execInstanceConfigGet a0 s) = some s.keep := by
  unfold execInstanceConfigGet
  repeat' (first | simp only [done_keep] | (apply feljo_keep; (intro _ _)) | (apply instReady_keep))

theorem instHold_keep (a0) (s : State) : (instHold a0 s).keepFrom s = s.keep := by
  unfold instHold
  simp only [dropRestart_keep, require_keep, updInst_keep, dropExch_keep, fail_keep, wait_keep, done_keep, ite_from,
    ite_self]

theorem execInstanceHold_keep (a0) (s : State) : resKeep (execInstanceHold a0 s) = some s.keep := by
  unfold execInstanceHold
  repeat' (first | simp only [instReady_keep, carried_keep, instHold_keep, implies_true]
                 | (apply feljo_keep; (intro _ _))
                 | (apply instReady_keep)
                 | (apply carried_keep; (intro _ _)))

theorem startWait_keep (a0 a1 a2 a3 a4) (s : State) : (startWait a0 a1 a2 a3 a4 s).keep =
  s.keep := by
  unfold startWait
  simp only [updInst_keep]

theorem instRestart_keep (a0) (s : State) : (instRestart a0 s).keepFrom s = s.keep := by
  unfold instRestart
  repeat' (first | simp only [startWait_keep, require_keep, fail_keep, wait_keep, ite_from, ite_self] | split)

theorem execInstanceRestart_keep (a0) (s : State) : resKeep (execInstanceRestart a0 s) = some s.keep := by
  unfold execInstanceRestart
  repeat' (first | simp only [instReady_keep, carried_keep, instRestart_keep, implies_true]
                 | (apply feljo_keep; (intro _ _))
                 | (apply instReady_keep)
                 | (apply carried_keep; (intro _ _)))

theorem instThaw_keep (a0) (s : State) : (instThaw a0 s).keepFrom s = s.keep := by
  unfold instThaw
  simp only [startWait_keep, fail_keep, wait_keep, ite_from, ite_self]

theorem execInstanceThaw_keep (a0) (s : State) : resKeep (execInstanceThaw a0 s) = some s.keep := by
  unfold execInstanceThaw
  repeat' (first | simp only [adminOnly_or, instReady_keep, carried_keep, instThaw_keep, ite_self, implies_true]
                 | (apply feljo_keep; (intro _ _))
                 | (apply instReady_keep)
                 | (apply carried_keep; (intro _ _)))

theorem instReset_keep (a0) (s : State) : (instReset a0 s).keepFrom s = s.keep := by
  unfold instReset
  simp only [resetInst_keep, fail_keep, going_keep, ite_from, ite_self]

theorem execInstanceReset_keep (a0) (s : State) : resKeep (execInstanceReset a0 s) = some s.keep := by
  unfold execInstanceReset
  repeat' (first | simp only [adminOnly_or, instReady_keep, carried_keep, instReset_keep, ite_self, implies_true]
                 | (apply feljo_keep; (intro _ _))
                 | (apply instReady_keep)
                 | (apply carried_keep; (intro _ _)))

theorem instFreeze_keep (a0) (s : State) : (instFreeze a0 s).keepFrom s = s.keep := by
  unfold instFreeze
  simp only [updInst_keep, dropExch_keep, fail_keep, wait_keep, ite_from, ite_self]

theorem execInstanceFreeze_keep (a0) (s : State) : resKeep (execInstanceFreeze a0 s) = some s.keep := by
  unfold execInstanceFreeze
  repeat' (first | simp only [adminOnly_or, instReady_keep, carried_keep, instFreeze_keep, ite_self, implies_true]
                 | (apply feljo_keep; (intro _ _))
                 | (apply instReady_keep)
                 | (apply carried_keep; (intro _ _)))

theorem instSave_keep (a0) (s : State) : (instSave a0 s).keepFrom s = s.keep := by
  unfold instSave
  repeat' (first | simp only [stopPubs_keep, updInst_keep, fail_keep, done_keep, ite_from, ite_keep, ite_self] | split)

theorem execInstanceSave_keep (a0) (s : State) : resKeep (execInstanceSave a0 s) = some s.keep := by
  unfold execInstanceSave
  repeat' (first | simp only [adminOnly_or, instReady_keep, carried_keep, instSave_keep, ite_self, implies_true]
                 | (apply feljo_keep; (intro _ _))
                 | (apply instReady_keep)
                 | (apply carried_keep; (intro _ _)))

theorem instRestore_keep (a0) (s : State) : (instRestore a0 s).keepFrom s = s.keep := by
  unfold instRestore
  repeat' (first | simp only [startWait_keep, fail_keep, wait_keep, ite_from] | split)

theorem execInstanceRestore_keep (a0) (s : State) : resKeep (execInstanceRestore a0 s) = some s.keep := by
  unfold execInstanceRestore
  repeat' (first | simp only [adminOnly_or, instReady_keep, carried_keep, instRestore_keep, ite_self, implies_true]
                 | (apply feljo_keep; (intro _ _))
                 | (apply instReady_keep)
                 | (apply carried_keep; (intro _ _)))

theorem execInstanceRestartBoundary_keep (a0) (s : State) : resKeep (execInstanceRestartBoundary a0 s) = some
  s.keep := by
  unfold execInstanceRestartBoundary
  repeat' (first | simp only [subSimEnd_keep, simEnd_keep, restartBoundary_keep, next_keep] | split)

theorem execFreezeBoundary_keep (a0) (s : State) : resKeep (execFreezeBoundary a0 s) = some s.keep := by
  unfold execFreezeBoundary
  repeat' (first | simp only [svcDrop_keep, freezeInst_keep, next_keep] | split)

theorem execInstanceResetDiscard_keep (a0) (s : State) : resKeep (execInstanceResetDiscard a0 s) = some s.keep := by
  unfold execInstanceResetDiscard
  repeat' (first | simp only [discardWaiting_keep, next_keep, ite_keep, ite_self] | split)

theorem execInstanceResetComplete_keep (a0) (s : State) : resKeep (execInstanceResetComplete a0 s) = some s.keep
  := by
  unfold execInstanceResetComplete
  repeat' (first | simp only [simEnd_keep, resetEnd_keep, next_keep] | split)

theorem carriedBody_keep (op : Nat) (c : Cmd) (s : State) : (carriedBody op c s).keepFrom s = s.keep := by
  unfold carriedBody
  split <;> simp only [recoveryStart_keep, lapseKey_keep, serviceSet_keep, configSet_keep, instHold_keep,
    instRestart_keep, instReset_keep, instFreeze_keep, instSave_keep, instRestore_keep, instThaw_keep,
    domainSet_keep, domainHold_keep, domainRestart_keep, loopHold_keep, spareSet_keep, spareHold_keep,
    streamSubscribe_keep, streamUnsubscribe_keep, streamSet_keep, streamHold_keep, streamRestart_keep,
    simReset_keep, channelSet_keep, resync_keep, detectorSet_keep, setLoad_keep, paramSet_keep, programLoad_keep,
    controlWrite_keep, forceSet_keep, forceClear_keep, pubSet_keep, pubRelease_keep, subSet_keep, gooseClear_keep,
    outSet_keep, outTest_keep, keyPromote_keep, done_keep]

theorem waitsOn_keep (a0) (s : State) : (waitsOn a0 s).keep = s.keep := by
  unfold waitsOn
  simp only [updCmds_keep]

theorem settleCarried_keep (k : Carried) (c : Cmd) (s : State) (a : Ans) (h : a.keepFrom s = s.keep) :
    (settleCarried k c s a).keep = s.keep := by
  unfold settleCarried
  cases a with
  | fail r => simp only; split <;> simp only [reply_keep]
  | wait t => simp only; split <;> simp only [waitsOn_keep, show t.keep = s.keep from h]
  | going t => exact h
  | done t r =>
    simp only
    split
    · exact settle_keep c s _ h
    · exact h

theorem runCarried_keep (k : Carried) (s : State) : (runCarried k s).keep = s.keep := by
  have h : ∀ c t, (settleCarried k c t (carriedBody k.op c t)).keep = t.keep := fun c t =>
    settleCarried_keep k c t _ (carriedBody_keep _ _ _)
  unfold runCarried
  simp only [dropWaits_keep, updTdm_keep, linkSend_keep,
    ite_keep, ite_self,
    h]

theorem runDue_keep (a0) (s : State) : (runDue a0 s).keep = s.keep := by
  unfold runDue
  simp only [runCarried_keep, foldl_keep, implies_true]

theorem runBallotDue_keep (a0) (s : State) : (runBallotDue a0 s).keep = s.keep := by
  unfold runBallotDue
  simp only [runDue_keep]

theorem runStepDue_keep (a0 a1) (s : State) : (runStepDue a0 a1 s).keep = s.keep := by
  unfold runStepDue
  simp only [runDue_keep]

theorem runGridDue_keep (a0 a1) (s : State) : (runGridDue a0 a1 s).keep = s.keep := by
  unfold runGridDue
  simp only [runDue_keep]

theorem refHello_keep (s : State) : (refHello s).keep = s.keep := by
  unfold refHello
  simp only [refSend_keep, updTdm_keep]

theorem toDetached_keep (a0) (s : State) : (toDetached a0 s).keep = s.keep := by
  unfold toDetached
  simp only [refHello_keep, setRole_keep]

theorem resyncFail_keep (s : State) : (resyncFail s).keep = s.keep := by
  unfold resyncFail
  simp only [noteMod_keep, openError_keep, updTdm_keep, closeError_keep, setRole_keep, ite_keep, ite_self]

theorem disagree_keep (s : State) : (disagree s).keep = s.keep := by
  unfold disagree
  simp only [noteMod_keep, openError_keep, tdmCount_keep, withNtf_keep, updTdm_keep, setAlarm_keep, refSend_keep,
    setRole_keep, ite_keep, ite_self, implies_true]

theorem differ_keep (s : State) : (differ s).keep = s.keep := by
  unfold differ
  simp only [resyncFail_keep, disagree_keep, ite_keep, ite_self]

theorem compareSteps_keep (s : State) : (compareSteps s).keep = s.keep := by
  unfold compareSteps
  simp only [updTdm_keep, differ_keep, ite_keep, ite_self]

theorem compareSweeps_keep (s : State) : (compareSweeps s).keep = s.keep := by
  unfold compareSweeps
  simp only [updTdm_keep, differ_keep, ite_keep, ite_self]

theorem updInput_keep (a0 a1) (s : State) : (updInput a0 a1 s).keep = s.keep := by
  unfold updInput
  simp only [updTdm_keep]

theorem learnInput_keep (a0) (s : State) : (learnInput a0 s).keep = s.keep := by
  unfold learnInput
  simp only [updTdm_keep, ite_keep, ite_self]

theorem applyGoose_keep (a0 a1 a2 a3) (s : State) : (applyGoose a0 a1 a2 a3 s).keep = s.keep := by
  unfold applyGoose
  simp only [watchSub_keep, subApply_keep, implies_true]

theorem talOut_keep (a0 a1) (s : State) : (talOut a0 a1 s).keep = s.keep := by
  unfold talOut
  repeat' (first | simp only [watchSub_keep, setValid_keep, ite_keep, ite_self, implies_true] | split)

theorem applyData_keep (a0 a1) (s : State) : (applyData a0 a1 s).keep = s.keep := by
  unfold applyData
  repeat' (first | simp only [placeAsdu_keep, applyGoose_keep] | split)

theorem applyMissing_keep (a0) (s : State) : (applyMissing a0 s).keep = s.keep := by
  unfold applyMissing
  repeat' (first | simp only [declareMissing_keep, ite_keep, ite_self] | split)

theorem settleInput_keep (a0 a1 a2) (s : State) : (settleInput a0 a1 a2 s).keep = s.keep := by
  unfold settleInput
  repeat' (first | simp only [tdmCount_keep, updInput_keep, linkSend_keep, applyData_keep, applyMissing_keep,
                     ite_keep, ite_self]
                 | split)

theorem chairJudge_keep (a0) (s : State) : (chairJudge a0 s).keep = s.keep := by
  unfold chairJudge
  repeat' (first | simp only [settleInput_keep, tdmCount_keep, ite_keep, ite_self] | split)

theorem countDup_keep (a0) (s : State) : (countDup a0 s).keep = s.keep := by
  unfold countDup
  repeat' (first | simp only [strCount_keep] | split)

theorem offer_keep (a0 a1) (s : State) : (offer a0 a1 s).keep = s.keep := by
  unfold offer
  repeat' (first | simp only [applyData_keep, learnInput_keep, countDup_keep, updInput_keep, settleInput_keep,
                     linkSend_keep, chairJudge_keep, ite_keep, ite_self]
                 | split)

theorem offerMissing_keep (a0) (s : State) : (offerMissing a0 s).keep = s.keep := by
  unfold offerMissing
  repeat' (first | simp only [applyMissing_keep, learnInput_keep, updInput_keep, linkSend_keep, ite_keep, ite_self]
                 | split)

theorem settleRest_keep (a0) (s : State) : (settleRest a0 s).keep = s.keep := by
  unfold settleRest
  repeat' (first | simp only [settleInput_keep] | split | (refine Eq.trans (foldl_keep _ _ ?_ _) ?_; (intro _ _)))

theorem expireTals_keep (s : State) : (expireTals s).keep = s.keep := by
  unfold expireTals
  simp only [talOut_keep, foldl_keep, implies_true]

theorem abortSwitch_keep (a0) (s : State) : (abortSwitch a0 s).keep = s.keep := by
  unfold abortSwitch
  simp only [finishWaits_keep, refSend_keep, updTdm_keep]

theorem closeRoles_keep (a0) (s : State) : (closeRoles a0 s).keep = s.keep := by
  unfold closeRoles
  repeat' (first | simp only [setRole_keep, updTdm_keep, abortSwitch_keep, finishWaits_keep, ite_keep, ite_self]
                 | split)

theorem closeBallot_keep (a0 a1) (s : State) : (closeBallot a0 a1 s).keep = s.keep := by
  unfold closeBallot
  simp only [updTdm_keep, closeRoles_keep, expireTals_keep, runBallotDue_keep]

theorem closeNext_keep (s : State) : (closeNext s).keep = s.keep := by
  unfold closeNext
  simp only [settleRest_keep, closeBallot_keep, linkSend_keep, ite_keep, ite_self]

theorem catchUp_keep (n : Nat) (s : State) : (catchUp n s).keep = s.keep := by
  induction n generalizing s with
  | zero => simp only [catchUp]
  | succ n ih =>
    simp only [catchUp]
    repeat' (first | simp only [ih, closeNext_keep,
                       ite_keep, ite_self]
                   | split)

theorem linkDie_keep (a0) (s : State) : (linkDie a0 s).keep = s.keep := by
  unfold linkDie
  simp only [tdmCount_keep, updTdm_keep, toDetached_keep, resyncFail_keep, catchUp_keep, refSend_keep, keep_mk,
    keep_fold, ite_keep, ite_self]

theorem pubUnlocked_keep (a0 a1) (s : State) : (pubUnlocked a0 a1 s).keep = s.keep := by
  unfold pubUnlocked
  simp only [updInst_keep]

theorem pubStart_keep (a0 a1 a2 a3) (s : State) : (pubStart a0 a1 a2 a3 s).keep = s.keep := by
  unfold pubStart
  repeat' (first | simp only [launchPub_keep, pubUnlocked_keep, putPub_keep, ite_keep, ite_self] | split)

theorem handPub_keep (a0 a1 a2 a3) (s : State) : (handPub a0 a1 a2 a3 s).keep = s.keep := by
  unfold handPub
  repeat' (first | simp only [putPub_keep, pubStart_keep, ite_keep, ite_self] | split)

theorem handPubs_keep (a0 a1) (s : State) : (handPubs a0 a1 s).keep = s.keep := by
  unfold handPubs
  simp only [handPub_keep, foldl_keep, ite_keep, ite_self, implies_true]

theorem repeatPub_keep (a0 a1 a2 a3) (s : State) : (repeatPub a0 a1 a2 a3 s).keep = s.keep := by
  unfold repeatPub
  simp only [sendPub_keep, putPub_keep]

theorem resendPub_keep (a0 a1 a2) (s : State) : (resendPub a0 a1 a2 s).keep = s.keep := by
  unfold resendPub
  simp only [sendPub_keep, putPub_keep]

theorem pubLaunch_keep (a0 a1) (s : State) : (pubLaunch a0 a1 s).keep = s.keep := by
  unfold pubLaunch
  repeat' (first | simp only [pubUnlocked_keep, launchPub_keep, updInst_keep, putPub_keep, ite_keep, ite_self] | split)

theorem execGooseLaunch_keep (a0 a1) (s : State) : resKeep (execGooseLaunch a0 a1 s) = some s.keep := by
  unfold execGooseLaunch
  simp only [pubLaunch_keep, next_keep]

theorem execGooseRetransmit_keep (a0 a1) (s : State) : resKeep (execGooseRetransmit a0 a1 s) = some s.keep
  := by
  unfold execGooseRetransmit
  repeat' (first | simp only [sendPub_keep, repeatPub_keep, next_keep, keep_mk, keep_fold, ite_keep, ite_self] | split)

theorem switchExch_keep (a0 a1) (s : State) : (switchExch a0 a1 s).keep = s.keep := by
  unfold switchExch
  simp only [noteMod_keep, updLogic_keep, replyTo_keep, foldl_keep, implies_true]

theorem switchAll_keep (a0) (s : State) : (switchAll a0 s).keep = s.keep := by
  unfold switchAll
  repeat' (first | simp only [switchExch_keep, ite_keep, ite_self]
                 | split
                 | (refine Eq.trans (foldl_keep _ _ ?_ _) ?_; (intro _ _)))

theorem logicEvents_keep (a0 a1 a2) (s : State) : (logicEvents a0 a1 a2 s).keep = s.keep := by
  unfold logicEvents
  simp only [offerEvent_keep, foldl_keep, ite_keep, ite_self, implies_true]

theorem handInst_keep (a0 a1) (s : State) : (handInst a0 a1 s).keep = s.keep := by
  unfold handInst
  simp only [updLogic_keep, handOut_keep, logicEvents_keep, edge_keep, handPubs_keep, foldl_keep, ite_keep,
    ite_self, implies_true]

theorem driveTrigOut_keep (s : State) : (driveTrigOut s).keep = s.keep := by
  unfold driveTrigOut
  simp only [keep_mk, keep_fold]

theorem promote_keep (s : State) : (promote s).keep = s.keep := by
  unfold promote
  simp only [updTdm_keep, refreshOut_keep, updOut_keep, resendPub_keep, foldl_keep, ite_keep, ite_self, implies_true]

theorem sweepWith_keep (a0 a1 a2) (s : State) : (sweepWith a0 a1 a2 s).keep = s.keep := by
  unfold sweepWith
  simp only [switchAll_keep, handInst_keep, promote_keep, driveTrigOut_keep, keep_mk, keep_fold, foldl_keep,
    ite_keep, ite_self, implies_true]

theorem sweepBallot_keep (a0) (s : State) : (sweepBallot a0 s).keep = s.keep := by
  unfold sweepBallot
  simp only [updTdm_keep, sweepWith_keep, compareSweeps_keep]

theorem execLogicSweep_keep (s : State) : resKeep (execLogicSweep s) = some s.keep := by
  unfold execLogicSweep
  repeat' (first | simp only [sweepWith_keep, sweepBallot_keep, next_keep, ite_keep, ite_self] | split)

theorem putPair_keep (a0) (s : State) : (putPair a0 s).keep = s.keep := by
  unfold putPair
  simp only [mapPairs_keep]

theorem trackAll_keep (a0) (s : State) : (trackAll a0 s).keep = s.keep := by
  unfold trackAll
  simp only [trackRun_keep, runGridDue_keep]

theorem execGridSampleProduce_keep (a0 a1) (s : State) : resKeep (execGridSampleProduce a0 a1 s) = some
  s.keep := by
  unfold execGridSampleProduce
  repeat' (first | simp only [trackAll_keep, runDets_keep, putPair_keep, next_keep] | split)

theorem writeDets_keep (a0) (s : State) : (writeDets a0 s).keep = s.keep := by
  unfold writeDets
  simp only [updLogic_keep]

theorem atBoundary_keep (a0 a1) (s : State) : (atBoundary a0 a1 s).keep = s.keep := by
  unfold atBoundary
  simp only [svcBoundary_keep, writeDets_keep, runStepDue_keep, foldl_keep, implies_true]

theorem execStepDispatch_keep (a0) (s : State) : resKeep (execStepDispatch a0 s) = some s.keep := by
  unfold execStepDispatch
  repeat' (first | simp only [atBoundary_keep, dispatchStep_keep, next_keep, ite_keep, ite_self] | split)

theorem digestStep_keep (a0 a1 a2) (s : State) : (digestStep a0 a1 a2 s).keep = s.keep := by
  unfold digestStep
  simp only [compareSteps_keep, linkSend_keep, updTdm_keep, keep_mk, keep_fold, ite_keep, ite_self]

theorem markFreezes_keep (a0 a1) (s : State) : (markFreezes a0 a1 s).keep = s.keep := by
  unfold markFreezes
  simp only [keep_mk, keep_fold]

theorem closeStep_keep (a0 a1) (s : State) : (closeStep a0 a1 s).keep = s.keep := by
  unfold closeStep
  simp only [digestStep_keep, retireLanes_keep, commitStep_keep, updDom_keep, updLanes_keep, closeHolds_keep,
    markFreezes_keep, svcDrop_keep, foldl_keep, implies_true]

theorem execStepClose_keep (a0) (s : State) : resKeep (execStepClose a0 s) = some s.keep := by
  unfold execStepClose
  repeat' (first | simp only [closeStep_keep, updDom_keep, next_keep, ite_keep, ite_self] | split)

theorem execStepDeadline_keep (a0) (s : State) : resKeep (execStepDeadline a0 s) = some s.keep := by
  unfold execStepDeadline
  repeat' (first | simp only [closeStep_keep, next_keep, ite_keep, ite_self] | split)

theorem updSig_keep (a0) (s : State) : (updSig a0 s).keep = s.keep := by
  unfold updSig
  simp only [keep_mk, keep_fold]

theorem updX3_keep (a0) (s : State) : (updX3 a0 s).keep = s.keep := by
  unfold updX3
  simp only [updSig_keep]

theorem ntfClaim_keep (n v : Nat) (s : State) : (ntfClaim n v s).2.keep = s.keep := by
  unfold ntfClaim
  split <;> simp only [updNtf_keep]

theorem ntfComplete_keep (a0 a1) (s : State) : (ntfComplete a0 a1 s).keep = s.keep := by
  unfold ntfComplete
  simp only [updNtf_keep, ntfDue_keep, ite_keep, ite_self]

theorem ntfExpire_keep (a0 a1) (s : State) : (ntfExpire a0 a1 s).keep = s.keep := by
  unfold ntfExpire
  repeat' (first | simp only [ntfSend_keep, updNtf_keep, ite_keep, ite_self] | split)

theorem x3Edge_keep (a0 a1 a2) (s : State) : (x3Edge a0 a1 a2 s).keep = s.keep := by
  unfold x3Edge
  simp only [updX3_keep, offerEvent_keep, discJudge_keep, ite_keep, ite_self]

theorem x3Latch_keep (a0 a1) (s : State) : (x3Latch a0 a1 s).keep = s.keep := by
  unfold x3Latch
  simp only [updX3_keep]

theorem deviceFailed_keep (a0) (s : State) : (deviceFailed a0 s).keep = s.keep := by
  unfold deviceFailed
  simp only [updChr_keep, noteMod_keep, openError_keep, closeError_keep, setAlarm_keep, ite_keep, ite_self]

theorem droppedNote_keep (s : State) : (droppedNote s).keep = s.keep := by
  unfold droppedNote
  simp only [noteMod_keep, updChr_keep, ite_keep, ite_self]

theorem chrStep_keep (a0 a1) (s : State) : (chrStep a0 a1 s).keep = s.keep := by
  unfold chrStep
  repeat' (first | simp only [deviceFailed_keep, updChr_keep, droppedNote_keep, closeError_keep, ite_keep, ite_self]
                 | split)

theorem loadPort_keep (a0 a1) (s : State) : (loadPort a0 a1 s).keep = s.keep := by
  unfold loadPort
  simp only [updPort_keep]

theorem loadProg_keep (a0) (s : State) : (loadProg a0 s).keep = s.keep := by
  unfold loadProg
  repeat' (first | simp only [updLogic_keep] | split)

theorem loadAll_keep (a0) (s : State) : (loadAll a0 s).keep = s.keep := by
  unfold loadAll
  simp only [loadPort_keep, loadProg_keep, keep_mk, keep_fold, foldl_keep, implies_true]

theorem resetShelves_keep (s : State) : (resetShelves s).keep = s.keep := by
  unfold resetShelves
  simp only [updPort_keep, updSw_keep, foldl_keep, implies_true]

theorem emptySet_keep (a0 a1) (s : State) : (emptySet a0 a1 s).keep = s.keep := by
  unfold emptySet
  simp only [noteMod_keep, updDom_keep, ite_keep, ite_self]

theorem judgeLoaded_keep (s : State) : (judgeLoaded s).keep = s.keep := by
  unfold judgeLoaded
  simp only [noteMod_keep, resetShelves_keep, emptySet_keep, foldl_keep, ite_keep, ite_self, implies_true]

theorem dropUnsealed_keep (s : State) : (dropUnsealed s).keep = s.keep := by
  unfold dropUnsealed
  simp only [keep_mk, keep_fold, ite_keep, ite_self]

theorem enterHeld_keep (a0) (s : State) : (enterHeld a0 s).keep = s.keep := by
  unfold enterHeld
  simp only [edge_keep, noteAs_keep, ite_keep, ite_self]

theorem loadSettings_keep (s : State) : (loadSettings s).keep = s.keep := by
  unfold loadSettings
  repeat' (first | simp only [judgeLoaded_keep, dropUnsealed_keep, loadAll_keep, enterHeld_keep, setPhaseTo_keep,
                     syncPairs_keep, keep_mk, keep_fold, foldl_keep, implies_true]
                 | split)

theorem execSettingsLoaded_keep (s : State) : resKeep (execSettingsLoaded s) = some s.keep := by
  unfold execSettingsLoaded
  simp only [loadSettings_keep, next_keep, ite_keep, ite_self]

theorem startX3_keep (s : State) : (startX3 s).keep = s.keep := by
  unfold startX3
  simp only [noteMod_keep, updX3_keep, discJudge_keep, foldl_keep, ite_keep, ite_self, implies_true]

theorem startGrids_keep (s : State) : (startGrids s).keep = s.keep := by
  unfold startGrids
  simp only [updDom_keep, foldl_keep, implies_true]

theorem startOne_keep (n : Nat) (x : State × State) : (startOne n x).1.keep = x.1.keep := by
  unfold startOne
  repeat' (first | simp only [updInst_keep, noteMod_keep,

                     updInst_keep, noteMod_keep]
                 | split)

theorem startEach_keep (l : List Nat) (x : State × State) : (l.foldl (fun st n => startOne n st) x).1.keep = x.1.keep := by
  induction l generalizing x with
  | nil => rfl
  | cons n l ih => rw [List.foldl_cons, ih, startOne_keep]

theorem startInsts_keep (s : State) : (startInsts s).keep = s.keep := by
  exact startEach_keep _ _

theorem startRecs_keep (s : State) : (startRecs s).keep = s.keep := by
  unfold startRecs
  repeat' (first | simp only [ite_keep]
                 | (refine Eq.trans (armRec_keep (by assumption)) ?_)
                 | split
                 | (refine Eq.trans (foldl_keep _ _ ?_ _) ?_; (intro _ _)))

theorem startTandem_keep (s : State) : (startTandem s).keep = s.keep := by
  unfold startTandem
  simp only [toDetached_keep, updTdm_keep, keep_mk, keep_fold, ite_keep, ite_self]

theorem leaveBoot_keep (s : State) : (leaveBoot s).keep = s.keep := by
  unfold leaveBoot
  simp only [noteMod_keep, svcOthers_keep, svcCommit_keep, foldl_keep, ite_keep, ite_self, implies_true]

theorem startTrial_keep (s : State) : (startTrial s).keep = s.keep := by
  unfold startTrial
  simp only [updUpd_keep, ite_keep, ite_self, implies_true]

theorem startPipeline_keep (s : State) : (startPipeline s).keep = s.keep := by
  unfold startPipeline
  simp only [startX3_keep, startGrids_keep, setPhaseTo_keep, startTrial_keep, startTandem_keep, startRecs_keep,
    startInsts_keep, autoRecovery_keep, alarmPubJudge_keep, leaveBoot_keep, syncPairs_keep]

theorem execPipelineStart_keep (s : State) : resKeep (execPipelineStart s) = some s.keep := by
  unfold execPipelineStart
  simp only [startPipeline_keep, next_keep, ite_keep, ite_self]

theorem takeTsq_keep {p h : Nat} {s t : State} {b : Bool} (h : takeTsq p h s = (b, t)) : t.keep = s.keep := by
  unfold takeTsq at h
  repeat' (first | (cases h; done)
                 | (simp only [Prod.mk.injEq] at h)
                 | split at h
                 | (obtain ⟨rfl, rfl, rfl⟩ := h)
                 | (obtain ⟨rfl, rfl⟩ := h)
                 | subst h
                 | simp only [updPort_keep, updTime_keep])

theorem takeTsq_keeps (p h : Nat) (s : State) : (takeTsq p h s).2.keep = s.keep := takeTsq_keep rfl

theorem ownEvent_keep {p : Nat} {m m' : PtpMsg} {x : Nat} {s t : State} (h : ownEvent p m x s = (m', t)) : t.keep =
  s.keep := by
  unfold ownEvent at h
  repeat' (first | (cases h; done)
                 | (simp only [Prod.mk.injEq] at h)
                 | split at h
                 | (obtain ⟨rfl, rfl, rfl⟩ := h)
                 | (obtain ⟨rfl, rfl⟩ := h)
                 | subst h
                 | (refine Eq.trans (takeTsq_keep (by assumption)) ?_)
                 | simp only [ptpSend_keep, updPort_keep,

                     takeTsq_keeps])

theorem ownEvent_keeps (p : Nat) (m : PtpMsg) (x : Nat) (s : State) : (ownEvent p m x s).2.keep = s.keep :=
  ownEvent_keep rfl

theorem forwardedEvent_keep {p : Nat} {q : Copy} {m m' : PtpMsg} {x : Nat} {s t : State} (h : forwardedEvent p q m x s
  = (m', t)) : t.keep = s.keep := by
  unfold forwardedEvent at h
  repeat' (first | (cases h; done)
                 | (simp only [Prod.mk.injEq] at h)
                 | split at h
                 | (obtain ⟨rfl, rfl, rfl⟩ := h)
                 | (obtain ⟨rfl, rfl⟩ := h)
                 | subst h
                 | simp only [updPort_keep])

theorem forwardedEvent_keeps (p : Nat) (q : Copy) (m : PtpMsg) (x : Nat) (s : State) : (forwardedEvent p q m x
  s).2.keep = s.keep := forwardedEvent_keep rfl

theorem ptpLeave_keep {p : Nat} {q : Copy} {x : Nat} {f : Frame} {s t : State} (h : ptpLeave p q x s = (f, t)) :
  t.keep = s.keep := by
  unfold ptpLeave at h
  repeat' (first | (cases h; done)
                 | (simp only [Prod.mk.injEq] at h)
                 | split at h
                 | (obtain ⟨rfl, rfl, rfl⟩ := h)
                 | (obtain ⟨rfl, rfl⟩ := h)
                 | subst h
                 | (refine Eq.trans (forwardedEvent_keep (by assumption)) ?_)
                 | (refine Eq.trans (ownEvent_keep (by assumption)) ?_)
                 | simp only [
                     forwardedEvent_keeps, ownEvent_keeps])

theorem ptpLeave_keeps (p : Nat) (q : Copy) (x : Nat) (s : State) : (ptpLeave p q x s).2.keep = s.keep :=
  ptpLeave_keep rfl

theorem ringStamp_keep (a0 a1 a2) (s : State) : (ringStamp a0 a1 a2 s).keep = s.keep := by
  unfold ringStamp
  repeat' (first | simp only [txAnswer_keep, ite_keep, ite_self, takeTsq_keeps]
                 | (refine Eq.trans (takeTsq_keep (by assumption)) ?_)
                 | split)

theorem occupy_keep (a0 a1 a2) (s : State) : (occupy a0 a1 a2 s).keep = s.keep := by
  unfold occupy
  simp only [count_keep, updPort_keep, ite_keep, ite_self]

theorem countLate_keep (a0 a1) (s : State) : (countLate a0 a1 s).keep = s.keep := by
  unfold countLate
  repeat' (first | simp only [updPort_keep, ite_keep, ite_self] | split)

theorem sendHead_keep (a0 a1) (s : State) : (sendHead a0 a1 s).keep = s.keep := by
  unfold sendHead
  repeat' (first | simp only [countLate_keep, ringStamp_keep, countOctets_keep, count_keep, emit_keep, occupy_keep,
                     mirrorFrame_keep, ptpLeave_keeps]
                 | (refine Eq.trans (popHead_keep (by assumption)) ?_)
                 | (refine Eq.trans (ptpLeave_keep (by assumption)) ?_)
                 | split)

theorem ageAll_keep (a0) (s : State) : (ageAll a0 s).keep = s.keep := by
  unfold ageAll
  simp only [txSettle_keep, dropAged_keep, foldl_keep, implies_true]

theorem execFrameTransmit_keep (a0) (s : State) : resKeep (execFrameTransmit a0 s) = some s.keep := by
  unfold execFrameTransmit
  repeat' (first | simp only [ageAll_keep, sendHead_keep, next_keep, ite_keep] | split)

theorem execLaunchTime_keep (a0) (s : State) : resKeep (execLaunchTime a0 s) = some s.keep := by
  unfold execLaunchTime
  repeat' (first | simp only [sendHead_keep, updPort_keep, setQueue_keep, next_keep, ite_keep] | split)

theorem execLinkDown_keep (a0) (s : State) : resKeep (execLinkDown a0 s) = some s.keep := by
  unfold execLinkDown
  simp only [linkLost_keep, next_keep, ite_keep, ite_self]

theorem downFlush_keep (a0) (s : State) : (downFlush a0 s).keep = s.keep := by
  unfold downFlush
  simp only [updPort_keep, txSettle_keep, flushPort_keep, ite_keep, ite_self]

theorem execLinkUp_keep (a0 a1) (s : State) : resKeep (execLinkUp a0 a1 s) = some s.keep := by
  unfold execLinkUp
  simp only [preemptJudge_keep, updPort_keep, downFlush_keep, next_keep, ite_keep, ite_self]

theorem execLinkDownFlush_keep (a0) (s : State) : resKeep (execLinkDownFlush a0 s) = some s.keep := by
  unfold execLinkDownFlush
  simp only [downFlush_keep, next_keep, ite_keep, ite_self]

theorem pauseTrip_keep (a0) (s : State) : (pauseTrip a0 s).keep = s.keep := by
  unfold pauseTrip
  simp only [count_keep, updPort_keep, setAlarm_keep, passError_keep, noteMod_keep, ite_keep, ite_self]

theorem execPauseWatchdog_keep (a0) (s : State) : resKeep (execPauseWatchdog a0 s) = some s.keep := by
  unfold execPauseWatchdog
  simp only [pauseTrip_keep, next_keep, ite_keep, ite_self]

theorem execPauseWdRelease_keep (a0) (s : State) : resKeep (execPauseWdRelease a0 s) = some s.keep := by
  unfold execPauseWdRelease
  simp only [updPort_keep, next_keep, ite_keep, ite_self]

theorem execPauseTimeExpiry_keep (a0) (s : State) : resKeep (execPauseTimeExpiry a0 s) = some s.keep := by
  unfold execPauseTimeExpiry
  simp only [updPort_keep, next_keep, ite_keep, ite_self]

theorem execWake_keep (a0) (s : State) : resKeep (execWake a0 s) = some s.keep := by
  unfold execWake
  simp only [edge_keep, noteMod_keep, count_keep, updPort_keep, next_keep, ite_keep, ite_self]

theorem runEntry_keep (a0 a1 a2 a3) (s : State) : (runEntry a0 a1 a2 a3 s).keep = s.keep := by
  unfold runEntry
  simp only [updPort_keep]

theorem gateEvent_keep (a0) (s : State) : (gateEvent a0 s).keep = s.keep := by
  unfold gateEvent
  repeat' (first | simp only [runEntry_keep, ite_keep, ite_self] | split)

theorem execGateEvent_keep (a0) (s : State) : resKeep (execGateEvent a0 s) = some s.keep := by
  unfold execGateEvent
  simp only [gateEvent_keep, next_keep, ite_keep, ite_self]

theorem gclChange_keep (a0) (s : State) : (gclChange a0 s).keep = s.keep := by
  unfold gclChange
  repeat' (first | simp only [count_keep, updPort_keep, runEntry_keep, finishWaits_keep, ite_keep, ite_self] | split)

theorem execGclChange_keep (a0) (s : State) : resKeep (execGclChange a0 s) = some s.keep := by
  unfold execGclChange
  simp only [gclChange_keep, next_keep, ite_keep, ite_self]

theorem execPreemptionVerify_keep (a0 a1) (s : State) : resKeep (execPreemptionVerify a0 a1 s) = some s.keep
  := by
  unfold execPreemptionVerify
  simp only [preemptJudge_keep, updPort_keep, next_keep, ite_keep, ite_self]

theorem sendSupervision_keep (a0 a1) (s : State) : (sendSupervision a0 a1 s).keep = s.keep := by
  unfold sendSupervision
  simp only [updSw_keep, pairSeq_keep, copyTo_keep, newFid_keeps]

theorem execSupervisionFrameSend_keep (a0) (s : State) : resKeep (execSupervisionFrameSend a0 s) = some s.keep := by
  unfold execSupervisionFrameSend
  repeat' (first | simp only [sendSupervision_keep, next_keep, ite_keep, ite_self] | split)

theorem execTimeStatusGet_keep (a0) (s : State) : resKeep (execTimeStatusGet a0 s) = some s.keep := by
  unfold execTimeStatusGet
  simp only [feljo_keep, notBoot_or, done_keep, ite_self, implies_true]

theorem execTimeNowGet_keep (a0) (s : State) : resKeep (execTimeNowGet a0 s) = some s.keep := by
  unfold execTimeNowGet
  simp only [feljo_keep, notBoot_or, done_keep, ite_self, implies_true]

theorem timeConfigSet_keep (a0) (s : State) : (timeConfigSet a0 s).keepFrom s = s.keep := by
  unfold timeConfigSet
  repeat' (first | simp only [updTime_keep, fail_keep, done_keep, ite_from, ite_self] | split)

theorem execTimeConfigSet_keep (a0) (s : State) : resKeep (execTimeConfigSet a0 s) = some s.keep := by
  unfold execTimeConfigSet
  simp only [feljo_keep, adminOnly_or, notBoot_or, timeConfigSet_keep, ite_self, implies_true]

theorem execTimeConfigGet_keep (a0) (s : State) : resKeep (execTimeConfigGet a0 s) = some s.keep := by
  unfold execTimeConfigGet
  simp only [feljo_keep, adminOnly_or, notBoot_or, done_keep, ite_self, implies_true]

theorem timePortSet_keep (a0) (s : State) : (timePortSet a0 s).keepFrom s = s.keep := by
  unfold timePortSet
  repeat' (first | simp only [updPort_keep, fail_keep, done_keep, ite_from, ite_self] | split)

theorem execTimePortSet_keep (a0) (s : State) : resKeep (execTimePortSet a0 s) = some s.keep := by
  unfold execTimePortSet
  simp only [feljo_keep, adminOnly_or, notBoot_or, timePortSet_keep, ite_self, implies_true]

theorem execTimePortGet_keep (a0) (s : State) : resKeep (execTimePortGet a0 s) = some s.keep := by
  unfold execTimePortGet
  simp only [feljo_keep, adminOnly_or, notBoot_or, done_keep, ite_self, implies_true]

theorem timeRestart_keep (s : State) : (timeRestart s).keep = s.keep := by
  unfold timeRestart
  simp only [updTime_keep, edge_keep, noteMod_keep, autoRecovery_keep, recJudge_keep, finishWaits_keep, keep_mk,
    keep_fold, ite_keep, ite_self]

theorem execTimeRestart_keep (a0) (s : State) : resKeep (execTimeRestart a0 s) = some s.keep := by
  unfold execTimeRestart
  simp only [feljo_keep, adminOnly_or, notBoot_or, require_keep, timeRestart_keep, done_keep, ite_self, implies_true]

theorem execTimeSet_keep (a0) (s : State) : resKeep (execTimeSet a0 s) = some s.keep := by
  unfold execTimeSet
  simp only [feljo_keep, adminOnly_or, notBoot_or, require_keep, addWait_keep, updTime_keep, wait_keep, ite_self,
    implies_true]

theorem execTimeCountersClear_keep (a0) (s : State) : resKeep (execTimeCountersClear a0 s) = some s.keep := by
  unfold execTimeCountersClear
  simp only [feljo_keep, adminOnly_or, notBoot_or, updTime_keep, updPort_keep, done_keep, ite_from, keep_mk,
    keep_fold, ite_self, implies_true]

theorem fdbSet_keep (a0) (s : State) : (fdbSet a0 s).keepFrom s = s.keep := by
  unfold fdbSet
  repeat' (first | simp only [updSw_keep, fail_keep, done_keep, ite_from, ite_self] | split)

theorem execSwitchFdbSet_keep (a0) (s : State) : resKeep (execSwitchFdbSet a0 s) = some s.keep := by
  unfold execSwitchFdbSet
  simp only [feljo_keep, adminOnly_or, notBoot_or, fdbSet_keep, ite_self, implies_true]

theorem execSwitchFdbGet_keep (a0) (s : State) : resKeep (execSwitchFdbGet a0 s) = some s.keep := by
  unfold execSwitchFdbGet
  simp only [feljo_keep, adminOnly_or, notBoot_or, done_keep, ite_self, implies_true]

theorem execSwitchFdbFlush_keep (a0) (s : State) : resKeep (execSwitchFdbFlush a0 s) = some s.keep := by
  unfold execSwitchFdbFlush
  simp only [feljo_keep, adminOnly_or, notBoot_or, updSw_keep, done_keep, ite_self, implies_true]

theorem groupSet_keep (a0) (s : State) : (groupSet a0 s).keepFrom s = s.keep := by
  unfold groupSet
  simp only [updSw_keep, fail_keep, done_keep, ite_from, ite_self]

theorem execSwitchGroupSet_keep (a0) (s : State) : resKeep (execSwitchGroupSet a0 s) = some s.keep := by
  unfold execSwitchGroupSet
  simp only [feljo_keep, adminOnly_or, notBoot_or, groupSet_keep, ite_self, implies_true]

theorem vlanSet_keep (a0) (s : State) : (vlanSet a0 s).keepFrom s = s.keep := by
  unfold vlanSet
  repeat' (first | simp only [updSw_keep, fail_keep, done_keep, ite_from] | split)

theorem execSwitchVlanSet_keep (a0) (s : State) : resKeep (execSwitchVlanSet a0 s) = some s.keep := by
  unfold execSwitchVlanSet
  simp only [feljo_keep, adminOnly_or, notBoot_or, vlanSet_keep, ite_self, implies_true]

theorem mirrorSet_keep (a0) (s : State) : (mirrorSet a0 s).keepFrom s = s.keep := by
  unfold mirrorSet
  repeat' (first | simp only [updSw_keep, fail_keep, done_keep, ite_from, ite_self] | split)

theorem execSwitchMirrorSet_keep (a0) (s : State) : resKeep (execSwitchMirrorSet a0 s) = some s.keep := by
  unfold execSwitchMirrorSet
  simp only [feljo_keep, adminOnly_or, notBoot_or, mirrorSet_keep, ite_self, implies_true]

theorem redundancySet_keep (a0) (s : State) : (redundancySet a0 s).keepFrom s = s.keep := by
  unfold redundancySet
  repeat' (first | simp only [updSw_keep, fail_keep, done_keep, ite_from, ite_self] | split)

theorem execSwitchRedundancySet_keep (a0) (s : State) : resKeep (execSwitchRedundancySet a0 s) = some s.keep := by
  unfold execSwitchRedundancySet
  simp only [feljo_keep, adminOnly_or, notBoot_or, redundancySet_keep, ite_self, implies_true]

theorem execSwitchRedundancyGet_keep (a0) (s : State) : resKeep (execSwitchRedundancyGet a0 s) = some s.keep := by
  unfold execSwitchRedundancyGet
  simp only [feljo_keep, adminOnly_or, notBoot_or, done_keep, ite_self, implies_true]

theorem execSwitchShelfGet_keep (a0) (s : State) : resKeep (execSwitchShelfGet a0 s) = some s.keep := by
  unfold execSwitchShelfGet
  simp only [feljo_keep, adminOnly_or, notBoot_or, done_keep, ite_self, implies_true]

theorem execSwitchStocktakeRun_keep (a0) (s : State) : resKeep (execSwitchStocktakeRun a0 s) = some s.keep := by
  unfold execSwitchStocktakeRun
  simp only [feljo_keep, adminOnly_or, notBoot_or, addWait_keep, updSw_keep, fail_keep, wait_keep, ite_from,
    ite_self, implies_true]

theorem switchConfigSet_keep (a0) (s : State) : (switchConfigSet a0 s).keepFrom s = s.keep := by
  unfold switchConfigSet
  repeat' (first | simp only [updSw_keep, fail_keep, done_keep, ite_from, ite_self] | split)

theorem execSwitchConfigSet_keep (a0) (s : State) : resKeep (execSwitchConfigSet a0 s) = some s.keep := by
  unfold execSwitchConfigSet
  simp only [feljo_keep, adminOnly_or, notBoot_or, switchConfigSet_keep, ite_self, implies_true]

theorem sqDoorbell_keep (a0 a1) (s : State) : (sqDoorbell a0 a1 s).keep = s.keep := by
  unfold sqDoorbell
  simp only [ringErr_keep, updWin_keep, ite_keep, ite_self]

theorem execSqTail_keep (a0 a1) (s : State) : resKeep (execSqTail a0 a1 s) = some s.keep := by
  unfold execSqTail
  simp only [sqDoorbell_keep, next_keep, ite_keep, ite_self]

theorem cqDoorbell_keep (a0 a1) (s : State) : (cqDoorbell a0 a1 s).keep = s.keep := by
  unfold cqDoorbell
  simp only [ringErr_keep, updWin_keep, ite_keep, ite_self]

theorem execCqHead_keep (a0 a1) (s : State) : resKeep (execCqHead a0 a1 s) = some s.keep := by
  unfold execCqHead
  simp only [cqDoorbell_keep, next_keep, ite_keep, ite_self]

theorem sqStart_keep (a0) (s : State) : (sqStart a0 s).keep = s.keep := by
  unfold sqStart
  simp only [updWin_keep]

theorem writeRingCfg_keep (a0 a1) (s : State) : (writeRingCfg a0 a1 s).keep = s.keep := by
  unfold writeRingCfg
  repeat' (first | simp only [deniedWr_keep, updWin_keep, sqStart_keep, sqStop_keep, ite_keep, ite_self] | split)

theorem execRingEnable_keep (a0 a1) (s : State) : resKeep (execRingEnable a0 a1 s) = some s.keep := by
  unfold execRingEnable
  simp only [writeRingCfg_keep, next_keep, ite_keep, ite_self]

theorem execRingDisable_keep (a0 a1) (s : State) : resKeep (execRingDisable a0 a1 s) = some s.keep := by
  unfold execRingDisable
  simp only [writeRingCfg_keep, next_keep, ite_keep, ite_self]

theorem rxDoorbell_keep (a0 a1) (s : State) : (rxDoorbell a0 a1 s).keep = s.keep := by
  unfold rxDoorbell
  simp only [deniedWr_keep, deliver_keep, updWin_keep, ite_keep, ite_self]

theorem execRxTail_keep (a0 a1) (s : State) : resKeep (execRxTail a0 a1 s) = some s.keep := by
  unfold execRxTail
  simp only [rxDoorbell_keep, next_keep, ite_keep, ite_self]

theorem txDoorbell_keep (a0 a1) (s : State) : (txDoorbell a0 a1 s).keep = s.keep := by
  unfold txDoorbell
  simp only [deniedWr_keep, updWin_keep, ite_keep, ite_self]

theorem execTxTail_keep (a0 a1) (s : State) : resKeep (execTxTail a0 a1 s) = some s.keep := by
  unfold execTxTail
  simp only [txDoorbell_keep, next_keep, ite_keep, ite_self]

theorem writeRxCfg_keep (a0 a1) (s : State) : (writeRxCfg a0 a1 s).keep = s.keep := by
  unfold writeRxCfg
  repeat' (first | simp only [deniedWr_keep, updWin_keep, vportRestart_keep, flushVport_keep, ite_keep, ite_self]
                 | split)

theorem execRxRingEnable_keep (a0 a1) (s : State) : resKeep (execRxRingEnable a0 a1 s) = some s.keep := by
  unfold execRxRingEnable
  simp only [writeRxCfg_keep, next_keep, ite_keep, ite_self]

theorem execRxRingDisable_keep (a0 a1) (s : State) : resKeep (execRxRingDisable a0 a1 s) = some s.keep := by
  unfold execRxRingDisable
  simp only [writeRxCfg_keep, next_keep, ite_keep, ite_self]

theorem writeTxCfg_keep (a0 a1) (s : State) : (writeTxCfg a0 a1 s).keep = s.keep := by
  unfold writeTxCfg
  repeat' (first | simp only [deniedWr_keep, updWin_keep, ite_keep, ite_self] | split)

theorem execTxRingEnable_keep (a0 a1) (s : State) : resKeep (execTxRingEnable a0 a1 s) = some s.keep := by
  unfold execTxRingEnable
  simp only [writeTxCfg_keep, next_keep, ite_keep, ite_self]

theorem execTxRingDisable_keep (a0 a1) (s : State) : resKeep (execTxRingDisable a0 a1 s) = some s.keep := by
  unfold execTxRingDisable
  simp only [writeTxCfg_keep, next_keep, ite_keep, ite_self]

theorem fetchEntry_keep (a0 a1) (s : State) : (fetchEntry a0 a1 s).keep = s.keep := by
  unfold fetchEntry
  repeat' (first | simp only [ringErr_keep, sqStop_keep, atuFault_keep, updWin_keep, receiveEntry_keep,
                     issueRead_keep]
                 | split)

theorem execSubmissionFetch_keep (a0 a1) (s : State) : resKeep (execSubmissionFetch a0 a1 s) = some s.keep
  := by
  unfold execSubmissionFetch
  repeat' (first | simp only [fetchEntry_keep, next_keep]
                 | (refine congrArg some (Eq.trans (takeTurn_keep (by assumption)) ?_))
                 | split)

theorem readFailed_keep (a0) (s : State) : (readFailed a0 s).keep = s.keep := by
  unfold readFailed
  repeat' (first | simp only [ringErr_keep, sqStop_keep, abortCmd_keep, ite_keep, ite_self] | split)

theorem readDone_keep (a0 a1) (s : State) : (readDone a0 a1 s).keep = s.keep := by
  unfold readDone
  repeat' (first | simp only [receiveEntry_keep, receiveInput_keep] | split)

theorem endRead_keep (a0) (s : State) : (endRead a0 s).keep = s.keep := by
  unfold endRead
  simp only [pumpReads_keep, updPcie_keep]

theorem execDmaReadCompletion_keep (a0 a1 a2) (s : State) : resKeep (execDmaReadCompletion a0 a1 a2 s)
  = some s.keep := by
  unfold execDmaReadCompletion
  repeat' (first | simp only [readDone_keep, endRead_keep, readFailed_keep, next_keep, ite_keep, ite_self] | split)

theorem execDmaReadTimeout_keep (a0) (s : State) : resKeep (execDmaReadTimeout a0 s) = some s.keep := by
  unfold execDmaReadTimeout
  repeat' (first | simp only [endRead_keep, issueRead_keep, readFailed_keep, next_keep] | split)

theorem execCommandTimeout_keep (a0) (s : State) : resKeep (execCommandTimeout a0 s) = some s.keep := by
  unfold execCommandTimeout
  repeat' (first | simp only [abortCmd_keep, next_keep, ite_keep, ite_self] | split)

theorem complete_keep (a0) (s : State) : (complete a0 s).keep = s.keep := by
  unfold complete
  repeat' (first | simp only [retire_keep, countAborted_keep, failCq_keep, writeCqe_keep, ite_keep] | split)

theorem holdCqe_keep (a0) (s : State) : (holdCqe a0 s).keep = s.keep := by
  unfold holdCqe
  simp only [keep_mk, keep_fold, ite_keep, ite_self]

theorem execCompletionWrite_keep (a0) (s : State) : resKeep (execCompletionWrite a0 s) = some s.keep := by
  unfold execCompletionWrite
  split <;> simp only [complete_keep, holdCqe_keep, next_keep, ite_keep, ite_self]

theorem issueHeld_keep (s : State) (h : Held) : (issueHeld s h).keep = s.keep := by
  unfold issueHeld
  repeat' (first | simp only [emit_keep, complete_keep] | split)

theorem execPerst_keep (s : State) : resKeep (execPerst s) = some s.keep := by
  unfold execPerst
  simp only [hostReset_keep, next_keep]

theorem execFunctionLevelReset_keep (s : State) : resKeep (execFunctionLevelReset s) = some s.keep := by
  unfold execFunctionLevelReset
  simp only [hostReset_keep, next_keep, ite_keep, ite_self]

theorem releaseHeld_keep (s : State) : (releaseHeld s).keep = s.keep := by
  unfold releaseHeld
  simp only [finishWaits_keep, issueHeld_keep, keep_mk, keep_fold, foldl_keep, implies_true]

theorem busChange_keep (a0 a1) (s : State) : (busChange a0 a1 s).keep = s.keep := by
  unfold busChange
  simp only [updPcie_keep, deliver_keep, pumpReads_keep, releaseHeld_keep, foldl_keep, ite_keep, ite_self, implies_true]

theorem execBusMasterChange_keep (a0 a1) (s : State) : resKeep (execBusMasterChange a0 a1 s) = some s.keep
  := by
  unfold execBusMasterChange
  simp only [busChange_keep, next_keep, ite_keep, ite_self]

theorem chronicleRead_keep (a0) (s : State) : (chronicleRead a0 s).keepFrom s = s.keep := by
  unfold chronicleRead
  simp only [fail_keep, done_keep, ite_from, ite_self]

theorem execChronicleRead_keep (a0) (s : State) : resKeep (execChronicleRead a0 s) = some s.keep := by
  unfold execChronicleRead
  simp only [feljo_keep, notBoot_or, chronicleRead_keep, ite_self, implies_true]

theorem execChronicleStatusGet_keep (a0) (s : State) : resKeep (execChronicleStatusGet a0 s) = some s.keep := by
  unfold execChronicleStatusGet
  simp only [feljo_keep, notBoot_or, done_keep, ite_self, implies_true]

theorem chrClear_keep (s : State) : (chrClear s).keep = s.keep := by
  unfold chrClear
  simp only [note_keep, updChr_keep]

theorem execChronicleClear_keep (a0) (s : State) : resKeep (execChronicleClear a0 s) = some s.keep := by
  unfold execChronicleClear
  simp only [feljo_keep, adminOnly_or, require_keep, chrClear_keep, done_keep, ite_self, implies_true]

theorem chronicleNote_keep (a0) (s : State) : (chronicleNote a0 s).keepFrom s = s.keep := by
  unfold chronicleNote
  simp only [note_keep, fail_keep, done_keep, ite_from, ite_self]

theorem execChronicleNote_keep (a0) (s : State) : resKeep (execChronicleNote a0 s) = some s.keep := by
  unfold execChronicleNote
  simp only [feljo_keep, notBoot_or, chronicleNote_keep, ite_self, implies_true]

theorem execChronicleConfigSet_keep (a0) (s : State) : resKeep (execChronicleConfigSet a0 s) = some s.keep := by
  unfold execChronicleConfigSet
  simp only [feljo_keep, adminOnly_or, notBoot_or, updChr_keep, done_keep, ite_self, implies_true]

theorem execErrorContextsGet_keep (a0) (s : State) : resKeep (execErrorContextsGet a0 s) = some s.keep := by
  unfold execErrorContextsGet
  simp only [feljo_keep, adminOnly_or, notBoot_or, done_keep, ite_self, implies_true]

theorem notifySet_keep (a0) (s : State) : (notifySet a0 s).keepFrom s = s.keep := by
  unfold notifySet
  repeat' (first | simp only [withNtf_keep, updNtf_keep, fail_keep, done_keep, ite_from, ite_self, implies_true]
                 | split)

theorem execNotifyConfigSet_keep (a0) (s : State) : resKeep (execNotifyConfigSet a0 s) = some s.keep := by
  unfold execNotifyConfigSet
  simp only [feljo_keep, adminOnly_or, notBoot_or, notifySet_keep, ite_self, implies_true]

theorem execNotifyConfigGet_keep (a0) (s : State) : resKeep (execNotifyConfigGet a0 s) = some s.keep := by
  unfold execNotifyConfigGet
  simp only [feljo_keep, notBoot_or, require_keep, done_keep, ite_self, implies_true]

theorem execNotifyAlarmGet_keep (a0) (s : State) : resKeep (execNotifyAlarmGet a0 s) = some s.keep := by
  unfold execNotifyAlarmGet
  simp only [feljo_keep, adminOnly_or, notBoot_or, done_keep, ite_self, implies_true]

theorem alarmClear_keep (a0) (s : State) : (alarmClear a0 s).keep = s.keep := by
  unfold alarmClear
  simp only [alarmPubJudge_keep, withNtf_keep, updSig_keep, implies_true]

theorem execNotifyAlarmClear_keep (a0) (s : State) : resKeep (execNotifyAlarmClear a0 s) = some s.keep := by
  unfold execNotifyAlarmClear
  simp only [feljo_keep, adminOnly_or, notBoot_or, alarmClear_keep, done_keep, ite_self, implies_true]

theorem alarmPubSet_keep (a0) (s : State) : (alarmPubSet a0 s).keepFrom s = s.keep := by
  unfold alarmPubSet
  repeat' (first | simp only [alarmPubJudge_keep, fail_keep, done_keep, keep_mk, keep_fold] | split)

theorem execNotifyAlarmpubSet_keep (a0) (s : State) : resKeep (execNotifyAlarmpubSet a0 s) = some s.keep := by
  unfold execNotifyAlarmpubSet
  simp only [feljo_keep, adminOnly_or, notBoot_or, alarmPubSet_keep, ite_self, implies_true]

theorem execNotifyFilterSet_keep (a0) (s : State) : resKeep (execNotifyFilterSet a0 s) = some s.keep := by
  unfold execNotifyFilterSet
  simp only [feljo_keep, adminOnly_or, notBoot_or, updX3_keep, done_keep, ite_self, implies_true]

theorem claimRead_keep (a0 a1) (s : State) : (claimRead a0 a1 s).keep = s.keep := by
  unfold claimRead
  simp only [ntfClaim_keep, emit_keep, ntfClaim_keep]

theorem execNtfAdmClaim_keep (s : State) : resKeep (execNtfAdmClaim s) = some s.keep := by
  unfold execNtfAdmClaim
  simp only [claimRead_keep, next_keep, ite_keep, ite_self]

theorem execNtfAdmComplete_keep (a0) (s : State) : resKeep (execNtfAdmComplete a0 s) = some s.keep := by
  unfold execNtfAdmComplete
  simp only [ntfComplete_keep, next_keep, ite_keep, ite_self]

theorem execSlcNtfClaim_keep (a0 a1) (s : State) : resKeep (execSlcNtfClaim a0 a1 s) = some s.keep := by
  unfold execSlcNtfClaim
  simp only [claimRead_keep, next_keep, ite_keep, ite_self]

theorem execSlcNtfComplete_keep (a0 a1) (s : State) : resKeep (execSlcNtfComplete a0 a1 s) = some s.keep := by
  unfold execSlcNtfComplete
  simp only [ntfComplete_keep, next_keep, ite_keep, ite_self]

theorem execModerationExpiry_keep (a0 a1) (s : State) : resKeep (execModerationExpiry a0 a1 s) = some s.keep
  := by
  unfold execModerationExpiry
  simp only [ntfExpire_keep, next_keep]

theorem execFilteredInputEdge_keep (a0 a1 a2) (s : State) : resKeep (execFilteredInputEdge a0 a1 a2 s)
  = some s.keep := by
  unfold execFilteredInputEdge
  simp only [x3Edge_keep, next_keep, ite_keep, ite_self]

theorem execX3LatchEdge_keep (a0 a1) (s : State) : resKeep (execX3LatchEdge a0 a1 s) = some s.keep := by
  unfold execX3LatchEdge
  simp only [x3Latch_keep, next_keep, ite_keep, ite_self]

theorem execChronicleItemWrite_keep (a0 a1) (s : State) : resKeep (execChronicleItemWrite a0 a1 s) = some
  s.keep := by
  unfold execChronicleItemWrite
  simp only [chrStep_keep, next_keep, ite_keep, ite_self]

theorem execFramDeviceFailed_keep (a0) (s : State) : resKeep (execFramDeviceFailed a0 s) = some s.keep := by
  unfold execFramDeviceFailed
  simp only [deviceFailed_keep, next_keep, ite_keep, ite_self]

theorem execTwelveVGood_keep (s : State) : resKeep (execTwelveVGood s) = some s.keep := by
  unfold execTwelveVGood
  simp only [coldStart_keep, next_keep, ite_keep, ite_self]

theorem execModEnLow_keep (s : State) : resKeep (execModEnLow s) = some s.keep := by
  unfold execModEnLow
  simp only [powerOff_keep, next_keep]

theorem execRailsUp_keep (s : State) : resKeep (execRailsUp s) = some s.keep := by
  unfold execRailsUp
  simp only [updPwr_keep, next_keep, ite_keep, ite_self]

theorem railFault_keep (a0) (s : State) : (railFault a0 s).keep = s.keep := by
  unfold railFault
  simp only [updPwr_keep, bootFailed_keep, moduleFault_keep, ite_keep, ite_self]

theorem execRailFault_keep (a0) (s : State) : resKeep (execRailFault a0 s) = some s.keep := by
  unfold execRailFault
  simp only [railFault_keep, next_keep, ite_keep, ite_self]

theorem execSupervisorStart_keep (a0) (s : State) : resKeep (execSupervisorStart a0 s) = some s.keep := by
  unfold execSupervisorStart
  simp only [setPhaseTo_keep, updPwr_keep, next_keep, ite_keep, ite_self]

theorem execPcieEndpointConfigured_keep (s : State) : resKeep (execPcieEndpointConfigured s) = some s.keep := by
  unfold execPcieEndpointConfigured
  simp only [setPhaseTo_keep, next_keep, ite_keep, ite_self]

theorem coldCounters_keep (s : State) : (coldCounters s).keep = s.keep := by
  unfold coldCounters
  simp only [restoreCounters_keep, persist_keep, updMet_keep]

theorem execCountersRestored_keep (s : State) : resKeep (execCountersRestored s) = some s.keep := by
  unfold execCountersRestored
  simp only [setPhaseTo_keep, updPwr_keep, noteMod_keep, coldCounters_keep, updChr_keep, next_keep, ite_keep, ite_self]

theorem execDramTrained_keep (s : State) : resKeep (execDramTrained s) = some s.keep := by
  unfold execDramTrained
  simp only [setPhaseTo_keep, updPwr_keep, next_keep, ite_keep, ite_self]

theorem execMbxReady_keep (s : State) : resKeep (execMbxReady s) = some s.keep := by
  unfold execMbxReady
  simp only [setPhaseTo_keep, updPwr_keep, next_keep, ite_keep, ite_self]

theorem execSoftReset_keep (s : State) : resKeep (execSoftReset s) = some s.keep := by
  unfold execSoftReset
  simp only [softReset_keep, next_keep, ite_keep, ite_self]

theorem execVinLossUnarmed_keep (s : State) : resKeep (execVinLossUnarmed s) = some s.keep := by
  unfold execVinLossUnarmed
  simp only [powerOff_keep, next_keep, ite_keep, ite_self]

theorem execPowerFailWarning_keep (s : State) : resKeep (execPowerFailWarning s) = some s.keep := by
  unfold execPowerFailWarning
  simp only [alertPin_keep, updPwr_keep, next_keep, keep_mk, keep_fold, ite_keep, ite_self]

theorem execPfwOutputsOff_keep (s : State) : resKeep (execPfwOutputsOff s) = some s.keep := by
  unfold execPfwOutputsOff
  simp only [haltArchive_keep, holdAll_keep, stopAlarmPub_keep, dropOuts_keep, setPfw_keep, updPwr_keep,
    pipelineOff_keep, next_keep, ite_keep, ite_self]

theorem execDyingGasp_keep (s : State) : resKeep (execDyingGasp s) = some s.keep := by
  unfold execDyingGasp
  simp only [setPfw_keep, refSend_keep, linkSend_keep, next_keep, ite_keep, ite_self]

theorem execPfwLinksDown_keep (s : State) : resKeep (execPfwLinksDown s) = some s.keep := by
  unfold execPfwLinksDown
  simp only [setPfw_keep, updTdm_keep, next_keep, keep_mk, keep_fold, ite_keep, ite_self]

theorem execPfwPcieDown_keep (s : State) : resKeep (execPfwPcieDown s) = some s.keep := by
  unfold execPfwPcieDown
  simp only [setPfw_keep, pcieOff_keep, edge_keep, next_keep, ite_keep, ite_self]

theorem execPfwChronicleEntry_keep (s : State) : resKeep (execPfwChronicleEntry s) = some s.keep := by
  unfold execPfwChronicleEntry
  simp only [noteMod_keep, updChr_keep, setPfw_keep, persist_keep, next_keep, ite_keep, ite_self]

theorem execSupervisorResetHold_keep (s : State) : resKeep (execSupervisorResetHold s) = some s.keep := by
  unfold execSupervisorResetHold
  simp only [powerOff_keep, next_keep, ite_keep, ite_self]

theorem execThermalAlarm_keep (a0) (s : State) : resKeep (execThermalAlarm a0 s) = some s.keep := by
  unfold execThermalAlarm
  simp only [setAlarm_keep, noteMod_keep, alertPin_keep, updPwr_keep, next_keep, ite_keep, ite_self]

theorem execThermalAlarmCleared_keep (a0) (s : State) : resKeep (execThermalAlarmCleared a0 s) = some s.keep := by
  unfold execThermalAlarmCleared
  simp only [alertPin_keep, updPwr_keep, next_keep, ite_keep, ite_self]

theorem execDieOvertemperature_keep (a0) (s : State) : resKeep (execDieOvertemperature a0 s) = some s.keep := by
  unfold execDieOvertemperature
  simp only [moduleFault_keep, updPwr_keep, next_keep, ite_keep, ite_self]

theorem execSupervisorWatchdog_keep (s : State) : resKeep (execSupervisorWatchdog s) = some s.keep := by
  unfold execSupervisorWatchdog
  simp only [moduleFault_keep, next_keep, ite_keep, ite_self]

theorem execEccUncorrected_keep (s : State) : resKeep (execEccUncorrected s) = some s.keep := by
  unfold execEccUncorrected
  simp only [moduleFault_keep, next_keep, ite_keep, ite_self]

theorem execSwitchHardwareFault_keep (s : State) : resKeep (execSwitchHardwareFault s) = some s.keep := by
  unfold execSwitchHardwareFault
  simp only [moduleFault_keep, next_keep, ite_keep, ite_self]

theorem snapshot_keep (s : State) : (snapshot s).keep = s.keep := by
  unfold snapshot
  simp only [readMeters_keep, updMet_keep]

theorem execSnap_keep (a0) (s : State) : resKeep (execSnap a0 s) = some s.keep := by
  unfold execSnap
  simp only [snapshot_keep, next_keep, ite_keep, ite_self]

theorem execOpsecTick_keep (s : State) : resKeep (execOpsecTick s) = some s.keep := by
  unfold execOpsecTick
  simp only [updMet_keep, next_keep, ite_keep, ite_self]

theorem execOpsecPersist_keep (s : State) : resKeep (execOpsecPersist s) = some s.keep := by
  unfold execOpsecPersist
  simp only [persist_keep, next_keep, ite_keep, ite_self]

theorem execPowerEnergyIntervalEnd_keep (s : State) : resKeep (execPowerEnergyIntervalEnd s) = some s.keep := by
  unfold execPowerEnergyIntervalEnd
  repeat' (first | simp only [readMeters_keep, updMet_keep, next_keep] | split)

theorem execHoldupTestEnd_keep (a0) (s : State) : resKeep (execHoldupTestEnd a0 s) = some s.keep := by
  unfold execHoldupTestEnd
  simp only [updPwr_keep, updMet_keep, noteAs_keep, finishWaits_keep, next_keep, ite_keep, ite_self]

theorem execPowerStatusGet_keep (a0) (s : State) : resKeep (execPowerStatusGet a0 s) = some s.keep := by
  unfold execPowerStatusGet
  simp only [feljo_keep, adminOnly_or, done_keep, ite_self, implies_true]

theorem energyStart_keep (a0) (s : State) : (energyStart a0 s).keep = s.keep := by
  unfold energyStart
  simp only [readMeters_keep, updMet_keep]

theorem execPowerEnergyStart_keep (a0) (s : State) : resKeep (execPowerEnergyStart a0 s) = some s.keep := by
  unfold execPowerEnergyStart
  simp only [feljo_keep, adminOnly_or, require_keep, energyStart_keep, done_keep, ite_self, implies_true]

theorem energyRead_keep (s : State) : (energyRead s).keepFrom s = s.keep := by
  unfold energyRead
  repeat' (first | simp only [fail_keep, done_keep, ite_from, keep_mk, keep_fold, ite_self] | split)

theorem execPowerEnergyRead_keep (a0) (s : State) : resKeep (execPowerEnergyRead a0 s) = some s.keep := by
  unfold execPowerEnergyRead
  simp only [feljo_keep, adminOnly_or, energyRead_keep, ite_self, implies_true]

theorem execPowerGatingSet_keep (a0) (s : State) : resKeep (execPowerGatingSet a0 s) = some s.keep := by
  unfold execPowerGatingSet
  simp only [feljo_keep, adminOnly_or, updPwr_keep, done_keep, ite_from, ite_self, implies_true]

theorem execPowerHoldupTest_keep (a0) (s : State) : resKeep (execPowerHoldupTest a0 s) = some s.keep := by
  unfold execPowerHoldupTest
  simp only [feljo_keep, adminOnly_or, require_keep, addWait_keep, updMet_keep, wait_keep, ite_self, implies_true]

theorem execPowerCountersGet_keep (a0) (s : State) : resKeep (execPowerCountersGet a0 s) = some s.keep := by
  unfold execPowerCountersGet
  simp only [feljo_keep, adminOnly_or, done_keep, ite_self, implies_true]

theorem execPowerThermalSet_keep (a0) (s : State) : resKeep (execPowerThermalSet a0 s) = some s.keep := by
  unfold execPowerThermalSet
  simp only [feljo_keep, adminOnly_or, updPwr_keep, done_keep, ite_self, implies_true]

theorem execPowerReset_keep (a0) (s : State) : resKeep (execPowerReset a0 s) = some s.keep := by
  unfold execPowerReset
  simp only [feljo_keep, adminOnly_or, require_keep, done_keep, ite_self, implies_true]

theorem clearWin_keep (a0 a1) (s : State) : (clearWin a0 a1 s).keep = s.keep := by
  unfold clearWin
  simp only [withNtf_keep, updWin_keep, implies_true]

theorem clearAtu_keep (a0) (s : State) : (clearAtu a0 s).keep = s.keep := by
  unfold clearAtu
  repeat' (first | simp only [] | (refine Eq.trans (withNtf_keep _ _ _ (fun _ => rfl)) ?_))

theorem clearTime_keep (a0) (s : State) : (clearTime a0 s).keep = s.keep := by
  unfold clearTime
  simp only [updTime_keep]

theorem clearRails_keep (a0) (s : State) : (clearRails a0 s).keep = s.keep := by
  unfold clearRails
  simp only [updPwr_keep]

theorem clearTdm_keep (a0) (s : State) : (clearTdm a0 s).keep = s.keep := by
  unfold clearTdm
  simp only [withNtf_keep, updTdm_keep, implies_true]

theorem clearOut_keep (a0 a1) (s : State) : (clearOut a0 a1 s).keep = s.keep := by
  unfold clearOut
  simp only [updOut_keep]

theorem clearChr_keep (a0) (s : State) : (clearChr a0 s).keep = s.keep := by
  unfold clearChr
  simp only [updChr_keep]

theorem clearUpd_keep (a0) (s : State) : (clearUpd a0 s).keep = s.keep := by
  unfold clearUpd
  simp only [updUpd_keep, implies_true]

theorem clearKeys_keep (a0) (s : State) : (clearKeys a0 s).keep = s.keep := by
  unfold clearKeys
  simp only [updKeys_keep]

theorem clearPort_keep (a0 a1) (s : State) : (clearPort a0 a1 s).keep = s.keep := by
  unfold clearPort
  simp only [updPort_keep]

theorem clearSw_keep (a0) (s : State) : (clearSw a0 s).keep = s.keep := by
  unfold clearSw
  simp only [updSw_keep]

theorem clearArc_keep (a0) (s : State) : (clearArc a0 s).keep = s.keep := by
  unfold clearArc
  simp only [updArc_keep]

theorem clearLatch_keep (a0 a1) (s : State) : (clearLatch a0 a1 s).keep = s.keep := by
  unfold clearLatch
  simp only [updX3_keep]

theorem linkHello_keep (a0 a1 a2 a3 a4) (s : State) : (linkHello a0 a1 a2 a3 a4 s).keep =
  s.keep := by
  unfold linkHello
  repeat' (first | simp only [updTdm_keep, ite_keep] | split)

theorem linkIdle_keep (a0 a1) (s : State) : (linkIdle a0 a1 s).keep = s.keep := by
  unfold linkIdle
  simp only [setAlarm_keep, noteMod_keep, updTdm_keep, toDetached_keep, ite_keep, ite_self]

theorem linkNotice_keep (a0) (s : State) : (linkNotice a0 s).keep = s.keep := by
  unfold linkNotice
  simp only [learnInput_keep, updInput_keep, chairJudge_keep, ite_keep, ite_self]

theorem linkForward_keep (a0 a1) (s : State) : (linkForward a0 a1 s).keep = s.keep := by
  unfold linkForward
  repeat' (first | simp only [tdmCount_keep, chairJudge_keep, updInput_keep, settleInput_keep, ite_keep, ite_self]
                 | split)

theorem linkSettle_keep (a0) (s : State) : (linkSettle a0 s).keep = s.keep := by
  unfold linkSettle
  simp only [tdmCount_keep, learnInput_keep, settleInput_keep, ite_keep, ite_self]

theorem linkReport_keep (a0 a1 a2) (s : State) : (linkReport a0 a1 a2 s).keep = s.keep := by
  unfold linkReport
  simp only [updTdm_keep, compareSteps_keep]

theorem peerSweep_keep (a0 a1) (s : State) : (peerSweep a0 a1 s).keep = s.keep := by
  unfold peerSweep
  simp only [compareSweeps_keep, updTdm_keep, ite_keep, ite_self]

theorem linkClose_keep (a0 a1 a2) (s : State) : (linkClose a0 a1 a2 s).keep = s.keep := by
  unfold linkClose
  simp only [closeBallot_keep, linkSend_keep, peerSweep_keep, ite_keep, ite_self]

theorem linkCarry_keep (a0 a1 a2 a3 a4 a5) (s : State) : (linkCarry a0 a1 a2 a3 a4
  a5 s).keep = s.keep := by
  unfold linkCarry
  simp only [updTdm_keep]

theorem linkCarryAck_keep (a0 a1) (s : State) : (linkCarryAck a0 a1 s).keep = s.keep := by
  unfold linkCarryAck
  repeat' (first | simp only [updTdm_keep, disagree_keep, ite_keep, ite_self] | split)

theorem linkResync_keep (a0) (s : State) : (linkResync a0 s).keep = s.keep := by
  unfold linkResync
  simp only [updTdm_keep]

theorem linkGasp_keep (a0) (s : State) : (linkGasp a0 s).keep = s.keep := by
  unfold linkGasp
  simp only [linkDie_keep, refSend_keep, updTdm_keep]

theorem linkResend_keep (a0) (s : State) : (linkResend a0 s).keep = s.keep := by
  unfold linkResend
  simp only [linkDie_keep, linkOut_keep, tdmCount_keep, updTdm_keep, foldl_keep, ite_keep, ite_self, implies_true]

theorem linkEffect_keep (a0 a1) (s : State) : (linkEffect a0 a1 s).keep = s.keep := by
  unfold linkEffect
  repeat' (first | simp only [linkIdle_keep, linkNotice_keep, linkForward_keep, linkSettle_keep, linkReport_keep,
                     linkClose_keep, peerSweep_keep, linkCarry_keep, linkCarryAck_keep, linkResend_keep, linkGasp_keep,
                     linkResync_keep, foldl_keep, implies_true]
                 | split)

theorem linkDrain_keep (n : Nat) (s : State) : (linkDrain n s).keep = s.keep := by
  induction n generalizing s with
  | zero => simp only [linkDrain]
  | succ n ih =>
    simp only [linkDrain]
    repeat' (first | simp only [ih, linkEffect_keep, updTdm_keep]
                   | split)

theorem laneSeen_keep (a0) (s : State) : (laneSeen a0 s).keep = s.keep := by
  unfold laneSeen
  simp only [updTdm_keep]

theorem linkFrame_keep (a0 a1) (s : State) : (linkFrame a0 a1 s).keep = s.keep := by
  unfold linkFrame
  repeat' (first | simp only [laneSeen_keep, updTdm_keep, linkIdle_keep, linkSend_keep, linkDrain_keep, ite_keep,
                     ite_self]
                 | split)

theorem linkArrive_keep (a0 a1) (s : State) : (linkArrive a0 a1 s).keep = s.keep := by
  unfold linkArrive
  repeat' (first | simp only [tdmCount_keep, linkHello_keep, laneSeen_keep, linkFrame_keep, ite_keep, ite_self] | split)

theorem refTake_keep {n : Nat} {q : Copy} {m : RefMsg} {s t : State} (h : refTake n s = some (q, m, t)) : t.keep =
  s.keep := by
  unfold refTake at h
  repeat' (first | (cases h; done)
                 | (simp only [Option.some.injEq, Prod.mk.injEq] at h)
                 | split at h
                 | (obtain ⟨rfl, rfl, rfl⟩ := h)
                 | (obtain ⟨rfl, rfl⟩ := h)
                 | subst h
                 | (refine Eq.trans (takeFrom_keep (by assumption)) ?_)
                 | simp only [])

theorem refSeenOn_keep (a0 a1) (s : State) : (refSeenOn a0 a1 s).keep = s.keep := by
  unfold refSeenOn
  simp only [updTdm_keep]

theorem refArrive_keep (code : Nat) (k : RefMsg → State → State) (s : State) (h : ∀ m s, (k m s).keep = s.keep) :
    (refArrive code k s).keep = s.keep := by
  unfold refArrive
  repeat' (first | simp only [h, tdmCount_keep, refSeenOn_keep, updTdm_keep,
                     ite_keep, ite_self]
                 | (refine Eq.trans (refTake_keep (by assumption)) ?_)
                 | split)

theorem takeGrant_keep (a0) (s : State) : (takeGrant a0 s).keep = s.keep := by
  unfold takeGrant
  repeat' (first | simp only [refSend_keep, updTdm_keep, linkSend_keep, ite_keep] | split)

theorem takeRevoke_keep (a0) (s : State) : (takeRevoke a0 s).keep = s.keep := by
  unfold takeRevoke
  simp only [finishWaits_keep, updTdm_keep, toDetached_keep, refSend_keep, abortSwitch_keep, linkSend_keep,
    ite_keep, ite_self]

theorem applyImages_keep (n : Nat) (b : List Byte) (s : State) : (applyImages n b s).keep = s.keep := by
  induction n generalizing b s with
  | zero => simp only [applyImages]
  | succ n ih =>
    simp only [applyImages]
    repeat' (first | simp only [ih, applySaved_keep,
                       ite_keep, ite_self]
                   | split)

theorem putCfg_keep (a0) (s : State) : (putCfg a0 s).keep = s.keep := by
  unfold putCfg
  simp only [syncPairs_keep, keep_mk, keep_fold]

theorem restartCopied_keep (a0) (s : State) : (restartCopied a0 s).keep = s.keep := by
  unfold restartCopied
  simp only [startEach_keep]

theorem applyCfg_keep (a0) (s : State) : (applyCfg a0 s).keep = s.keep := by
  unfold applyCfg
  simp only [changeInst_keep, restartCopied_keep, putCfg_keep, svcOthers_keep, svcCommit_keep, foldl_keep, ite_keep, ite_self,
    implies_true]

theorem applyInputs_keep (a0) (s : State) : (applyInputs a0 s).keep = s.keep := by
  unfold applyInputs
  simp only [keep_mk, keep_fold]

theorem applyState_keep (a0) (s : State) : (applyState a0 s).keep = s.keep := by
  unfold applyState
  simp only [keep_mk, keep_fold, applyImages_keep]

theorem applyPhase_keep (a0) (s : State) : (applyPhase a0 s).keep = s.keep := by
  unfold applyPhase
  repeat' (first | simp only [applyCfg_keep, applyInputs_keep, applyState_keep] | split)

theorem sendImage_keep (a0 a1 a2) (s : State) : (sendImage a0 a1 a2 s).keep = s.keep := by
  unfold sendImage
  simp only [linkSend_keep, updTdm_keep, foldl_keep, implies_true]

theorem enterPhase_keep (a0) (s : State) : (enterPhase a0 s).keep = s.keep := by
  unfold enterPhase
  simp only [updTdm_keep]

theorem nextPhase_keep (s : State) : (nextPhase s).keep = s.keep := by
  unfold nextPhase
  repeat' (first | simp only [enterPhase_keep, updTdm_keep, sendImage_keep, applyPhase_keep, setRole_keep, ite_keep,
                     ite_self]
                 | split)

theorem execTandemStatusGet_keep (a0) (s : State) : resKeep (execTandemStatusGet a0 s) = some s.keep := by
  unfold execTandemStatusGet
  simp only [feljo_keep, adminOnly_or, done_keep, ite_self, implies_true]

theorem tandemPairSet_keep (a0) (s : State) : (tandemPairSet a0 s).keepFrom s = s.keep := by
  unfold tandemPairSet
  repeat' (first | simp only [updTdm_keep, fail_keep, done_keep] | split)

theorem execTandemPairSet_keep (a0) (s : State) : resKeep (execTandemPairSet a0 s) = some s.keep := by
  unfold execTandemPairSet
  simp only [feljo_keep, adminOnly_or, tandemPairSet_keep, ite_self, implies_true]

theorem execTandemPairGet_keep (a0) (s : State) : resKeep (execTandemPairGet a0 s) = some s.keep := by
  unfold execTandemPairGet
  simp only [feljo_keep, adminOnly_or, done_keep, ite_self, implies_true]

theorem tandemSwitchover_keep (a0) (s : State) : (tandemSwitchover a0 s).keepFrom s = s.keep := by
  unfold tandemSwitchover
  simp only [require_keep, notBootHalted_or, addWait_keep, refSend_keep, wait_keep, ite_self]

theorem execTandemSwitchover_keep (a0) (s : State) : resKeep (execTandemSwitchover a0 s) = some s.keep := by
  unfold execTandemSwitchover
  simp only [feljo_keep, adminOnly_or, tandemSwitchover_keep, ite_self, implies_true]

theorem isolate_keep (s : State) : (isolate s).keep = s.keep := by
  unfold isolate
  simp only [finishWaits_keep, updTdm_keep, setRole_keep, ite_keep, ite_self]

theorem execTandemIsolate_keep (a0) (s : State) : resKeep (execTandemIsolate a0 s) = some s.keep := by
  unfold execTandemIsolate
  simp only [feljo_keep, adminOnly_or, require_keep, isolate_keep, done_keep, ite_self, implies_true]

theorem execTandemRejoin_keep (a0) (s : State) : resKeep (execTandemRejoin a0 s) = some s.keep := by
  unfold execTandemRejoin
  simp only [feljo_keep, adminOnly_or, require_keep, toDetached_keep, updTdm_keep, done_keep, ite_self, implies_true]

theorem execTandemResyncGet_keep (a0) (s : State) : resKeep (execTandemResyncGet a0 s) = some s.keep := by
  unfold execTandemResyncGet
  simp only [feljo_keep, adminOnly_or, done_keep, ite_self, implies_true]

theorem execTandemCountersGet_keep (a0) (s : State) : resKeep (execTandemCountersGet a0 s) = some s.keep := by
  unfold execTandemCountersGet
  simp only [feljo_keep, adminOnly_or, done_keep, ite_self, implies_true]

theorem execTandemCountersClear_keep (a0) (s : State) : resKeep (execTandemCountersClear a0 s) = some s.keep := by
  unfold execTandemCountersClear
  simp only [feljo_keep, adminOnly_or, updTdm_keep, done_keep, ite_self, implies_true]

theorem execTandemRefereeGet_keep (a0) (s : State) : resKeep (execTandemRefereeGet a0 s) = some s.keep := by
  unfold execTandemRefereeGet
  simp only [feljo_keep, adminOnly_or, done_keep, ite_self, implies_true]

theorem execIdle_keep (a0 a1 a2 a3 a4) (s : State) : resKeep (execIdle a0 a1 a2 a3 a4 s) =
  some s.keep := by
  unfold execIdle
  simp only [linkArrive_keep, next_keep]

theorem execNotice_keep (a0 a1) (s : State) : resKeep (execNotice a0 a1 s) = some s.keep := by
  unfold execNotice
  simp only [linkArrive_keep, next_keep]

theorem execForward_keep (a0 a1 a2) (s : State) : resKeep (execForward a0 a1 a2 s) = some s.keep := by
  unfold execForward
  simp only [linkArrive_keep, next_keep]

theorem execSettle_keep (a0 a1) (s : State) : resKeep (execSettle a0 a1 s) = some s.keep := by
  unfold execSettle
  simp only [linkArrive_keep, next_keep]

theorem execReport_keep (a0 a1 a2) (s : State) : resKeep (execReport a0 a1 a2 s) = some s.keep := by
  unfold execReport
  simp only [linkArrive_keep, next_keep]

theorem execClose_keep (a0 a1 a2 a3 a4) (s : State) : resKeep (execClose a0 a1 a2 a3 a4 s)
  = some s.keep := by
  unfold execClose
  simp only [linkArrive_keep, next_keep]

theorem execCloseAck_keep (a0 a1 a2) (s : State) : resKeep (execCloseAck a0 a1 a2 s) = some s.keep := by
  unfold execCloseAck
  simp only [linkArrive_keep, next_keep]

theorem execCarry_keep (a0 a1 a2 a3 a4 a5 a6) (s : State) : resKeep (execCarry
  a0 a1 a2 a3 a4 a5 a6 s) = some s.keep := by
  unfold execCarry
  simp only [linkArrive_keep, next_keep]

theorem execCarryAck_keep (a0 a1 a2) (s : State) : resKeep (execCarryAck a0 a1 a2 s) = some s.keep := by
  unfold execCarryAck
  simp only [linkArrive_keep, next_keep]

theorem execNak_keep (a0 a1 a2) (s : State) : resKeep (execNak a0 a1 a2 s) = some s.keep := by
  unfold execNak
  simp only [linkArrive_keep, next_keep]

theorem execGasp_keep (a0 a1) (s : State) : resKeep (execGasp a0 a1 s) = some s.keep := by
  unfold execGasp
  simp only [linkArrive_keep, next_keep]

theorem execHello_keep (a0 a1 a2 a3 a4 a5 a6) (s : State) : resKeep (execHello
  a0 a1 a2 a3 a4 a5 a6 s) = some s.keep := by
  unfold execHello
  simp only [linkArrive_keep, next_keep]

theorem execResync_keep (a0 a1) (s : State) : resKeep (execResync a0 a1 s) = some s.keep := by
  unfold execResync
  simp only [linkArrive_keep, next_keep]

theorem execLinkFrameResend_keep (a0) (s : State) : resKeep (execLinkFrameResend a0 s) = some s.keep := by
  unfold execLinkFrameResend
  simp only [linkResend_keep, next_keep, ite_keep, ite_self]

theorem execLinkDead_keep (s : State) : resKeep (execLinkDead s) = some s.keep := by
  unfold execLinkDead
  simp only [linkDie_keep, next_keep, ite_keep, ite_self]

theorem execLaneDead_keep (a0) (s : State) : resKeep (execLaneDead a0 s) = some s.keep := by
  unfold execLaneDead
  simp only [updTdm_keep, next_keep, ite_keep, ite_self]

theorem execIdleSend_keep (s : State) : resKeep (execIdleSend s) = some s.keep := by
  unfold execIdleSend
  simp only [linkOut_keep, next_keep, ite_keep, ite_self]

theorem execHelloSend_keep (s : State) : resKeep (execHelloSend s) = some s.keep := by
  unfold execHelloSend
  simp only [linkOut_keep, updTdm_keep, next_keep, ite_keep, ite_self]

theorem fwdExpired_keep (a0 a1) (s : State) : (fwdExpired a0 a1 s).keep = s.keep := by
  unfold fwdExpired
  simp only [settleInput_keep, tdmCount_keep, linkSend_keep, updInput_keep, ite_keep, ite_self]

theorem execFwdWaitExpiry_keep (a0) (s : State) : resKeep (execFwdWaitExpiry a0 s) = some s.keep := by
  unfold execFwdWaitExpiry
  repeat' (first | simp only [fwdExpired_keep, next_keep, ite_keep, ite_self] | split)

theorem execBallotPeriodEnd_keep (s : State) : resKeep (execBallotPeriodEnd s) = some s.keep := by
  unfold execBallotPeriodEnd
  simp only [updTdm_keep, linkSend_keep, next_keep, ite_keep, ite_self]

theorem execBallotDeadline_keep (s : State) : resKeep (execBallotDeadline s) = some s.keep := by
  unfold execBallotDeadline
  simp only [closeNext_keep, next_keep, ite_keep, ite_self]

theorem execHbReply_keep (s : State) : resKeep (execHbReply s) = some s.keep := by
  unfold execHbReply
  simp only [refArrive_keep, updTdm_keep, next_keep, ite_keep, ite_self, implies_true]

theorem execGrant_keep (s : State) : resKeep (execGrant s) = some s.keep := by
  unfold execGrant
  simp only [refArrive_keep, takeGrant_keep, next_keep, ite_keep, ite_self, implies_true]

theorem execRevoke_keep (s : State) : resKeep (execRevoke s) = some s.keep := by
  unfold execRevoke
  simp only [refArrive_keep, takeRevoke_keep, next_keep, ite_keep, ite_self, implies_true]

theorem execDemoteAck_keep (s : State) : resKeep (execDemoteAck s) = some s.keep := by
  unfold execDemoteAck
  simp only [refArrive_keep, enterHalted_keep, updTdm_keep, next_keep, ite_keep, ite_self, implies_true]

theorem execDemoteResend_keep (s : State) : resKeep (execDemoteResend s) = some s.keep := by
  unfold execDemoteResend
  simp only [updTdm_keep, refResend_keep, next_keep, ite_keep, ite_self]

theorem execDemoteTimeout_keep (s : State) : resKeep (execDemoteTimeout s) = some s.keep := by
  unfold execDemoteTimeout
  simp only [enterHalted_keep, updTdm_keep, next_keep, ite_keep, ite_self]

theorem execHeartbeat_keep (s : State) : resKeep (execHeartbeat s) = some s.keep := by
  unfold execHeartbeat
  simp only [refSend_keep, updTdm_keep, next_keep, ite_keep, ite_self]

theorem execRefereeHello_keep (s : State) : resKeep (execRefereeHello s) = some s.keep := by
  unfold execRefereeHello
  simp only [refResend_keep, updTdm_keep, next_keep, ite_keep, ite_self]

theorem execPeerGaspResend_keep (s : State) : resKeep (execPeerGaspResend s) = some s.keep := by
  unfold execPeerGaspResend
  simp only [refResend_keep, updTdm_keep, next_keep, ite_keep, ite_self]

theorem execRefereeUnreachable_keep (a0) (s : State) : resKeep (execRefereeUnreachable a0 s) = some s.keep := by
  unfold execRefereeUnreachable
  simp only [setAlarm_keep, updTdm_keep, next_keep, ite_keep, ite_self]

theorem execResyncPhaseEnd_keep (s : State) : resKeep (execResyncPhaseEnd s) = some s.keep := by
  unfold execResyncPhaseEnd
  simp only [nextPhase_keep, next_keep, ite_keep, ite_self]

theorem execResyncFailure_keep (s : State) : resKeep (execResyncFailure s) = some s.keep := by
  unfold execResyncFailure
  simp only [resyncFail_keep, next_keep, ite_keep, ite_self]

theorem execResyncRetry_keep (s : State) : resKeep (execResyncRetry s) = some s.keep := by
  unfold execResyncRetry
  simp only [closeError_keep, updTdm_keep, next_keep, ite_keep, ite_self]

theorem execSelftestScrubComplete_keep (a0) (s : State) : resKeep (execSelftestScrubComplete a0 s) = some s.keep
  := by
  unfold execSelftestScrubComplete
  simp only [closeError_keep, updTdm_keep, moduleFault_keep, toDetached_keep, next_keep, ite_keep, ite_self]

theorem receivePause_keep (a0 a1) (s : State) : (receivePause a0 a1 s).keep = s.keep := by
  unfold receivePause
  simp only [updPort_keep, count_keep, ite_keep, ite_self]

theorem ddRoom_keep {k x : Nat} {s t : State} (h : ddRoom k x s = some t) : t.keep = s.keep := by
  unfold ddRoom at h
  repeat' (first | (cases h; done)
                 | (simp only [Option.some.injEq] at h)
                 | split at h
                 | (obtain ⟨rfl, rfl, rfl⟩ := h)
                 | (obtain ⟨rfl, rfl⟩ := h)
                 | subst h
                 | simp only [updSw_keep])

theorem ddPut_keep (a0) (s : State) : (ddPut a0 s).keep = s.keep := by
  unfold ddPut
  simp only [updSw_keep]

theorem ddJudge_keep {k x d n : Nat} {o : Dup} {s t : State} (h : ddJudge k x d n s = (o, t)) : t.keep = s.keep := by
  unfold ddJudge at h
  repeat' (first | (cases h; done)
                 | (simp only [Prod.mk.injEq] at h)
                 | split at h
                 | (obtain ⟨rfl, rfl, rfl⟩ := h)
                 | (obtain ⟨rfl, rfl⟩ := h)
                 | subst h
                 | (refine Eq.trans (ddRoom_keep (by assumption)) ?_)
                 | simp only [ddPut_keep])

theorem ddJudge_keeps (k x d n : Nat) (s : State) : (ddJudge k x d n s).2.keep = s.keep := ddJudge_keep rfl

theorem ddCount_keep (a0 a1 a2) (s : State) : (ddCount a0 a1 a2 s).keep = s.keep := by
  unfold ddCount
  repeat' (first | simp only [updSw_keep, count_keep] | split)

theorem ddPass_keep {p k x d n : Nat} {o : Bool} {s t : State} (h : ddPass p k x d n s = (o, t)) : t.keep = s.keep := by
  unfold ddPass at h
  repeat' (first | (cases h; done)
                 | (simp only [Prod.mk.injEq] at h)
                 | split at h
                 | (obtain ⟨rfl, rfl, rfl⟩ := h)
                 | (obtain ⟨rfl, rfl⟩ := h)
                 | subst h
                 | (refine Eq.trans (ddJudge_keep (by assumption)) ?_)
                 | simp only [ddCount_keep,
                     ddJudge_keeps])

theorem ddPass_keeps (p k x d n : Nat) (s : State) : (ddPass p k x d n s).2.keep = s.keep := ddPass_keep rfl

theorem learn_keep (a0 a1 a2) (s : State) : (learn a0 a1 a2 s).keep = s.keep := by
  unfold learn
  repeat' (first | simp only [updSw_keep, ite_keep, ite_self] | split)

theorem tailMark_keep (a0 a1 a2 a3 a4 a5) (s : State) : (tailMark a0 a1 a2 a3 a4 a5
  s).keep = s.keep := by
  unfold tailMark
  simp only [occupy_keep, count_keep, countOctets_keep, emit_keep, mirrorFrame_keep, deliverCopy_keep, ite_keep, ite_self]

theorem forwardAll_keep (p n vid pcp : Nat) (q : Copy) (l served : List Nat) (s : State) :
    (forwardAll p n vid pcp q l served s).keep = s.keep := by
  induction l generalizing served s with
  | nil => simp only [forwardAll]
  | cons o l ih =>
    simp only [forwardAll]
    repeat' (first | simp only [ih, copyPair_keep, copyTo_keep, count_keep, tailMark_keep, ite_keep, ite_self]
                   | split)

theorem ingressRest_keep (a0 a1 a2) (s : State) : (ingressRest a0 a1 a2 s).keep = s.keep := by
  unfold ingressRest
  simp only [count_keep, learn_keep, capture_keep, forwardAll_keep, ite_keep, ite_self]

theorem prpIngress_keep (a0 a1 a2 a3 a4) (s : State) : (prpIngress a0 a1 a2 a3 a4 s).keep = s.keep := by
  unfold prpIngress
  repeat' (first | simp only [ingressRest_keep, updSw_keep, count_keep, ite_keep, ite_self, ddPass_keeps]
                 | (refine Eq.trans (ddPass_keep (by assumption)) ?_)
                 | split)

theorem hsrForward_keep (a0 a1 a2 a3 a4 a5) (s : State) : (hsrForward a0 a1 a2 a3 a4 a5 s).keep
  = s.keep := by
  unfold hsrForward
  simp only [copyTo_keep, ite_keep, ite_self, ddPass_keeps]

theorem hsrIngress_keep (a0 a1 a2 a3 a4) (s : State) : (hsrIngress a0 a1 a2 a3 a4 s).keep = s.keep := by
  unfold hsrIngress
  repeat' (first | simp only [ingressRest_keep, hsrForward_keep, ite_keep, ite_self, ddPass_keeps]
                 | (refine Eq.trans (ddPass_keep (by assumption)) ?_)
                 | split)

theorem badFrame_keep (a0 a1) (s : State) : (badFrame a0 a1 s).keep = s.keep := by
  unfold badFrame
  simp only [tailMark_keep, foldl_keep, ite_keep, ite_self, implies_true]

theorem receiveFrame_keep (a0 a1) (s : State) : (receiveFrame a0 a1 s).keep = s.keep := by
  unfold receiveFrame
  repeat' (first | simp only [badFrame_keep, count_keep, countOctets_keep, receivePause_keep, mirrorFrame_keep,
                     hsrIngress_keep, prpIngress_keep, ingressRest_keep, ite_keep, ite_self, newFid_keeps]
                 | (refine Eq.trans (newFid_keep (by assumption)) ?_)
                 | split)

theorem execPortFrameReceive_keep (a0 a1) (s : State) : resKeep (execPortFrameReceive a0 a1 s) = some s.keep
  := by
  unfold execPortFrameReceive
  simp only [receiveFrame_keep, next_keep, ite_keep, ite_self]

theorem txHandIn_keep (a0 a1 a2 a3 a4 a5 a6) (s : State) : (txHandIn a0 a1 a2
  a3 a4 a5 a6 s).keep = s.keep := by
  unfold txHandIn
  simp only [updWin_keep, copyAll_keep, updSw_keep, txWriteBacks_keep, txDone_keep, ite_keep, ite_self, newFid_keeps]

theorem txFrame_keep (a0 a1 a2 a3) (s : State) : (txFrame a0 a1 a2 a3 s).keep = s.keep := by
  unfold txFrame
  repeat' (first | simp only [txDrop_keep, updSw_keep, txHandIn_keep, ite_keep, ite_self] | split)

theorem txFetch_keep (a0 a1 a2) (s : State) : (txFetch a0 a1 a2 s).keep = s.keep := by
  unfold txFetch
  repeat' (first | simp only [txStop_keep, atuFault_keep, updWin_keep, txFrame_keep, keep_mk, keep_fold] | split)

theorem execTxFrameFetch_keep (a0 a1 a2) (s : State) : resKeep (execTxFrameFetch a0 a1 a2 s) = some
  s.keep := by
  unfold execTxFrameFetch
  simp only [txFetch_keep, next_keep, ite_keep, ite_self]

theorem launchHandIns_keep (s : State) : (launchHandIns s).keep = s.keep := by
  unfold launchHandIns
  simp only [txHandIn_keep, updSw_keep, foldl_keep, ite_keep, ite_self, implies_true]

theorem execFdbAgeExpiry_keep (a0 a1) (s : State) : resKeep (execFdbAgeExpiry a0 a1 s) = some s.keep := by
  unfold execFdbAgeExpiry
  simp only [updSw_keep, next_keep]

theorem execDdAgeExpiry_keep (a0 a1) (s : State) : resKeep (execDdAgeExpiry a0 a1 s) = some s.keep := by
  unfold execDdAgeExpiry
  simp only [updSw_keep, next_keep]

theorem fixPort_keep (p : Nat) (x : Nat × State) : (fixPort p x).2.keep = x.2.keep := by
  unfold fixPort
  repeat' (first | simp only [updEg_keep] | split)

theorem stockPass_keep (s : State) : (stockPass s).2.2.keep = s.keep := by
  have h : ∀ (l : List Nat) (x : Nat × State), (l.foldl (fun x p => fixPort p x) x).2.keep = x.2.keep := by
    intro l
    induction l with
    | nil => intro x; rfl
    | cons n l ih => intro x; rw [List.foldl_cons, ih, fixPort_keep]
  unfold stockPass
  simp only [updSw_keep, h]

theorem stockEnd_keep (a0 a1) (s : State) : (stockEnd a0 a1 s).keep = s.keep := by
  unfold stockEnd
  simp only [updSw_keep, passError_keep, noteMod_keep, setAlarm_keep, finishWaits_keep, ite_keep, ite_self]

theorem execStocktake_keep (s : State) : resKeep (execStocktake s) = some s.keep := by
  unfold execStocktake
  simp only [stockPass_keep, stockEnd_keep, next_keep, ite_keep, ite_self, stockPass_keep]

theorem ptpForward_keep (a0 a1 a2) (s : State) : (ptpForward a0 a1 a2 s).keep = s.keep := by
  unfold ptpForward
  simp only [copyTo_keep, foldl_keep, ite_keep, ite_self, implies_true, newFid_keeps]

theorem setDelay_keep (a0 a1) (s : State) : (setDelay a0 a1 s).keep = s.keep := by
  unfold setDelay
  simp only [updPort_keep]

theorem answerPdelay_keep (a0 a1 a2) (s : State) : (answerPdelay a0 a1 a2 s).keep = s.keep := by
  unfold answerPdelay
  simp only [ptpSend_keep]

theorem ptpTake_keep (a0 a1 a2) (s : State) : (ptpTake a0 a1 a2 s).keep = s.keep := by
  unfold ptpTake
  repeat' (first | simp only [bmca_keep, updPort_keep, updTime_keep, measure_keep, answerPdelay_keep, setDelay_keep,
                     ite_keep, ite_self]
                 | split)

theorem ptpHandle_keep (a0) (s : State) : (ptpHandle a0 s).keep = s.keep := by
  unfold ptpHandle
  repeat' (first | simp only [updPort_keep, ptpForward_keep, ptpTake_keep, ite_keep, ite_self] | split)

theorem execPtpMessageHandle_keep (s : State) : resKeep (execPtpMessageHandle s) = some s.keep := by
  unfold execPtpMessageHandle
  repeat' (first | simp only [ptpHandle_keep, next_keep]
                 | (refine congrArg some (Eq.trans (takeFrom_keep (by assumption)) ?_))
                 | split)

theorem execResidenceDiscard_keep (a0 a1) (s : State) : resKeep (execResidenceDiscard a0 a1 s) = some s.keep
  := by
  unfold execResidenceDiscard
  simp only [updPort_keep, next_keep, ite_keep, ite_self]

theorem execSourceLoss_keep (s : State) : resKeep (execSourceLoss s) = some s.keep := by
  unfold execSourceLoss
  simp only [bmca_keep, updPort_keep, loseSource_keep, next_keep, ite_keep, ite_self]

theorem holdoverEnd_keep (s : State) : (holdoverEnd s).keep = s.keep := by
  unfold holdoverEnd
  simp only [setClk_keep, openError_keep, closeError_keep, ite_keep, ite_self]

theorem execHoldoverLimitExpiry_keep (s : State) : resKeep (execHoldoverLimitExpiry s) = some s.keep := by
  unfold execHoldoverLimitExpiry
  simp only [holdoverEnd_keep, next_keep, ite_keep, ite_self]

theorem ppsAccept_keep (a0) (s : State) : (ppsAccept a0 s).keep = s.keep := by
  unfold ppsAccept
  repeat' (first | simp only [updTime_keep, selectSource_keep, finishWaits_keep, traceJudge_keep, stepPhc_keep,
                     measure_keep, ite_keep, ite_self]
                 | split)

theorem ppsFirst_keep (a0) (s : State) : (ppsFirst a0 s).keep = s.keep := by
  unfold ppsFirst
  simp only [selectSource_keep, ppsAccept_keep, stepPhc_keep, ite_keep, ite_self]

theorem ppsEdge_keep (s : State) : (ppsEdge s).keep = s.keep := by
  unfold ppsEdge
  simp only [updTime_keep, ppsFirst_keep, ppsAccept_keep, ite_keep, ite_self]

theorem execPpsInEdge_keep (s : State) : resKeep (execPpsInEdge s) = some s.keep := by
  unfold execPpsInEdge
  simp only [ppsEdge_keep, next_keep, ite_keep, ite_self]

theorem execFreqInLoss_keep (s : State) : resKeep (execFreqInLoss s) = some s.keep := by
  unfold execFreqInLoss
  simp only [updTime_keep, next_keep]

theorem execFreqInPresent_keep (s : State) : resKeep (execFreqInPresent s) = some s.keep := by
  unfold execFreqInPresent
  simp only [updTime_keep, next_keep, ite_keep, ite_self]

theorem execPpsOutPulse_keep (s : State) : resKeep (execPpsOutPulse s) = some s.keep := by
  unfold execPpsOutPulse
  simp only [updTime_keep, next_keep, ite_keep, ite_self]

theorem readTs32_keep (a0) (s : State) : (readTs32 a0 s).keep = s.keep := by
  unfold readTs32
  simp only [emit_keep, updTime_keep]

theorem execPtpNowTs32_keep (a0) (s : State) : resKeep (execPtpNowTs32 a0 s) = some s.keep := by
  unfold execPtpNowTs32
  simp only [readTs32_keep, next_keep, ite_keep, ite_self]

theorem ptpPortSend_keep (s : State) (a1) : (ptpPortSend s a1).keep = s.keep := by
  unfold ptpPortSend
  simp only [updPort_keep, ptpSend_keep, keep_mk, keep_fold, ite_keep, ite_self]

theorem ptpPeriodic_keep (s : State) : (ptpPeriodic s).keep = s.keep := by
  unfold ptpPeriodic
  simp only [ptpPortSend_keep, bmca_keep, foldl_keep, implies_true]

theorem writeMod_keep {n i v : Nat} {s t : State} (h : writeMod n i v s = some t) : t.keep = s.keep := by
  unfold writeMod at h
  repeat' (first | (cases h; done)
                 | (simp only [Option.some.injEq] at h)
                 | split at h
                 | (obtain ⟨rfl, rfl, rfl⟩ := h)
                 | (obtain ⟨rfl, rfl⟩ := h)
                 | subst h
                 | simp only [withNtf_keep, updNtf_keep,
                     implies_true])

theorem writePrio_keep {n i w v : Nat} {s t : State} (h : writePrio n i w v s = some t) : t.keep = s.keep := by
  unfold writePrio at h
  repeat' (first | (cases h; done)
                 | (simp only [Option.some.injEq] at h)
                 | split at h
                 | (obtain ⟨rfl, rfl, rfl⟩ := h)
                 | (obtain ⟨rfl, rfl⟩ := h)
                 | subst h
                 | simp only [withNtf_keep, updNtf_keep,
                     implies_true])

theorem writeEnable_keep {n v : Nat} {s t : State} (h : writeEnable n v s = some t) : t.keep = s.keep := by
  unfold writeEnable at h
  repeat' (first | (cases h; done)
                 | (simp only [Option.some.injEq] at h)
                 | split at h
                 | (obtain ⟨rfl, rfl, rfl⟩ := h)
                 | (obtain ⟨rfl, rfl⟩ := h)
                 | subst h
                 | simp only [withNtf_keep, updNtf_keep,
                     implies_true])

theorem writeRoute_keep {n v : Nat} {s t : State} (h : writeRoute n v s = some t) : t.keep = s.keep := by
  unfold writeRoute at h
  repeat' (first | (cases h; done)
                 | (simp only [Option.some.injEq] at h)
                 | split at h
                 | (obtain ⟨rfl, rfl, rfl⟩ := h)
                 | (obtain ⟨rfl, rfl⟩ := h)
                 | subst h
                 | simp only [withNtf_keep, updNtf_keep,
                     implies_true])

theorem writeX3Filter_keep (a0) (s : State) : (writeX3Filter a0 s).keep = s.keep := by
  unfold writeX3Filter
  simp only [updX3_keep, ite_keep, ite_self]

theorem writeNtfBlock_keep (o v : Nat) (s : State) : (writeNtfBlock o v s).keep = s.keep := by
  unfold writeNtfBlock
  split
  · exact getD_keep (fun _ => writeEnable_keep) rfl
  · exact ntfComplete_keep _ _ _
  · exact getD_keep (fun _ => writeMod_keep) rfl
  · exact getD_keep (fun _ => writePrio_keep) rfl
  · exact getD_keep (fun _ => writePrio_keep) rfl
  · exact alarmClear_keep _ _
  · exact writeX3Filter_keep _ _
  · exact clearLatch_keep _ _ _
  · exact clearLatch_keep _ _ _
  · rfl

theorem orDenied_keep (n : Nat) (s : State) (r : Option State) (h : ∀ t, r = some t → t.keep = s.keep) : (orDenied n s
  r).keep = s.keep :=
  getD_keep h (deniedWr_keep n s)

theorem writeBase_keep {n o v : Nat} {s t : State} (h : writeBase n o v s = some t) : t.keep = s.keep := by
  unfold writeBase at h
  cases g : winWrite n o v s with
  | none => simp [g] at h
  | some c =>
    simp only [g, Option.map_some, Option.some.injEq] at h
    rw [← h, updWin_keep]

theorem writeSliceNtf_keep (n o v : Nat) (s : State) : (writeSliceNtf n o v s).keep = s.keep := by
  unfold writeSliceNtf
  split
  · exact orDenied_keep _ _ _ fun _ => writeEnable_keep
  · split
    · simp only [ntfComplete_keep]
    · split
      · exact orDenied_keep _ _ _ fun _ => writeRoute_keep
      · split
        · exact orDenied_keep _ _ _ fun _ => writePrio_keep
        · split
          · exact orDenied_keep _ _ _ fun _ => writePrio_keep
          · split
            · exact orDenied_keep _ _ _ fun _ => writeMod_keep
            · rfl

theorem writeWindow_keep (a b c : Nat) (s : State) : (writeWindow a b c s).keep = s.keep := by
  unfold writeWindow
  repeat' (first | exact orDenied_keep _ _ _ (fun _ => writeBase_keep)
                 | simp only [writeRingCfg_keep, sqDoorbell_keep, cqDoorbell_keep, clearWin_keep, writeRxCfg_keep,
                     rxDoorbell_keep, writeTxCfg_keep, txDoorbell_keep, writeSliceNtf_keep,

                     ite_keep]
                 | split)

theorem writeTime_keep (a0 a1) (s : State) : (writeTime a0 a1 s).keep = s.keep := by
  unfold writeTime
  repeat' (first | simp only [updTime_keep] | split)

theorem writeTimePort_keep (a0 a1 a2) (s : State) : (writeTimePort a0 a1 a2 s).keep = s.keep := by
  unfold writeTimePort
  repeat' (first | simp only [updPort_keep, updTime_keep, ite_keep, ite_self] | split)

theorem writePtpBlock_keep (a0 a1) (s : State) : (writePtpBlock a0 a1 s).keep = s.keep := by
  unfold writePtpBlock
  simp only [clearTime_keep, writeTimePort_keep, writeTime_keep, ite_keep, ite_self]

theorem writePwrCtrl_keep (a0) (s : State) : (writePwrCtrl a0 s).keep = s.keep := by
  unfold writePwrCtrl
  repeat' (first | simp only [updPwr_keep, snapshot_keep, ite_keep, ite_self] | split)

theorem writePwrBlock_keep (a0 a1) (s : State) : (writePwrBlock a0 a1 s).keep = s.keep := by
  unfold writePwrBlock
  repeat' (first | simp only [clearRails_keep, writePwrCtrl_keep] | split)

theorem writeTdmBlock_keep (a0 a1) (s : State) : (writeTdmBlock a0 a1 s).keep = s.keep := by
  unfold writeTdmBlock
  repeat' (first | simp only [clearTdm_keep, updTdm_keep, ite_keep] | split)

theorem writeOut_keep (a0 a1 a2) (s : State) : (writeOut a0 a1 a2 s).keep = s.keep := by
  unfold writeOut
  repeat' (first | simp only [clearOut_keep, outChanged_keep, updOut_keep, ite_keep] | split)

theorem writeTestCfg_keep (a0) (s : State) : (writeTestCfg a0 s).keep = s.keep := by
  unfold writeTestCfg
  repeat' (first | simp only [keep_mk, keep_fold, ite_keep] | split)

theorem writeTrpBlock_keep (a0 a1) (s : State) : (writeTrpBlock a0 a1 s).keep = s.keep := by
  unfold writeTrpBlock
  simp only [writeTestCfg_keep, writeOut_keep, ite_keep, ite_self]

theorem writeAngBlock_keep (a0 a1) (s : State) : (writeAngBlock a0 a1 s).keep = s.keep := by
  unfold writeAngBlock
  simp only [angWrite_keep, ite_keep, ite_self]

theorem writeChrBlock_keep (a0 a1) (s : State) : (writeChrBlock a0 a1 s).keep = s.keep := by
  unfold writeChrBlock
  simp only [clearChr_keep, updChr_keep, ite_keep, ite_self]

theorem writeUpdBlock_keep (a0 a1) (s : State) : (writeUpdBlock a0 a1 s).keep = s.keep := by
  unfold writeUpdBlock
  simp only [clearUpd_keep, clearKeys_keep, updUpd_keep, ite_keep, ite_self, implies_true]

theorem writePort_keep (a0 a1 a2) (s : State) : (writePort a0 a1 a2 s).keep = s.keep := by
  unfold writePort
  repeat' (first | simp only [clearPort_keep, updPort_keep, portEffects_keep, ite_keep, ite_self] | split)

theorem writeSwBlock_keep (a0 a1) (s : State) : (writeSwBlock a0 a1 s).keep = s.keep := by
  unfold writeSwBlock
  repeat' (first | simp only [clearSw_keep, updSw_keep, ite_keep, ite_self] | split)

theorem writeArcBlock_keep (a0 a1) (s : State) : (writeArcBlock a0 a1 s).keep = s.keep := by
  unfold writeArcBlock
  repeat' (first | simp only [updArc_keep, clearArc_keep] | split)

theorem stampSent_keep (a0) (s : State) : (stampSent a0 s).keep = s.keep := by
  unfold stampSent
  simp only [updNtf_keep, foldl_keep, implies_true]

theorem unmask_keep (a0) (s : State) : (unmask a0 s).keep = s.keep := by
  unfold unmask
  simp only [updPcie_keep, post_keep, stampSent_keep, ite_keep, ite_self]

theorem writeMsix_keep (a0 a1) (s : State) : (writeMsix a0 a1 s).keep = s.keep := by
  unfold writeMsix
  simp only [updPcie_keep, unmask_keep, ite_keep, ite_self]

theorem execMsixUnmask_keep (a0) (s : State) : resKeep (execMsixUnmask a0 s) = some s.keep := by
  unfold execMsixUnmask
  simp only [writeMsix_keep, next_keep, ite_keep, ite_self]

theorem writeLow_keep (a0 a1 a2) (s : State) : (writeLow a0 a1 a2 s).keep = s.keep := by
  unfold writeLow
  repeat' (first | simp only [writeWindow_keep, writeNtfBlock_keep, clearAtu_keep, writePtpBlock_keep,
                     writeAngBlock_keep, writePwrBlock_keep, writeTdmBlock_keep, writeTrpBlock_keep, writeChrBlock_keep,
                     writeUpdBlock_keep, ite_keep, ite_self]
                 | split)

theorem writeAt_keep (a0 a1) (s : State) : (writeAt a0 a1 s).keep = s.keep := by
  unfold writeAt
  simp only [writeLow_keep, writePort_keep, writeSwBlock_keep, writeArcBlock_keep, writeMsix_keep, writeWindow_keep,
    ite_keep, ite_self]

theorem execRegisterWrite_keep (a0 a1) (s : State) : resKeep (execRegisterWrite a0 a1 s) = some s.keep := by
  unfold execRegisterWrite
  simp only [accessError_keep, writeAt_keep, next_keep, ite_keep, ite_self]

theorem readLowWord_keep (a0 a1 a2) (s : State) : (readLowWord a0 a1 a2 s).keep = s.keep := by
  unfold readLowWord
  simp only [emit_keep, updPcie_keep]

theorem readHighWord_keep (a0 a1 a2) (s : State) : (readHighWord a0 a1 a2 s).keep = s.keep := by
  unfold readHighWord
  repeat' (first | simp only [emit_keep, updPcie_keep] | split)

theorem useNow_keep (a0) (s : State) : (useNow a0 s).keep = s.keep := by
  unfold useNow
  simp only [updTime_keep]

theorem readActs_keep {a r : Nat} {s t : State} (h : readActs a r s = some t) : t.keep = s.keep := by
  unfold readActs at h
  repeat' (first | (cases h; done)
                 | (simp only [Option.some.injEq] at h)
                 | split at h
                 | (obtain ⟨rfl, rfl, rfl⟩ := h)
                 | (obtain ⟨rfl, rfl⟩ := h)
                 | subst h
                 | simp only [claimRead_keep, readTs32_keep, emit_keep, useNow_keep])

theorem readReg_keep (a r : Nat) (s : State) : (readReg a r s).keep = s.keep := by
  unfold readReg
  repeat' (first | simp only [readLowWord_keep, readHighWord_keep, emit_keep]
                 | split)
  rename_i h
  split at h
  · exact readActs_keep h
  · cases h

theorem execLowWordRead_keep (a0 a1) (s : State) : resKeep (execLowWordRead a0 a1 s) = some s.keep := by
  unfold execLowWordRead
  simp only [readReg_keep, next_keep, ite_keep, ite_self]

theorem execBar0BadAccess_keep (a0 a1) (s : State) : resKeep (execBar0BadAccess a0 a1 s) = some s.keep := by
  unfold execBar0BadAccess
  simp only [accessError_keep, emit_keep, next_keep, ite_keep, ite_self]

theorem execBar2Write_keep (a0) (s : State) : resKeep (execBar2Write a0 s) = some s.keep := by
  unfold execBar2Write
  simp only [accessError_keep, next_keep, ite_keep, ite_self]

theorem restartStream_keep (a0 a1) (s : State) : (restartStream a0 a1 s).keep = s.keep := by
  unfold restartStream
  simp only [finishWaits_keep, updStream_keep, updFilt_keep, setStream_keep, syncPairs_keep, ite_keep, ite_self]

theorem noteAuthFail_keep (a0 a1) (s : State) : (noteAuthFail a0 a1 s).keep = s.keep := by
  unfold noteAuthFail
  simp only [noteMod_keep, updStream_keep, ite_keep, ite_self]

theorem svOffer_keep (a0 a1 a2 a3 a4) (s : State) : (svOffer a0 a1 a2 a3 a4 s).keep =
  s.keep := by
  unfold svOffer
  simp only [strCount_keep, offer_keep, ite_keep, ite_self]

theorem svAsdu_keep (a0 a1 a2 a3 a4) (s : State) : (svAsdu a0 a1 a2 a3 a4 s).keep = s.keep
  := by
  unfold svAsdu
  repeat' (first | simp only [placeAsdu_keep, svOffer_keep, ite_keep] | split)

theorem svSim_keep {x : Nat} {y : Stream} {b c : Bool} {s t : State} (h : svSim x y b s = (t, c)) : t.keep = s.keep :=
  by
  unfold svSim at h
  repeat' (first | (cases h; done)
                 | (simp only [Prod.mk.injEq] at h)
                 | split at h
                 | (obtain ⟨rfl, rfl, rfl⟩ := h)
                 | (obtain ⟨rfl, rfl⟩ := h)
                 | subst h
                 | simp only [setSim_keep])

theorem svSim_keeps (x : Nat) (y : Stream) (b : Bool) (s : State) : (svSim x y b s).1.keep = s.keep := svSim_keep rfl

theorem svTake_keep (a0 a1 a2 a3) (s : State) : (svTake a0 a1 a2 a3 s).keep = s.keep := by
  unfold svTake
  repeat' (first | simp only [noteAuthFail_keep, strCount_keep, svAsdu_keep, foldl_keep, ite_keep, ite_self,
                     implies_true]
                 | (refine Eq.trans (svSim_keep (by assumption)) ?_)
                 | split)

theorem svIngest_keep (a0 a1 a2) (s : State) : (svIngest a0 a1 a2 s).keep = s.keep := by
  unfold svIngest
  repeat' (first | simp only [restartStream_keep, strCount_keep, svTake_keep, keep_mk, keep_fold, ite_keep, ite_self]
                 | split)

theorem svFrame_keep (a0) (s : State) : (svFrame a0 s).keep = s.keep := by
  unfold svFrame
  repeat' (first | simp only [svIngest_keep] | split)

theorem execSvFrameIngest_keep (s : State) : resKeep (execSvFrameIngest s) = some s.keep := by
  unfold execSvFrameIngest
  repeat' (first | simp only [svFrame_keep, next_keep, ite_keep, ite_self]
                 | (refine congrArg some (Eq.trans (takeFrom_keep (by assumption)) ?_))
                 | split)

theorem execSampleMissing_keep (a0) (s : State) : resKeep (execSampleMissing a0 s) = some s.keep := by
  unfold execSampleMissing
  repeat' (first | simp only [declareMissing_keep, offerMissing_keep, next_keep, ite_keep, ite_self] | split)

theorem gooseFor_keep (a0 a1 a2 a3 a4) (s : State) : (gooseFor a0 a1 a2 a3 a4 s).keep =
  s.keep := by
  unfold gooseFor
  repeat' (first | simp only [subEvents_keep, applyGoose_keep, updSub_keep, offer_keep, ite_keep, ite_self]
                 | (refine Eq.trans (subChecks_keep (by assumption)) ?_)
                 | split)

theorem gooseFrame_keep (a0) (s : State) : (gooseFrame a0 s).keep = s.keep := by
  unfold gooseFrame
  repeat' (first | simp only [gooseFor_keep, keep_mk, keep_fold, foldl_keep, ite_keep, ite_self, implies_true] | split)

theorem execGooseFrameReceive_keep (s : State) : resKeep (execGooseFrameReceive s) = some s.keep := by
  unfold execGooseFrameReceive
  repeat' (first | simp only [gooseFrame_keep, next_keep, ite_keep, ite_self]
                 | (refine congrArg some (Eq.trans (takeFrom_keep (by assumption)) ?_))
                 | split)

theorem execGooseTalExpiry_keep (a0 a1) (s : State) : resKeep (execGooseTalExpiry a0 a1 s) = some s.keep := by
  unfold execGooseTalExpiry
  simp only [talOut_keep, next_keep, ite_keep, ite_self]

theorem sampleSupply_keep (s : State) : (sampleSupply s).keep = s.keep := by
  unfold sampleSupply
  simp only [keep_mk, keep_fold]

theorem ppsFall_keep (s : State) : (ppsFall s).keep = s.keep := by
  unfold ppsFall
  simp only [updTime_keep, ite_keep, ite_self]

end Sys2Proof.Machine
end

