-- ==== Sys2Proof/Laws/Quiet.lean ====
section
/-! SUPPORT. What the operations behind the host's configuration and reading rows keep: instances, domains,
resampling, lanes, the logic engine and streams (`State.prot`). One lemma per operation, by its own name, then
one per row of `quietRows`. -/

namespace Sys2Proof.Machine

def State.prot (s : State) : Tab Inst × Tab Dom × Filt × Lanes × Engine × Sv := (s.insts, s.doms, s.filt, s.lanes,
  s.logic, s.sv)

def Ans.protFrom (s : State) : Ans → Tab Inst × Tab Dom × Filt × Lanes × Engine × Sv
  | .fail _ => s.prot
  | .wait t => t.prot
  | .going t => t.prot
  | .done t _ => t.prot

theorem fail_prot (r : Reply) (s : State) : (Ans.fail r).protFrom s = s.prot := rfl

theorem wait_prot (s t : State) : (Ans.wait t).protFrom s = t.prot := rfl

theorem going_prot (s t : State) : (Ans.going t).protFrom s = t.prot := rfl

theorem done_prot (s t : State) (r : Reply) : (Ans.done t r).protFrom s = t.prot := rfl

def resProt : Res → Option (Tab Inst × Tab Dom × Filt × Lanes × Engine × Sv)
  | .next t => some t.prot
  | _ => none

theorem next_prot (t : State) : resProt (.next t) = some t.prot := rfl

theorem prot_fold (s : State) : (s.insts, s.doms, s.filt, s.lanes, s.logic, s.sv) = s.prot := rfl

theorem foldl_prot {α : Type} (g : State → α → State) (l : List α) (h : ∀ s a, (g s a).prot = s.prot) (s : State) :
    (l.foldl g s).prot = s.prot := by
  induction l generalizing s with
  | nil => rfl
  | cons a l ih => rw [List.foldl_cons, ih, h]

theorem ite_pfrom (c : Prop) [Decidable c] (a b : Ans) (s : State) : (if c then a else b).protFrom s = if c then
  a.protFrom s else b.protFrom s := by
  split <;> rfl

theorem ite_prot (c : Prop) [Decidable c] (a b : State) : (if c then a else b).prot = if c then a.prot else b.prot := by
  split <;> rfl

theorem getD_prot {o : Option State} {s t : State} (h : ∀ u, o = some u → u.prot = t.prot) (g : s.prot = t.prot) :
    (o.getD s).prot = t.prot := by
  cases o with
  | none => exact g
  | some u => exact h u rfl

theorem prot_mk {x0 x1 x2 x3 x4 x5 x6 x7 x8 x9 x10 x11 x12 x13 x14 x15 x16 x17 x18 x19 x20 x21 x22 x23 x24 x25 x26 x27
  x28 x29 x30 x31 x32 x33 x34 x35} : (State.mk x0 x1 x2 x3 x4 x5 x6 x7 x8 x9 x10 x11 x12 x13 x14 x15 x16 x17 x18
  x19 x20 x21 x22 x23 x24 x25 x26 x27 x28 x29 x30 x31 x32 x33 x34 x35).prot = (x29, x25, x26, x27, x28, x24) :=
  rfl

theorem updWin_prot (a0 a1) (s : State) : (updWin a0 a1 s).prot = s.prot := by
  unfold updWin
  simp only [prot_mk, prot_fold]

theorem updPort_prot (a0 a1) (s : State) : (updPort a0 a1 s).prot = s.prot := by
  unfold updPort
  simp only [prot_mk, prot_fold]

theorem emit_prot (a0) (s : State) : (emit a0 s).prot = s.prot := by
  unfold emit
  simp only [prot_mk, prot_fold]

theorem post_prot (a0) (s : State) : (post a0 s).prot = s.prot := by
  unfold post
  simp only [emit_prot, prot_mk, prot_fold, ite_prot, ite_self]

theorem updNtf_prot (a0 a1) (s : State) : (updNtf a0 a1 s).prot = s.prot := by
  unfold updNtf
  simp only [prot_mk, prot_fold, ite_prot, ite_self]

theorem ntfSend_prot (a0 a1) (s : State) : (ntfSend a0 a1 s).prot = s.prot := by
  unfold ntfSend
  simp only [post_prot, updNtf_prot, prot_mk, prot_fold, ite_prot, ite_self]

theorem ntfDue_prot (a0 a1) (s : State) : (ntfDue a0 a1 s).prot = s.prot := by
  unfold ntfDue
  repeat' (first | simp only [updNtf_prot, ntfSend_prot, ite_prot, ite_self] | split)

theorem ntfJudge_prot (b : State) (n v : Nat) (s : State) : (ntfJudge b n v s).prot = s.prot := by
  unfold ntfJudge
  repeat' (first | simp only [ntfDue_prot, ntfSend_prot] | split)

theorem withNtf_prot (n : Nat) (f : State → State) (s : State) (h : ∀ s, (f s).prot = s.prot) : (withNtf n f s).prot =
  s.prot := by
  unfold withNtf
  split <;> simp only [ntfJudge_prot, h]

theorem edge_prot (a0 a1) (s : State) : (edge a0 a1 s).prot = s.prot := by
  unfold edge
  simp only [withNtf_prot, updNtf_prot, implies_true]

theorem ringErr_prot (a0) (s : State) : (ringErr a0 s).prot = s.prot := by
  unfold ringErr
  simp only [withNtf_prot, updWin_prot, implies_true]

theorem atuFault_prot (a0 a1 a2 a3 a4 a5) (s : State) : (atuFault a0 a1 a2 a3 a4 a5
  s).prot = s.prot := by
  unfold atuFault
  repeat' (first | simp only [edge_prot, updWin_prot] | (refine Eq.trans (withNtf_prot _ _ _ (fun _ => rfl)) ?_))

theorem noteAs_prot (a0 a1 a2 a3 a4 a5) (s : State) : (noteAs a0 a1 a2 a3 a4 a5
  s).prot = s.prot := by
  unfold noteAs
  repeat' (first | simp only [edge_prot, prot_mk, prot_fold, ite_prot, ite_self] | split)

theorem note_prot (a0 a1 a2 a3 a4) (s : State) : (note a0 a1 a2 a3 a4 s).prot = s.prot := by
  unfold note
  simp only [noteAs_prot]

theorem noteMod_prot (a0 a1 a2 a3) (s : State) : (noteMod a0 a1 a2 a3 s).prot = s.prot := by
  unfold noteMod
  simp only [note_prot]

theorem addWait_prot (a0 a1) (s : State) : (addWait a0 a1 s).prot = s.prot := by
  unfold addWait
  simp only [prot_mk, prot_fold]

theorem reply_prot (a0 a1) (s : State) : (reply a0 a1 s).prot = s.prot := by
  unfold reply
  simp only [prot_mk, prot_fold]

theorem setPhase_prot (a0 a1) (s : State) : (setPhase a0 a1 s).prot = s.prot := by
  unfold setPhase
  simp only [prot_mk, prot_fold]

theorem settle_prot (c : Cmd) (s : State) (a : Ans) (h : a.protFrom s = s.prot) : (settle c s a).prot = s.prot := by
  unfold settle
  cases a with
  | fail r => simp only [reply_prot, prot_mk, prot_fold]
  | wait t => simp only [setPhase_prot, show t.prot = s.prot from h]
  | going t => simp only [setPhase_prot, show t.prot = s.prot from h]
  | done t r =>
    simp only
    repeat' (first | simp only [reply_prot, post_prot, atuFault_prot, show t.prot = s.prot from h] | split)

theorem feljo_prot (op : Nat) (r : CmdId) (k : Cmd → State → Ans) (s : State) (h : ∀ c s, (k c s).protFrom s = s.prot)
  : resProt (feljo op r k s) = some s.prot := by
  unfold feljo
  split
  · simp only [next_prot]
    rw [settle_prot]
    split
    · rfl
    · exact h _ _
  · rfl

theorem require_prot (p : Bool) (r : Reply) (k : Ans) (t : State) : (require p r k).protFrom t = if p = true then
  k.protFrom t else t.prot := by
  unfold require
  split <;> rfl

theorem adminOnly_protOr (c : Cmd) (k : Ans) (t : State) : (adminOnly c k).protFrom t = if fromAdmin c = true then
  k.protFrom t else t.prot := by
  unfold adminOnly
  exact require_prot _ _ _ _

theorem updSw_prot (a0) (s : State) : (updSw a0 s).prot = s.prot := by
  unfold updSw
  simp only [prot_mk, prot_fold]

theorem updEg_prot (a0 a1) (s : State) : (updEg a0 a1 s).prot = s.prot := by
  unfold updEg
  simp only [updSw_prot]

theorem setQueue_prot (a0 a1 a2) (s : State) : (setQueue a0 a1 a2 s).prot = s.prot := by
  unfold setQueue
  simp only [updEg_prot]

theorem count_prot (a0 a1) (s : State) : (count a0 a1 s).prot = s.prot := by
  unfold count
  simp only [updPort_prot, ite_prot, ite_self]

theorem rxNobuf_prot (a0) (s : State) : (rxNobuf a0 s).prot = s.prot := by
  unfold rxNobuf
  simp only [updWin_prot]

theorem holdCells_prot (a0 a1 a2) (s : State) : (holdCells a0 a1 a2 s).prot = s.prot := by
  unfold holdCells
  simp only [updSw_prot, updEg_prot]

theorem release_prot (a0 a1) (s : State) : (release a0 a1 s).prot = s.prot := by
  unfold release
  simp only [updSw_prot, updEg_prot]

theorem enqueue_prot (a0 a1 a2) (s : State) : (enqueue a0 a1 a2 s).prot = s.prot := by
  unfold enqueue
  repeat' (first | simp only [holdCells_prot, setQueue_prot, count_prot] | split)

theorem flushQueues_prot (p : Nat) (f : Copy → State → State) (s : State) (h : ∀ q s, (f q s).prot = s.prot) :
    (flushQueues p f s).prot = s.prot := by
  unfold flushQueues
  exact foldl_prot _ _ (fun s c => by simp only [implies_true, h, foldl_prot, release_prot, setQueue_prot]) s

theorem flushPort_prot (a0) (s : State) : (flushPort a0 s).prot = s.prot := by
  unfold flushPort
  simp only [flushQueues_prot, count_prot, implies_true]

theorem flushVport_prot (a0) (s : State) : (flushVport a0 s).prot = s.prot := by
  unfold flushVport
  simp only [flushQueues_prot, rxNobuf_prot, implies_true]

theorem popHead_prot {p c : Nat} {s t : State} {q : Copy} (h : popHead p c s = some (q, t)) : t.prot = s.prot := by
  unfold popHead at h
  repeat' (first | (cases h; done)
                 | (simp only [Option.some.injEq, Prod.mk.injEq] at h)
                 | split at h
                 | (obtain ⟨rfl, rfl, rfl⟩ := h)
                 | (obtain ⟨rfl, rfl⟩ := h)
                 | subst h
                 | simp only [release_prot, setQueue_prot])

theorem dropAged_prot (a0 a1) (s : State) : (dropAged a0 a1 s).prot = s.prot := by
  unfold dropAged
  simp only [count_prot, release_prot, setQueue_prot, foldl_prot, ite_prot, ite_self, implies_true]

theorem rxStop_prot (a0) (s : State) : (rxStop a0 s).prot = s.prot := by
  unfold rxStop
  simp only [flushVport_prot, ringErr_prot, updWin_prot]

theorem rxWriteBacks_prot (n : Nat) (f : Nat → List Byte) (i j k : Nat) (s : State) : (rxWriteBacks n f i j k s).prot
  = s.prot := by
  induction k generalizing i j s with
  | zero => simp only [rxWriteBacks]
  | succ k ih => simp only [rxWriteBacks, ih, post_prot]

theorem deliverCopy_prot (a0 a1 a2) (s : State) : (deliverCopy a0 a1 a2 s).prot = s.prot := by
  unfold deliverCopy
  repeat' (first | simp only [rxNobuf_prot, rxStop_prot, atuFault_prot, updWin_prot, post_prot, rxWriteBacks_prot,
                     edge_prot, prot_mk, prot_fold, ite_prot, ite_self]
                 | split)

theorem deliverLoop_prot (n fuel c : Nat) (s : State) : (deliverLoop n fuel c s).prot = s.prot := by
  induction fuel generalizing c s with
  | zero => simp only [deliverLoop]
  | succ k ih =>
    cases c with
    | zero => simp only [deliverLoop]
    | succ c =>
      simp only [deliverLoop]
      repeat' (first | simp only [ih, deliverCopy_prot, dropAged_prot,
                         ite_prot]
                     | (refine Eq.trans (popHead_prot (by assumption)) ?_)
                     | split)

theorem deliver_prot (a0) (s : State) : (deliver a0 s).prot = s.prot := by
  unfold deliver
  simp only [deliverLoop_prot]

theorem copyTo_prot (a0 a1 a2) (s : State) : (copyTo a0 a1 a2 s).prot = s.prot := by
  unfold copyTo
  simp only [count_prot, enqueue_prot, deliver_prot, rxNobuf_prot, ite_prot, ite_self]

theorem pairSeq_prot (a0) (s : State) : (pairSeq a0 s).prot = s.prot := by
  unfold pairSeq
  simp only [updSw_prot]

theorem copyPair_prot (a0 a1 a2 a3 a4 a5) (s : State) : (copyPair a0 a1 a2 a3 a4 a5
  s).prot = s.prot := by
  unfold copyPair
  simp only [copyTo_prot, pairSeq_prot]

theorem copyAll_prot (n vid pcp : Nat) (q : Copy) (l served : List Nat) (s : State) : (copyAll n vid pcp q l served
  s).prot = s.prot := by
  induction l generalizing served s with
  | nil => simp only [copyAll]
  | cons p l ih =>
    simp only [copyAll]
    repeat' (first | simp only [ih, copyPair_prot, copyTo_prot,
                       ite_prot]
                   | split)

theorem newFid_prot {s t : State} {n : Nat} (h : newFid s = (n, t)) : t.prot = s.prot := by
  unfold newFid at h
  repeat' (first | (cases h; done)
                 | (simp only [Prod.mk.injEq] at h)
                 | split at h
                 | (obtain ⟨rfl, rfl, rfl⟩ := h)
                 | (obtain ⟨rfl, rfl⟩ := h)
                 | subst h
                 | simp only [updSw_prot])

theorem newFid_prots (s : State) : (newFid s).2.prot = s.prot := newFid_prot rfl

theorem capture_prot (a0 a1) (s : State) : (capture a0 a1 s).prot = s.prot := by
  unfold capture
  simp only [enqueue_prot]

theorem handInGoose_prot (a0 a1 a2 a3 a4) (s : State) : (handInGoose a0 a1 a2 a3 a4
  s).prot = s.prot := by
  unfold handInGoose
  simp only [capture_prot, copyAll_prot, ite_prot, ite_self, newFid_prots]

theorem sendPub_prot (a0 a1 a2 a3 a4) (s : State) : (sendPub a0 a1 a2 a3 a4 s).prot =
  s.prot := by
  unfold sendPub
  simp only [handInGoose_prot, ite_prot, ite_self]

theorem alarmPubJudge_prot (s : State) : (alarmPubJudge s).prot = s.prot := by
  unfold alarmPubJudge
  repeat' (first | simp only [sendPub_prot, prot_mk, prot_fold, ite_prot, ite_self] | split)

theorem updTdm_prot (a0) (s : State) : (updTdm a0 s).prot = s.prot := by
  unfold updTdm
  simp only [prot_mk, prot_fold]

theorem linkOut_prot (a0 a1 a2) (s : State) : (linkOut a0 a1 a2 s).prot = s.prot := by
  unfold linkOut
  simp only [emit_prot, prot_mk, prot_fold]

theorem linkSend_prot (a0) (s : State) : (linkSend a0 s).prot = s.prot := by
  unfold linkSend
  simp only [linkOut_prot, updTdm_prot, ite_prot, ite_self]

theorem updArc_prot (a0) (s : State) : (updArc a0 s).prot = s.prot := by
  unfold updArc
  simp only [prot_mk, prot_fold]

theorem updFolio_prot (a0 a1) (s : State) : (updFolio a0 a1 s).prot = s.prot := by
  unfold updFolio
  simp only [updArc_prot]

theorem sendCarry_prot (a0) (s : State) : (sendCarry a0 s).prot = s.prot := by
  unfold sendCarry
  simp only [linkSend_prot, addWait_prot, updTdm_prot]

theorem carried_prot (c : Cmd) (s : State) (k : Cmd → State → Ans) (h : ∀ c s, (k c s).protFrom s = s.prot) : (carried
  c s k).protFrom s = s.prot := by
  unfold carried
  repeat' (first | simp only [h, fail_prot, going_prot, sendCarry_prot] | split)

theorem arcService_prot (s : State) (b : Bool) (k : Ans) (t : State) (h : k.protFrom t = t.prot) : (arcService s b
  k).protFrom t = t.prot := by
  unfold arcService
  simp only [require_prot, h, ite_self]

theorem execArchiveStatusGet_prot (a0) (s : State) : resProt (execArchiveStatusGet a0 s) = some s.prot := by
  unfold execArchiveStatusGet
  repeat' (first | simp only [done_prot] | (apply feljo_prot; (intro _ _)) | (apply arcService_prot))

theorem execArchiveFolioList_prot (a0) (s : State) : resProt (execArchiveFolioList a0 s) = some s.prot := by
  unfold execArchiveFolioList
  repeat' (first | simp only [done_prot] | (apply feljo_prot; (intro _ _)) | (apply arcService_prot))

theorem folioRelease_prot (a0) (s : State) : (folioRelease a0 s).protFrom s = s.prot := by
  unfold folioRelease
  repeat' (first | simp only [updArc_prot, fail_prot, done_prot, ite_pfrom, ite_self] | split)

theorem execArchiveFolioRelease_prot (a0) (s : State) : resProt (execArchiveFolioRelease a0 s) = some s.prot := by
  unfold execArchiveFolioRelease
  simp only [feljo_prot, arcService_prot, folioRelease_prot, implies_true]

theorem execArchiveFolioKeep_prot (a0) (s : State) : resProt (execArchiveFolioKeep a0 s) = some s.prot := by
  unfold execArchiveFolioKeep
  repeat' (first | simp only [updFolio_prot, fail_prot, done_prot]
                 | (apply feljo_prot; (intro _ _))
                 | (apply arcService_prot)
                 | split)

theorem roomOpen_prot (a0) (s : State) : (roomOpen a0 s).protFrom s = s.prot := by
  unfold roomOpen
  repeat' (first | simp only [updArc_prot, fail_prot, done_prot, ite_pfrom, ite_self] | split)

theorem execArchiveRoomOpen_prot (a0) (s : State) : resProt (execArchiveRoomOpen a0 s) = some s.prot := by
  unfold execArchiveRoomOpen
  simp only [feljo_prot, arcService_prot, roomOpen_prot, implies_true]

theorem execArchiveRoomClose_prot (a0) (s : State) : resProt (execArchiveRoomClose a0 s) = some s.prot := by
  unfold execArchiveRoomClose
  repeat' (first | simp only [require_prot, updArc_prot, done_prot, ite_self]
                 | (apply feljo_prot; (intro _ _))
                 | (apply arcService_prot)
                 | split)

theorem execArchiveConfigSet_prot (a0) (s : State) : resProt (execArchiveConfigSet a0 s) = some s.prot := by
  unfold execArchiveConfigSet
  simp only [feljo_prot, adminOnly_protOr, arcService_prot, updArc_prot, done_prot, ite_self, implies_true]

theorem execArchiveCountersClear_prot (a0) (s : State) : resProt (execArchiveCountersClear a0 s) = some s.prot := by
  unfold execArchiveCountersClear
  simp only [feljo_prot, adminOnly_protOr, arcService_prot, updArc_prot, done_prot, ite_self, implies_true]

theorem txStop_prot (a0) (s : State) : (txStop a0 s).prot = s.prot := by
  unfold txStop
  simp only [ringErr_prot, updWin_prot]

theorem txWriteBack_prot (a0 a1 a2) (s : State) : (txWriteBack a0 a1 a2 s).prot = s.prot := by
  unfold txWriteBack
  repeat' (first | simp only [txStop_prot, atuFault_prot, post_prot] | split)

theorem txWriteBacks_prot (n : Nat) (l : List Byte) (i k : Nat) (s : State) : (txWriteBacks n l i k s).prot = s.prot
  := by
  induction k generalizing i s with
  | zero => simp only [txWriteBacks]
  | succ k ih =>
    cases k with
    | zero => exact txWriteBack_prot n i l s
    | succ k =>
      rw [txWriteBacks, ih, txWriteBack_prot]
      intro h
      cases h

theorem txDone_prot (a0 a1 a2 a3) (s : State) : (txDone a0 a1 a2 a3 s).prot = s.prot := by
  unfold txDone
  simp only [edge_prot, txWriteBacks_prot]

theorem txAnswer_prot (a0 a1) (s : State) : (txAnswer a0 a1 s).prot = s.prot := by
  unfold txAnswer
  simp only [txDone_prot, updSw_prot]

theorem txSettle_prot (s : State) : (txSettle s).prot = s.prot := by
  unfold txSettle
  simp only [txAnswer_prot, foldl_prot, implies_true]

theorem linkLost_prot (a0) (s : State) : (linkLost a0 s).prot = s.prot := by
  unfold linkLost
  simp only [count_prot, updPort_prot, ite_prot, ite_self]

theorem notBoot_protOr (s : State) (k : Ans) (t : State) : (notBoot s k).protFrom t = if (s.svc.state != .boot) = true
  then k.protFrom t else t.prot := by
  unfold notBoot
  exact require_prot _ _ _ _

theorem execPortConfigGet_prot (a0) (s : State) : resProt (execPortConfigGet a0 s) = some s.prot := by
  unfold execPortConfigGet
  simp only [feljo_prot, adminOnly_protOr, notBoot_protOr, done_prot, ite_self, implies_true]

theorem execPortStatusGet_prot (a0) (s : State) : resProt (execPortStatusGet a0 s) = some s.prot := by
  unfold execPortStatusGet
  simp only [feljo_prot, notBoot_protOr, done_prot, ite_self, implies_true]

theorem portHold_prot (a0) (s : State) : (portHold a0 s).prot = s.prot := by
  unfold portHold
  simp only [txSettle_prot, flushPort_prot, linkLost_prot, updPort_prot]

theorem execPortHold_prot (a0) (s : State) : resProt (execPortHold a0 s) = some s.prot := by
  unfold execPortHold
  simp only [feljo_prot, adminOnly_protOr, notBoot_protOr, portHold_prot, done_prot, ite_self, implies_true]

theorem execPortCountersClear_prot (a0) (s : State) : resProt (execPortCountersClear a0 s) = some s.prot := by
  unfold execPortCountersClear
  simp only [feljo_prot, adminOnly_protOr, notBoot_protOr, updPort_prot, done_prot, ite_pfrom, prot_mk, prot_fold, ite_self,
    implies_true]

theorem portGclSet_prot (a0) (s : State) : (portGclSet a0 s).protFrom s = s.prot := by
  unfold portGclSet
  repeat' (first | simp only [addWait_prot, updPort_prot, fail_prot, wait_prot, ite_pfrom] | split)

theorem execPortGclSet_prot (a0) (s : State) : resProt (execPortGclSet a0 s) = some s.prot := by
  unfold execPortGclSet
  simp only [feljo_prot, adminOnly_protOr, notBoot_protOr, portGclSet_prot, ite_self, implies_true]

theorem execPortGclGet_prot (a0) (s : State) : resProt (execPortGclGet a0 s) = some s.prot := by
  unfold execPortGclGet
  repeat' (first | simp only [adminOnly_protOr, notBoot_protOr, fail_prot, done_prot] | (apply feljo_prot; (intro _ _)) | split)

theorem portVportSet_prot (a0) (s : State) : (portVportSet a0 s).protFrom s = s.prot := by
  unfold portVportSet
  repeat' (first | simp only [updSw_prot, fail_prot, done_prot, ite_pfrom, ite_self] | split)

theorem execPortVportSet_prot (a0) (s : State) : resProt (execPortVportSet a0 s) = some s.prot := by
  unfold execPortVportSet
  simp only [feljo_prot, adminOnly_protOr, notBoot_protOr, portVportSet_prot, ite_self, implies_true]

theorem execPortVportGet_prot (a0) (s : State) : resProt (execPortVportGet a0 s) = some s.prot := by
  unfold execPortVportGet
  simp only [feljo_prot, notBoot_protOr, require_prot, done_prot, ite_self, implies_true]

theorem updKeys_prot (a0) (s : State) : (updKeys a0 s).prot = s.prot := by
  unfold updKeys
  simp only [prot_mk, prot_fold]

theorem updStore_prot (a0) (s : State) : (updStore a0 s).prot = s.prot := by
  unfold updStore
  simp only [updKeys_prot]

theorem chunkAns_prot (c : Cmd) (x : Option Session) (p : Session → State → State) (s : State) (h : ∀ x s, (p x
  s).prot = s.prot) : (chunkAns c x p s).protFrom s = s.prot := by
  unfold chunkAns
  repeat' (first | simp only [h, fail_prot, done_prot] | split)

theorem promoteKey_prot (a0) (s : State) : (promoteKey a0 s).prot = s.prot := by
  unfold promoteKey
  repeat' (first | simp only [updKeys_prot, updStore_prot, noteMod_prot, ite_prot, ite_self] | split)

theorem applyRecord_prot (a0) (s : State) (a2) : (applyRecord a0 s a2).prot = s.prot := by
  unfold applyRecord
  simp only [noteMod_prot, updKeys_prot, ite_prot, ite_self]

theorem applyDeposit_prot (a0 a1) (s : State) : (applyDeposit a0 a1 s).prot = s.prot := by
  unfold applyDeposit
  simp only [updStore_prot, applyRecord_prot, noteMod_prot, updKeys_prot, foldl_prot, ite_prot, ite_self, implies_true]

theorem rejectDeposit_prot (a0 a1) (s : State) : (rejectDeposit a0 a1 s).protFrom s = s.prot := by
  unfold rejectDeposit
  simp only [noteMod_prot, updKeys_prot, done_prot]

theorem depositEnd_prot (s : State) : (depositEnd s).protFrom s = s.prot := by
  unfold depositEnd
  repeat' (first | simp only [rejectDeposit_prot, applyDeposit_prot, fail_prot, done_prot, ite_pfrom] | split)

theorem execKeyIdentityGet_prot (a0) (s : State) : resProt (execKeyIdentityGet a0 s) = some s.prot := by
  unfold execKeyIdentityGet
  repeat' (first | simp only [done_prot] | (apply feljo_prot; (intro _ _)))

theorem ownerEnrol_prot (a0) (s : State) : (ownerEnrol a0 s).protFrom s = s.prot := by
  unfold ownerEnrol
  simp only [require_prot, noteMod_prot, updStore_prot, done_prot, ite_self]

theorem execKeyOwnerEnrol_prot (a0) (s : State) : resProt (execKeyOwnerEnrol a0 s) = some s.prot := by
  unfold execKeyOwnerEnrol
  simp only [feljo_prot, adminOnly_protOr, ownerEnrol_prot, ite_self, implies_true]

theorem execKeyDepositBegin_prot (a0) (s : State) : resProt (execKeyDepositBegin a0 s) = some s.prot := by
  unfold execKeyDepositBegin
  simp only [feljo_prot, adminOnly_protOr, notBoot_protOr, require_prot, updKeys_prot, done_prot, ite_self, implies_true]

theorem execKeyDepositChunk_prot (a0) (s : State) : resProt (execKeyDepositChunk a0 s) = some s.prot := by
  unfold execKeyDepositChunk
  simp only [feljo_prot, adminOnly_protOr, notBoot_protOr, chunkAns_prot, updKeys_prot, ite_self, implies_true]

theorem execKeyDepositEnd_prot (a0) (s : State) : resProt (execKeyDepositEnd a0 s) = some s.prot := by
  unfold execKeyDepositEnd
  simp only [feljo_prot, adminOnly_protOr, notBoot_protOr, depositEnd_prot, ite_self, implies_true]

theorem execKeyDepositAbort_prot (a0) (s : State) : resProt (execKeyDepositAbort a0 s) = some s.prot := by
  unfold execKeyDepositAbort
  simp only [feljo_prot, adminOnly_protOr, notBoot_protOr, require_prot, updKeys_prot, done_prot, ite_self, implies_true]

theorem execKeySlotGet_prot (a0) (s : State) : resProt (execKeySlotGet a0 s) = some s.prot := by
  unfold execKeySlotGet
  simp only [feljo_prot, adminOnly_protOr, done_prot, ite_self, implies_true]

theorem keyPromote_prot (a0) (s : State) : (keyPromote a0 s).protFrom s = s.prot := by
  unfold keyPromote
  simp only [require_prot, promoteKey_prot, done_prot, ite_self]

theorem execKeySlotPromote_prot (a0) (s : State) : resProt (execKeySlotPromote a0 s) = some s.prot := by
  unfold execKeySlotPromote
  simp only [feljo_prot, adminOnly_protOr, carried_prot, keyPromote_prot, ite_self, implies_true]

theorem keyGenerate_prot (a0) (s : State) : (keyGenerate a0 s).protFrom s = s.prot := by
  unfold keyGenerate
  simp only [noteMod_prot, updStore_prot, done_prot, prot_mk, prot_fold]

theorem execKeyGenerate_prot (a0) (s : State) : resProt (execKeyGenerate a0 s) = some s.prot := by
  unfold execKeyGenerate
  simp only [feljo_prot, adminOnly_protOr, keyGenerate_prot, ite_self, implies_true]

theorem keySign_prot (a0) (s : State) : (keySign a0 s).protFrom s = s.prot := by
  unfold keySign
  repeat' (first | simp only [require_prot, fail_prot, done_prot] | split)

theorem execKeySign_prot (a0) (s : State) : resProt (execKeySign a0 s) = some s.prot := by
  unfold execKeySign
  simp only [feljo_prot, adminOnly_protOr, keySign_prot, ite_self, implies_true]

theorem keyAttest_prot (a0) (s : State) : (keyAttest a0 s).protFrom s = s.prot := by
  unfold keyAttest
  repeat' (first | simp only [require_prot, fail_prot, done_prot, ite_pfrom] | split)

theorem execKeyAttest_prot (a0) (s : State) : resProt (execKeyAttest a0 s) = some s.prot := by
  unfold execKeyAttest
  simp only [feljo_prot, keyAttest_prot, implies_true]

theorem execKeyModeSet_prot (a0) (s : State) : resProt (execKeyModeSet a0 s) = some s.prot := by
  unfold execKeyModeSet
  simp only [feljo_prot, adminOnly_protOr, require_prot, noteMod_prot, updKeys_prot, done_prot, ite_self, implies_true]

theorem updTime_prot (a0) (s : State) : (updTime a0 s).prot = s.prot := by
  unfold updTime
  simp only [prot_mk, prot_fold]

theorem updPwr_prot (a0) (s : State) : (updPwr a0 s).prot = s.prot := by
  unfold updPwr
  simp only [prot_mk, prot_fold]

theorem updMet_prot (a0) (s : State) : (updMet a0 s).prot = s.prot := by
  unfold updMet
  simp only [prot_mk, prot_fold]

theorem updUpd_prot (f : Upd → Upd) (s : State) (h : ∀ u, (f u).minSvn = u.minSvn) : (updUpd f s).prot = s.prot := by
  simp only [updUpd, prot_mk, prot_fold]

theorem updChr_prot (a0) (s : State) : (updChr a0 s).prot = s.prot := by
  unfold updChr
  simp only [prot_mk, prot_fold]

theorem writeRec_prot (a0) (s : State) : (writeRec a0 s).prot = s.prot := by
  unfold writeRec
  simp only [updUpd_prot, implies_true]

theorem readMeters_prot (s : State) : (readMeters s).prot = s.prot := by
  unfold readMeters
  simp only [prot_mk, prot_fold]

theorem putBank_prot (a0 a1) (s : State) : (putBank a0 a1 s).prot = s.prot := by
  unfold putBank
  repeat' (first | simp only [updUpd_prot, implies_true] | split)

theorem setOther_prot (a0 a1) (s : State) : (setOther a0 a1 s).prot = s.prot := by
  unfold setOther
  simp only [putBank_prot, writeRec_prot]

theorem execUpdateStatusGet_prot (a0) (s : State) : resProt (execUpdateStatusGet a0 s) = some s.prot := by
  unfold execUpdateStatusGet
  simp only [feljo_prot, adminOnly_protOr, notBoot_protOr, done_prot, ite_self, implies_true]

theorem recordFree_prot (s : State) (k : Ans) (t : State) (h : k.protFrom t = t.prot) : (recordFree s k).protFrom t =
  t.prot := by
  unfold recordFree
  simp only [require_prot, h, ite_self]

theorem updateBegin_prot (a0) (s : State) : (updateBegin a0 s).protFrom s = s.prot := by
  unfold updateBegin
  simp only [require_prot, setOther_prot, updUpd_prot, done_prot, ite_self, implies_true]

theorem execUpdateDepositBegin_prot (a0) (s : State) : resProt (execUpdateDepositBegin a0 s) = some s.prot := by
  unfold execUpdateDepositBegin
  simp only [feljo_prot, adminOnly_protOr, notBoot_protOr, recordFree_prot, updateBegin_prot, ite_self, implies_true]

theorem execUpdateDepositChunk_prot (a0) (s : State) : resProt (execUpdateDepositChunk a0 s) = some s.prot := by
  unfold execUpdateDepositChunk
  repeat' (first | simp only [adminOnly_protOr, notBoot_protOr, chunkAns_prot, updUpd_prot, ite_self, implies_true]
                 | (apply feljo_prot; (intro _ _))
                 | (apply chunkAns_prot; (intro _ _)))

theorem dropImage_prot (s : State) : (dropImage s).prot = s.prot := by
  unfold dropImage
  simp only [noteMod_prot, setOther_prot, updUpd_prot, implies_true]

theorem updateEnd_prot (s : State) : (updateEnd s).protFrom s = s.prot := by
  unfold updateEnd
  repeat' (first | simp only [noteMod_prot, setOther_prot, dropImage_prot, updUpd_prot, fail_prot, done_prot,
                     ite_pfrom, ite_self, implies_true]
                 | split)

theorem execUpdateDepositEnd_prot (a0) (s : State) : resProt (execUpdateDepositEnd a0 s) = some s.prot := by
  unfold execUpdateDepositEnd
  simp only [feljo_prot, adminOnly_protOr, notBoot_protOr, recordFree_prot, updateEnd_prot, ite_self, implies_true]

theorem execUpdateDepositAbort_prot (a0) (s : State) : resProt (execUpdateDepositAbort a0 s) = some s.prot := by
  unfold execUpdateDepositAbort
  simp only [feljo_prot, adminOnly_protOr, notBoot_protOr, recordFree_prot, require_prot, dropImage_prot, done_prot,
    ite_self, implies_true]

theorem updateActivate_prot (a0) (s : State) : (updateActivate a0 s).protFrom s = s.prot := by
  unfold updateActivate
  repeat' (first | simp only [require_prot, noteMod_prot, writeRec_prot, fail_prot, done_prot] | split)

theorem execUpdateActivate_prot (a0) (s : State) : resProt (execUpdateActivate a0 s) = some s.prot := by
  unfold execUpdateActivate
  simp only [feljo_prot, adminOnly_protOr, notBoot_protOr, recordFree_prot, updateActivate_prot, ite_self, implies_true]

theorem execUpdateCancel_prot (a0) (s : State) : resProt (execUpdateCancel a0 s) = some s.prot := by
  unfold execUpdateCancel
  simp only [feljo_prot, adminOnly_protOr, notBoot_protOr, recordFree_prot, require_prot, noteMod_prot, writeRec_prot,
    done_prot, ite_self, implies_true]

theorem execUpdateWindowSet_prot (a0) (s : State) : resProt (execUpdateWindowSet a0 s) = some s.prot := by
  unfold execUpdateWindowSet
  simp only [feljo_prot, adminOnly_protOr, notBoot_protOr, updUpd_prot, done_prot, ite_self, implies_true]

theorem updSig_prot (a0) (s : State) : (updSig a0 s).prot = s.prot := by
  unfold updSig
  simp only [prot_mk, prot_fold]

theorem updX3_prot (a0) (s : State) : (updX3 a0 s).prot = s.prot := by
  unfold updX3
  simp only [updSig_prot]

theorem execTimeStatusGet_prot (a0) (s : State) : resProt (execTimeStatusGet a0 s) = some s.prot := by
  unfold execTimeStatusGet
  simp only [feljo_prot, notBoot_protOr, done_prot, ite_self, implies_true]

theorem execTimeNowGet_prot (a0) (s : State) : resProt (execTimeNowGet a0 s) = some s.prot := by
  unfold execTimeNowGet
  simp only [feljo_prot, notBoot_protOr, done_prot, ite_self, implies_true]

theorem timeConfigSet_prot (a0) (s : State) : (timeConfigSet a0 s).protFrom s = s.prot := by
  unfold timeConfigSet
  repeat' (first | simp only [updTime_prot, fail_prot, done_prot, ite_pfrom, ite_self] | split)

theorem execTimeConfigSet_prot (a0) (s : State) : resProt (execTimeConfigSet a0 s) = some s.prot := by
  unfold execTimeConfigSet
  simp only [feljo_prot, adminOnly_protOr, notBoot_protOr, timeConfigSet_prot, ite_self, implies_true]

theorem execTimeConfigGet_prot (a0) (s : State) : resProt (execTimeConfigGet a0 s) = some s.prot := by
  unfold execTimeConfigGet
  simp only [feljo_prot, adminOnly_protOr, notBoot_protOr, done_prot, ite_self, implies_true]

theorem timePortSet_prot (a0) (s : State) : (timePortSet a0 s).protFrom s = s.prot := by
  unfold timePortSet
  repeat' (first | simp only [updPort_prot, fail_prot, done_prot, ite_pfrom, ite_self] | split)

theorem execTimePortSet_prot (a0) (s : State) : resProt (execTimePortSet a0 s) = some s.prot := by
  unfold execTimePortSet
  simp only [feljo_prot, adminOnly_protOr, notBoot_protOr, timePortSet_prot, ite_self, implies_true]

theorem execTimePortGet_prot (a0) (s : State) : resProt (execTimePortGet a0 s) = some s.prot := by
  unfold execTimePortGet
  simp only [feljo_prot, adminOnly_protOr, notBoot_protOr, done_prot, ite_self, implies_true]

theorem execTimeSet_prot (a0) (s : State) : resProt (execTimeSet a0 s) = some s.prot := by
  unfold execTimeSet
  simp only [feljo_prot, adminOnly_protOr, notBoot_protOr, require_prot, addWait_prot, updTime_prot, wait_prot, ite_self,
    implies_true]

theorem execTimeCountersClear_prot (a0) (s : State) : resProt (execTimeCountersClear a0 s) = some s.prot := by
  unfold execTimeCountersClear
  simp only [feljo_prot, adminOnly_protOr, notBoot_protOr, updTime_prot, updPort_prot, done_prot, ite_pfrom, prot_mk,
    prot_fold, ite_self, implies_true]

theorem fdbSet_prot (a0) (s : State) : (fdbSet a0 s).protFrom s = s.prot := by
  unfold fdbSet
  repeat' (first | simp only [updSw_prot, fail_prot, done_prot, ite_pfrom, ite_self] | split)

theorem execSwitchFdbSet_prot (a0) (s : State) : resProt (execSwitchFdbSet a0 s) = some s.prot := by
  unfold execSwitchFdbSet
  simp only [feljo_prot, adminOnly_protOr, notBoot_protOr, fdbSet_prot, ite_self, implies_true]

theorem execSwitchFdbGet_prot (a0) (s : State) : resProt (execSwitchFdbGet a0 s) = some s.prot := by
  unfold execSwitchFdbGet
  simp only [feljo_prot, adminOnly_protOr, notBoot_protOr, done_prot, ite_self, implies_true]

theorem execSwitchFdbFlush_prot (a0) (s : State) : resProt (execSwitchFdbFlush a0 s) = some s.prot := by
  unfold execSwitchFdbFlush
  simp only [feljo_prot, adminOnly_protOr, notBoot_protOr, updSw_prot, done_prot, ite_self, implies_true]

theorem groupSet_prot (a0) (s : State) : (groupSet a0 s).protFrom s = s.prot := by
  unfold groupSet
  simp only [updSw_prot, fail_prot, done_prot, ite_pfrom, ite_self]

theorem execSwitchGroupSet_prot (a0) (s : State) : resProt (execSwitchGroupSet a0 s) = some s.prot := by
  unfold execSwitchGroupSet
  simp only [feljo_prot, adminOnly_protOr, notBoot_protOr, groupSet_prot, ite_self, implies_true]

theorem vlanSet_prot (a0) (s : State) : (vlanSet a0 s).protFrom s = s.prot := by
  unfold vlanSet
  repeat' (first | simp only [updSw_prot, fail_prot, done_prot, ite_pfrom] | split)

theorem execSwitchVlanSet_prot (a0) (s : State) : resProt (execSwitchVlanSet a0 s) = some s.prot := by
  unfold execSwitchVlanSet
  simp only [feljo_prot, adminOnly_protOr, notBoot_protOr, vlanSet_prot, ite_self, implies_true]

theorem mirrorSet_prot (a0) (s : State) : (mirrorSet a0 s).protFrom s = s.prot := by
  unfold mirrorSet
  repeat' (first | simp only [updSw_prot, fail_prot, done_prot, ite_pfrom, ite_self] | split)

theorem execSwitchMirrorSet_prot (a0) (s : State) : resProt (execSwitchMirrorSet a0 s) = some s.prot := by
  unfold execSwitchMirrorSet
  simp only [feljo_prot, adminOnly_protOr, notBoot_protOr, mirrorSet_prot, ite_self, implies_true]

theorem redundancySet_prot (a0) (s : State) : (redundancySet a0 s).protFrom s = s.prot := by
  unfold redundancySet
  repeat' (first | simp only [updSw_prot, fail_prot, done_prot, ite_pfrom, ite_self] | split)

theorem execSwitchRedundancySet_prot (a0) (s : State) : resProt (execSwitchRedundancySet a0 s) = some s.prot := by
  unfold execSwitchRedundancySet
  simp only [feljo_prot, adminOnly_protOr, notBoot_protOr, redundancySet_prot, ite_self, implies_true]

theorem execSwitchRedundancyGet_prot (a0) (s : State) : resProt (execSwitchRedundancyGet a0 s) = some s.prot := by
  unfold execSwitchRedundancyGet
  simp only [feljo_prot, adminOnly_protOr, notBoot_protOr, done_prot, ite_self, implies_true]

theorem execSwitchShelfGet_prot (a0) (s : State) : resProt (execSwitchShelfGet a0 s) = some s.prot := by
  unfold execSwitchShelfGet
  simp only [feljo_prot, adminOnly_protOr, notBoot_protOr, done_prot, ite_self, implies_true]

theorem execSwitchStocktakeRun_prot (a0) (s : State) : resProt (execSwitchStocktakeRun a0 s) = some s.prot := by
  unfold execSwitchStocktakeRun
  simp only [feljo_prot, adminOnly_protOr, notBoot_protOr, addWait_prot, updSw_prot, fail_prot, wait_prot, ite_pfrom,
    ite_self, implies_true]

theorem switchConfigSet_prot (a0) (s : State) : (switchConfigSet a0 s).protFrom s = s.prot := by
  unfold switchConfigSet
  repeat' (first | simp only [updSw_prot, fail_prot, done_prot, ite_pfrom, ite_self] | split)

theorem execSwitchConfigSet_prot (a0) (s : State) : resProt (execSwitchConfigSet a0 s) = some s.prot := by
  unfold execSwitchConfigSet
  simp only [feljo_prot, adminOnly_protOr, notBoot_protOr, switchConfigSet_prot, ite_self, implies_true]

theorem chronicleRead_prot (a0) (s : State) : (chronicleRead a0 s).protFrom s = s.prot := by
  unfold chronicleRead
  simp only [fail_prot, done_prot, ite_pfrom, ite_self]

theorem execChronicleRead_prot (a0) (s : State) : resProt (execChronicleRead a0 s) = some s.prot := by
  unfold execChronicleRead
  simp only [feljo_prot, notBoot_protOr, chronicleRead_prot, ite_self, implies_true]

theorem execChronicleStatusGet_prot (a0) (s : State) : resProt (execChronicleStatusGet a0 s) = some s.prot := by
  unfold execChronicleStatusGet
  simp only [feljo_prot, notBoot_protOr, done_prot, ite_self, implies_true]

theorem chrClear_prot (s : State) : (chrClear s).prot = s.prot := by
  unfold chrClear
  simp only [note_prot, updChr_prot]

theorem execChronicleClear_prot (a0) (s : State) : resProt (execChronicleClear a0 s) = some s.prot := by
  unfold execChronicleClear
  simp only [feljo_prot, adminOnly_protOr, require_prot, chrClear_prot, done_prot, ite_self, implies_true]

theorem chronicleNote_prot (a0) (s : State) : (chronicleNote a0 s).protFrom s = s.prot := by
  unfold chronicleNote
  simp only [note_prot, fail_prot, done_prot, ite_pfrom, ite_self]

theorem execChronicleNote_prot (a0) (s : State) : resProt (execChronicleNote a0 s) = some s.prot := by
  unfold execChronicleNote
  simp only [feljo_prot, notBoot_protOr, chronicleNote_prot, ite_self, implies_true]

theorem execChronicleConfigSet_prot (a0) (s : State) : resProt (execChronicleConfigSet a0 s) = some s.prot := by
  unfold execChronicleConfigSet
  simp only [feljo_prot, adminOnly_protOr, notBoot_protOr, updChr_prot, done_prot, ite_self, implies_true]

theorem execErrorContextsGet_prot (a0) (s : State) : resProt (execErrorContextsGet a0 s) = some s.prot := by
  unfold execErrorContextsGet
  simp only [feljo_prot, adminOnly_protOr, notBoot_protOr, done_prot, ite_self, implies_true]

theorem notifySet_prot (a0) (s : State) : (notifySet a0 s).protFrom s = s.prot := by
  unfold notifySet
  repeat' (first | simp only [withNtf_prot, updNtf_prot, fail_prot, done_prot, ite_pfrom, ite_self, implies_true]
                 | split)

theorem execNotifyConfigSet_prot (a0) (s : State) : resProt (execNotifyConfigSet a0 s) = some s.prot := by
  unfold execNotifyConfigSet
  simp only [feljo_prot, adminOnly_protOr, notBoot_protOr, notifySet_prot, ite_self, implies_true]

theorem execNotifyConfigGet_prot (a0) (s : State) : resProt (execNotifyConfigGet a0 s) = some s.prot := by
  unfold execNotifyConfigGet
  simp only [feljo_prot, notBoot_protOr, require_prot, done_prot, ite_self, implies_true]

theorem execNotifyAlarmGet_prot (a0) (s : State) : resProt (execNotifyAlarmGet a0 s) = some s.prot := by
  unfold execNotifyAlarmGet
  simp only [feljo_prot, adminOnly_protOr, notBoot_protOr, done_prot, ite_self, implies_true]

theorem alarmClear_prot (a0) (s : State) : (alarmClear a0 s).prot = s.prot := by
  unfold alarmClear
  simp only [alarmPubJudge_prot, withNtf_prot, updSig_prot, implies_true]

theorem execNotifyAlarmClear_prot (a0) (s : State) : resProt (execNotifyAlarmClear a0 s) = some s.prot := by
  unfold execNotifyAlarmClear
  simp only [feljo_prot, adminOnly_protOr, notBoot_protOr, alarmClear_prot, done_prot, ite_self, implies_true]

theorem alarmPubSet_prot (a0) (s : State) : (alarmPubSet a0 s).protFrom s = s.prot := by
  unfold alarmPubSet
  repeat' (first | simp only [alarmPubJudge_prot, fail_prot, done_prot, prot_mk, prot_fold] | split)

theorem execNotifyAlarmpubSet_prot (a0) (s : State) : resProt (execNotifyAlarmpubSet a0 s) = some s.prot := by
  unfold execNotifyAlarmpubSet
  simp only [feljo_prot, adminOnly_protOr, notBoot_protOr, alarmPubSet_prot, ite_self, implies_true]

theorem execNotifyFilterSet_prot (a0) (s : State) : resProt (execNotifyFilterSet a0 s) = some s.prot := by
  unfold execNotifyFilterSet
  simp only [feljo_prot, adminOnly_protOr, notBoot_protOr, updX3_prot, done_prot, ite_self, implies_true]

theorem execPowerStatusGet_prot (a0) (s : State) : resProt (execPowerStatusGet a0 s) = some s.prot := by
  unfold execPowerStatusGet
  simp only [feljo_prot, adminOnly_protOr, done_prot, ite_self, implies_true]

theorem energyStart_prot (a0) (s : State) : (energyStart a0 s).prot = s.prot := by
  unfold energyStart
  simp only [readMeters_prot, updMet_prot]

theorem execPowerEnergyStart_prot (a0) (s : State) : resProt (execPowerEnergyStart a0 s) = some s.prot := by
  unfold execPowerEnergyStart
  simp only [feljo_prot, adminOnly_protOr, require_prot, energyStart_prot, done_prot, ite_self, implies_true]

theorem energyRead_prot (s : State) : (energyRead s).protFrom s = s.prot := by
  unfold energyRead
  repeat' (first | simp only [fail_prot, done_prot, ite_pfrom, prot_mk, prot_fold, ite_self] | split)

theorem execPowerEnergyRead_prot (a0) (s : State) : resProt (execPowerEnergyRead a0 s) = some s.prot := by
  unfold execPowerEnergyRead
  simp only [feljo_prot, adminOnly_protOr, energyRead_prot, ite_self, implies_true]

theorem execPowerGatingSet_prot (a0) (s : State) : resProt (execPowerGatingSet a0 s) = some s.prot := by
  unfold execPowerGatingSet
  simp only [feljo_prot, adminOnly_protOr, updPwr_prot, done_prot, ite_pfrom, ite_self, implies_true]

theorem execPowerHoldupTest_prot (a0) (s : State) : resProt (execPowerHoldupTest a0 s) = some s.prot := by
  unfold execPowerHoldupTest
  simp only [feljo_prot, adminOnly_protOr, require_prot, addWait_prot, updMet_prot, wait_prot, ite_self, implies_true]

theorem execPowerCountersGet_prot (a0) (s : State) : resProt (execPowerCountersGet a0 s) = some s.prot := by
  unfold execPowerCountersGet
  simp only [feljo_prot, adminOnly_protOr, done_prot, ite_self, implies_true]

theorem execPowerThermalSet_prot (a0) (s : State) : resProt (execPowerThermalSet a0 s) = some s.prot := by
  unfold execPowerThermalSet
  simp only [feljo_prot, adminOnly_protOr, updPwr_prot, done_prot, ite_self, implies_true]

theorem execPowerReset_prot (a0) (s : State) : resProt (execPowerReset a0 s) = some s.prot := by
  unfold execPowerReset
  simp only [feljo_prot, adminOnly_protOr, require_prot, done_prot, ite_self, implies_true]

end Sys2Proof.Machine
end

