-- ==== Sys2Proof/Laws/Tab.lean ====
section
/-! SUPPORT. Tables: what a read gives after a write, and that every operation keeps the canonical form (`tabWf`). -/

namespace Sys2Proof.Machine

variable {α : Type}

/-! ## Read after write -/

@[simp] theorem tfind_tput_same (t : Tab α) (i : Nat) (x : α) : tfind (tput t i x) i = some x := by
  induction t with
  | nil => simp [tput, tfind]
  | cons e t ih =>
    obtain ⟨k, v⟩ := e
    simp only [tput]
    split
    · simp [tfind]
    · split
      · simp [tfind]
      · simp [tfind, *]

theorem tfind_tput_ne (t : Tab α) {i j : Nat} (x : α) (h : j ≠ i) : tfind (tput t i x) j = tfind t j := by
  induction t with
  | nil => simp [tput, tfind, h.symm]
  | cons e t ih =>
    obtain ⟨k, v⟩ := e
    simp only [tput]
    split
    · simp [tfind, h.symm]
    · split
      · subst k
        simp [tfind, h.symm]
      · simp only [tfind, ih]

@[simp] theorem tfind_tdel_same (t : Tab α) (i : Nat) : tfind (tdel t i) i = none := by
  induction t with
  | nil => simp [tdel, tfind]
  | cons e t ih =>
    obtain ⟨k, v⟩ := e
    simp only [tdel]
    split
    · exact ih
    · simp [tfind, *]

theorem tfind_tdel_ne (t : Tab α) {i j : Nat} (h : j ≠ i) : tfind (tdel t i) j = tfind t j := by
  induction t with
  | nil => simp [tdel]
  | cons e t ih =>
    obtain ⟨k, v⟩ := e
    simp only [tdel]
    split
    · subst k
      simp [tfind, h.symm, ih]
    · simp only [tfind, ih]

@[simp] theorem tget_tset_same [DecidableEq α] (d : α) (t : Tab α) (i : Nat) (x : α) : tget d (tset d t i x) i = x := by
  unfold tget tset
  split
  · simp [*]
  · simp

theorem tget_tset_ne [DecidableEq α] (d : α) (t : Tab α) {i j : Nat} (x : α) (h : j ≠ i) :
    tget d (tset d t i x) j = tget d t j := by
  unfold tget tset
  split
  · rw [tfind_tdel_ne t h]
  · rw [tfind_tput_ne t x h]

@[simp] theorem tget_tmod_same [DecidableEq α] (d : α) (t : Tab α) (i : Nat) (f : α → α) :
    tget d (tmod d t i f) i = f (tget d t i) := tget_tset_same d t i _

theorem tget_tmod_ne [DecidableEq α] (d : α) (t : Tab α) {i j : Nat} (f : α → α) (h : j ≠ i) :
    tget d (tmod d t i f) j = tget d t j := tget_tset_ne d t _ h

/-! ## The canonical form -/

theorem tabAbove_weaken {b c : Nat} {t : Tab α} (h : tabAbove b t = true) (g : c ≤ b) : tabAbove c t = true := by
  cases t with
  | nil => rfl
  | cons e t =>
    obtain ⟨k, v⟩ := e
    simp only [tabAbove, Bool.and_eq_true, decide_eq_true_eq] at *
    exact ⟨by omega, h.2⟩

theorem tabAbove_tput {b i : Nat} {t : Tab α} (x : α) (h : tabAbove b t = true) (g : b < i) :
    tabAbove b (tput t i x) = true := by
  induction t generalizing b with
  | nil => simp [tput, tabAbove, g]
  | cons e t ih =>
    obtain ⟨k, v⟩ := e
    simp only [tabAbove, Bool.and_eq_true, decide_eq_true_eq] at h
    simp only [tput]
    split
    · simp [tabAbove, g, h.2, *]
    · split
      · subst k
        simp [tabAbove, g, h.2]
      · simp only [tabAbove, Bool.and_eq_true, decide_eq_true_eq]
        exact ⟨h.1, ih h.2 (by omega)⟩

theorem tabAbove_tdel {b : Nat} {t : Tab α} (i : Nat) (h : tabAbove b t = true) : tabAbove b (tdel t i) = true := by
  induction t generalizing b with
  | nil => exact h
  | cons e t ih =>
    obtain ⟨k, v⟩ := e
    simp only [tabAbove, Bool.and_eq_true, decide_eq_true_eq] at h
    simp only [tdel]
    split
    · exact ih (tabAbove_weaken h.2 (by omega))
    · simp only [tabAbove, Bool.and_eq_true, decide_eq_true_eq]
      exact ⟨h.1, ih h.2⟩

theorem tabAbove_filter {b : Nat} {t : Tab α} (p : Nat × α → Bool) (h : tabAbove b t = true) :
    tabAbove b (t.filter p) = true := by
  induction t generalizing b with
  | nil => exact h
  | cons e t ih =>
    obtain ⟨k, v⟩ := e
    simp only [tabAbove, Bool.and_eq_true, decide_eq_true_eq] at h
    simp only [List.filter]
    split
    · simp only [tabAbove, Bool.and_eq_true, decide_eq_true_eq]
      exact ⟨h.1, ih h.2⟩
    · exact ih (tabAbove_weaken h.2 (by omega))

theorem tabAbove_tmap {β : Type} {b : Nat} {t : Tab α} (f : Nat → α → β) (h : tabAbove b t = true) :
    tabAbove b (tmap f t) = true := by
  induction t generalizing b with
  | nil => rfl
  | cons e t ih =>
    obtain ⟨k, v⟩ := e
    simp only [tabAbove, Bool.and_eq_true, decide_eq_true_eq] at h
    simp only [tmap, List.map, tabAbove, Bool.and_eq_true, decide_eq_true_eq]
    exact ⟨h.1, ih h.2⟩

/-- An entry put keeps the canonical form. -/
theorem tabWf_tput {t : Tab α} (i : Nat) (x : α) (h : tabWf t = true) : tabWf (tput t i x) = true := by
  cases t with
  | nil => rfl
  | cons e t =>
    obtain ⟨k, v⟩ := e
    simp only [tabWf] at h
    simp only [tput]
    split
    · simp [tabWf, tabAbove, h, *]
    · split
      · subst k
        simpa [tabWf] using h
      · exact tabAbove_tput x h (by omega)

/-- An entry removed keeps the canonical form. -/
theorem tabWf_tdel {t : Tab α} (i : Nat) (h : tabWf t = true) : tabWf (tdel t i) = true := by
  induction t with
  | nil => rfl
  | cons e t ih =>
    obtain ⟨k, v⟩ := e
    simp only [tabWf] at h
    simp only [tdel]
    split
    · refine ih ?_
      cases t with
      | nil => rfl
      | cons e t =>
        obtain ⟨m, w⟩ := e
        simp only [tabAbove, Bool.and_eq_true] at h
        exact h.2
    · exact tabAbove_tdel i h

/-- Setting, changing and updating an entry keep the canonical form. -/
theorem tabWf_tset [DecidableEq α] {d : α} {t : Tab α} (i : Nat) (x : α) (h : tabWf t = true) :
    tabWf (tset d t i x) = true := by
  unfold tset
  split
  · exact tabWf_tdel i h
  · exact tabWf_tput i x h

theorem tabWf_tmod [DecidableEq α] {d : α} {t : Tab α} (i : Nat) (f : α → α) (h : tabWf t = true) :
    tabWf (tmod d t i f) = true := tabWf_tset i _ h

theorem tabWf_tupd {t : Tab α} (i : Nat) (f : α → α) (h : tabWf t = true) : tabWf (tupd t i f) = true := by
  unfold tupd
  split
  · exact tabWf_tput i _ h
  · exact h

theorem tabWf_tmap {β : Type} {t : Tab α} (f : Nat → α → β) (h : tabWf t = true) : tabWf (tmap f t) = true := by
  cases t with
  | nil => rfl
  | cons e t => exact tabAbove_tmap f h

theorem tabWf_filter {t : Tab α} (p : Nat × α → Bool) (h : tabWf t = true) : tabWf (t.filter p) = true := by
  induction t with
  | nil => rfl
  | cons e t ih =>
    obtain ⟨k, v⟩ := e
    simp only [tabWf] at h
    simp only [List.filter]
    split
    · exact tabAbove_filter p h
    · refine ih ?_
      cases t with
      | nil => rfl
      | cons e t =>
        obtain ⟨m, w⟩ := e
        simp only [tabAbove, Bool.and_eq_true] at h
        exact h.2

theorem tabWf_tmapD [DecidableEq α] {d : α} {t : Tab α} (f : Nat → α → α) (h : tabWf t = true) :
    tabWf (tmapD d f t) = true := tabWf_filter _ (tabWf_tmap f h)

theorem tabWf_tfilter {t : Tab α} (p : Nat → α → Bool) (h : tabWf t = true) : tabWf (tfilter p t) = true :=
  tabWf_filter _ h

end Sys2Proof.Machine
end

