-- ==== Sys2Proof/Laws/State.lean ====
section
/-! SUPPORT. What each change of one part of the state leaves of the others: one lemma per field per change, so that no
proof unfolds a record update. -/

namespace Sys2Proof.Machine

/-! ## updWin -/

@[simp] theorem updWin_pending (n : Nat) (f : Window → Window) (s : State) : (updWin n f s).pending = s.pending := rfl
@[simp] theorem updWin_clk (n : Nat) (f : Window → Window) (s : State) : (updWin n f s).clk = s.clk := rfl
@[simp] theorem updWin_svc (n : Nat) (f : Window → Window) (s : State) : (updWin n f s).svc = s.svc := rfl
@[simp] theorem updWin_cmds (n : Nat) (f : Window → Window) (s : State) : (updWin n f s).cmds = s.cmds := rfl
@[simp] theorem updWin_seq (n : Nat) (f : Window → Window) (s : State) : (updWin n f s).seq = s.seq := rfl
@[simp] theorem updWin_tagsMax (n : Nat) (f : Window → Window) (s : State) : (updWin n f s).tagsMax = s.tagsMax := rfl
@[simp] theorem updWin_adminOffer (n : Nat) (f : Window → Window) (s : State) : (updWin n f s).adminOffer = s.adminOffer := rfl
@[simp] theorem updWin_waits (n : Nat) (f : Window → Window) (s : State) : (updWin n f s).waits = s.waits := rfl
@[simp] theorem updWin_atu (n : Nat) (f : Window → Window) (s : State) : (updWin n f s).atu = s.atu := rfl
@[simp] theorem updWin_pcie (n : Nat) (f : Window → Window) (s : State) : (updWin n f s).pcie = s.pcie := rfl
@[simp] theorem updWin_heldOut (n : Nat) (f : Window → Window) (s : State) : (updWin n f s).heldOut = s.heldOut := rfl
@[simp] theorem updWin_adm (n : Nat) (f : Window → Window) (s : State) : (updWin n f s).adm = s.adm := rfl
@[simp] theorem updWin_ntfs (n : Nat) (f : Window → Window) (s : State) : (updWin n f s).ntfs = s.ntfs := rfl
@[simp] theorem updWin_sig (n : Nat) (f : Window → Window) (s : State) : (updWin n f s).sig = s.sig := rfl
@[simp] theorem updWin_chr (n : Nat) (f : Window → Window) (s : State) : (updWin n f s).chr = s.chr := rfl
@[simp] theorem updWin_pwr (n : Nat) (f : Window → Window) (s : State) : (updWin n f s).pwr = s.pwr := rfl
@[simp] theorem updWin_pins (n : Nat) (f : Window → Window) (s : State) : (updWin n f s).pins = s.pins := rfl
@[simp] theorem updWin_met (n : Nat) (f : Window → Window) (s : State) : (updWin n f s).met = s.met := rfl
@[simp] theorem updWin_sw (n : Nat) (f : Window → Window) (s : State) : (updWin n f s).sw = s.sw := rfl
@[simp] theorem updWin_ports (n : Nat) (f : Window → Window) (s : State) : (updWin n f s).ports = s.ports := rfl
@[simp] theorem updWin_time (n : Nat) (f : Window → Window) (s : State) : (updWin n f s).time = s.time := rfl
@[simp] theorem updWin_trip (n : Nat) (f : Window → Window) (s : State) : (updWin n f s).trip = s.trip := rfl
@[simp] theorem updWin_tdm (n : Nat) (f : Window → Window) (s : State) : (updWin n f s).tdm = s.tdm := rfl
@[simp] theorem updWin_sv (n : Nat) (f : Window → Window) (s : State) : (updWin n f s).sv = s.sv := rfl
@[simp] theorem updWin_doms (n : Nat) (f : Window → Window) (s : State) : (updWin n f s).doms = s.doms := rfl
@[simp] theorem updWin_filt (n : Nat) (f : Window → Window) (s : State) : (updWin n f s).filt = s.filt := rfl
@[simp] theorem updWin_lanes (n : Nat) (f : Window → Window) (s : State) : (updWin n f s).lanes = s.lanes := rfl
@[simp] theorem updWin_logic (n : Nat) (f : Window → Window) (s : State) : (updWin n f s).logic = s.logic := rfl
@[simp] theorem updWin_insts (n : Nat) (f : Window → Window) (s : State) : (updWin n f s).insts = s.insts := rfl
@[simp] theorem updWin_arc (n : Nat) (f : Window → Window) (s : State) : (updWin n f s).arc = s.arc := rfl
@[simp] theorem updWin_keys (n : Nat) (f : Window → Window) (s : State) : (updWin n f s).keys = s.keys := rfl
@[simp] theorem updWin_upd (n : Nat) (f : Window → Window) (s : State) : (updWin n f s).upd = s.upd := rfl
@[simp] theorem updWin_store (n : Nat) (f : Window → Window) (s : State) : (updWin n f s).store = s.store := rfl
@[simp] theorem updWin_out (n : Nat) (f : Window → Window) (s : State) : (updWin n f s).out = s.out := rfl
@[simp] theorem updWin_fresh (n : Nat) (f : Window → Window) (s : State) : (updWin n f s).fresh = s.fresh := rfl

/-! ## updInst -/

@[simp] theorem updInst_pending (n : Nat) (f : Inst → Inst) (s : State) : (updInst n f s).pending = s.pending := rfl
@[simp] theorem updInst_clk (n : Nat) (f : Inst → Inst) (s : State) : (updInst n f s).clk = s.clk := rfl
@[simp] theorem updInst_svc (n : Nat) (f : Inst → Inst) (s : State) : (updInst n f s).svc = s.svc := rfl
@[simp] theorem updInst_wins (n : Nat) (f : Inst → Inst) (s : State) : (updInst n f s).wins = s.wins := rfl
@[simp] theorem updInst_cmds (n : Nat) (f : Inst → Inst) (s : State) : (updInst n f s).cmds = s.cmds := rfl
@[simp] theorem updInst_seq (n : Nat) (f : Inst → Inst) (s : State) : (updInst n f s).seq = s.seq := rfl
@[simp] theorem updInst_tagsMax (n : Nat) (f : Inst → Inst) (s : State) : (updInst n f s).tagsMax = s.tagsMax := rfl
@[simp] theorem updInst_adminOffer (n : Nat) (f : Inst → Inst) (s : State) : (updInst n f s).adminOffer = s.adminOffer := rfl
@[simp] theorem updInst_waits (n : Nat) (f : Inst → Inst) (s : State) : (updInst n f s).waits = s.waits := rfl
@[simp] theorem updInst_atu (n : Nat) (f : Inst → Inst) (s : State) : (updInst n f s).atu = s.atu := rfl
@[simp] theorem updInst_pcie (n : Nat) (f : Inst → Inst) (s : State) : (updInst n f s).pcie = s.pcie := rfl
@[simp] theorem updInst_heldOut (n : Nat) (f : Inst → Inst) (s : State) : (updInst n f s).heldOut = s.heldOut := rfl
@[simp] theorem updInst_adm (n : Nat) (f : Inst → Inst) (s : State) : (updInst n f s).adm = s.adm := rfl
@[simp] theorem updInst_ntfs (n : Nat) (f : Inst → Inst) (s : State) : (updInst n f s).ntfs = s.ntfs := rfl
@[simp] theorem updInst_sig (n : Nat) (f : Inst → Inst) (s : State) : (updInst n f s).sig = s.sig := rfl
@[simp] theorem updInst_chr (n : Nat) (f : Inst → Inst) (s : State) : (updInst n f s).chr = s.chr := rfl
@[simp] theorem updInst_pwr (n : Nat) (f : Inst → Inst) (s : State) : (updInst n f s).pwr = s.pwr := rfl
@[simp] theorem updInst_pins (n : Nat) (f : Inst → Inst) (s : State) : (updInst n f s).pins = s.pins := rfl
@[simp] theorem updInst_met (n : Nat) (f : Inst → Inst) (s : State) : (updInst n f s).met = s.met := rfl
@[simp] theorem updInst_sw (n : Nat) (f : Inst → Inst) (s : State) : (updInst n f s).sw = s.sw := rfl
@[simp] theorem updInst_ports (n : Nat) (f : Inst → Inst) (s : State) : (updInst n f s).ports = s.ports := rfl
@[simp] theorem updInst_time (n : Nat) (f : Inst → Inst) (s : State) : (updInst n f s).time = s.time := rfl
@[simp] theorem updInst_trip (n : Nat) (f : Inst → Inst) (s : State) : (updInst n f s).trip = s.trip := rfl
@[simp] theorem updInst_tdm (n : Nat) (f : Inst → Inst) (s : State) : (updInst n f s).tdm = s.tdm := rfl
@[simp] theorem updInst_sv (n : Nat) (f : Inst → Inst) (s : State) : (updInst n f s).sv = s.sv := rfl
@[simp] theorem updInst_doms (n : Nat) (f : Inst → Inst) (s : State) : (updInst n f s).doms = s.doms := rfl
@[simp] theorem updInst_filt (n : Nat) (f : Inst → Inst) (s : State) : (updInst n f s).filt = s.filt := rfl
@[simp] theorem updInst_lanes (n : Nat) (f : Inst → Inst) (s : State) : (updInst n f s).lanes = s.lanes := rfl
@[simp] theorem updInst_logic (n : Nat) (f : Inst → Inst) (s : State) : (updInst n f s).logic = s.logic := rfl
@[simp] theorem updInst_arc (n : Nat) (f : Inst → Inst) (s : State) : (updInst n f s).arc = s.arc := rfl
@[simp] theorem updInst_keys (n : Nat) (f : Inst → Inst) (s : State) : (updInst n f s).keys = s.keys := rfl
@[simp] theorem updInst_upd (n : Nat) (f : Inst → Inst) (s : State) : (updInst n f s).upd = s.upd := rfl
@[simp] theorem updInst_store (n : Nat) (f : Inst → Inst) (s : State) : (updInst n f s).store = s.store := rfl
@[simp] theorem updInst_out (n : Nat) (f : Inst → Inst) (s : State) : (updInst n f s).out = s.out := rfl
@[simp] theorem updInst_fresh (n : Nat) (f : Inst → Inst) (s : State) : (updInst n f s).fresh = s.fresh := rfl

/-! ## updDom -/

@[simp] theorem updDom_pending (n : Nat) (f : Dom → Dom) (s : State) : (updDom n f s).pending = s.pending := rfl
@[simp] theorem updDom_clk (n : Nat) (f : Dom → Dom) (s : State) : (updDom n f s).clk = s.clk := rfl
@[simp] theorem updDom_svc (n : Nat) (f : Dom → Dom) (s : State) : (updDom n f s).svc = s.svc := rfl
@[simp] theorem updDom_wins (n : Nat) (f : Dom → Dom) (s : State) : (updDom n f s).wins = s.wins := rfl
@[simp] theorem updDom_cmds (n : Nat) (f : Dom → Dom) (s : State) : (updDom n f s).cmds = s.cmds := rfl
@[simp] theorem updDom_seq (n : Nat) (f : Dom → Dom) (s : State) : (updDom n f s).seq = s.seq := rfl
@[simp] theorem updDom_tagsMax (n : Nat) (f : Dom → Dom) (s : State) : (updDom n f s).tagsMax = s.tagsMax := rfl
@[simp] theorem updDom_adminOffer (n : Nat) (f : Dom → Dom) (s : State) : (updDom n f s).adminOffer = s.adminOffer := rfl
@[simp] theorem updDom_waits (n : Nat) (f : Dom → Dom) (s : State) : (updDom n f s).waits = s.waits := rfl
@[simp] theorem updDom_atu (n : Nat) (f : Dom → Dom) (s : State) : (updDom n f s).atu = s.atu := rfl
@[simp] theorem updDom_pcie (n : Nat) (f : Dom → Dom) (s : State) : (updDom n f s).pcie = s.pcie := rfl
@[simp] theorem updDom_heldOut (n : Nat) (f : Dom → Dom) (s : State) : (updDom n f s).heldOut = s.heldOut := rfl
@[simp] theorem updDom_adm (n : Nat) (f : Dom → Dom) (s : State) : (updDom n f s).adm = s.adm := rfl
@[simp] theorem updDom_ntfs (n : Nat) (f : Dom → Dom) (s : State) : (updDom n f s).ntfs = s.ntfs := rfl
@[simp] theorem updDom_sig (n : Nat) (f : Dom → Dom) (s : State) : (updDom n f s).sig = s.sig := rfl
@[simp] theorem updDom_chr (n : Nat) (f : Dom → Dom) (s : State) : (updDom n f s).chr = s.chr := rfl
@[simp] theorem updDom_pwr (n : Nat) (f : Dom → Dom) (s : State) : (updDom n f s).pwr = s.pwr := rfl
@[simp] theorem updDom_pins (n : Nat) (f : Dom → Dom) (s : State) : (updDom n f s).pins = s.pins := rfl
@[simp] theorem updDom_met (n : Nat) (f : Dom → Dom) (s : State) : (updDom n f s).met = s.met := rfl
@[simp] theorem updDom_sw (n : Nat) (f : Dom → Dom) (s : State) : (updDom n f s).sw = s.sw := rfl
@[simp] theorem updDom_ports (n : Nat) (f : Dom → Dom) (s : State) : (updDom n f s).ports = s.ports := rfl
@[simp] theorem updDom_time (n : Nat) (f : Dom → Dom) (s : State) : (updDom n f s).time = s.time := rfl
@[simp] theorem updDom_trip (n : Nat) (f : Dom → Dom) (s : State) : (updDom n f s).trip = s.trip := rfl
@[simp] theorem updDom_tdm (n : Nat) (f : Dom → Dom) (s : State) : (updDom n f s).tdm = s.tdm := rfl
@[simp] theorem updDom_sv (n : Nat) (f : Dom → Dom) (s : State) : (updDom n f s).sv = s.sv := rfl
@[simp] theorem updDom_filt (n : Nat) (f : Dom → Dom) (s : State) : (updDom n f s).filt = s.filt := rfl
@[simp] theorem updDom_lanes (n : Nat) (f : Dom → Dom) (s : State) : (updDom n f s).lanes = s.lanes := rfl
@[simp] theorem updDom_logic (n : Nat) (f : Dom → Dom) (s : State) : (updDom n f s).logic = s.logic := rfl
@[simp] theorem updDom_insts (n : Nat) (f : Dom → Dom) (s : State) : (updDom n f s).insts = s.insts := rfl
@[simp] theorem updDom_arc (n : Nat) (f : Dom → Dom) (s : State) : (updDom n f s).arc = s.arc := rfl
@[simp] theorem updDom_keys (n : Nat) (f : Dom → Dom) (s : State) : (updDom n f s).keys = s.keys := rfl
@[simp] theorem updDom_upd (n : Nat) (f : Dom → Dom) (s : State) : (updDom n f s).upd = s.upd := rfl
@[simp] theorem updDom_store (n : Nat) (f : Dom → Dom) (s : State) : (updDom n f s).store = s.store := rfl
@[simp] theorem updDom_out (n : Nat) (f : Dom → Dom) (s : State) : (updDom n f s).out = s.out := rfl
@[simp] theorem updDom_fresh (n : Nat) (f : Dom → Dom) (s : State) : (updDom n f s).fresh = s.fresh := rfl

/-! ## updPort -/

@[simp] theorem updPort_pending (n : Nat) (f : Port → Port) (s : State) : (updPort n f s).pending = s.pending := rfl
@[simp] theorem updPort_clk (n : Nat) (f : Port → Port) (s : State) : (updPort n f s).clk = s.clk := rfl
@[simp] theorem updPort_svc (n : Nat) (f : Port → Port) (s : State) : (updPort n f s).svc = s.svc := rfl
@[simp] theorem updPort_wins (n : Nat) (f : Port → Port) (s : State) : (updPort n f s).wins = s.wins := rfl
@[simp] theorem updPort_cmds (n : Nat) (f : Port → Port) (s : State) : (updPort n f s).cmds = s.cmds := rfl
@[simp] theorem updPort_seq (n : Nat) (f : Port → Port) (s : State) : (updPort n f s).seq = s.seq := rfl
@[simp] theorem updPort_tagsMax (n : Nat) (f : Port → Port) (s : State) : (updPort n f s).tagsMax = s.tagsMax := rfl
@[simp] theorem updPort_adminOffer (n : Nat) (f : Port → Port) (s : State) : (updPort n f s).adminOffer = s.adminOffer := rfl
@[simp] theorem updPort_waits (n : Nat) (f : Port → Port) (s : State) : (updPort n f s).waits = s.waits := rfl
@[simp] theorem updPort_atu (n : Nat) (f : Port → Port) (s : State) : (updPort n f s).atu = s.atu := rfl
@[simp] theorem updPort_pcie (n : Nat) (f : Port → Port) (s : State) : (updPort n f s).pcie = s.pcie := rfl
@[simp] theorem updPort_heldOut (n : Nat) (f : Port → Port) (s : State) : (updPort n f s).heldOut = s.heldOut := rfl
@[simp] theorem updPort_adm (n : Nat) (f : Port → Port) (s : State) : (updPort n f s).adm = s.adm := rfl
@[simp] theorem updPort_ntfs (n : Nat) (f : Port → Port) (s : State) : (updPort n f s).ntfs = s.ntfs := rfl
@[simp] theorem updPort_sig (n : Nat) (f : Port → Port) (s : State) : (updPort n f s).sig = s.sig := rfl
@[simp] theorem updPort_chr (n : Nat) (f : Port → Port) (s : State) : (updPort n f s).chr = s.chr := rfl
@[simp] theorem updPort_pwr (n : Nat) (f : Port → Port) (s : State) : (updPort n f s).pwr = s.pwr := rfl
@[simp] theorem updPort_pins (n : Nat) (f : Port → Port) (s : State) : (updPort n f s).pins = s.pins := rfl
@[simp] theorem updPort_met (n : Nat) (f : Port → Port) (s : State) : (updPort n f s).met = s.met := rfl
@[simp] theorem updPort_sw (n : Nat) (f : Port → Port) (s : State) : (updPort n f s).sw = s.sw := rfl
@[simp] theorem updPort_time (n : Nat) (f : Port → Port) (s : State) : (updPort n f s).time = s.time := rfl
@[simp] theorem updPort_trip (n : Nat) (f : Port → Port) (s : State) : (updPort n f s).trip = s.trip := rfl
@[simp] theorem updPort_tdm (n : Nat) (f : Port → Port) (s : State) : (updPort n f s).tdm = s.tdm := rfl
@[simp] theorem updPort_sv (n : Nat) (f : Port → Port) (s : State) : (updPort n f s).sv = s.sv := rfl
@[simp] theorem updPort_doms (n : Nat) (f : Port → Port) (s : State) : (updPort n f s).doms = s.doms := rfl
@[simp] theorem updPort_filt (n : Nat) (f : Port → Port) (s : State) : (updPort n f s).filt = s.filt := rfl
@[simp] theorem updPort_lanes (n : Nat) (f : Port → Port) (s : State) : (updPort n f s).lanes = s.lanes := rfl
@[simp] theorem updPort_logic (n : Nat) (f : Port → Port) (s : State) : (updPort n f s).logic = s.logic := rfl
@[simp] theorem updPort_insts (n : Nat) (f : Port → Port) (s : State) : (updPort n f s).insts = s.insts := rfl
@[simp] theorem updPort_arc (n : Nat) (f : Port → Port) (s : State) : (updPort n f s).arc = s.arc := rfl
@[simp] theorem updPort_keys (n : Nat) (f : Port → Port) (s : State) : (updPort n f s).keys = s.keys := rfl
@[simp] theorem updPort_upd (n : Nat) (f : Port → Port) (s : State) : (updPort n f s).upd = s.upd := rfl
@[simp] theorem updPort_store (n : Nat) (f : Port → Port) (s : State) : (updPort n f s).store = s.store := rfl
@[simp] theorem updPort_out (n : Nat) (f : Port → Port) (s : State) : (updPort n f s).out = s.out := rfl
@[simp] theorem updPort_fresh (n : Nat) (f : Port → Port) (s : State) : (updPort n f s).fresh = s.fresh := rfl

/-! ## updOut -/

@[simp] theorem updOut_pending (n : Nat) (f : Outp → Outp) (s : State) : (updOut n f s).pending = s.pending := rfl
@[simp] theorem updOut_clk (n : Nat) (f : Outp → Outp) (s : State) : (updOut n f s).clk = s.clk := rfl
@[simp] theorem updOut_svc (n : Nat) (f : Outp → Outp) (s : State) : (updOut n f s).svc = s.svc := rfl
@[simp] theorem updOut_wins (n : Nat) (f : Outp → Outp) (s : State) : (updOut n f s).wins = s.wins := rfl
@[simp] theorem updOut_cmds (n : Nat) (f : Outp → Outp) (s : State) : (updOut n f s).cmds = s.cmds := rfl
@[simp] theorem updOut_seq (n : Nat) (f : Outp → Outp) (s : State) : (updOut n f s).seq = s.seq := rfl
@[simp] theorem updOut_tagsMax (n : Nat) (f : Outp → Outp) (s : State) : (updOut n f s).tagsMax = s.tagsMax := rfl
@[simp] theorem updOut_adminOffer (n : Nat) (f : Outp → Outp) (s : State) : (updOut n f s).adminOffer = s.adminOffer := rfl
@[simp] theorem updOut_waits (n : Nat) (f : Outp → Outp) (s : State) : (updOut n f s).waits = s.waits := rfl
@[simp] theorem updOut_atu (n : Nat) (f : Outp → Outp) (s : State) : (updOut n f s).atu = s.atu := rfl
@[simp] theorem updOut_pcie (n : Nat) (f : Outp → Outp) (s : State) : (updOut n f s).pcie = s.pcie := rfl
@[simp] theorem updOut_heldOut (n : Nat) (f : Outp → Outp) (s : State) : (updOut n f s).heldOut = s.heldOut := rfl
@[simp] theorem updOut_adm (n : Nat) (f : Outp → Outp) (s : State) : (updOut n f s).adm = s.adm := rfl
@[simp] theorem updOut_ntfs (n : Nat) (f : Outp → Outp) (s : State) : (updOut n f s).ntfs = s.ntfs := rfl
@[simp] theorem updOut_sig (n : Nat) (f : Outp → Outp) (s : State) : (updOut n f s).sig = s.sig := rfl
@[simp] theorem updOut_chr (n : Nat) (f : Outp → Outp) (s : State) : (updOut n f s).chr = s.chr := rfl
@[simp] theorem updOut_pwr (n : Nat) (f : Outp → Outp) (s : State) : (updOut n f s).pwr = s.pwr := rfl
@[simp] theorem updOut_pins (n : Nat) (f : Outp → Outp) (s : State) : (updOut n f s).pins = s.pins := rfl
@[simp] theorem updOut_met (n : Nat) (f : Outp → Outp) (s : State) : (updOut n f s).met = s.met := rfl
@[simp] theorem updOut_sw (n : Nat) (f : Outp → Outp) (s : State) : (updOut n f s).sw = s.sw := rfl
@[simp] theorem updOut_ports (n : Nat) (f : Outp → Outp) (s : State) : (updOut n f s).ports = s.ports := rfl
@[simp] theorem updOut_time (n : Nat) (f : Outp → Outp) (s : State) : (updOut n f s).time = s.time := rfl
@[simp] theorem updOut_tdm (n : Nat) (f : Outp → Outp) (s : State) : (updOut n f s).tdm = s.tdm := rfl
@[simp] theorem updOut_sv (n : Nat) (f : Outp → Outp) (s : State) : (updOut n f s).sv = s.sv := rfl
@[simp] theorem updOut_doms (n : Nat) (f : Outp → Outp) (s : State) : (updOut n f s).doms = s.doms := rfl
@[simp] theorem updOut_filt (n : Nat) (f : Outp → Outp) (s : State) : (updOut n f s).filt = s.filt := rfl
@[simp] theorem updOut_lanes (n : Nat) (f : Outp → Outp) (s : State) : (updOut n f s).lanes = s.lanes := rfl
@[simp] theorem updOut_logic (n : Nat) (f : Outp → Outp) (s : State) : (updOut n f s).logic = s.logic := rfl
@[simp] theorem updOut_insts (n : Nat) (f : Outp → Outp) (s : State) : (updOut n f s).insts = s.insts := rfl
@[simp] theorem updOut_arc (n : Nat) (f : Outp → Outp) (s : State) : (updOut n f s).arc = s.arc := rfl
@[simp] theorem updOut_keys (n : Nat) (f : Outp → Outp) (s : State) : (updOut n f s).keys = s.keys := rfl
@[simp] theorem updOut_upd (n : Nat) (f : Outp → Outp) (s : State) : (updOut n f s).upd = s.upd := rfl
@[simp] theorem updOut_store (n : Nat) (f : Outp → Outp) (s : State) : (updOut n f s).store = s.store := rfl
@[simp] theorem updOut_out (n : Nat) (f : Outp → Outp) (s : State) : (updOut n f s).out = s.out := rfl
@[simp] theorem updOut_fresh (n : Nat) (f : Outp → Outp) (s : State) : (updOut n f s).fresh = s.fresh := rfl

/-! ## updCmds -/

@[simp] theorem updCmds_pending (f : List Cmd → List Cmd) (s : State) : (updCmds f s).pending = s.pending := rfl
@[simp] theorem updCmds_clk (f : List Cmd → List Cmd) (s : State) : (updCmds f s).clk = s.clk := rfl
@[simp] theorem updCmds_svc (f : List Cmd → List Cmd) (s : State) : (updCmds f s).svc = s.svc := rfl
@[simp] theorem updCmds_wins (f : List Cmd → List Cmd) (s : State) : (updCmds f s).wins = s.wins := rfl
@[simp] theorem updCmds_seq (f : List Cmd → List Cmd) (s : State) : (updCmds f s).seq = s.seq := rfl
@[simp] theorem updCmds_tagsMax (f : List Cmd → List Cmd) (s : State) : (updCmds f s).tagsMax = s.tagsMax := rfl
@[simp] theorem updCmds_adminOffer (f : List Cmd → List Cmd) (s : State) : (updCmds f s).adminOffer = s.adminOffer := rfl
@[simp] theorem updCmds_waits (f : List Cmd → List Cmd) (s : State) : (updCmds f s).waits = s.waits := rfl
@[simp] theorem updCmds_atu (f : List Cmd → List Cmd) (s : State) : (updCmds f s).atu = s.atu := rfl
@[simp] theorem updCmds_pcie (f : List Cmd → List Cmd) (s : State) : (updCmds f s).pcie = s.pcie := rfl
@[simp] theorem updCmds_heldOut (f : List Cmd → List Cmd) (s : State) : (updCmds f s).heldOut = s.heldOut := rfl
@[simp] theorem updCmds_adm (f : List Cmd → List Cmd) (s : State) : (updCmds f s).adm = s.adm := rfl
@[simp] theorem updCmds_ntfs (f : List Cmd → List Cmd) (s : State) : (updCmds f s).ntfs = s.ntfs := rfl
@[simp] theorem updCmds_sig (f : List Cmd → List Cmd) (s : State) : (updCmds f s).sig = s.sig := rfl
@[simp] theorem updCmds_chr (f : List Cmd → List Cmd) (s : State) : (updCmds f s).chr = s.chr := rfl
@[simp] theorem updCmds_pwr (f : List Cmd → List Cmd) (s : State) : (updCmds f s).pwr = s.pwr := rfl
@[simp] theorem updCmds_pins (f : List Cmd → List Cmd) (s : State) : (updCmds f s).pins = s.pins := rfl
@[simp] theorem updCmds_met (f : List Cmd → List Cmd) (s : State) : (updCmds f s).met = s.met := rfl
@[simp] theorem updCmds_sw (f : List Cmd → List Cmd) (s : State) : (updCmds f s).sw = s.sw := rfl
@[simp] theorem updCmds_ports (f : List Cmd → List Cmd) (s : State) : (updCmds f s).ports = s.ports := rfl
@[simp] theorem updCmds_time (f : List Cmd → List Cmd) (s : State) : (updCmds f s).time = s.time := rfl
@[simp] theorem updCmds_trip (f : List Cmd → List Cmd) (s : State) : (updCmds f s).trip = s.trip := rfl
@[simp] theorem updCmds_tdm (f : List Cmd → List Cmd) (s : State) : (updCmds f s).tdm = s.tdm := rfl
@[simp] theorem updCmds_sv (f : List Cmd → List Cmd) (s : State) : (updCmds f s).sv = s.sv := rfl
@[simp] theorem updCmds_doms (f : List Cmd → List Cmd) (s : State) : (updCmds f s).doms = s.doms := rfl
@[simp] theorem updCmds_filt (f : List Cmd → List Cmd) (s : State) : (updCmds f s).filt = s.filt := rfl
@[simp] theorem updCmds_lanes (f : List Cmd → List Cmd) (s : State) : (updCmds f s).lanes = s.lanes := rfl
@[simp] theorem updCmds_logic (f : List Cmd → List Cmd) (s : State) : (updCmds f s).logic = s.logic := rfl
@[simp] theorem updCmds_insts (f : List Cmd → List Cmd) (s : State) : (updCmds f s).insts = s.insts := rfl
@[simp] theorem updCmds_arc (f : List Cmd → List Cmd) (s : State) : (updCmds f s).arc = s.arc := rfl
@[simp] theorem updCmds_keys (f : List Cmd → List Cmd) (s : State) : (updCmds f s).keys = s.keys := rfl
@[simp] theorem updCmds_upd (f : List Cmd → List Cmd) (s : State) : (updCmds f s).upd = s.upd := rfl
@[simp] theorem updCmds_store (f : List Cmd → List Cmd) (s : State) : (updCmds f s).store = s.store := rfl
@[simp] theorem updCmds_out (f : List Cmd → List Cmd) (s : State) : (updCmds f s).out = s.out := rfl
@[simp] theorem updCmds_fresh (f : List Cmd → List Cmd) (s : State) : (updCmds f s).fresh = s.fresh := rfl

/-! ## updPcie -/

@[simp] theorem updPcie_pending (f : Pcie → Pcie) (s : State) : (updPcie f s).pending = s.pending := rfl
@[simp] theorem updPcie_clk (f : Pcie → Pcie) (s : State) : (updPcie f s).clk = s.clk := rfl
@[simp] theorem updPcie_svc (f : Pcie → Pcie) (s : State) : (updPcie f s).svc = s.svc := rfl
@[simp] theorem updPcie_wins (f : Pcie → Pcie) (s : State) : (updPcie f s).wins = s.wins := rfl
@[simp] theorem updPcie_cmds (f : Pcie → Pcie) (s : State) : (updPcie f s).cmds = s.cmds := rfl
@[simp] theorem updPcie_seq (f : Pcie → Pcie) (s : State) : (updPcie f s).seq = s.seq := rfl
@[simp] theorem updPcie_tagsMax (f : Pcie → Pcie) (s : State) : (updPcie f s).tagsMax = s.tagsMax := rfl
@[simp] theorem updPcie_adminOffer (f : Pcie → Pcie) (s : State) : (updPcie f s).adminOffer = s.adminOffer := rfl
@[simp] theorem updPcie_waits (f : Pcie → Pcie) (s : State) : (updPcie f s).waits = s.waits := rfl
@[simp] theorem updPcie_atu (f : Pcie → Pcie) (s : State) : (updPcie f s).atu = s.atu := rfl
@[simp] theorem updPcie_heldOut (f : Pcie → Pcie) (s : State) : (updPcie f s).heldOut = s.heldOut := rfl
@[simp] theorem updPcie_adm (f : Pcie → Pcie) (s : State) : (updPcie f s).adm = s.adm := rfl
@[simp] theorem updPcie_ntfs (f : Pcie → Pcie) (s : State) : (updPcie f s).ntfs = s.ntfs := rfl
@[simp] theorem updPcie_sig (f : Pcie → Pcie) (s : State) : (updPcie f s).sig = s.sig := rfl
@[simp] theorem updPcie_chr (f : Pcie → Pcie) (s : State) : (updPcie f s).chr = s.chr := rfl
@[simp] theorem updPcie_pwr (f : Pcie → Pcie) (s : State) : (updPcie f s).pwr = s.pwr := rfl
@[simp] theorem updPcie_pins (f : Pcie → Pcie) (s : State) : (updPcie f s).pins = s.pins := rfl
@[simp] theorem updPcie_met (f : Pcie → Pcie) (s : State) : (updPcie f s).met = s.met := rfl
@[simp] theorem updPcie_sw (f : Pcie → Pcie) (s : State) : (updPcie f s).sw = s.sw := rfl
@[simp] theorem updPcie_ports (f : Pcie → Pcie) (s : State) : (updPcie f s).ports = s.ports := rfl
@[simp] theorem updPcie_time (f : Pcie → Pcie) (s : State) : (updPcie f s).time = s.time := rfl
@[simp] theorem updPcie_trip (f : Pcie → Pcie) (s : State) : (updPcie f s).trip = s.trip := rfl
@[simp] theorem updPcie_tdm (f : Pcie → Pcie) (s : State) : (updPcie f s).tdm = s.tdm := rfl
@[simp] theorem updPcie_sv (f : Pcie → Pcie) (s : State) : (updPcie f s).sv = s.sv := rfl
@[simp] theorem updPcie_doms (f : Pcie → Pcie) (s : State) : (updPcie f s).doms = s.doms := rfl
@[simp] theorem updPcie_filt (f : Pcie → Pcie) (s : State) : (updPcie f s).filt = s.filt := rfl
@[simp] theorem updPcie_lanes (f : Pcie → Pcie) (s : State) : (updPcie f s).lanes = s.lanes := rfl
@[simp] theorem updPcie_logic (f : Pcie → Pcie) (s : State) : (updPcie f s).logic = s.logic := rfl
@[simp] theorem updPcie_insts (f : Pcie → Pcie) (s : State) : (updPcie f s).insts = s.insts := rfl
@[simp] theorem updPcie_arc (f : Pcie → Pcie) (s : State) : (updPcie f s).arc = s.arc := rfl
@[simp] theorem updPcie_keys (f : Pcie → Pcie) (s : State) : (updPcie f s).keys = s.keys := rfl
@[simp] theorem updPcie_upd (f : Pcie → Pcie) (s : State) : (updPcie f s).upd = s.upd := rfl
@[simp] theorem updPcie_store (f : Pcie → Pcie) (s : State) : (updPcie f s).store = s.store := rfl
@[simp] theorem updPcie_out (f : Pcie → Pcie) (s : State) : (updPcie f s).out = s.out := rfl
@[simp] theorem updPcie_fresh (f : Pcie → Pcie) (s : State) : (updPcie f s).fresh = s.fresh := rfl

/-! ## updStream -/

@[simp] theorem updStream_pending (n : Nat) (f : Stream → Stream) (s : State) : (updStream n f s).pending = s.pending := rfl
@[simp] theorem updStream_clk (n : Nat) (f : Stream → Stream) (s : State) : (updStream n f s).clk = s.clk := rfl
@[simp] theorem updStream_svc (n : Nat) (f : Stream → Stream) (s : State) : (updStream n f s).svc = s.svc := rfl
@[simp] theorem updStream_wins (n : Nat) (f : Stream → Stream) (s : State) : (updStream n f s).wins = s.wins := rfl
@[simp] theorem updStream_cmds (n : Nat) (f : Stream → Stream) (s : State) : (updStream n f s).cmds = s.cmds := rfl
@[simp] theorem updStream_seq (n : Nat) (f : Stream → Stream) (s : State) : (updStream n f s).seq = s.seq := rfl
@[simp] theorem updStream_tagsMax (n : Nat) (f : Stream → Stream) (s : State) : (updStream n f s).tagsMax = s.tagsMax := rfl
@[simp] theorem updStream_adminOffer (n : Nat) (f : Stream → Stream) (s : State) : (updStream n f s).adminOffer = s.adminOffer := rfl
@[simp] theorem updStream_waits (n : Nat) (f : Stream → Stream) (s : State) : (updStream n f s).waits = s.waits := rfl
@[simp] theorem updStream_atu (n : Nat) (f : Stream → Stream) (s : State) : (updStream n f s).atu = s.atu := rfl
@[simp] theorem updStream_pcie (n : Nat) (f : Stream → Stream) (s : State) : (updStream n f s).pcie = s.pcie := rfl
@[simp] theorem updStream_heldOut (n : Nat) (f : Stream → Stream) (s : State) : (updStream n f s).heldOut = s.heldOut := rfl
@[simp] theorem updStream_adm (n : Nat) (f : Stream → Stream) (s : State) : (updStream n f s).adm = s.adm := rfl
@[simp] theorem updStream_ntfs (n : Nat) (f : Stream → Stream) (s : State) : (updStream n f s).ntfs = s.ntfs := rfl
@[simp] theorem updStream_sig (n : Nat) (f : Stream → Stream) (s : State) : (updStream n f s).sig = s.sig := rfl
@[simp] theorem updStream_chr (n : Nat) (f : Stream → Stream) (s : State) : (updStream n f s).chr = s.chr := rfl
@[simp] theorem updStream_pwr (n : Nat) (f : Stream → Stream) (s : State) : (updStream n f s).pwr = s.pwr := rfl
@[simp] theorem updStream_pins (n : Nat) (f : Stream → Stream) (s : State) : (updStream n f s).pins = s.pins := rfl
@[simp] theorem updStream_met (n : Nat) (f : Stream → Stream) (s : State) : (updStream n f s).met = s.met := rfl
@[simp] theorem updStream_sw (n : Nat) (f : Stream → Stream) (s : State) : (updStream n f s).sw = s.sw := rfl
@[simp] theorem updStream_ports (n : Nat) (f : Stream → Stream) (s : State) : (updStream n f s).ports = s.ports := rfl
@[simp] theorem updStream_time (n : Nat) (f : Stream → Stream) (s : State) : (updStream n f s).time = s.time := rfl
@[simp] theorem updStream_trip (n : Nat) (f : Stream → Stream) (s : State) : (updStream n f s).trip = s.trip := rfl
@[simp] theorem updStream_tdm (n : Nat) (f : Stream → Stream) (s : State) : (updStream n f s).tdm = s.tdm := rfl
@[simp] theorem updStream_doms (n : Nat) (f : Stream → Stream) (s : State) : (updStream n f s).doms = s.doms := rfl
@[simp] theorem updStream_filt (n : Nat) (f : Stream → Stream) (s : State) : (updStream n f s).filt = s.filt := rfl
@[simp] theorem updStream_lanes (n : Nat) (f : Stream → Stream) (s : State) : (updStream n f s).lanes = s.lanes := rfl
@[simp] theorem updStream_logic (n : Nat) (f : Stream → Stream) (s : State) : (updStream n f s).logic = s.logic := rfl
@[simp] theorem updStream_insts (n : Nat) (f : Stream → Stream) (s : State) : (updStream n f s).insts = s.insts := rfl
@[simp] theorem updStream_arc (n : Nat) (f : Stream → Stream) (s : State) : (updStream n f s).arc = s.arc := rfl
@[simp] theorem updStream_keys (n : Nat) (f : Stream → Stream) (s : State) : (updStream n f s).keys = s.keys := rfl
@[simp] theorem updStream_upd (n : Nat) (f : Stream → Stream) (s : State) : (updStream n f s).upd = s.upd := rfl
@[simp] theorem updStream_store (n : Nat) (f : Stream → Stream) (s : State) : (updStream n f s).store = s.store := rfl
@[simp] theorem updStream_out (n : Nat) (f : Stream → Stream) (s : State) : (updStream n f s).out = s.out := rfl
@[simp] theorem updStream_fresh (n : Nat) (f : Stream → Stream) (s : State) : (updStream n f s).fresh = s.fresh := rfl

/-! ## updFilt -/

@[simp] theorem updFilt_pending (f : Filt → Filt) (s : State) : (updFilt f s).pending = s.pending := rfl
@[simp] theorem updFilt_clk (f : Filt → Filt) (s : State) : (updFilt f s).clk = s.clk := rfl
@[simp] theorem updFilt_svc (f : Filt → Filt) (s : State) : (updFilt f s).svc = s.svc := rfl
@[simp] theorem updFilt_wins (f : Filt → Filt) (s : State) : (updFilt f s).wins = s.wins := rfl
@[simp] theorem updFilt_cmds (f : Filt → Filt) (s : State) : (updFilt f s).cmds = s.cmds := rfl
@[simp] theorem updFilt_seq (f : Filt → Filt) (s : State) : (updFilt f s).seq = s.seq := rfl
@[simp] theorem updFilt_tagsMax (f : Filt → Filt) (s : State) : (updFilt f s).tagsMax = s.tagsMax := rfl
@[simp] theorem updFilt_adminOffer (f : Filt → Filt) (s : State) : (updFilt f s).adminOffer = s.adminOffer := rfl
@[simp] theorem updFilt_waits (f : Filt → Filt) (s : State) : (updFilt f s).waits = s.waits := rfl
@[simp] theorem updFilt_atu (f : Filt → Filt) (s : State) : (updFilt f s).atu = s.atu := rfl
@[simp] theorem updFilt_pcie (f : Filt → Filt) (s : State) : (updFilt f s).pcie = s.pcie := rfl
@[simp] theorem updFilt_heldOut (f : Filt → Filt) (s : State) : (updFilt f s).heldOut = s.heldOut := rfl
@[simp] theorem updFilt_adm (f : Filt → Filt) (s : State) : (updFilt f s).adm = s.adm := rfl
@[simp] theorem updFilt_ntfs (f : Filt → Filt) (s : State) : (updFilt f s).ntfs = s.ntfs := rfl
@[simp] theorem updFilt_sig (f : Filt → Filt) (s : State) : (updFilt f s).sig = s.sig := rfl
@[simp] theorem updFilt_chr (f : Filt → Filt) (s : State) : (updFilt f s).chr = s.chr := rfl
@[simp] theorem updFilt_pwr (f : Filt → Filt) (s : State) : (updFilt f s).pwr = s.pwr := rfl
@[simp] theorem updFilt_pins (f : Filt → Filt) (s : State) : (updFilt f s).pins = s.pins := rfl
@[simp] theorem updFilt_met (f : Filt → Filt) (s : State) : (updFilt f s).met = s.met := rfl
@[simp] theorem updFilt_sw (f : Filt → Filt) (s : State) : (updFilt f s).sw = s.sw := rfl
@[simp] theorem updFilt_ports (f : Filt → Filt) (s : State) : (updFilt f s).ports = s.ports := rfl
@[simp] theorem updFilt_time (f : Filt → Filt) (s : State) : (updFilt f s).time = s.time := rfl
@[simp] theorem updFilt_trip (f : Filt → Filt) (s : State) : (updFilt f s).trip = s.trip := rfl
@[simp] theorem updFilt_tdm (f : Filt → Filt) (s : State) : (updFilt f s).tdm = s.tdm := rfl
@[simp] theorem updFilt_sv (f : Filt → Filt) (s : State) : (updFilt f s).sv = s.sv := rfl
@[simp] theorem updFilt_doms (f : Filt → Filt) (s : State) : (updFilt f s).doms = s.doms := rfl
@[simp] theorem updFilt_lanes (f : Filt → Filt) (s : State) : (updFilt f s).lanes = s.lanes := rfl
@[simp] theorem updFilt_logic (f : Filt → Filt) (s : State) : (updFilt f s).logic = s.logic := rfl
@[simp] theorem updFilt_insts (f : Filt → Filt) (s : State) : (updFilt f s).insts = s.insts := rfl
@[simp] theorem updFilt_arc (f : Filt → Filt) (s : State) : (updFilt f s).arc = s.arc := rfl
@[simp] theorem updFilt_keys (f : Filt → Filt) (s : State) : (updFilt f s).keys = s.keys := rfl
@[simp] theorem updFilt_upd (f : Filt → Filt) (s : State) : (updFilt f s).upd = s.upd := rfl
@[simp] theorem updFilt_store (f : Filt → Filt) (s : State) : (updFilt f s).store = s.store := rfl
@[simp] theorem updFilt_out (f : Filt → Filt) (s : State) : (updFilt f s).out = s.out := rfl
@[simp] theorem updFilt_fresh (f : Filt → Filt) (s : State) : (updFilt f s).fresh = s.fresh := rfl

/-! ## updLanes -/

@[simp] theorem updLanes_pending (f : Lanes → Lanes) (s : State) : (updLanes f s).pending = s.pending := rfl
@[simp] theorem updLanes_clk (f : Lanes → Lanes) (s : State) : (updLanes f s).clk = s.clk := rfl
@[simp] theorem updLanes_svc (f : Lanes → Lanes) (s : State) : (updLanes f s).svc = s.svc := rfl
@[simp] theorem updLanes_wins (f : Lanes → Lanes) (s : State) : (updLanes f s).wins = s.wins := rfl
@[simp] theorem updLanes_cmds (f : Lanes → Lanes) (s : State) : (updLanes f s).cmds = s.cmds := rfl
@[simp] theorem updLanes_seq (f : Lanes → Lanes) (s : State) : (updLanes f s).seq = s.seq := rfl
@[simp] theorem updLanes_tagsMax (f : Lanes → Lanes) (s : State) : (updLanes f s).tagsMax = s.tagsMax := rfl
@[simp] theorem updLanes_adminOffer (f : Lanes → Lanes) (s : State) : (updLanes f s).adminOffer = s.adminOffer := rfl
@[simp] theorem updLanes_waits (f : Lanes → Lanes) (s : State) : (updLanes f s).waits = s.waits := rfl
@[simp] theorem updLanes_atu (f : Lanes → Lanes) (s : State) : (updLanes f s).atu = s.atu := rfl
@[simp] theorem updLanes_pcie (f : Lanes → Lanes) (s : State) : (updLanes f s).pcie = s.pcie := rfl
@[simp] theorem updLanes_heldOut (f : Lanes → Lanes) (s : State) : (updLanes f s).heldOut = s.heldOut := rfl
@[simp] theorem updLanes_adm (f : Lanes → Lanes) (s : State) : (updLanes f s).adm = s.adm := rfl
@[simp] theorem updLanes_ntfs (f : Lanes → Lanes) (s : State) : (updLanes f s).ntfs = s.ntfs := rfl
@[simp] theorem updLanes_sig (f : Lanes → Lanes) (s : State) : (updLanes f s).sig = s.sig := rfl
@[simp] theorem updLanes_chr (f : Lanes → Lanes) (s : State) : (updLanes f s).chr = s.chr := rfl
@[simp] theorem updLanes_pwr (f : Lanes → Lanes) (s : State) : (updLanes f s).pwr = s.pwr := rfl
@[simp] theorem updLanes_pins (f : Lanes → Lanes) (s : State) : (updLanes f s).pins = s.pins := rfl
@[simp] theorem updLanes_met (f : Lanes → Lanes) (s : State) : (updLanes f s).met = s.met := rfl
@[simp] theorem updLanes_sw (f : Lanes → Lanes) (s : State) : (updLanes f s).sw = s.sw := rfl
@[simp] theorem updLanes_ports (f : Lanes → Lanes) (s : State) : (updLanes f s).ports = s.ports := rfl
@[simp] theorem updLanes_time (f : Lanes → Lanes) (s : State) : (updLanes f s).time = s.time := rfl
@[simp] theorem updLanes_trip (f : Lanes → Lanes) (s : State) : (updLanes f s).trip = s.trip := rfl
@[simp] theorem updLanes_tdm (f : Lanes → Lanes) (s : State) : (updLanes f s).tdm = s.tdm := rfl
@[simp] theorem updLanes_sv (f : Lanes → Lanes) (s : State) : (updLanes f s).sv = s.sv := rfl
@[simp] theorem updLanes_doms (f : Lanes → Lanes) (s : State) : (updLanes f s).doms = s.doms := rfl
@[simp] theorem updLanes_filt (f : Lanes → Lanes) (s : State) : (updLanes f s).filt = s.filt := rfl
@[simp] theorem updLanes_logic (f : Lanes → Lanes) (s : State) : (updLanes f s).logic = s.logic := rfl
@[simp] theorem updLanes_insts (f : Lanes → Lanes) (s : State) : (updLanes f s).insts = s.insts := rfl
@[simp] theorem updLanes_arc (f : Lanes → Lanes) (s : State) : (updLanes f s).arc = s.arc := rfl
@[simp] theorem updLanes_keys (f : Lanes → Lanes) (s : State) : (updLanes f s).keys = s.keys := rfl
@[simp] theorem updLanes_upd (f : Lanes → Lanes) (s : State) : (updLanes f s).upd = s.upd := rfl
@[simp] theorem updLanes_store (f : Lanes → Lanes) (s : State) : (updLanes f s).store = s.store := rfl
@[simp] theorem updLanes_out (f : Lanes → Lanes) (s : State) : (updLanes f s).out = s.out := rfl
@[simp] theorem updLanes_fresh (f : Lanes → Lanes) (s : State) : (updLanes f s).fresh = s.fresh := rfl

/-! ## updKeys -/

@[simp] theorem updKeys_pending (f : Keys → Keys) (s : State) : (updKeys f s).pending = s.pending := rfl
@[simp] theorem updKeys_clk (f : Keys → Keys) (s : State) : (updKeys f s).clk = s.clk := rfl
@[simp] theorem updKeys_svc (f : Keys → Keys) (s : State) : (updKeys f s).svc = s.svc := rfl
@[simp] theorem updKeys_wins (f : Keys → Keys) (s : State) : (updKeys f s).wins = s.wins := rfl
@[simp] theorem updKeys_cmds (f : Keys → Keys) (s : State) : (updKeys f s).cmds = s.cmds := rfl
@[simp] theorem updKeys_seq (f : Keys → Keys) (s : State) : (updKeys f s).seq = s.seq := rfl
@[simp] theorem updKeys_tagsMax (f : Keys → Keys) (s : State) : (updKeys f s).tagsMax = s.tagsMax := rfl
@[simp] theorem updKeys_adminOffer (f : Keys → Keys) (s : State) : (updKeys f s).adminOffer = s.adminOffer := rfl
@[simp] theorem updKeys_waits (f : Keys → Keys) (s : State) : (updKeys f s).waits = s.waits := rfl
@[simp] theorem updKeys_atu (f : Keys → Keys) (s : State) : (updKeys f s).atu = s.atu := rfl
@[simp] theorem updKeys_pcie (f : Keys → Keys) (s : State) : (updKeys f s).pcie = s.pcie := rfl
@[simp] theorem updKeys_heldOut (f : Keys → Keys) (s : State) : (updKeys f s).heldOut = s.heldOut := rfl
@[simp] theorem updKeys_adm (f : Keys → Keys) (s : State) : (updKeys f s).adm = s.adm := rfl
@[simp] theorem updKeys_ntfs (f : Keys → Keys) (s : State) : (updKeys f s).ntfs = s.ntfs := rfl
@[simp] theorem updKeys_sig (f : Keys → Keys) (s : State) : (updKeys f s).sig = s.sig := rfl
@[simp] theorem updKeys_chr (f : Keys → Keys) (s : State) : (updKeys f s).chr = s.chr := rfl
@[simp] theorem updKeys_pwr (f : Keys → Keys) (s : State) : (updKeys f s).pwr = s.pwr := rfl
@[simp] theorem updKeys_pins (f : Keys → Keys) (s : State) : (updKeys f s).pins = s.pins := rfl
@[simp] theorem updKeys_met (f : Keys → Keys) (s : State) : (updKeys f s).met = s.met := rfl
@[simp] theorem updKeys_sw (f : Keys → Keys) (s : State) : (updKeys f s).sw = s.sw := rfl
@[simp] theorem updKeys_ports (f : Keys → Keys) (s : State) : (updKeys f s).ports = s.ports := rfl
@[simp] theorem updKeys_time (f : Keys → Keys) (s : State) : (updKeys f s).time = s.time := rfl
@[simp] theorem updKeys_trip (f : Keys → Keys) (s : State) : (updKeys f s).trip = s.trip := rfl
@[simp] theorem updKeys_tdm (f : Keys → Keys) (s : State) : (updKeys f s).tdm = s.tdm := rfl
@[simp] theorem updKeys_sv (f : Keys → Keys) (s : State) : (updKeys f s).sv = s.sv := rfl
@[simp] theorem updKeys_doms (f : Keys → Keys) (s : State) : (updKeys f s).doms = s.doms := rfl
@[simp] theorem updKeys_filt (f : Keys → Keys) (s : State) : (updKeys f s).filt = s.filt := rfl
@[simp] theorem updKeys_lanes (f : Keys → Keys) (s : State) : (updKeys f s).lanes = s.lanes := rfl
@[simp] theorem updKeys_logic (f : Keys → Keys) (s : State) : (updKeys f s).logic = s.logic := rfl
@[simp] theorem updKeys_insts (f : Keys → Keys) (s : State) : (updKeys f s).insts = s.insts := rfl
@[simp] theorem updKeys_arc (f : Keys → Keys) (s : State) : (updKeys f s).arc = s.arc := rfl
@[simp] theorem updKeys_upd (f : Keys → Keys) (s : State) : (updKeys f s).upd = s.upd := rfl
@[simp] theorem updKeys_store (f : Keys → Keys) (s : State) : (updKeys f s).store = s.store := rfl
@[simp] theorem updKeys_out (f : Keys → Keys) (s : State) : (updKeys f s).out = s.out := rfl
@[simp] theorem updKeys_fresh (f : Keys → Keys) (s : State) : (updKeys f s).fresh = s.fresh := rfl

/-! ## updTdm -/

@[simp] theorem updTdm_pending (f : Tandem → Tandem) (s : State) : (updTdm f s).pending = s.pending := rfl
@[simp] theorem updTdm_clk (f : Tandem → Tandem) (s : State) : (updTdm f s).clk = s.clk := rfl
@[simp] theorem updTdm_svc (f : Tandem → Tandem) (s : State) : (updTdm f s).svc = s.svc := rfl
@[simp] theorem updTdm_wins (f : Tandem → Tandem) (s : State) : (updTdm f s).wins = s.wins := rfl
@[simp] theorem updTdm_cmds (f : Tandem → Tandem) (s : State) : (updTdm f s).cmds = s.cmds := rfl
@[simp] theorem updTdm_seq (f : Tandem → Tandem) (s : State) : (updTdm f s).seq = s.seq := rfl
@[simp] theorem updTdm_tagsMax (f : Tandem → Tandem) (s : State) : (updTdm f s).tagsMax = s.tagsMax := rfl
@[simp] theorem updTdm_adminOffer (f : Tandem → Tandem) (s : State) : (updTdm f s).adminOffer = s.adminOffer := rfl
@[simp] theorem updTdm_waits (f : Tandem → Tandem) (s : State) : (updTdm f s).waits = s.waits := rfl
@[simp] theorem updTdm_atu (f : Tandem → Tandem) (s : State) : (updTdm f s).atu = s.atu := rfl
@[simp] theorem updTdm_pcie (f : Tandem → Tandem) (s : State) : (updTdm f s).pcie = s.pcie := rfl
@[simp] theorem updTdm_heldOut (f : Tandem → Tandem) (s : State) : (updTdm f s).heldOut = s.heldOut := rfl
@[simp] theorem updTdm_adm (f : Tandem → Tandem) (s : State) : (updTdm f s).adm = s.adm := rfl
@[simp] theorem updTdm_ntfs (f : Tandem → Tandem) (s : State) : (updTdm f s).ntfs = s.ntfs := rfl
@[simp] theorem updTdm_sig (f : Tandem → Tandem) (s : State) : (updTdm f s).sig = s.sig := rfl
@[simp] theorem updTdm_chr (f : Tandem → Tandem) (s : State) : (updTdm f s).chr = s.chr := rfl
@[simp] theorem updTdm_pwr (f : Tandem → Tandem) (s : State) : (updTdm f s).pwr = s.pwr := rfl
@[simp] theorem updTdm_pins (f : Tandem → Tandem) (s : State) : (updTdm f s).pins = s.pins := rfl
@[simp] theorem updTdm_met (f : Tandem → Tandem) (s : State) : (updTdm f s).met = s.met := rfl
@[simp] theorem updTdm_sw (f : Tandem → Tandem) (s : State) : (updTdm f s).sw = s.sw := rfl
@[simp] theorem updTdm_ports (f : Tandem → Tandem) (s : State) : (updTdm f s).ports = s.ports := rfl
@[simp] theorem updTdm_time (f : Tandem → Tandem) (s : State) : (updTdm f s).time = s.time := rfl
@[simp] theorem updTdm_trip (f : Tandem → Tandem) (s : State) : (updTdm f s).trip = s.trip := rfl
@[simp] theorem updTdm_sv (f : Tandem → Tandem) (s : State) : (updTdm f s).sv = s.sv := rfl
@[simp] theorem updTdm_doms (f : Tandem → Tandem) (s : State) : (updTdm f s).doms = s.doms := rfl
@[simp] theorem updTdm_filt (f : Tandem → Tandem) (s : State) : (updTdm f s).filt = s.filt := rfl
@[simp] theorem updTdm_lanes (f : Tandem → Tandem) (s : State) : (updTdm f s).lanes = s.lanes := rfl
@[simp] theorem updTdm_logic (f : Tandem → Tandem) (s : State) : (updTdm f s).logic = s.logic := rfl
@[simp] theorem updTdm_insts (f : Tandem → Tandem) (s : State) : (updTdm f s).insts = s.insts := rfl
@[simp] theorem updTdm_arc (f : Tandem → Tandem) (s : State) : (updTdm f s).arc = s.arc := rfl
@[simp] theorem updTdm_keys (f : Tandem → Tandem) (s : State) : (updTdm f s).keys = s.keys := rfl
@[simp] theorem updTdm_upd (f : Tandem → Tandem) (s : State) : (updTdm f s).upd = s.upd := rfl
@[simp] theorem updTdm_store (f : Tandem → Tandem) (s : State) : (updTdm f s).store = s.store := rfl
@[simp] theorem updTdm_out (f : Tandem → Tandem) (s : State) : (updTdm f s).out = s.out := rfl
@[simp] theorem updTdm_fresh (f : Tandem → Tandem) (s : State) : (updTdm f s).fresh = s.fresh := rfl

/-! ## updPwr -/

@[simp] theorem updPwr_pending (f : Power → Power) (s : State) : (updPwr f s).pending = s.pending := rfl
@[simp] theorem updPwr_clk (f : Power → Power) (s : State) : (updPwr f s).clk = s.clk := rfl
@[simp] theorem updPwr_svc (f : Power → Power) (s : State) : (updPwr f s).svc = s.svc := rfl
@[simp] theorem updPwr_wins (f : Power → Power) (s : State) : (updPwr f s).wins = s.wins := rfl
@[simp] theorem updPwr_cmds (f : Power → Power) (s : State) : (updPwr f s).cmds = s.cmds := rfl
@[simp] theorem updPwr_seq (f : Power → Power) (s : State) : (updPwr f s).seq = s.seq := rfl
@[simp] theorem updPwr_tagsMax (f : Power → Power) (s : State) : (updPwr f s).tagsMax = s.tagsMax := rfl
@[simp] theorem updPwr_adminOffer (f : Power → Power) (s : State) : (updPwr f s).adminOffer = s.adminOffer := rfl
@[simp] theorem updPwr_waits (f : Power → Power) (s : State) : (updPwr f s).waits = s.waits := rfl
@[simp] theorem updPwr_atu (f : Power → Power) (s : State) : (updPwr f s).atu = s.atu := rfl
@[simp] theorem updPwr_pcie (f : Power → Power) (s : State) : (updPwr f s).pcie = s.pcie := rfl
@[simp] theorem updPwr_heldOut (f : Power → Power) (s : State) : (updPwr f s).heldOut = s.heldOut := rfl
@[simp] theorem updPwr_adm (f : Power → Power) (s : State) : (updPwr f s).adm = s.adm := rfl
@[simp] theorem updPwr_ntfs (f : Power → Power) (s : State) : (updPwr f s).ntfs = s.ntfs := rfl
@[simp] theorem updPwr_sig (f : Power → Power) (s : State) : (updPwr f s).sig = s.sig := rfl
@[simp] theorem updPwr_chr (f : Power → Power) (s : State) : (updPwr f s).chr = s.chr := rfl
@[simp] theorem updPwr_pins (f : Power → Power) (s : State) : (updPwr f s).pins = s.pins := rfl
@[simp] theorem updPwr_met (f : Power → Power) (s : State) : (updPwr f s).met = s.met := rfl
@[simp] theorem updPwr_sw (f : Power → Power) (s : State) : (updPwr f s).sw = s.sw := rfl
@[simp] theorem updPwr_ports (f : Power → Power) (s : State) : (updPwr f s).ports = s.ports := rfl
@[simp] theorem updPwr_time (f : Power → Power) (s : State) : (updPwr f s).time = s.time := rfl
@[simp] theorem updPwr_trip (f : Power → Power) (s : State) : (updPwr f s).trip = s.trip := rfl
@[simp] theorem updPwr_tdm (f : Power → Power) (s : State) : (updPwr f s).tdm = s.tdm := rfl
@[simp] theorem updPwr_sv (f : Power → Power) (s : State) : (updPwr f s).sv = s.sv := rfl
@[simp] theorem updPwr_doms (f : Power → Power) (s : State) : (updPwr f s).doms = s.doms := rfl
@[simp] theorem updPwr_filt (f : Power → Power) (s : State) : (updPwr f s).filt = s.filt := rfl
@[simp] theorem updPwr_lanes (f : Power → Power) (s : State) : (updPwr f s).lanes = s.lanes := rfl
@[simp] theorem updPwr_logic (f : Power → Power) (s : State) : (updPwr f s).logic = s.logic := rfl
@[simp] theorem updPwr_insts (f : Power → Power) (s : State) : (updPwr f s).insts = s.insts := rfl
@[simp] theorem updPwr_arc (f : Power → Power) (s : State) : (updPwr f s).arc = s.arc := rfl
@[simp] theorem updPwr_keys (f : Power → Power) (s : State) : (updPwr f s).keys = s.keys := rfl
@[simp] theorem updPwr_upd (f : Power → Power) (s : State) : (updPwr f s).upd = s.upd := rfl
@[simp] theorem updPwr_store (f : Power → Power) (s : State) : (updPwr f s).store = s.store := rfl
@[simp] theorem updPwr_out (f : Power → Power) (s : State) : (updPwr f s).out = s.out := rfl
@[simp] theorem updPwr_fresh (f : Power → Power) (s : State) : (updPwr f s).fresh = s.fresh := rfl

/-! ## updMet -/

@[simp] theorem updMet_pending (f : Meters → Meters) (s : State) : (updMet f s).pending = s.pending := rfl
@[simp] theorem updMet_clk (f : Meters → Meters) (s : State) : (updMet f s).clk = s.clk := rfl
@[simp] theorem updMet_svc (f : Meters → Meters) (s : State) : (updMet f s).svc = s.svc := rfl
@[simp] theorem updMet_wins (f : Meters → Meters) (s : State) : (updMet f s).wins = s.wins := rfl
@[simp] theorem updMet_cmds (f : Meters → Meters) (s : State) : (updMet f s).cmds = s.cmds := rfl
@[simp] theorem updMet_seq (f : Meters → Meters) (s : State) : (updMet f s).seq = s.seq := rfl
@[simp] theorem updMet_tagsMax (f : Meters → Meters) (s : State) : (updMet f s).tagsMax = s.tagsMax := rfl
@[simp] theorem updMet_adminOffer (f : Meters → Meters) (s : State) : (updMet f s).adminOffer = s.adminOffer := rfl
@[simp] theorem updMet_waits (f : Meters → Meters) (s : State) : (updMet f s).waits = s.waits := rfl
@[simp] theorem updMet_atu (f : Meters → Meters) (s : State) : (updMet f s).atu = s.atu := rfl
@[simp] theorem updMet_pcie (f : Meters → Meters) (s : State) : (updMet f s).pcie = s.pcie := rfl
@[simp] theorem updMet_heldOut (f : Meters → Meters) (s : State) : (updMet f s).heldOut = s.heldOut := rfl
@[simp] theorem updMet_adm (f : Meters → Meters) (s : State) : (updMet f s).adm = s.adm := rfl
@[simp] theorem updMet_ntfs (f : Meters → Meters) (s : State) : (updMet f s).ntfs = s.ntfs := rfl
@[simp] theorem updMet_sig (f : Meters → Meters) (s : State) : (updMet f s).sig = s.sig := rfl
@[simp] theorem updMet_chr (f : Meters → Meters) (s : State) : (updMet f s).chr = s.chr := rfl
@[simp] theorem updMet_pwr (f : Meters → Meters) (s : State) : (updMet f s).pwr = s.pwr := rfl
@[simp] theorem updMet_pins (f : Meters → Meters) (s : State) : (updMet f s).pins = s.pins := rfl
@[simp] theorem updMet_sw (f : Meters → Meters) (s : State) : (updMet f s).sw = s.sw := rfl
@[simp] theorem updMet_ports (f : Meters → Meters) (s : State) : (updMet f s).ports = s.ports := rfl
@[simp] theorem updMet_time (f : Meters → Meters) (s : State) : (updMet f s).time = s.time := rfl
@[simp] theorem updMet_trip (f : Meters → Meters) (s : State) : (updMet f s).trip = s.trip := rfl
@[simp] theorem updMet_tdm (f : Meters → Meters) (s : State) : (updMet f s).tdm = s.tdm := rfl
@[simp] theorem updMet_sv (f : Meters → Meters) (s : State) : (updMet f s).sv = s.sv := rfl
@[simp] theorem updMet_doms (f : Meters → Meters) (s : State) : (updMet f s).doms = s.doms := rfl
@[simp] theorem updMet_filt (f : Meters → Meters) (s : State) : (updMet f s).filt = s.filt := rfl
@[simp] theorem updMet_lanes (f : Meters → Meters) (s : State) : (updMet f s).lanes = s.lanes := rfl
@[simp] theorem updMet_logic (f : Meters → Meters) (s : State) : (updMet f s).logic = s.logic := rfl
@[simp] theorem updMet_insts (f : Meters → Meters) (s : State) : (updMet f s).insts = s.insts := rfl
@[simp] theorem updMet_arc (f : Meters → Meters) (s : State) : (updMet f s).arc = s.arc := rfl
@[simp] theorem updMet_keys (f : Meters → Meters) (s : State) : (updMet f s).keys = s.keys := rfl
@[simp] theorem updMet_upd (f : Meters → Meters) (s : State) : (updMet f s).upd = s.upd := rfl
@[simp] theorem updMet_store (f : Meters → Meters) (s : State) : (updMet f s).store = s.store := rfl
@[simp] theorem updMet_out (f : Meters → Meters) (s : State) : (updMet f s).out = s.out := rfl
@[simp] theorem updMet_fresh (f : Meters → Meters) (s : State) : (updMet f s).fresh = s.fresh := rfl

/-! ## updUpd -/

@[simp] theorem updUpd_pending (f : Upd → Upd) (s : State) : (updUpd f s).pending = s.pending := rfl
@[simp] theorem updUpd_clk (f : Upd → Upd) (s : State) : (updUpd f s).clk = s.clk := rfl
@[simp] theorem updUpd_svc (f : Upd → Upd) (s : State) : (updUpd f s).svc = s.svc := rfl
@[simp] theorem updUpd_wins (f : Upd → Upd) (s : State) : (updUpd f s).wins = s.wins := rfl
@[simp] theorem updUpd_cmds (f : Upd → Upd) (s : State) : (updUpd f s).cmds = s.cmds := rfl
@[simp] theorem updUpd_seq (f : Upd → Upd) (s : State) : (updUpd f s).seq = s.seq := rfl
@[simp] theorem updUpd_tagsMax (f : Upd → Upd) (s : State) : (updUpd f s).tagsMax = s.tagsMax := rfl
@[simp] theorem updUpd_adminOffer (f : Upd → Upd) (s : State) : (updUpd f s).adminOffer = s.adminOffer := rfl
@[simp] theorem updUpd_waits (f : Upd → Upd) (s : State) : (updUpd f s).waits = s.waits := rfl
@[simp] theorem updUpd_atu (f : Upd → Upd) (s : State) : (updUpd f s).atu = s.atu := rfl
@[simp] theorem updUpd_pcie (f : Upd → Upd) (s : State) : (updUpd f s).pcie = s.pcie := rfl
@[simp] theorem updUpd_heldOut (f : Upd → Upd) (s : State) : (updUpd f s).heldOut = s.heldOut := rfl
@[simp] theorem updUpd_adm (f : Upd → Upd) (s : State) : (updUpd f s).adm = s.adm := rfl
@[simp] theorem updUpd_ntfs (f : Upd → Upd) (s : State) : (updUpd f s).ntfs = s.ntfs := rfl
@[simp] theorem updUpd_sig (f : Upd → Upd) (s : State) : (updUpd f s).sig = s.sig := rfl
@[simp] theorem updUpd_chr (f : Upd → Upd) (s : State) : (updUpd f s).chr = s.chr := rfl
@[simp] theorem updUpd_pwr (f : Upd → Upd) (s : State) : (updUpd f s).pwr = s.pwr := rfl
@[simp] theorem updUpd_pins (f : Upd → Upd) (s : State) : (updUpd f s).pins = s.pins := rfl
@[simp] theorem updUpd_met (f : Upd → Upd) (s : State) : (updUpd f s).met = s.met := rfl
@[simp] theorem updUpd_sw (f : Upd → Upd) (s : State) : (updUpd f s).sw = s.sw := rfl
@[simp] theorem updUpd_ports (f : Upd → Upd) (s : State) : (updUpd f s).ports = s.ports := rfl
@[simp] theorem updUpd_time (f : Upd → Upd) (s : State) : (updUpd f s).time = s.time := rfl
@[simp] theorem updUpd_trip (f : Upd → Upd) (s : State) : (updUpd f s).trip = s.trip := rfl
@[simp] theorem updUpd_tdm (f : Upd → Upd) (s : State) : (updUpd f s).tdm = s.tdm := rfl
@[simp] theorem updUpd_sv (f : Upd → Upd) (s : State) : (updUpd f s).sv = s.sv := rfl
@[simp] theorem updUpd_doms (f : Upd → Upd) (s : State) : (updUpd f s).doms = s.doms := rfl
@[simp] theorem updUpd_filt (f : Upd → Upd) (s : State) : (updUpd f s).filt = s.filt := rfl
@[simp] theorem updUpd_lanes (f : Upd → Upd) (s : State) : (updUpd f s).lanes = s.lanes := rfl
@[simp] theorem updUpd_logic (f : Upd → Upd) (s : State) : (updUpd f s).logic = s.logic := rfl
@[simp] theorem updUpd_insts (f : Upd → Upd) (s : State) : (updUpd f s).insts = s.insts := rfl
@[simp] theorem updUpd_arc (f : Upd → Upd) (s : State) : (updUpd f s).arc = s.arc := rfl
@[simp] theorem updUpd_keys (f : Upd → Upd) (s : State) : (updUpd f s).keys = s.keys := rfl
@[simp] theorem updUpd_store (f : Upd → Upd) (s : State) : (updUpd f s).store = s.store := rfl
@[simp] theorem updUpd_out (f : Upd → Upd) (s : State) : (updUpd f s).out = s.out := rfl
@[simp] theorem updUpd_fresh (f : Upd → Upd) (s : State) : (updUpd f s).fresh = s.fresh := rfl

/-! ## updChr -/

@[simp] theorem updChr_pending (f : Chron → Chron) (s : State) : (updChr f s).pending = s.pending := rfl
@[simp] theorem updChr_clk (f : Chron → Chron) (s : State) : (updChr f s).clk = s.clk := rfl
@[simp] theorem updChr_svc (f : Chron → Chron) (s : State) : (updChr f s).svc = s.svc := rfl
@[simp] theorem updChr_wins (f : Chron → Chron) (s : State) : (updChr f s).wins = s.wins := rfl
@[simp] theorem updChr_cmds (f : Chron → Chron) (s : State) : (updChr f s).cmds = s.cmds := rfl
@[simp] theorem updChr_seq (f : Chron → Chron) (s : State) : (updChr f s).seq = s.seq := rfl
@[simp] theorem updChr_tagsMax (f : Chron → Chron) (s : State) : (updChr f s).tagsMax = s.tagsMax := rfl
@[simp] theorem updChr_adminOffer (f : Chron → Chron) (s : State) : (updChr f s).adminOffer = s.adminOffer := rfl
@[simp] theorem updChr_waits (f : Chron → Chron) (s : State) : (updChr f s).waits = s.waits := rfl
@[simp] theorem updChr_atu (f : Chron → Chron) (s : State) : (updChr f s).atu = s.atu := rfl
@[simp] theorem updChr_pcie (f : Chron → Chron) (s : State) : (updChr f s).pcie = s.pcie := rfl
@[simp] theorem updChr_heldOut (f : Chron → Chron) (s : State) : (updChr f s).heldOut = s.heldOut := rfl
@[simp] theorem updChr_adm (f : Chron → Chron) (s : State) : (updChr f s).adm = s.adm := rfl
@[simp] theorem updChr_ntfs (f : Chron → Chron) (s : State) : (updChr f s).ntfs = s.ntfs := rfl
@[simp] theorem updChr_sig (f : Chron → Chron) (s : State) : (updChr f s).sig = s.sig := rfl
@[simp] theorem updChr_pwr (f : Chron → Chron) (s : State) : (updChr f s).pwr = s.pwr := rfl
@[simp] theorem updChr_pins (f : Chron → Chron) (s : State) : (updChr f s).pins = s.pins := rfl
@[simp] theorem updChr_met (f : Chron → Chron) (s : State) : (updChr f s).met = s.met := rfl
@[simp] theorem updChr_sw (f : Chron → Chron) (s : State) : (updChr f s).sw = s.sw := rfl
@[simp] theorem updChr_ports (f : Chron → Chron) (s : State) : (updChr f s).ports = s.ports := rfl
@[simp] theorem updChr_time (f : Chron → Chron) (s : State) : (updChr f s).time = s.time := rfl
@[simp] theorem updChr_trip (f : Chron → Chron) (s : State) : (updChr f s).trip = s.trip := rfl
@[simp] theorem updChr_tdm (f : Chron → Chron) (s : State) : (updChr f s).tdm = s.tdm := rfl
@[simp] theorem updChr_sv (f : Chron → Chron) (s : State) : (updChr f s).sv = s.sv := rfl
@[simp] theorem updChr_doms (f : Chron → Chron) (s : State) : (updChr f s).doms = s.doms := rfl
@[simp] theorem updChr_filt (f : Chron → Chron) (s : State) : (updChr f s).filt = s.filt := rfl
@[simp] theorem updChr_lanes (f : Chron → Chron) (s : State) : (updChr f s).lanes = s.lanes := rfl
@[simp] theorem updChr_logic (f : Chron → Chron) (s : State) : (updChr f s).logic = s.logic := rfl
@[simp] theorem updChr_insts (f : Chron → Chron) (s : State) : (updChr f s).insts = s.insts := rfl
@[simp] theorem updChr_arc (f : Chron → Chron) (s : State) : (updChr f s).arc = s.arc := rfl
@[simp] theorem updChr_keys (f : Chron → Chron) (s : State) : (updChr f s).keys = s.keys := rfl
@[simp] theorem updChr_upd (f : Chron → Chron) (s : State) : (updChr f s).upd = s.upd := rfl
@[simp] theorem updChr_store (f : Chron → Chron) (s : State) : (updChr f s).store = s.store := rfl
@[simp] theorem updChr_out (f : Chron → Chron) (s : State) : (updChr f s).out = s.out := rfl
@[simp] theorem updChr_fresh (f : Chron → Chron) (s : State) : (updChr f s).fresh = s.fresh := rfl

/-! ## updArc -/

@[simp] theorem updArc_pending (f : Arc → Arc) (s : State) : (updArc f s).pending = s.pending := rfl
@[simp] theorem updArc_clk (f : Arc → Arc) (s : State) : (updArc f s).clk = s.clk := rfl
@[simp] theorem updArc_svc (f : Arc → Arc) (s : State) : (updArc f s).svc = s.svc := rfl
@[simp] theorem updArc_wins (f : Arc → Arc) (s : State) : (updArc f s).wins = s.wins := rfl
@[simp] theorem updArc_cmds (f : Arc → Arc) (s : State) : (updArc f s).cmds = s.cmds := rfl
@[simp] theorem updArc_seq (f : Arc → Arc) (s : State) : (updArc f s).seq = s.seq := rfl
@[simp] theorem updArc_tagsMax (f : Arc → Arc) (s : State) : (updArc f s).tagsMax = s.tagsMax := rfl
@[simp] theorem updArc_adminOffer (f : Arc → Arc) (s : State) : (updArc f s).adminOffer = s.adminOffer := rfl
@[simp] theorem updArc_waits (f : Arc → Arc) (s : State) : (updArc f s).waits = s.waits := rfl
@[simp] theorem updArc_atu (f : Arc → Arc) (s : State) : (updArc f s).atu = s.atu := rfl
@[simp] theorem updArc_pcie (f : Arc → Arc) (s : State) : (updArc f s).pcie = s.pcie := rfl
@[simp] theorem updArc_heldOut (f : Arc → Arc) (s : State) : (updArc f s).heldOut = s.heldOut := rfl
@[simp] theorem updArc_adm (f : Arc → Arc) (s : State) : (updArc f s).adm = s.adm := rfl
@[simp] theorem updArc_ntfs (f : Arc → Arc) (s : State) : (updArc f s).ntfs = s.ntfs := rfl
@[simp] theorem updArc_sig (f : Arc → Arc) (s : State) : (updArc f s).sig = s.sig := rfl
@[simp] theorem updArc_chr (f : Arc → Arc) (s : State) : (updArc f s).chr = s.chr := rfl
@[simp] theorem updArc_pwr (f : Arc → Arc) (s : State) : (updArc f s).pwr = s.pwr := rfl
@[simp] theorem updArc_pins (f : Arc → Arc) (s : State) : (updArc f s).pins = s.pins := rfl
@[simp] theorem updArc_met (f : Arc → Arc) (s : State) : (updArc f s).met = s.met := rfl
@[simp] theorem updArc_sw (f : Arc → Arc) (s : State) : (updArc f s).sw = s.sw := rfl
@[simp] theorem updArc_ports (f : Arc → Arc) (s : State) : (updArc f s).ports = s.ports := rfl
@[simp] theorem updArc_time (f : Arc → Arc) (s : State) : (updArc f s).time = s.time := rfl
@[simp] theorem updArc_trip (f : Arc → Arc) (s : State) : (updArc f s).trip = s.trip := rfl
@[simp] theorem updArc_tdm (f : Arc → Arc) (s : State) : (updArc f s).tdm = s.tdm := rfl
@[simp] theorem updArc_sv (f : Arc → Arc) (s : State) : (updArc f s).sv = s.sv := rfl
@[simp] theorem updArc_doms (f : Arc → Arc) (s : State) : (updArc f s).doms = s.doms := rfl
@[simp] theorem updArc_filt (f : Arc → Arc) (s : State) : (updArc f s).filt = s.filt := rfl
@[simp] theorem updArc_lanes (f : Arc → Arc) (s : State) : (updArc f s).lanes = s.lanes := rfl
@[simp] theorem updArc_logic (f : Arc → Arc) (s : State) : (updArc f s).logic = s.logic := rfl
@[simp] theorem updArc_insts (f : Arc → Arc) (s : State) : (updArc f s).insts = s.insts := rfl
@[simp] theorem updArc_keys (f : Arc → Arc) (s : State) : (updArc f s).keys = s.keys := rfl
@[simp] theorem updArc_upd (f : Arc → Arc) (s : State) : (updArc f s).upd = s.upd := rfl
@[simp] theorem updArc_store (f : Arc → Arc) (s : State) : (updArc f s).store = s.store := rfl
@[simp] theorem updArc_out (f : Arc → Arc) (s : State) : (updArc f s).out = s.out := rfl
@[simp] theorem updArc_fresh (f : Arc → Arc) (s : State) : (updArc f s).fresh = s.fresh := rfl

/-! ## updSig -/

@[simp] theorem updSig_pending (f : Signal → Signal) (s : State) : (updSig f s).pending = s.pending := rfl
@[simp] theorem updSig_clk (f : Signal → Signal) (s : State) : (updSig f s).clk = s.clk := rfl
@[simp] theorem updSig_svc (f : Signal → Signal) (s : State) : (updSig f s).svc = s.svc := rfl
@[simp] theorem updSig_wins (f : Signal → Signal) (s : State) : (updSig f s).wins = s.wins := rfl
@[simp] theorem updSig_cmds (f : Signal → Signal) (s : State) : (updSig f s).cmds = s.cmds := rfl
@[simp] theorem updSig_seq (f : Signal → Signal) (s : State) : (updSig f s).seq = s.seq := rfl
@[simp] theorem updSig_tagsMax (f : Signal → Signal) (s : State) : (updSig f s).tagsMax = s.tagsMax := rfl
@[simp] theorem updSig_adminOffer (f : Signal → Signal) (s : State) : (updSig f s).adminOffer = s.adminOffer := rfl
@[simp] theorem updSig_waits (f : Signal → Signal) (s : State) : (updSig f s).waits = s.waits := rfl
@[simp] theorem updSig_atu (f : Signal → Signal) (s : State) : (updSig f s).atu = s.atu := rfl
@[simp] theorem updSig_pcie (f : Signal → Signal) (s : State) : (updSig f s).pcie = s.pcie := rfl
@[simp] theorem updSig_heldOut (f : Signal → Signal) (s : State) : (updSig f s).heldOut = s.heldOut := rfl
@[simp] theorem updSig_adm (f : Signal → Signal) (s : State) : (updSig f s).adm = s.adm := rfl
@[simp] theorem updSig_ntfs (f : Signal → Signal) (s : State) : (updSig f s).ntfs = s.ntfs := rfl
@[simp] theorem updSig_chr (f : Signal → Signal) (s : State) : (updSig f s).chr = s.chr := rfl
@[simp] theorem updSig_pwr (f : Signal → Signal) (s : State) : (updSig f s).pwr = s.pwr := rfl
@[simp] theorem updSig_pins (f : Signal → Signal) (s : State) : (updSig f s).pins = s.pins := rfl
@[simp] theorem updSig_met (f : Signal → Signal) (s : State) : (updSig f s).met = s.met := rfl
@[simp] theorem updSig_sw (f : Signal → Signal) (s : State) : (updSig f s).sw = s.sw := rfl
@[simp] theorem updSig_ports (f : Signal → Signal) (s : State) : (updSig f s).ports = s.ports := rfl
@[simp] theorem updSig_time (f : Signal → Signal) (s : State) : (updSig f s).time = s.time := rfl
@[simp] theorem updSig_trip (f : Signal → Signal) (s : State) : (updSig f s).trip = s.trip := rfl
@[simp] theorem updSig_tdm (f : Signal → Signal) (s : State) : (updSig f s).tdm = s.tdm := rfl
@[simp] theorem updSig_sv (f : Signal → Signal) (s : State) : (updSig f s).sv = s.sv := rfl
@[simp] theorem updSig_doms (f : Signal → Signal) (s : State) : (updSig f s).doms = s.doms := rfl
@[simp] theorem updSig_filt (f : Signal → Signal) (s : State) : (updSig f s).filt = s.filt := rfl
@[simp] theorem updSig_lanes (f : Signal → Signal) (s : State) : (updSig f s).lanes = s.lanes := rfl
@[simp] theorem updSig_logic (f : Signal → Signal) (s : State) : (updSig f s).logic = s.logic := rfl
@[simp] theorem updSig_insts (f : Signal → Signal) (s : State) : (updSig f s).insts = s.insts := rfl
@[simp] theorem updSig_arc (f : Signal → Signal) (s : State) : (updSig f s).arc = s.arc := rfl
@[simp] theorem updSig_keys (f : Signal → Signal) (s : State) : (updSig f s).keys = s.keys := rfl
@[simp] theorem updSig_upd (f : Signal → Signal) (s : State) : (updSig f s).upd = s.upd := rfl
@[simp] theorem updSig_store (f : Signal → Signal) (s : State) : (updSig f s).store = s.store := rfl
@[simp] theorem updSig_out (f : Signal → Signal) (s : State) : (updSig f s).out = s.out := rfl
@[simp] theorem updSig_fresh (f : Signal → Signal) (s : State) : (updSig f s).fresh = s.fresh := rfl

/-! ## updSw -/

@[simp] theorem updSw_pending (f : Switch → Switch) (s : State) : (updSw f s).pending = s.pending := rfl
@[simp] theorem updSw_clk (f : Switch → Switch) (s : State) : (updSw f s).clk = s.clk := rfl
@[simp] theorem updSw_svc (f : Switch → Switch) (s : State) : (updSw f s).svc = s.svc := rfl
@[simp] theorem updSw_wins (f : Switch → Switch) (s : State) : (updSw f s).wins = s.wins := rfl
@[simp] theorem updSw_cmds (f : Switch → Switch) (s : State) : (updSw f s).cmds = s.cmds := rfl
@[simp] theorem updSw_seq (f : Switch → Switch) (s : State) : (updSw f s).seq = s.seq := rfl
@[simp] theorem updSw_tagsMax (f : Switch → Switch) (s : State) : (updSw f s).tagsMax = s.tagsMax := rfl
@[simp] theorem updSw_adminOffer (f : Switch → Switch) (s : State) : (updSw f s).adminOffer = s.adminOffer := rfl
@[simp] theorem updSw_waits (f : Switch → Switch) (s : State) : (updSw f s).waits = s.waits := rfl
@[simp] theorem updSw_atu (f : Switch → Switch) (s : State) : (updSw f s).atu = s.atu := rfl
@[simp] theorem updSw_pcie (f : Switch → Switch) (s : State) : (updSw f s).pcie = s.pcie := rfl
@[simp] theorem updSw_heldOut (f : Switch → Switch) (s : State) : (updSw f s).heldOut = s.heldOut := rfl
@[simp] theorem updSw_adm (f : Switch → Switch) (s : State) : (updSw f s).adm = s.adm := rfl
@[simp] theorem updSw_ntfs (f : Switch → Switch) (s : State) : (updSw f s).ntfs = s.ntfs := rfl
@[simp] theorem updSw_sig (f : Switch → Switch) (s : State) : (updSw f s).sig = s.sig := rfl
@[simp] theorem updSw_chr (f : Switch → Switch) (s : State) : (updSw f s).chr = s.chr := rfl
@[simp] theorem updSw_pwr (f : Switch → Switch) (s : State) : (updSw f s).pwr = s.pwr := rfl
@[simp] theorem updSw_pins (f : Switch → Switch) (s : State) : (updSw f s).pins = s.pins := rfl
@[simp] theorem updSw_met (f : Switch → Switch) (s : State) : (updSw f s).met = s.met := rfl
@[simp] theorem updSw_ports (f : Switch → Switch) (s : State) : (updSw f s).ports = s.ports := rfl
@[simp] theorem updSw_time (f : Switch → Switch) (s : State) : (updSw f s).time = s.time := rfl
@[simp] theorem updSw_trip (f : Switch → Switch) (s : State) : (updSw f s).trip = s.trip := rfl
@[simp] theorem updSw_tdm (f : Switch → Switch) (s : State) : (updSw f s).tdm = s.tdm := rfl
@[simp] theorem updSw_sv (f : Switch → Switch) (s : State) : (updSw f s).sv = s.sv := rfl
@[simp] theorem updSw_doms (f : Switch → Switch) (s : State) : (updSw f s).doms = s.doms := rfl
@[simp] theorem updSw_filt (f : Switch → Switch) (s : State) : (updSw f s).filt = s.filt := rfl
@[simp] theorem updSw_lanes (f : Switch → Switch) (s : State) : (updSw f s).lanes = s.lanes := rfl
@[simp] theorem updSw_logic (f : Switch → Switch) (s : State) : (updSw f s).logic = s.logic := rfl
@[simp] theorem updSw_insts (f : Switch → Switch) (s : State) : (updSw f s).insts = s.insts := rfl
@[simp] theorem updSw_arc (f : Switch → Switch) (s : State) : (updSw f s).arc = s.arc := rfl
@[simp] theorem updSw_keys (f : Switch → Switch) (s : State) : (updSw f s).keys = s.keys := rfl
@[simp] theorem updSw_upd (f : Switch → Switch) (s : State) : (updSw f s).upd = s.upd := rfl
@[simp] theorem updSw_store (f : Switch → Switch) (s : State) : (updSw f s).store = s.store := rfl
@[simp] theorem updSw_out (f : Switch → Switch) (s : State) : (updSw f s).out = s.out := rfl
@[simp] theorem updSw_fresh (f : Switch → Switch) (s : State) : (updSw f s).fresh = s.fresh := rfl

/-! ## updTime -/

@[simp] theorem updTime_pending (f : Time → Time) (s : State) : (updTime f s).pending = s.pending := rfl
@[simp] theorem updTime_clk (f : Time → Time) (s : State) : (updTime f s).clk = s.clk := rfl
@[simp] theorem updTime_svc (f : Time → Time) (s : State) : (updTime f s).svc = s.svc := rfl
@[simp] theorem updTime_wins (f : Time → Time) (s : State) : (updTime f s).wins = s.wins := rfl
@[simp] theorem updTime_cmds (f : Time → Time) (s : State) : (updTime f s).cmds = s.cmds := rfl
@[simp] theorem updTime_seq (f : Time → Time) (s : State) : (updTime f s).seq = s.seq := rfl
@[simp] theorem updTime_tagsMax (f : Time → Time) (s : State) : (updTime f s).tagsMax = s.tagsMax := rfl
@[simp] theorem updTime_adminOffer (f : Time → Time) (s : State) : (updTime f s).adminOffer = s.adminOffer := rfl
@[simp] theorem updTime_waits (f : Time → Time) (s : State) : (updTime f s).waits = s.waits := rfl
@[simp] theorem updTime_atu (f : Time → Time) (s : State) : (updTime f s).atu = s.atu := rfl
@[simp] theorem updTime_pcie (f : Time → Time) (s : State) : (updTime f s).pcie = s.pcie := rfl
@[simp] theorem updTime_heldOut (f : Time → Time) (s : State) : (updTime f s).heldOut = s.heldOut := rfl
@[simp] theorem updTime_adm (f : Time → Time) (s : State) : (updTime f s).adm = s.adm := rfl
@[simp] theorem updTime_ntfs (f : Time → Time) (s : State) : (updTime f s).ntfs = s.ntfs := rfl
@[simp] theorem updTime_sig (f : Time → Time) (s : State) : (updTime f s).sig = s.sig := rfl
@[simp] theorem updTime_chr (f : Time → Time) (s : State) : (updTime f s).chr = s.chr := rfl
@[simp] theorem updTime_pwr (f : Time → Time) (s : State) : (updTime f s).pwr = s.pwr := rfl
@[simp] theorem updTime_pins (f : Time → Time) (s : State) : (updTime f s).pins = s.pins := rfl
@[simp] theorem updTime_met (f : Time → Time) (s : State) : (updTime f s).met = s.met := rfl
@[simp] theorem updTime_sw (f : Time → Time) (s : State) : (updTime f s).sw = s.sw := rfl
@[simp] theorem updTime_ports (f : Time → Time) (s : State) : (updTime f s).ports = s.ports := rfl
@[simp] theorem updTime_trip (f : Time → Time) (s : State) : (updTime f s).trip = s.trip := rfl
@[simp] theorem updTime_tdm (f : Time → Time) (s : State) : (updTime f s).tdm = s.tdm := rfl
@[simp] theorem updTime_sv (f : Time → Time) (s : State) : (updTime f s).sv = s.sv := rfl
@[simp] theorem updTime_doms (f : Time → Time) (s : State) : (updTime f s).doms = s.doms := rfl
@[simp] theorem updTime_filt (f : Time → Time) (s : State) : (updTime f s).filt = s.filt := rfl
@[simp] theorem updTime_lanes (f : Time → Time) (s : State) : (updTime f s).lanes = s.lanes := rfl
@[simp] theorem updTime_logic (f : Time → Time) (s : State) : (updTime f s).logic = s.logic := rfl
@[simp] theorem updTime_insts (f : Time → Time) (s : State) : (updTime f s).insts = s.insts := rfl
@[simp] theorem updTime_arc (f : Time → Time) (s : State) : (updTime f s).arc = s.arc := rfl
@[simp] theorem updTime_keys (f : Time → Time) (s : State) : (updTime f s).keys = s.keys := rfl
@[simp] theorem updTime_upd (f : Time → Time) (s : State) : (updTime f s).upd = s.upd := rfl
@[simp] theorem updTime_store (f : Time → Time) (s : State) : (updTime f s).store = s.store := rfl
@[simp] theorem updTime_out (f : Time → Time) (s : State) : (updTime f s).out = s.out := rfl
@[simp] theorem updTime_fresh (f : Time → Time) (s : State) : (updTime f s).fresh = s.fresh := rfl

/-! ## The entry changed and the others -/

@[simp] theorem win_updWin (n : Nat) (f : Window → Window) (s : State) : win (updWin n f s) n = f (win s n) :=
  tget_tmod_same _ _ _ _

theorem win_updWin_ne {n m : Nat} (f : Window → Window) (s : State) (h : m ≠ n) : win (updWin n f s) m = win s m :=
  tget_tmod_ne _ _ _ h

@[simp] theorem inst_updInst (n : Nat) (f : Inst → Inst) (s : State) : inst (updInst n f s) n = f (inst s n) :=
  tget_tmod_same _ _ _ _

theorem inst_updInst_ne {n m : Nat} (f : Inst → Inst) (s : State) (h : m ≠ n) : inst (updInst n f s) m = inst s m :=
  tget_tmod_ne _ _ _ h

@[simp] theorem dom_updDom (n : Nat) (f : Dom → Dom) (s : State) : dom (updDom n f s) n = f (dom s n) :=
  tget_tmod_same _ _ _ _

theorem dom_updDom_ne {n m : Nat} (f : Dom → Dom) (s : State) (h : m ≠ n) : dom (updDom n f s) m = dom s m :=
  tget_tmod_ne _ _ _ h

@[simp] theorem port_updPort (n : Nat) (f : Port → Port) (s : State) : port (updPort n f s) n = f (port s n) :=
  tget_tmod_same _ _ _ _

theorem port_updPort_ne {n m : Nat} (f : Port → Port) (s : State) (h : m ≠ n) : port (updPort n f s) m = port s m :=
  tget_tmod_ne _ _ _ h

end Sys2Proof.Machine
end

