-- ==== Sys2Proof/Tests/Slice0.lean ====
section
/-! SUPPORT. Tests: what `Instr.wf` refuses, values worked by hand from the manual and the standards it names, and for
each statement of Certificates/Slice0/Obligations.lean a state and operands that meet the hypotheses of each of its
clauses. A witness is a list of checks, one for each clause. -/

namespace Sys2Proof.Tests

open Sys2Proof Sys2Proof.Machine

set_option Elab.async false
set_option maxRecDepth 4000

/-! ## Small states -/

/-- A fetched command; parameters as (key, value). -/
def cmd (op : Nat) (ps : List (Nat × Nat) := []) (input : List Byte := []) (slice : Nat := 0) (len : Nat := 0) : Cmd :=
  { id := ⟨slice, 1⟩, op := op, seq := 0, bufLen := len, input := input,
    params := ps.zipIdx.map fun e => { key := e.1.1, value := e.1.2, wide := false, idx := e.2 } }

/-- A module that has started, in COMMISSIONING, with the host's bus up. -/
def up : State :=
  { State.reset with
    svc := { state := .commissioning }
    pwr := { phase := 9, rails := 8, pfwArmed := true, mbxReady := true, holdupReady := true, vin := 12000 }
    pcie := { bme := true } }

/-- With one command outstanding. -/
def having (c : Cmd) (s : State) : State := { s with cmds := [c] }

/-- The command starts, on the admin slice, in a service state that accepts it, on a unit that stands alone. -/
abbrev Row (c : Cmd) (s : State) : Prop := Starts c.op c.id c (having c s) ∧ Admin c ∧ Open s ∧ Alone s

/-- An instance in a state. -/
def withInst (n : Nat) (i : Inst) (s : State) : State := { s with insts := [(n, i)] }

def held : Inst := { st := .held }

def running : Inst := { st := .running }

/-- A block's keys were written as the rule asks. -/
def wrote {α : Type} (r : Except α (Cfg × Bool)) (p : Cfg → Bool) : Bool :=
  match r with
  | .ok x => p x.1
  | .error _ => false

/-! ## Well-formed commands: one ill-formed operand for each range -/

theorem test_wf_accepts : Instr.wf (.adminEcho ⟨512, 65535⟩) = true ∧ Instr.wf (.sqTail 0 4095) = true ∧
    Instr.wf (.lowWordRead 8 1) = true ∧ Instr.wf (.submissionFetch 1 none) = true ∧ Instr.wf (.x3LatchEdge 19 true) = true := by
  decide

theorem test_wf_refuses_command : Instr.wf (.adminEcho ⟨513, 0⟩) = false ∧ Instr.wf (.adminEcho ⟨0, 65536⟩) = false := by decide

theorem test_wf_refuses_register_operand : Instr.wf (.sqTail 513 0) = false ∧ Instr.wf (.snap (2 ^ 32)) = false ∧
    Instr.wf (.angCtrlHold 16 0) = false ∧ Instr.wf (.slcNtfClaim 1 4) = false ∧ Instr.wf (.ptpNowTs32 65536) = false ∧
    Instr.wf (.lowWordRead (2 ^ 26) 0) = false ∧ Instr.wf (.readingRoomRead (2 ^ 28)) = false ∧
    Instr.wf (.msixUnmask 2048) = false := by decide

theorem test_wf_refuses_entry : Instr.wf (.submissionFetch 0 (some [0])) = false := by decide

theorem test_wf_refuses_frame : Instr.wf (.portFrameReceive 48 ⟨0, 0, none, 64, 0, none, .supervision⟩) = false ∧
    Instr.wf (.portFrameReceive 0 ⟨2 ^ 48, 0, none, 64, 0, none, .supervision⟩) = false ∧
    Instr.wf (.portFrameReceive 0 ⟨0, 2 ^ 48, none, 64, 0, none, .supervision⟩) = false ∧
    Instr.wf (.portFrameReceive 0 ⟨0, 0, some ⟨4096, 0⟩, 64, 0, none, .supervision⟩) = false ∧
    Instr.wf (.portFrameReceive 0 ⟨0, 0, some ⟨0, 8⟩, 64, 0, none, .supervision⟩) = false ∧
    Instr.wf (.portFrameReceive 0 ⟨0, 0, none, 64, 3, none, .supervision⟩) = false := by decide

theorem test_wf_refuses_descriptors :
    Instr.wf (.txFrameFetch 1 [] ⟨0, 0, none, 64, 0, none, .supervision⟩) = false ∧
    Instr.wf (.txFrameFetch 1 [⟨60, true, true, false, false, 8, 0⟩] ⟨0, 0, none, 64, 0, none, .supervision⟩) = false := by decide

theorem test_wf_refuses_index : Instr.wf (.instanceRestartBoundary 0) = false ∧ Instr.wf (.freezeBoundary 513) = false ∧
    Instr.wf (.stepClose 16) = false ∧ Instr.wf (.railFault 8) = false ∧ Instr.wf (.linkUp 0 4) = false ∧
    Instr.wf (.fdbAgeExpiry 4096 0) = false ∧ Instr.wf (.ddAgeExpiry 24 0) = false ∧ Instr.wf (.streamTimeout 2048) = false ∧
    Instr.wf (.gridSampleProduce 16384 0) = false ∧ Instr.wf (.thresholdDetectorEvent 1024) = false ∧
    Instr.wf (.laneEvaluationComplete 1 64 .none) = false ∧ Instr.wf (.laneSelftest [3, 3]) = false ∧
    Instr.wf (.outputTest 8) = false ∧ Instr.wf (.supervisionWindow 0 4096) = false ∧
    Instr.wf (.filteredInputEdge 20 true 0) = false ∧ Instr.wf (.gooseLaunch 1 32) = false ∧
    Instr.wf (.gooseTalExpiry 1 64) = false ∧ Instr.wf (.archiveRow 256) = false ∧ Instr.wf (.folioClose (2 ^ 32)) = false ∧
    Instr.wf (.keyLapse 1024) = false ∧ Instr.wf (.framDeviceFailed 2) = false ∧ Instr.wf (.refereeUnreachable 2) = false := by
  decide

theorem test_wf_refuses_link : Instr.wf (.gasp ⟨2, false, 0, 0, 0, 0, 0⟩ 1) = false ∧
    Instr.wf (.gasp ⟨0, false, 0, 2 ^ 32, 0, 0, 0⟩ 1) = false ∧ Instr.wf (.gasp ⟨0, false, 0, 0, 0, 0, 0⟩ 256) = false ∧
    Instr.wf (.fwdWaitExpiry (.sample 2048 0 0)) = false ∧ Instr.wf (.fwdWaitExpiry (.goose 0 0 0 0)) = false ∧
    Instr.wf (.laneDead 2) = false := by decide

/-! ## Rules worked by hand -/

/-- FIPS 180-4, the digest of "abc". -/
theorem test_sha384_abc : (sha384 [0x61, 0x62, 0x63]).map BitVec.toNat =
    [0xcb, 0x00, 0x75, 0x3f, 0x45, 0xa3, 0x5e, 0x8b, 0xb5, 0xa0, 0x3d, 0x69, 0x9a, 0xc6, 0x50, 0x07, 0x27, 0x2c, 0x32, 0xab, 0x0e,
     0xde, 0xd1, 0x63, 0x1a, 0x8b, 0x60, 0x5a, 0x43, 0xff, 0x5b, 0xed, 0x80, 0x86, 0x07, 0x2b, 0xa1, 0xe7, 0xcc, 0x23, 0x58, 0xba,
     0xec, 0xa1, 0x34, 0xc8, 0x25, 0xa7] := by decide +kernel

/-- CRC-32 of IEEE 802.3 of "123456789" is CBF43926. -/
theorem test_crc32_check : crc32 [0x31, 0x32, 0x33, 0x34, 0x35, 0x36, 0x37, 0x38, 0x39] = 0xCBF43926 := by decide +kernel

/-- R310: the digest of "123456789". -/
theorem test_crc64_check : crc64 [0x31, 0x32, 0x33, 0x34, 0x35, 0x36, 0x37, 0x38, 0x39] = 0x6C40DF5F0B497347 := by decide +kernel

/-- What the next state shows. -/
def after (o : Res) (p : State → Bool) : Bool :=
  match o with
  | .next t => p t
  | _ => false

/-- An empty queue: one nanosecond passes (log entry 2). -/
theorem test_idle_step_ticks : after (step State.reset) (fun t => t.clk == 1 && t.pending.isEmpty) = true := by decide +kernel

/-- R72: with the ring of 256 entries the tail 1 is taken. -/
theorem test_tail_taken : after (step { up with wins := [(1, { enabled := true })], pending := [.sqTail 1 1] })
    (fun t => (win t 1).sqTail == 1 && t.pending.isEmpty) = true := by decide +kernel

/-- R97: the service state COMMISSIONING stands in RESULT0. -/
theorem test_service_get : after (exec (.adminServiceGet ⟨0, 1⟩) (having (cmd 0x0102) up))
    (fun t => t.cmds.map (fun c => c.reply.res0 % 8) == [1]) = true := by decide +kernel

/-- Every clause has its witness. -/
abbrev All (l : List Bool) : Prop := l.all id = true
/-! ## Witnesses: a state and operands that meet the hypotheses of each statement, clause by clause -/

theorem witness_StepTakesFront : { up with pending := [.perst] }.pending = .perst :: [] := by decide

theorem witness_IdleStepPassesTime : State.reset.pending = [] ∧ { State.reset with pwr := { good := false } }.pwr.good = false := by
  decide

theorem witness_MinSvnNeverFalls : after (step up) (fun t => decide (0 ≤ up.upd.minSvn) && t.clk == 1) = true := by decide +kernel

/-- A trial image of a higher version confirmed: the minimum rises to its own. -/
theorem witness_MinSvnAdvancesOnlyThere :
    let s := having (cmd 0x0F07) { up with upd := { up.upd with
      bankB := { svn := 3 }, run := 1, boot := { up.upd.boot with trial := some 1, trialState := 2, stB := .trial } } }
    after (exec (.updateConfirm ⟨0, 1⟩) s) (fun t => t.upd.minSvn != s.upd.minSvn) = true := by decide +kernel

/-- From slice 512, as from every slice but the admin slice. -/
theorem witness_AdminRowsRefuseOtherSlices : ∀ e ∈ adminRows,
    Starts e.2 ⟨512, 1⟩ (cmd e.2 [] [] 512) (having (cmd e.2 [] [] 512) up) ∧ ¬ Admin (cmd e.2 [] [] 512) := by decide +kernel

theorem witness_ServiceStateRefusals :
    (∀ e ∈ closedRows, Starts e.2 ⟨0, 1⟩ (cmd e.2) (having (cmd e.2) State.reset) ∧ bootOrHalted State.reset = true) ∧
    (∀ e ∈ closedRows, Starts e.2 ⟨0, 1⟩ (cmd e.2) (having (cmd e.2) { up with svc := { state := .halted } }) ∧
      bootOrHalted { up with svc := { state := .halted } } = true) ∧
    (∀ e ∈ bootRows, Starts e.2 ⟨0, 1⟩ (cmd e.2) (having (cmd e.2) State.reset) ∧ State.reset.svc.state = .boot) := by
  decide +kernel

/-- A unit of a pair. -/
def paired (r : Role) (inStep : Bool) : State := { up with tdm := { standalone := false, role := r, inStep := inStep } }

theorem witness_ReservedCommandsInAPair : ∀ e ∈ carriedRows,
    (Starts e.2 ⟨0, 1⟩ (cmd e.2) (having (cmd e.2) (paired .standby true)) ∧ Open (paired .standby true)) ∧
    (Starts e.2 ⟨0, 1⟩ (cmd e.2) (having (cmd e.2) (paired .active true)) ∧ Open (paired .active true) ∧
      (paired .active true).tdm.inStep = true) := by decide +kernel

theorem witness_ResettingInstanceIsBusy :
    (∀ e ∈ instanceRows, ready e.2 ⟨0, 1⟩ (having (cmd e.2 [(1, 512)]) (withInst 512 { st := .resetting } up)) =
      some (cmd e.2 [(1, 512)]) ∧ (inst (withInst 512 { st := .resetting } up) (instOf (cmd e.2 [(1, 512)]))).st = .resetting) ∧
    ready 0x0201 ⟨0, 1⟩ (having (cmd 0x0201 [(1, 512)]) (withInst 512 { st := .resetting } up)) = some (cmd 0x0201 [(1, 512)]) := by
  decide +kernel

theorem witness_OwnSliceTouchesOwnInstance : ∀ e ∈ ownRows,
    after (exec (e ⟨1, 1⟩) (withInst 1 held up)) (fun _ => decide ((⟨1, 1⟩ : CmdId).slice ≠ 0 ∧ 2 ≠ (⟨1, 1⟩ : CmdId).slice)) = true := by
  decide +kernel

theorem witness_QuietRowsLeaveProtection : ∀ e ∈ quietRows, after (exec (e ⟨0, 1⟩) up) (fun _ => true) = true := by
  decide +kernel

/-- An entry as 64 bytes: OPCODE, CID, FLAGS, NPARAM, EPOCH, BUF_LEN, and the parameter entries. -/
def entry (op cid flags np epoch len : Nat) (ps : List Byte := []) : List Byte :=
  padTo 64 (le 2 op ++ le 2 cid ++ le 1 flags ++ le 1 np ++ le 2 0 ++ le 4 epoch ++ le 4 len ++ le 8 0x1000 ++ ps)

/-- One entry for each outcome: CID, EPOCH on both kinds of slice, OPCODE, form, BUF_OUT, a bad parameter, a missing key, a
parameter list in the buffer, an input in the buffer, and an entry that needs no read. -/
theorem witness_EntryChecks :
    let c1 := cmd 0x0104
    let s := having c1 up
    (∃ x ∈ s.cmds, x.id = ⟨0, 1⟩) ∧ (∀ x ∈ s.cmds, x.id ≠ ⟨0, 2⟩) ∧ leAt (entry 0x0104 2 0 0 7 0) 8 4 ≠ 0 ∧
    leAt (entry 0x0104 2 0 0 7 0) 8 4 ≠ (win s 1).epoch.toNat ∧ opSpec 0x00FF = none ∧
    (∃ o, opSpec 0x0104 = some o ∧ wellFormed o (entry 0x0104 2 8 0 0 0) { c1 with flags := 8 } = false) ∧
    (∃ o, opSpec 0x0102 = some o ∧ wellFormed o (entry 0x0102 2 0 0 0 16) { c1 with op := 0x0102, bufLen := 16 } = true ∧
      dirOk o { c1 with op := 0x0102, bufLen := 16 } = false) ∧
    (∃ o, opSpec 0x0103 = some o ∧ badParam (keysFrom o 0) (joinParams 0 [⟨0x7F, 0, 1⟩]) = some 0) ∧
    (∃ o, opSpec 0x0103 = some o ∧ badParam (keysFrom o 0) (joinParams 0 [⟨2, 0, 1⟩]) = none ∧
      missingKey (keysFrom o 0) 0 (joinParams 0 [⟨2, 0, 1⟩]) = some 1) ∧
    (∃ o, opSpec 0x0103 = some o ∧ badParam (keysFrom o 0) (joinParams 0 [⟨1, 0, 0⟩, ⟨2, 0, 1⟩]) = none ∧
      missingKey (keysFrom o 0) 0 (joinParams 0 [⟨1, 0, 0⟩, ⟨2, 0, 1⟩]) = none) := by
  refine ⟨by decide +kernel, by decide +kernel, by decide +kernel, by decide +kernel, by decide +kernel, ⟨_, rfl, by decide +kernel⟩,
    ⟨_, rfl, by decide +kernel⟩, ⟨_, rfl, by decide +kernel⟩, ⟨_, rfl, by decide +kernel⟩, ⟨_, rfl, by decide +kernel⟩⟩

/-- The lists a command takes from its buffer, its input there, and neither. -/
theorem witness_EntryChecks_reads :
    (∃ o, opSpec 0x0A01 = some o ∧ takesList o = true ∧ descriptorForm 0x0A01 8 = false) ∧
    (∃ o, opSpec 0x0601 = some o ∧ inputLen o { cmd 0x0601 with bufLen := 112 } ≠ 0) ∧
    (∃ o, opSpec 0x0102 = some o ∧ inputLen o (cmd 0x0102) = 0) := by
  refine ⟨⟨_, rfl, by decide +kernel⟩, ⟨_, rfl, by decide +kernel⟩, ⟨_, rfl, by decide +kernel⟩⟩

theorem witness_CommandTimeouts :
    let c := { cmd 0x0304 with phase := .executing }
    let s := having c up
    s.cmds.find? (fun c => c.id == ⟨0, 1⟩ && executing c) = some c ∧ committed s c = false ∧
      c.started + effTimeout s c ≤ { s with clk := effTimeout s c }.clk ∧ s.clk < c.started + effTimeout s c ∧
      committed s { c with phase := .committed } = true ∧ cmd 0x0102 ∈ (having (cmd 0x0102) up).cmds := by decide +kernel

theorem witness_ReadOnlyArchiveWindow : regsOpen up = true := by decide

/-- TDM_BALLOT is a pair; of eight other Requesters the eighth gives way, with seven none does. -/
theorem witness_HighWordLatches : hostUp up = true ∧ msixOpen up = true ∧ pairSeen up 0x7014 = some 0 ∧ pairSeen up 0x7018 = none ∧
    latchOf 0x7014 1 { up with pcie := { latches := [(0x7014, 1, 5)] } }.pcie.latches = some 5 ∧
    (((List.range 7).map fun i => (8, i + 2, i)).filter fun e : Nat × Nat × Nat => e.1 == 8 && e.2.1 != 1).length = 7 ∧
    (((List.range 8).map fun i => (8, i + 2, i)).filter fun e : Nat × Nat × Nat => e.1 == 8 && e.2.1 != 1) =
      ((List.range 7).map fun i => (8, i + 2, i)) ++ [(8, 9, 7)] := by decide +kernel

theorem witness_ClaimOrder : ntfBest { prio := 0x10 } [0, 1] = some 0 ∧ [0, 1].Pairwise (· < ·) := by decide +kernel
theorem witness_AdminCommands : All
    [decide (Row (cmd 0x0101) up), decide (Row (cmd 0x0102) up), decide (Row (cmd 0x0104) up), decide (Row (cmd 0x0107) up),
     decide (Row (cmd 0x0108) up),
     decide (Starts 0x0108 ⟨512, 1⟩ (cmd 0x0108 [(1, 512)] [] 512) (having (cmd 0x0108 [(1, 512)] [] 512) up) ∧
       argD (cmd 0x0108 [(1, 512)] [] 512) 1 512 = 512),
     decide (Row (cmd 0x0201 [(1, 1)]) up),
     decide (Row (cmd 0x0208 [(1, 1)]) (withInst 1 held up) ∧ (inst (withInst 1 held up) 1).st ≠ .resetting),
     decide (Row (cmd 0x0103 [(1, 1), (2, 3)]) up ∧ Svc.ofCode 3 = some .test ∧ up.svc.change = none ∧ up.svc.state.code = 1 ∧
       svcAllowed up.svc.state .test = true ∧ svcPrecondition up .test = none),
     decide (Row (cmd 0x0103 [(1, 1), (2, 5)]) up ∧ svcAllowed up.svc.state .halted = true ∧ svcPrecondition up .halted = none),
     (let x : Cmd := { cmd 0x0A14 with id := ⟨3, 7⟩, phase := .executing }
      let c := cmd 0x0105 [(1, 3), (2, 7)]
      let s : State := { up with cmds := [x, c] }
      decide (x ∈ s.cmds ∧ Starts 0x0105 ⟨0, 1⟩ c s ∧ x.id = ⟨argD c 1 0, argD c 2 0⟩ ∧ x.id ≠ c.id ∧ uncommitted s x = true)),
     decide (Row (cmd 0x0106 [(1, 10)]) up), decide (Row (cmd 0x0109) up), decide (Row (cmd 0x010A [(1, 1)]) up),
     decide (Row (cmd 0x010B [(1, 2047)]) up)] := by decide +kernel

/-- One ATU record: a page of 2^12 bytes, readable and writable. -/
def page (a : Nat) : List Byte := le 8 a ++ le 8 0x100000 ++ le 1 12 ++ le 1 3 ++ zeros 6

theorem witness_SliceResources : All
    [decide (Row (cmd 0x0202 [(1, 512), (2, 5)]) up ∧ (∀ e ∈ up.wins, e.1 ≠ 512 → e.2.pasid ≠ some 5) ∧ ringOn (win up 512) = false ∧
       (inst up 512).st ≠ .resetting),
     decide (Row (cmd 0x0203 [(1, 1)]) up),
     decide (Row (cmd 0x0204 [(1, 1)] (page 0)) up ∧ (page 0).length = 24 * 1 ∧
       mapBad (up.atu.entries.filter fun e => e.slice == 1) (chunks 24 1 (page 0)) ((chunks 24 1 (page 0)).map (mapRec 1)) = none ∧
       up.atu.entries.length + 1 ≤ 65536 ∧ (up.atu.entries.filter fun e => e.slice == 1).length + 1 ≤ (win up 1).quota),
     (let s := { up with atu := { entries := [mapRec 1 (page 4096)] } }
      decide (Row (cmd 0x0205 [(1, 1), (3, 1)]) s ∧ Row (cmd 0x0205 [(1, 1), (2, 4096)]) s ∧
        arg (cmd 0x0205 [(1, 1), (2, 4096)]) 2 = some 4096 ∧ ∃ e ∈ s.atu.entries, e.slice = 1 ∧ e.addr = 4096)),
     (let c := cmd 0x0207 [(1, 1), (2, 1), (3, 15), (0x10, 0), (0x10, 2047)]
      decide (Row c up ∧ args c 0x10 = [0, 2047] ∧ (args c 0x10).eraseDups = args c 0x10) &&
      wrote (writeKeys instFields (fun _ => instMode (inst up 1)) c.params (inst up 1).cfg false) (fun g => conflict up 1 g == none &&
         pairsFit (changeInst 1 .held 0 0 false
           (updInst 1 (fun i => { i with cfg := g, streamsStaged := some [0, 2047] }) (having c up))))),
     decide (Row (cmd 0x0206 [(1, 1), (2, 16), (3, 64), (4, 128)]) up)] := by decide +kernel

theorem witness_InstanceMoves : All
    [decide (Row (cmd 0x0209 [(1, 512)]) (withInst 512 held up) ∧ (inst (withInst 512 held up) 512).st = .held),
     decide (Row (cmd 0x0209 [(1, 512)]) (withInst 512 running up) ∧ (inst (withInst 512 running up) 512).st = .running ∧
       (inst (withInst 512 running up) 512).holdReq = none),
     decide (Row (cmd 0x020A [(1, 1)]) (withInst 1 held up) ∧ (inst (withInst 1 held up) 1).restart = none ∧
       domHeld (withInst 1 held up) 1 = false ∧ arg (cmd 0x020A [(1, 1)]) 2 = none),
     (let s := { withInst 1 held up with doms := [(0, { running := true, lastAngle := 0 })] }
      decide (Row (cmd 0x020A [(1, 1), (2, 0x100000)]) s ∧ targetOk (dom s (fread (inst s 1).cfg iDomain)) 0x100000 = true ∧
        isBoundary (dom s (fread (inst s 1).cfg iDomain)) 0x100000 = true)),
     decide (Row (cmd 0x020B [(1, 1)]) (withInst 1 running up) ∧ (inst (withInst 1 running up) 1).st ≠ .empty),
     decide (Row (cmd 0x020C [(1, 1)]) (withInst 1 running up) ∧ (inst (withInst 1 running up) 1).freezeReq = none),
     decide (Row (cmd 0x020C [(1, 1)]) (withInst 1 held up)),
     (let i : Inst := { st := .frozen, saved := true, captured := some [1] }
      decide (Row (cmd 0x020D [(1, 1)]) (withInst 1 i up) ∧ (inst (withInst 1 i up) 1).captured = some [1])),
     (let i : Inst := { st := .frozen, captured := some [1] }
      let c := cmd 0x020D [(1, 1)] [] 0 1
      decide (Row c (withInst 1 i up) ∧ (inst (withInst 1 i up) 1).saved = false ∧ Takes c (having c (withInst 1 i up)) 1)),
     decide (Row (cmd 0x020F [(1, 1)]) (withInst 1 { st := .frozen } up) ∧ (inst (withInst 1 { st := .frozen } up) 1).st = .frozen ∧
       domHeld (withInst 1 { st := .frozen } up) 1 = false)] := by decide +kernel

/-- The head of a saved state of an instance with nothing loaded, sealed. -/
def savedImage : List Byte :=
  reseal (le 4 0x56535053 ++ le 2 1 ++ le 2 1 ++ le 4 240 ++ le 2 1 ++ le 1 0 ++ le 1 (stepOf up 0) ++ zeros 36 ++
    digestOf none ++ digestOf none ++ zeros 44 ++ zeros 48)

theorem witness_InstanceMoves_restore :
    Row (cmd 0x020E [(1, 1)] savedImage) (withInst 1 held up) ∧ restoreCheck (withInst 1 held up) 1 savedImage = none := by
  decide +kernel
/-! Images: a stream descriptor of one channel, publication and subscription descriptors, a program of one instruction, and
a setting set of one FREQ slot. -/

def name130 : List Byte := padTo 130 [0x53]

def svDesc (base : Nat) : List Byte :=
  name130 ++ le 6 0x010CCD040000 ++ le 2 0x4000 ++ le 2 0 ++ le 4 1 ++ le 1 0 ++ le 1 1 ++ le 1 1 ++ le 1 0 ++ le 2 base ++ zeros 10

def pubDesc : List Byte :=
  name130 ++ name130 ++ name130 ++ zeros 14 ++ le 1 5 ++ zeros 3 ++ le 2 2 ++ le 2 0 ++ le 4 1000 ++ zeros 16

def subDesc : List Byte := name130 ++ name130 ++ zeros 15 ++ le 1 1 ++ zeros 2 ++ List.replicate 6 0xFF ++ zeros 12

def progImg : List Byte := reseal (le 4 0x474C5053 ++ le 2 1 ++ le 2 0 ++ le 4 116 ++ le 4 1 ++ zeros 48 ++ zeros 4 ++ zeros 48)

def setImg : List Byte :=
  reseal (le 4 0x53535053 ++ le 2 1 ++ le 2 0 ++ le 4 200 ++ le 2 1 ++ le 2 1 ++ le 4 1 ++ zeros 44 ++ (le 2 0 ++ le 1 1 ++ zeros 5) ++
    (le 1 0 ++ le 1 0x11 ++ le 1 1 ++ zeros 2 ++ le 1 1 ++ le 2 0xFFFF ++ le 2 0xFFFF ++ zeros 6 ++ (0 :: List.replicate 23 0xFF) ++
      le 4 5000 ++ le 4 0 ++ le 4 1 ++ le 4 1000 ++ zeros 24) ++ zeros 48)

/-- One stream, in a state. -/
def withStream1 (st : StrState) : State :=
  { up with sv := { streams := [(2047, { desc := svDesc 0, state := st, simActive := true })] } }

theorem test_images : All
    [descBad (svDesc 16383) == none, pubBad pubDesc == none, subBad subDesc == none, alarmPubBad pubDesc == none, sealed progImg,
     progBad progImg == none, sealed setImg, setBad setImg == none] := by decide +kernel

/-- A domain that has fixed one instant. -/
def ticked : Dom := { period := 1000, kept := [⟨1, 16384, 65536000⟩], ahead := [⟨2, 32768, 131072000⟩] }

theorem witness_AngleCommands : All
    [decide (Row (cmd 0x0301 [(1, 15)]) up),
     decide (Starts 0x0301 ⟨1, 1⟩ (cmd 0x0301 [(1, 0)] [] 1) (having (cmd 0x0301 [(1, 0)] [] 1) up) ∧ instDom (inst up 1) = 0),
     (let s := { up with doms := [(0, ticked)] }
      decide (Row (cmd 0x0306 [(1, 0), (2, 0), (3, 32768)]) s) && (match angleTime (dom s 0) 32768 with | .at _ => true | _ => false)),
     (let s := { up with doms := [(0, ticked)] }
      decide (Row (cmd 0x0306 [(1, 0), (2, 1), (3, 2000)]) s) &&
        (match timeAngle (dom s 0) (nearTs s 2000) with | .at _ => true | _ => false)),
     (let s := withInst 1 { running with cfg := fset {} iSpare 15 } up
      let c := cmd 0x0308 [(1, 1), (2, 3)]
      decide (Row c s ∧ bitOf (fval (inst s 1).cfg iSpare) 3 = true)),
     (let c := cmd 0x0302 [(1, 15), (7, 4000), (8, 7200)]
      decide (Row c up) && wrote (writeKeys angFields (fun _ => domMode (dom up 15)) (c.params.filter fun p => p.key != 1) (dom up 15).cfg false)
        (fun g => (limitsBad (fun _ => domMode (dom up 15)) (c.params.filter fun p => p.key != 1) (dom up 15).cfg).isNone && fmaxFits up 15 g && arcFits up 15 g && pairsFit (updDom 15 (fun d => { d with cfg := g }) up))),
     decide (Row (cmd 0x0303 [(1, 15)]) up ∧ domBusy up 15 = false),
     decide (Row (cmd 0x0304 [(1, 15)]) up ∧ waiting (.domRestart 15) up = false ∧ refsMalformed (dom up 15).cfg = none ∧
       fval (dom up 15).cfg aStep = fread (dom up 15).cfg aStep),
     loadFits up up.insts (fmaxOf up) (fun x => if x = 15 then 2 else stepOf up x),
     decide (Row (cmd 0x0305 [(1, 15), (2, 1)]) up),
     (let s := withInst 1 { running with cfg := fset {} iSpare 15 } up
      let c := cmd 0x0307 [(1, 1), (2, 3), (4, 5)]
      decide (Row c s ∧ bitOf (fval (inst s 1).cfg iSpare) 3 = true) &&
        wrote (writeKeys loopFields (fun _ => .run) (c.params.filter fun p => 2 < p.key) (spareAt s c).cfg false)
          (fun g => loopChanOk s 1 g && decide (sext 32 (fread g lMin) < sext 32 (fread g lMax)) &&
            pairsFit (updSpare (instDom (inst s 1)) 3 (fun l => { l with cfg := g }) s))),
     (let s := withInst 1 { running with cfg := fset {} iSpare 15 } up
      decide (Row (cmd 0x0309 [(1, 1), (2, 3), (3, 1)]) s ∧ bitOf (fval (inst s 1).cfg iSpare) 3 = true))] := by decide +kernel

theorem witness_StreamCommands : All
    [decide (Row (cmd 0x0404 [(1, 2047)]) (withStream1 .held) ∧ (tfind (withStream1 .held).sv.streams 2047).isSome = true),
     (let s := withInst 512 { running with streams := [2047] } (withStream1 .running)
      let c := cmd 0x0407 [(1, 2047)] [] 512
      decide (Starts 0x0407 ⟨512, 1⟩ c (having c s) ∧ 512 ∈ referers s 2047 ∧ (tfind s.sv.streams 2047).isSome = true)),
     decide (Row (cmd 0x0408) (withStream1 .running)),
     decide (Row (cmd 0x0401 [(1, 2047)] (svDesc 16383)) up ∧ thas up.sv.streams 2047 = false ∧ descJudge up 2047 (svDesc 16383) = none ∧
       pairsFit { up with sv := { up.sv with streams := tput up.sv.streams 2047 { desc := svDesc 16383 } } } = true),
     decide (Row (cmd 0x0402 [(1, 2047)]) (withStream1 .held) ∧ referers (withStream1 .held) 2047 = [] ∧
       ((tfind (withStream1 .held).sv.streams 2047).map (refNamed (withStream1 .held))) = some false),
     (let c := cmd 0x0403 [(1, 2047)]
      decide (Row c (withStream1 .running) ∧ descriptorForm c.op c.bufLen = false) &&
        (match setKeys c { desc := svDesc 0, state := .running, simActive := true } with | .ok _ => true | .error _ => false)),
     (let c := cmd 0x0403 [(1, 2047)] (svDesc 0) 0 160
      decide (Row c (withStream1 .held) ∧ descriptorForm c.op c.bufLen = true ∧ descJudge (withStream1 .held) 2047 c.input = none) &&
        (match setKeys c (stageDesc c.input { desc := svDesc 0, state := .held, simActive := true }) with | .ok _ => true | .error _ => false)),
     decide (Row (cmd 0x0405 [(1, 2047)]) (withStream1 .running) ∧ streamBusy (withStream1 .running) 2047 = false),
     decide (Row (cmd 0x0406 [(1, 2047)]) (withStream1 .held)),
     decide (Row (cmd 0x0409 [(1, 2047)]) (withStream1 .running)),
     decide (Row (cmd 0x040A [(1, 0xFFFF)]) (withStream1 .running) ∧ streamIx (cmd 0x040A [(1, 0xFFFF)]) = 0xFFFF),
     decide (Row (cmd 0x040A [(1, 2047)]) (withStream1 .running) ∧ streamIx (cmd 0x040A [(1, 2047)]) = 2047)] := by decide +kernel

def pair0 : Pair := { chan := 16383, dom := 15, next := 0 }

def withPair : State := { up with filt := { pairs := [pair0] } }

theorem witness_FilterCommands : All
    [decide (Row (cmd 0x0502 [(1, 16383)]) withPair), decide (Row (cmd 0x0503 [(1, 2), (2, 7680)]) up ∧ 7680 ∈ inRates),
     decide (Row (cmd 0x0503 [(1, 3), (2, 1)]) up), decide (Row (cmd 0x0503 [(1, 3), (2, 4)]) up), decide (Row (cmd 0x0504) up),
     decide (Row (cmd 0x0505 [(1, 16383), (2, 15), (3, 1)]) withPair ∧ pairAt withPair 16383 15 = some pair0),
     decide (Row (cmd 0x0508 [(1, 1023)]) up),
     (let s := { up with filt := { dets := [(0, { cfg := fset {} tdOwner 512 })] } }
      let c := cmd 0x0508 [(1, 0)] [] 512
      decide (Starts 0x0508 ⟨512, 1⟩ c (having c s) ∧ fval (det s 0).cfg tdOwner = 512)),
     decide (Row (cmd 0x0501 [(1, 16383), (2, 2), (4, 1)]) up ∧
       scsBad (cmd 0x0501 [(1, 16383), (2, 2), (4, 1)]) (stageKeys chanFields (cmd 0x0501 [(1, 16383), (2, 2), (4, 1)]) {}) = none),
     decide (Row (cmd 0x0506 [(1, 16383), (2, 0xFF)]) withPair ∧ withPair.svc.state = .commissioning ∧
       ∃ p ∈ withPair.filt.pairs, p.chan = 16383 ∧ (0xFF = 0xFF ∨ p.dom = 0xFF)),
     decide (Row (cmd 0x0506 [(1, 16383), (2, 15)]) { withPair with svc := { state := .test } } ∧
       ∃ p ∈ withPair.filt.pairs, p.chan = 16383 ∧ p.dom = 15),
     (let c := cmd 0x0507 [(1, 1023), (6, 100), (7, 100), (10, 1)]
      decide (Row c up) && wrote (writeKeys detFields (fun _ => .idle) (c.params.filter fun p => p.key != 1) (det up 1023).cfg false)
        (fun g => decide (fval g tdHyst ≤ fval g tdLevel) && ownerOk up g && pairsFit (updDet 1023 (fun d => { d with cfg := g }) up))),
     decide (Row (cmd 0x0509 [(1, 0xFFFF)]) up), decide (Row (cmd 0x0509 [(1, 1023)]) up)] := by decide +kernel

/-- An instance with an element set, its slot reserved. -/
def withSet (i : Inst) : State :=
  withInst 1 { i with el := { img := some setImg, staged := i.el.staged, fieldsOnly := i.el.fieldsOnly,
                              reserved := [⟨0, 0, 0x11, 440, 1, 0⟩] } } up

theorem witness_ElementCommands : All
    [decide (Row (cmd 0x0602 [(1, 1), (3, 0)]) (withSet running) ∧ (inst (withSet running) 1).el.img = some setImg),
     (let s := withSet { running with el := { staged := some setImg } }
      decide (Row (cmd 0x0602 [(1, 1), (3, 1)]) s ∧ (inst s 1).el.staged = some setImg)),
     decide (Row (cmd 0x0604 [(1, 1), (2, 0)]) (withSet running) ∧ (findRec setImg 0).isSome = true),
     (let s := withSet { running with el := { staged := some setImg } }
      decide (Row (cmd 0x0604 [(1, 1), (2, 0)]) s ∧ (inst s 1).el.staged = some setImg ∧ (findRec setImg 0).isSome = true)),
     decide (Row (cmd 0x0606) up),
     decide (Row (cmd 0x0607 [(1, 1), (2, 0)]) (withSet running) ∧
       ((inst (withSet running) 1).el.reserved.find? fun x => x.slot == 0).isSome = true),
     decide (Row (cmd 0x0608 [(1, 1), (2, 0)]) (withSet running)), decide (Row (cmd 0x0609 [(3, 63)]) up),
     decide (Row (cmd 0x060A [(3, 0x1C)]) up ∧ (catalogue 0x1C).isSome = true),
     decide (Row (cmd 0x0601 [(1, 1)] setImg) (withInst 1 held up) ∧ sealed setImg = true ∧ setBad setImg = none),
     (let c := cmd 0x0603 [(1, 1), (2, 0), (3, 4095), (8, 0)]
      let ps := c.params.filter fun p => 2 < p.key
      decide (Row c (withSet running) ∧ (∀ p ∈ ps, keyClass 0x11 p.key = some .live ∨ keyClass 0x11 p.key = some .staged) ∧
        fieldBad setImg 0 ps = none ∧ (inst (withSet running) 1).el.staged.isSome = false)),
     (let c := cmd 0x0603 [(1, 1), (2, 0), (8, 0)]
      let ps := c.params.filter fun p => 2 < p.key
      let s := withSet { held with el := { staged := some setImg } }
      decide (Row c s ∧ (∀ p ∈ ps, keyClass 0x11 p.key = some .live ∨ keyClass 0x11 p.key = some .staged) ∧
        fieldBad setImg 0 ps = none ∧ (inst s 1).el.staged = some setImg ∧ (inst s 1).el.fieldsOnly = false)),
     (let s := withInst 1 { held with streams := [2047], el := { staged := some setImg } } (withStream1 .running)
      let t := updInst 1 applyStaged s
      decide (Row (cmd 0x0605 [(1, 1)]) s) && (match admitSet t 1 (inst t 1).el.img with | .ok _ => true | .error _ => false)),
     decide (Row (cmd 0x060B [(1, 1), (2, 0xFF)]) (withSet running)), decide (Row (cmd 0x060B [(1, 1), (2, 63)]) (withSet running))] := by
  decide +kernel
/-- An instance with a program of one instruction. -/
def withProg (i : Inst) : State :=
  withInst 1 { i with lg := { prog := some (readProg progImg), staged := some (readProg progImg), forces := [(0x80000000, 1)],
                              recs := [⟨5, 0x18, 3, false, 0, false, false⟩], report := some [0] } } up

theorem witness_LogicCommands : All
    [decide (Row (cmd 0x0702 [(1, 1), (3, 0)]) (withProg running) ∧ (inst (withProg running) 1).lg.prog.isSome = true),
     decide (Row (cmd 0x0702 [(1, 1), (3, 1)]) (withProg running) ∧ (inst (withProg running) 1).lg.staged.isSome = true),
     decide (Row (cmd 0x0703 [(1, 1)]) (withProg running)),
     decide (Row (cmd 0x0704 [(1, 1), (3, 4095), (4, 1)]) (withProg running)),
     decide (Row (cmd 0x0704 [(1, 1), (3, 0), (4, 4096)]) (withProg running)), decide (Row (cmd 0x0708 [(1, 1)]) (withProg running)),
     decide (Row (cmd 0x0709 [(1, 1), (3, 5)]) (withProg running) ∧
       ((inst (withProg running) 1).lg.recs.find? fun x => x.ident == 5).isSome = true),
     decide (Row (cmd 0x070A [(1, 1)]) (withProg running) ∧ (inst (withProg running) 1).lg.report = some [0]),
     decide (Row (cmd 0x070B) up),
     decide (Row (cmd 0x0701 [(1, 1), (2, 0)] progImg) (withInst 1 held up) ∧ (inst (withInst 1 held up) 1).lg.exch = none),
     decide (Row (cmd 0x0701 [(1, 1), (2, 1)] progImg) (withProg running) ∧ (inst (withProg running) 1).lg.exch = none ∧
       (inst (withProg running) 1).lg.prog.isSome = true ∧ (placeProg (withProg running).insts (readProg progImg)).isSome = true),
     (let c := cmd 0x0705 [(1, 1), (3, 1664), (3, 1791), (4, 1), (4, 0)]
      decide (Row c (withProg running) ∧ args c 3 ≠ [] ∧ (args c 3).length = (args c 4).length ∧ (args c 3).length ≤ 32)),
     (let c := cmd 0x0706 [(1, 1), (3, 0x8000083F), (4, 1)]
      decide (Row c (withProg running) ∧ (withProg running).svc.state = .commissioning ∧
        (identAddr (inst (withProg running) 1).lg.prog 0x8000083F).isSome = true ∧ (inst (withProg running) 1).lg.forces.length < 64)),
     decide (Row (cmd 0x0707 [(1, 1), (3, 0xFFFFFFFF)]) (withProg running)),
     decide (Row (cmd 0x0707 [(1, 1), (3, 0x80000000)]) (withProg running) ∧
       tfind (inst (withProg running) 1).lg.forces 0x80000000 = some 1),
     decide (Row (cmd 0x070C [(2, 25)]) up)] := by decide +kernel

/-- Output 7 belongs to instance 1. -/
def owning : State := withInst 1 { running with cfg := fset {} iOutputs 0x80 } up

theorem witness_TripCommands : All
    [(let c := cmd 0x0809 [(2, 7), (3, 1), (8, 10)]
      decide (Row c owning) && wrote (writeKeys outFields (fun _ => outMode owning 7) (c.params.filter fun p => 2 < p.key)
        (outp owning 7).cfg false) (fun g => outRuleBad g == none)),
     decide (Row (cmd 0x080A [(2, 0)]) up),
     decide (Starts 0x080A ⟨1, 1⟩ (cmd 0x080A [(2, 7)] [] 1) (having (cmd 0x080A [(2, 7)] [] 1) owning) ∧ ownerOf owning 7 = some 1),
     decide (Row (cmd 0x080B [(2, 7)]) owning ∧ ownerOf owning 7 = some 1 ∧ (outp owning 7).energised = false ∧
       ∀ e ∈ owning.trip.outs, e.2.test = none), decide (Row (cmd 0x080C [(1, 1)]) up)] := by decide +kernel

/-- An instance with a publication and a subscription. -/
def withGoose (i : Inst) : State :=
  withInst 1 { i with pubs := [(31, { desc := pubDesc, live := true })], subs := [(63, { desc := subDesc, live := true })] } up

theorem witness_GooseCommands : All
    [decide (Row (cmd 0x0802 [(1, 1), (2, 31)]) (withGoose running) ∧ localIx (cmd 0x0802 [(1, 1), (2, 31)]) = 31),
     decide (Row (cmd 0x0803 [(1, 1), (2, 31)]) (withGoose running) ∧ (tfind (inst (withGoose running) 1).pubs 31).isSome = true),
     decide (Row (cmd 0x0806 [(1, 1), (2, 63)]) (withGoose running) ∧ (tfind (inst (withGoose running) 1).subs 63).isSome = true),
     decide (Row (cmd 0x0807 [(1, 1), (2, 63)]) (withGoose running)),
     decide (Row (cmd 0x0801 [(1, 1), (2, 31)] pubDesc) (withGoose running) ∧ pubBad pubDesc = none),
     decide (Row (cmd 0x0801 [(1, 1), (2, 0)] pubDesc) (withGoose running) ∧ tfind (inst (withGoose running) 1).pubs 0 = none ∧
       pubCount (withGoose running) < 4096),
     decide (Row (cmd 0x0804 [(1, 1), (2, 31)]) (withGoose held) ∧ (inst (withGoose held) 1).st ≠ .running),
     decide (Row (cmd 0x0805 [(1, 1), (2, 63)] subDesc) (withGoose running) ∧ subBad subDesc = none),
     decide (Row (cmd 0x0805 [(1, 1), (2, 0)] subDesc) (withGoose running) ∧ tfind (inst (withGoose running) 1).subs 0 = none ∧
       subCount (withGoose running) < 8192),
     decide (Row (cmd 0x0808 [(1, 1), (2, 0xFF)]) (withGoose running))] := by decide +kernel

theorem witness_TandemCommands : All
    [decide (Row (cmd 0x0901) up), decide (Row (cmd 0x0903) up), decide (Row (cmd 0x0907) up), decide (Row (cmd 0x0908) up),
     decide (Row (cmd 0x090A) up),
     (let c := cmd 0x0902 [(2, 1), (0x0B, 20)]
      decide (Row c up) && wrote (writeKeys tdmFields (fun _ => .run) c.params up.tdm.cfg false) (fun g => pairBad up c g == none)),
     decide (Starts 0x0904 ⟨0, 1⟩ (cmd 0x0904) (having (cmd 0x0904) (paired .active true)) ∧ Open (paired .active true) ∧
       waiting .switchover (paired .active true) = false ∧ (paired .active true).tdm.switchH = none),
     decide (Starts 0x0905 ⟨0, 1⟩ (cmd 0x0905) (having (cmd 0x0905) (paired .standby true))),
     decide (Starts 0x0906 ⟨0, 1⟩ (cmd 0x0906) (having (cmd 0x0906) (paired .isolated false)) ∧
       (paired .isolated false).sig.fault = false), decide (Row (cmd 0x0909) up)] := by decide +kernel

/-- Ports 0 and 1 are paired ports, port 2 a station port. -/
def switched : State :=
  { up with ports := [(0, { cfg := fset {} prRole 4 }), (1, { cfg := fset {} prRole 4 }), (2, { cfg := fset {} prRole 2 })] }

def fdbRec : List Byte := le 2 4094 ++ le 6 0x010CCD010000 ++ le 1 0 ++ le 1 1 ++ le 2 2 ++ zeros 4

theorem witness_SwitchCommands : All
    [(let rs := recordsOf 16 fdbRec
      let t := updSw (fun w => { w with fdb := (rs.map (fdbRecord switched.clk)).foldl fdbApply switched.sw.fdb }) switched
      decide (Row (cmd 0x0A0B [] fdbRec) switched ∧ fdbRec.length % 16 = 0 ∧ rs.length = 1 ∧ (∀ x ∈ rs, fdbOk switched x = true) ∧
        t.sw.fdb.length ≤ 32768 ∧ staticUsed t ≤ 16384)),
     decide (Row (cmd 0x0A0C [(2, 0), (3, 1)]) switched), decide (Row (cmd 0x0A0D [(1, 0xFF)]) switched),
     (let b := le 2 4095 ++ zeros 2 ++ le 8 (2 ^ 51 - 1) ++ le 2 1 ++ zeros 2 ++ le 2 562
      decide (Row (cmd 0x0A0E [] b) switched ∧ leAt b 12 2 = 1 ∧ b.length = 16 + 2 * 1 ∧ leAt b 0 2 ≤ 4095 ∧ leAt b 4 8 < 2 ^ 51 ∧
        ∀ v ∈ (List.range 1).map (fun i => leAt b (16 + 2 * i) 2), 51 ≤ v ∧ v ≤ 562)),
     (let b := le 2 4094 ++ zeros 2 ++ le 8 7 ++ le 8 0 ++ zeros 4
      decide (Row (cmd 0x0A0F [] b) switched ∧ b.length % 24 = 0 ∧ (recordsOf 24 b).length = 1 ∧ ∀ x ∈ recordsOf 24 b, vlanOk x = true)),
     (let c := cmd 0x0A10 [(2, 0), (6, 2), (7, 1)]
      decide (Row c switched) && wrote (writeKeys mirFields (fun _ => .run) c.params {} false) (fun g => transcriptOk switched (fval g mrPort))),
     (let c := cmd 0x0A10 [(2, 0), (7, 0)]
      decide (Row c switched ∧ arg c 6 = none) &&
        wrote (writeKeys mirFields (fun _ => .run) c.params {} false) (fun g => !fon g mrEnable)),
     (let c := cmd 0x0A11 [(2, 23), (3, 0), (4, 1), (6, 1)]
      decide (Row c switched) && wrote (writeKeys pairFields (fun _ => .run) c.params (rpair switched 23).cfg false)
        (fun g => pairPortOk switched 23 (fread g rpFirst) && pairPortOk switched 23 (fread g rpSecond) &&
          fread g rpSecond != fread g rpFirst)),
     decide (Row (cmd 0x0A12 [(2, 23)]) switched), decide (Row (cmd 0x0A13) switched),
     decide (Row (cmd 0x0A14) switched ∧ switched.sw.stRunning = false),
     (let c := cmd 0x0A15 [(3, 4000)]
      decide (Row c switched) && wrote (writeKeys swFields (fun _ => .run) c.params switched.sw.cfg false)
        (fun g => floorOk (updSw (fun w => { w with cfg := g }) switched)))] := by decide +kernel

/-- A gate list of one entry of 10 µs. -/
def gclImg : List Byte := zeros 8 ++ le 4 0 ++ le 4 10000 ++ le 2 1 ++ zeros 6 ++ le 1 0xFF ++ zeros 3 ++ le 4 10000

theorem witness_PortCommands : All
    [decide (Row (cmd 0x0A02 [(1, 47)]) up ∧ Booted up), decide (Row (cmd 0x0A03 [(1, 47)]) up),
     (let g : Gcl := { base := 0, cycle := 10000, entries := [(255, 10000)] }
      let s := { up with ports := [(47, { gcl := some g, gclNext := some (g, 5) })] }
      decide (Row (cmd 0x0A08 [(1, 47), (2, 0)]) s ∧ Row (cmd 0x0A08 [(1, 47), (2, 1)]) s ∧ (port s 47).gcl = some g ∧
        (port s 47).gclNext = some (g, 5))),
     decide (Starts 0x0A0A ⟨512, 1⟩ (cmd 0x0A0A [(1, 512)] [] 512) (having (cmd 0x0A0A [(1, 512)] [] 512) up)),
     (let c := cmd 0x0A01 [(1, 47), (2, 3), (5, 0)]
      decide (Row c up ∧ arg c 0x0E = none) && (match portWrite .run c.params (port up 47).cfg with
        | .ok g => portLaneOk g
        | .error _ => false)),
     decide (Row (cmd 0x0A04 [(1, 47)]) up), decide (Row (cmd 0x0A05 [(1, 47)]) up), decide (Row (cmd 0x0A06 [(1, 0xFF)]) up),
     decide (Row (cmd 0x0A06 [(1, 47)]) up),
     decide (Row (cmd 0x0A07 [(1, 47)] gclImg) up ∧ (port up 47).gclNext = none ∧ (readGcl gclImg).isSome = true),
     (let c := cmd 0x0A09 [(1, 512), (2, 1), (3, 5), (4, 7)]
      decide (Row c up ∧ (args c 2).length ≤ 4 ∧ (args c 3).length ≤ 16) &&
        wrote (writeKeys vpFields (fun _ => .run) c.params (vport up 512).cfg false)
          (fun g => decide (staticUsed (updSw (fun w => { w with vports := tset {} w.vports 512 { vport up 512 with
            cfg := g, macsStaged := some [1], vlansStaged := some [5] } }) up) ≤ 16384)))] := by decide +kernel

theorem witness_TimeCommands : All
    [decide (Row (cmd 0x0B01) up ∧ Booted up), decide (Row (cmd 0x0B02) up),
     (let c := cmd 0x0B03 [(4, 1), (5, 254)]
      decide (Row c up) && wrote (writeKeys timeFields (fun _ => .run) c.params up.time.cfg false) timeCfgOk),
     decide (Row (cmd 0x0B04) up),
     (let c := cmd 0x0B05 [(1, 47), (2, 1)]
      decide (Row c up) && wrote (writeKeys timePortFields (portMode (port up 47)) c.params (port up 47).ptp false)
        (fun g => decide ((ptpEnabled (updPort 47 (fun q => { q with ptp := g }) up)).length ≤ 1))),
     decide (Row (cmd 0x0B06 [(1, 47)]) up), decide (Row (cmd 0x0B07) up ∧ up.svc.state ≠ .inService),
     decide (Row (cmd 0x0B07) { up with svc := { state := .inService } } ∧ anyGcl up = false),
     decide (Row (cmd 0x0B08 [(2, 1), (3, 1)]) { up with time := { source := 2 } }), decide (Row (cmd 0x0B09 [(1, 0xFF)]) up),
     decide (Row (cmd 0x0B09 [(1, 47)]) up)] := by decide +kernel
/-- A RAW recorder of one channel of stream 2047, PRE 1 and POST 1, owned by the admin slice. -/
def recDesc : List Byte :=
  le 1 0 ++ le 1 0 ++ le 2 2047 ++ le 2 1 ++ le 2 0 ++ le 4 1 ++ le 4 1 ++ le 2 1 ++ le 1 0 ++ le 1 0 ++ le 4 10 ++
    List.replicate 8 0xFF ++ le 2 0 ++ le 1 0 ++ le 1 1 ++ le 4 0 ++ le 2 0 ++ zeros 2 ++ zeros 4

/-- A closed folio without rows. -/
def folio : Folio :=
  { recorder := 255, segment := 0, recording := 0, owner := 0, kind := 0, domain := 0, rate := 4000, stream := 2047, flags := 0
    cause := 0, trigRow := 0, trigTs := 0, trigSec := 0, trigNs := 0, trigAngle := 0, f := 0, fnom := 0, maskRow := 0, opsec := 0
    cycles := 0, service := 0, role := 0, nch := 1, nsig := 0, rowBytes := 16, chans := [], sigs := [], rows := [], start := 0
    pages := 1, keep := false, full := true, closed := true }

/-- A stream, a recorder in a state, and a closed folio 9. -/
def archive (st : RecSt) : State :=
  { withStream1 .running with arc := { recs := [(255, { desc := recDesc, st := st })], folios := [(9, folio)] } }

theorem witness_ArchiveCommands : All
    [decide (Row (cmd 0x0C01 [(1, 0)] recDesc) (archive .held) ∧ tfind (archive .held).arc.recs 0 = none ∧
       rdBad (archive .held) 0 recDesc = none),
     decide (Row (cmd 0x0C01 [(1, 255)] recDesc) (archive .held) ∧ (tfind (archive .held).arc.recs 255).map (·.st) = some .held ∧
       rdBad (archive .held) 255 recDesc = none),
     decide (Row (cmd 0x0C01 [(1, 255)] recDesc) (archive .armed) ∧ (tfind (archive .armed).arc.recs 255).map (·.st) = some .armed ∧
       rdLocked recDesc = rdLocked recDesc),
     decide (Row (cmd 0x0C02 [(1, 255)]) (archive .held)),
     decide (Row (cmd 0x0C03 [(1, 255)]) (archive .held)) && (match armRec 255 (archive .held) with | .ok _ => true | .error _ => false),
     decide (Row (cmd 0x0C04 [(1, 255)]) (archive .armed)), decide (Row (cmd 0x0C05 [(1, 255)]) (archive .held)),
     decide (Row (cmd 0x0C06 [(1, 255)]) (archive .armed)) &&
       ((tfind (acceptTrig { recorder := 255, cause := 8, t := 0, notTraceable := true } (archive .armed)).arc.recs 255).bind (·.cur)).isSome,
     decide (Row (cmd 0x0C07) (archive .held)), decide (Row (cmd 0x0C08 [(2, 0), (3, 1)]) (archive .held)),
     decide (Row (cmd 0x0C09 [(2, 9), (3, 1)]) (archive .held) ∧ openInRoom (archive .held) 9 = false) &&
       ((List.range 1).map fun i => 9 + i).all fun n =>
         match folioOk (cmd 0x0C09 [(2, 9), (3, 1)]) (archive .held) n with | .ok _ => true | .error _ => false,
     decide (Row (cmd 0x0C0A [(2, 9), (3, 1)]) (archive .held)),
     decide (Row (cmd 0x0C0B [(2, 15), (3, 9), (4, 0)]) (archive .held) ∧ tfind (archive .held).arc.room 15 = none ∧
       ((tfind (archive .held).arc.folios 9).map folioLen) = some 280),
     (let s := { archive .held with arc := { (archive .held).arc with room := [(15, ⟨9, 0, 0⟩)] } }
      decide (Row (cmd 0x0C0C [(2, 15)]) s ∧ tfind s.arc.room 15 = some ⟨9, 0, 0⟩)),
     decide (Row (cmd 0x0C0D [(2, 1)]) up), decide (Row (cmd 0x0C0E) up)] := by decide +kernel

theorem witness_SignallingCommands : All
    [decide (Row (cmd 0x0D01 [(2, 0), (3, 1)] [] 0 64) up ∧ Booted up ∧ 64 ≤ (cmd 0x0D01 [(2, 0), (3, 1)] [] 0 64).bufLen),
     decide (Row (cmd 0x0D02) up), decide (Row (cmd 0x0D03 [(2, up.chr.next)]) up ∧ up.svc.state = .commissioning),
     (let c := cmd 0x0D04 [] (zeros 16)
      decide (Row c up ∧ 16 ≤ c.input.length ∧ (note 0x0105 0 0 noObj (wordsOf 4 c.input) (having c up)).chr.dropped =
        (having c up).chr.dropped)),
     decide (Row (cmd 0x0D05 [(2, 3)]) up), decide (Row (cmd 0x0D06) up),
     (let c := cmd 0x0D07 [(1, 512), (2, 0x7FF)]
      decide (Row c up ∧ arg c 4 = none) &&
        (match ntfKeys 512 none (c.params.filter fun p => p.key != 1) (ntf up 512) with | .ok _ => true | .error _ => false)),
     decide (Starts 0x0D08 ⟨512, 1⟩ (cmd 0x0D08 [] [] 512) (having (cmd 0x0D08 [] [] 512) up) ∧ argD (cmd 0x0D08 [] [] 512) 1 512 = 512),
     decide (Row (cmd 0x0D09) up), decide (Row (cmd 0x0D0A [(2, 0xFFF)]) up),
     (let s := { up with trip := { alarmPub := some { desc := pubDesc } } }
      decide (Row (cmd 0x0D0B [] pubDesc) s ∧ alarmPubBad pubDesc = none ∧ s.trip.alarmPub.isSome = true)),
     decide (Row (cmd 0x0D0B [] pubDesc) up ∧ up.trip.alarmPub = none), decide (Row (cmd 0x0D0C [(2, 4)]) up)] := by decide +kernel

/-- A firmware image with an empty body. -/
def image : List Byte :=
  let head := [0x53, 0x50, 0x46, 0x57] ++ le 2 1 ++ zeros 2 ++ le 4 0 ++ le 4 1 ++ le 2 64 ++ le 1 1 ++ le 1 1 ++ le 2 1 ++ le 2 1 ++ zeros 40
  head ++ [0x53, 0x50, 0x43, 0x4F] ++ le 2 1 ++ le 1 0 ++ le 1 0 ++ sha384 head ++ zeros 200

/-- A firmware session that has received some bytes. -/
def updating (got : List Byte) (total : Nat) : State :=
  { up with upd := { up.upd with session := some { total := total, got := got, at_ := 0 } } }

theorem witness_UpdateCommands : All
    [decide (Row (cmd 0x0F01) up ∧ Booted up),
     decide (Row (cmd 0x0F02 [(2, 320)]) up ∧ up.pwr.pfw = .idle ∧ up.upd.boot.trialState = 0 ∧ up.upd.session = none),
     decide (Row (cmd 0x0F03 [(2, 0)] [1]) (updating [] 320)) &&
       (match takeChunk { total := 320, at_ := 0 } 0 [1] 0 with | .accepted _ => true | _ => false),
     (let x : Session := { total := 320, got := [1], lastOff := 0, lastLen := 1, at_ := 0 }
      match takeChunk x 0 [1] 0 with | .repeated => true | _ => false),
     decide (Row (cmd 0x0F04) (updating image 320) ∧ sessionFull { total := 320, got := image, at_ := 0 } = true ∧ imageOk image = true),
     decide (Row (cmd 0x0F04) (updating (zeros 320) 320) ∧ sessionFull { total := 320, got := zeros 320, at_ := 0 } = true ∧
       imageOk (zeros 320) = false),
     decide (Row (cmd 0x0F05) (updating [] 320)),
     (let s := { up with upd := { up.upd with bankB := bankFrom image, boot := { up.upd.boot with stB := .loaded } } }
      decide (Row (cmd 0x0F06 [(2, 1)]) s ∧ restartOk s = true ∧ activateBad s false = none)),
     (let s := { up with upd := { up.upd with run := 1, boot := { up.upd.boot with trial := some 1, trialState := 2, stB := .trial } } }
      decide (Row (cmd 0x0F07) s ∧ trialRuns s = true ∧ s.sig.fault = false ∧ s.svc.state ≠ .halted)),
     (let s := { up with upd := { up.upd with boot := { up.upd.boot with trial := some 1, trialState := 1 } } }
      decide (Row (cmd 0x0F08) s ∧ s.upd.boot.trialState = 1)), decide (Row (cmd 0x0F09 [(2, 10)]) up)] := by decide +kernel

theorem witness_KeyCommands : All
    [decide (Row (cmd 0x0E01) up), decide (Row (cmd 0x0E07 [(2, 1023)]) up),
     (let c := cmd 0x0E09 [(2, 15)] [] 0 96
      decide (Row c up ∧ Takes c (having c up) 96)),
     (let s := { up with keys := { store := { sign := [(15, ⟨[], []⟩)] } } }
      decide (Row (cmd 0x0E0A [(2, 15)] (zeros 48)) s ∧ tfind s.keys.store.sign 15 = some ⟨[], []⟩)),
     decide (Row (cmd 0x0E0B [(2, 0)] (zeros 48)) up ∧ (subjectOf up 0 0).isSome = true),
     (let k : Key := { id := 1, alg := 1, purpose := 0, origin := 0, lifetime := 0, notAfter := 0, bytes := [] }
      let s := { up with keys := { slots := [(1023, { cur := some k })] } }
      decide (Row (cmd 0x0E0B [(2, 1), (3, 1023)] (zeros 48)) s ∧ (subjectOf s 1 1023).isSome = true)),
     decide (Row (cmd 0x0E02 [] (zeros 224)) up ∧ up.svc.state = .commissioning ∧ up.keys.store.owner = none),
     decide (Row (cmd 0x0E03 [(2, 304)]) up ∧ up.keys.session = none),
     (let s := { up with keys := { session := some { total := 304, at_ := 0 } } }
      decide (Row (cmd 0x0E04 [(2, 0)] [1]) s ∧ Row (cmd 0x0E06) s)),
     (let k : Key := { id := 1, alg := 1, purpose := 0, origin := 0, lifetime := 0, notAfter := 0, bytes := [] }
      let s := { up with keys := { slots := [(1023, { nxt := some k })] } }
      decide (Row (cmd 0x0E08 [(2, 1023)]) s ∧ (tget {} s.keys.slots 1023).nxt.isSome = true)),
     decide (Row (cmd 0x0E0C [(2, 1)]) up)] := by decide +kernel

/-- A compatibility deposit of one record, bound to this module. -/
def depositHead : List Byte := [0x53, 0x50, 0x4B, 0x44] ++ le 2 2 ++ zeros 2 ++ le 8 1

def deposit : List Byte := depositHead ++ (padTo 48 (padTo 16 Config.serial) ++ (le 2 1 ++ zeros 238))

/-- Its record clears slot 0. -/
def clearRec : List Byte := le 2 0 ++ le 1 2 ++ zeros 61

theorem deposit_binding : sliceOf deposit 16 48 = padTo 48 (padTo 16 Config.serial) := by
  rw [sliceOf, deposit, List.drop_left' (by decide), List.take_left' (padTo_length 48 _)]

theorem deposit_rest (n : Nat) : deposit.drop (64 + n) = (le 2 1 ++ zeros 238).drop n := by
  rw [← List.drop_drop, deposit, ← List.append_assoc, List.drop_left' (by simp [depositHead])]

theorem deposit_field (o n : Nat) : leAt deposit (64 + o) n = leAt (le 2 1 ++ zeros 238) o n := by
  rw [leAt, leAt, sliceOf, sliceOf, deposit_rest]

/-- The deposit is applied wherever its signature verifies and its records open: nothing else in it is amiss. -/
theorem witness_KeyCommands_deposit
    (hv : Config.verify Config.depositRoot (deposit.take 208) (sliceOf deposit 208 96) = true)
    (hg : Config.gcmOpen Config.compatKey (sliceOf deposit 68 12) (deposit.take 128) (sliceOf deposit 128 64)
      (sliceOf deposit 192 16) = some clearRec) :
    sessionFull { total := 304, got := deposit, at_ := 0 } = true ∧ depositBad deposit = none ∧ dpFormat deposit = 2 ∧
      openDeposit up deposit = some clearRec ∧ bindingOk deposit = true ∧ up.keys.store.counter < dpCounter deposit ∧
      recordsBad (dpNrec deposit) clearRec = none := by
  have hf : dpFormat deposit = 2 := rfl
  have hn : dpNrec deposit = 1 := (deposit_field 0 2).trans (by decide)
  have hl : deposit.length = 304 := by simp [deposit, depositHead]
  have hz : zerosAt deposit 80 48 = true := by rw [zerosAt, deposit_field 16 48]; decide
  have h66 : leAt deposit 66 2 = 0 := (deposit_field 2 2).trans (by decide)
  have h6 : leAt deposit 6 1 = 0 := rfl
  have h7 : leAt deposit 7 1 = 0 := rfl
  have h12 : leAt deposit 12 4 = 0 := rfl
  have h0 : sliceOf deposit 0 4 = [0x53, 0x50, 0x4B, 0x44] := rfl
  refine ⟨by simp [sessionFull, hl], ?_, hf, ?_, ?_, by rw [show dpCounter deposit = 1 from rfl]; decide, by rw [hn]; decide +kernel⟩
  · simp [depositBad, hf, hn, hl, hz, h66, h6, h7, h12, h0]
  · have ht : testRooted up deposit = false := by simp [testRooted, up, State.reset]
    simp [openDeposit, signerOf, hf, hn, ht, hv, hg]
  · simp [bindingOk, hf, deposit_binding]

theorem witness_PowerCommands : All
    [decide (Row (cmd 0x1001) up), decide (Row (cmd 0x1002 [(1, 10)]) up ∧ energyRuns up = false),
     (let s := { up with met := { interval := some { duration := 10, start := 0, energy0 := 0, pcs0 := 0, running := false } } }
      let c := cmd 0x1003 [] [] 0 24
      decide (Row c s ∧ Takes c (having c s) 24)),
     decide (Row (cmd 0x1004 [(1, 1)]) { up with pwr := { up.pwr with cfg := fset {} pGating 1 } } ∧ fread (fset {} pGating 1) pGating = 1),
     decide (Row (cmd 0x1004 [(1, 0)]) { up with pwr := { up.pwr with cfg := fset {} pGating 1 } } ∧ fread (fset {} pGating 1) pGating ≠ 0 ∧
       lanePoolRuns up = true),
     decide (lanePoolRuns { up with pwr := { up.pwr with phase := 8, cfg := fset {} pGating 1 } } = false),
     decide (Row (cmd 0x1005) up ∧ up.met.holdup = none ∧ 11500 ≤ up.pwr.vin ∧ up.pwr.holdupReady = true), decide (Row (cmd 0x1006) up),
     decide (Row (cmd 0x1007 [(1, 0x55)]) up), decide (Row (cmd 0x1008) up ∧ up.svc.state ≠ .inService)] := by decide +kernel

/-- Rings of 256 entries: the last index, one past it, and a full turn. -/
theorem witness_Doorbells : All
    [decide (hostUp up = true ∧ 255 < sqLen (win up 512) ∧ unfetched (win up 512) + (255 + sqLen (win up 512) - 0) % 256 < 256 ∧
       sqLen (win up 512) = 256), decide (sqLen (win up 512) ≤ 256),
     decide (sqLen (win up 1) - 1 < unfetched { win up 1 with sqTail := 5 } + (4 + 256 - 5) % 256),
     decide (cqLen (win up 0) = 256 ∧ 0 < cqLen (win up 0) ∧ (0 + 256 - 0 % 256) % 256 ≤ unconsumed (win up 0)),
     decide (unconsumed (win up 0) < (1 + 256 - 0 % 256) % 256),
     decide ((win { up with wins := [(1, { pasid := some 3 })] } 1).pasid.isSome = true), decide ((win up 1).pasid = none)] := by
  decide +kernel

/-- Slice 1 with a PASID, so that its station rings may be written. -/
def bound (g : Cfg) : State := { up with wins := [(1, { pasid := some 3, cfg := g })] }

def turned (r : Option Cfg) (d : Desc) (v : Bool) : Bool :=
  match r with
  | some g => fon g d == v
  | none => false

theorem witness_RingEnables : All
    [turned (winWrite 1 0x010 (regRead (winFields 1) 0x010 {} + 0x100) (bound {})) wEnable true && !fon (win (bound {}) 1).cfg wEnable,
     turned (winWrite 1 0x010 (regRead (winFields 1) 0x010 {} + 0x100) (bound (fset {} wEnable 1))) wEnable true,
     turned (winWrite 1 0x010 (regRead (winFields 1) 0x010 {}) (bound (fset {} wEnable 1))) wEnable false && fon (win (bound (fset {} wEnable 1)) 1).cfg wEnable,
     turned (winWrite 1 0x048 (regRead (winFields 1) 0x048 {} + 0x10000) (bound {})) wRxEn true, turned (winWrite 1 0x048 (regRead (winFields 1) 0x048 {}) (bound (fset {} wRxEn 1))) wRxEn false,
     turned (winWrite 1 0x068 (regRead (winFields 1) 0x068 {} + 0x10000) (bound {})) wTxEn true, turned (winWrite 1 0x068 (regRead (winFields 1) 0x068 {}) (bound (fset {} wTxEn 1))) wTxEn false,
     (winWrite 1 0x010 0x199 (bound (fset {} wEnable 1))).isNone && bitOf 0x199 8] := by
  decide +kernel

theorem witness_ClaimComplete : All
    [(let s : State := { up with adm := { up.adm with pend := 0x2000 } }
      decide (hostUp s = true ∧ ntfBest (ntf s 0) (ntfReady s 0 0) = some 13)),
     decide (hostUp up = true ∧ ntfBest (ntf up 0) (ntfReady up 0 0) = none),
     (let s : State := { up with ntfs := [(512, { pend := 0x400, route := 0x300000 })] }
      decide (hostUp s = true ∧ ntfBest (ntf s 512) (ntfReady s 512 3) = some 10)),
     decide (ntfBest (ntf up 512) (ntfReady up 512 3) = none),
     (let s : State := { up with ntfs := [(512, { claimed := 0x400, again := 0x400 })] }
      decide (bitOf (ntf s 512).claimed 10 = true ∧ 10 < ntfSources 512 ∧ bitOf (ntf s 512).again 10 = true)),
     decide (bitOf (ntf up 1).claimed 10 = false), decide (ntfSources 1 ≤ 11), decide (ntfSources 0 ≤ 15)] := by decide +kernel

/-- The counter of operating seconds, 64 bits wide, and its high word (R54). -/
theorem witness_RegisterReads : All
    [decide (hostUp up = true ∧ msixOpen up = true), decide (0x6030 % 4 = 0 ∧ pairSeen up 0x6030 = some 0),
     (let s : State := { up with pcie := { up.pcie with latches := [(0x6030, 65535, 7)] } }
      decide (hostUp s = true ∧ msixOpen s = true ∧ pairSeen s (0x6030 + 4) = none ∧ (pairSeen s 0x6030).isSome = true ∧
        latchOf 0x6030 65535 s.pcie.latches = some 7)),
     (let s : State := { up with arc := { room := [(15, { folio := 1, off := 0, slice := 0 })], folios := [(1, folio)] } }
      decide (hostUp s = true ∧ (tfind s.arc.room (0xFFFFFFC / 0x1000000)).isSome = true ∧ 0xFFFFFFC % 4096 ≤ 4092 ∧
        (tfind s.arc.folios 1).isSome = true)),
     decide (tfind up.arc.room (0xFFFFFFC / 0x1000000) = none)] := by decide +kernel

theorem witness_RegisterWrites : All
    [decide (0x1010 % 4 = 0 ∧ reaches up 0x1010 = true ∧ 0xFFFFFFFF < 2 ^ 32), decide (0x1013 % 4 ≠ 0 ∧ regsOpen up = true),
     decide (msixOpen up = true ∧ regsOpen up = true), decide (4 ≤ up.pwr.phase ∧ up.pcie.down = false ∧ bitOf 1 0 = true),
     decide (hostUp up = true),
     (let s : State := { up with pcie := { up.pcie with pba := [2047] } }
      decide (msixOpen s = true ∧ 2047 < 2048 ∧ 2047 ∈ s.pcie.pba)), decide (2047 ∉ up.pcie.pba)] := by decide +kernel

/-- A window with one entry to fetch. -/
def oneEntry (n : Nat) (s : State) : State := { s with wins := [(n, { cfg := fset {} wEnable 1, enabled := true, sqTail := 1 })] }

def rd0 : Rd := { tag := 9, purpose := .entry 0, addr := 0, len := 64, attempt := 0, at_ := 0 }

def reading (r : Rd) (t : Nat) : State := { up with clk := t, pcie := { up.pcie with reads := [r] } }

def faultOf (n : Nat) (s : State) : Bool :=
  match takeTurn n s with
  | some t => (atuCheck t n (sqAddr (win t n) (win t n).sqHead) 64 false).isSome
  | none => false

theorem witness_MailboxEvents : All
    [(takeTurn 0 (oneEntry 0 up)).isSome && !faultOf 0 (oneEntry 0 up), faultOf 512 (oneEntry 512 up),
     decide ((reading rd0 0).pcie.reads.find? (fun x => x.tag == rd0.tag) = some rd0),
     (let s := reading rd0 50000000
      decide (rd0.at_ + cto s ≤ s.clk ∧ wanted s rd0 = true ∧ rd0.attempt = 0)),
     (let r := { rd0 with attempt := 1 }
      let s := reading r 50000000
      decide (s.pcie.reads.find? (fun x => x.tag == r.tag) = some r ∧ r.at_ + cto s ≤ s.clk ∧ wanted s r = true ∧ r.attempt ≠ 0)),
     (let r := { rd0 with purpose := .buffer ⟨0, 1⟩ }
      let s := reading r 50000000
      decide (s.pcie.reads.find? (fun x => x.tag == r.tag) = some r ∧ r.at_ + cto s ≤ s.clk ∧ wanted s r = false))] := by
  decide +kernel

def txDesc0 : TxDesc := ⟨60, true, true, false, false, 0, 0⟩

/-- One frame of one descriptor is posted, with a translation table. -/
def posted (l : List AtuEntry) : State := { up with
  wins := [(1, { pasid := some 3, txTail := 1, cfg := fset {} wTxEn 1 })]
  atu := { entries := l } }

/-- One page that holds ring and buffer, wherever the buffer's address, a free value, lies. -/
def wholePage : AtuEntry := { slice := 1, addr := 0, bus := 0, log2 := Config.free 3 0 + 12, access := 3 }

theorem witness_TxFrameFetch :
    txReady (posted [wholePage]) 1 [txDesc0].length = true ∧
    txFault (posted [wholePage]) 1 (win (posted [wholePage]) 1).txHead [txDesc0].length = none ∧
    txBufFault (posted [wholePage]) 1 (posted [wholePage]).fresh [txDesc0] = none := by
  have h1 : Config.free 3 0 < 2 ^ Config.free 3 0 := Nat.lt_two_pow_self
  have h2 : 2 ^ (Config.free 3 0 + 12) = 2 ^ Config.free 3 0 * 4096 := by rw [Nat.pow_add]
  have h0 : 0 < 2 ^ Config.free 3 0 := Nat.pow_pos (by decide)
  have h3 : 0 < 2 ^ (Config.free 3 0 + 12) ∧ 32 ≤ 2 ^ (Config.free 3 0 + 12) := by omega
  have h4 : Config.free 3 0 < 2 ^ (Config.free 3 0 + 12) ∧ 60 ≤ 2 ^ (Config.free 3 0 + 12) - Config.free 3 0 := by omega
  refine ⟨by decide +kernel, ?_, ?_⟩
  · have ha : txAddr (win (posted [wholePage]) 1) (win (posted [wholePage]) 1).txHead = 0 := by decide +kernel
    simp only [txFault, List.length_cons, List.length_nil, atuCheck, ha]
    simp [atuWalk, atuHit, atuAllows, posted, wholePage, bitOf, h3]
  · have hf : (posted [wholePage]).fresh = 0 := rfl
    simp only [txBufFault, atuCheck, hf]
    simp [atuWalk, atuHit, atuAllows, posted, wholePage, txDesc0, bitOf, h4]

theorem witness_TxFrameFetch_fault : All
    [decide (txReady (posted []) 1 [txDesc0].length = true ∧ (txFault (posted []) 1 (win (posted []) 1).txHead [txDesc0].length).isSome = true)] := by
  decide +kernel

def completing (n : Nat) (w : Window) : State :=
  { up with wins := [(n, w)], cmds := [{ (cmd 0x0101 [] [] n) with phase := .completing }] }

def isCompleting (n : Nat) (w : Window) : Bool :=
  ((completing n w).cmds.find? (fun c => c.id == ⟨n, 1⟩ && c.phase == .completing)).isSome && !(completing n w).pcie.down

theorem witness_CompletionAndResetEvents : All
    [(let c := { (cmd 0x0101) with phase := .executing }
      let s : State := { up with cmds := [c], clk := 10 ^ 12 }
      decide (s.cmds.find? (fun c => c.id == ⟨0, 1⟩ && executing c) = some c ∧ committed s c = false ∧ c.started + effTimeout s c ≤ s.clk)),
     isCompleting 0 {} && decide (cqFull (win (completing 0 {}) 0) = false ∧
       atuCheck (completing 0 {}) 0 (cqAddr (win (completing 0 {}) 0) 0) 32 true = none),
     isCompleting 0 { cqFailed := true } && decide ((win (completing 0 { cqFailed := true }) 0).cqFailed = true),
     isCompleting 0 { cqIdx := 255 } && cqFull (win (completing 0 { cqIdx := 255 }) 0),
     !cqFull (win (completing 0 { cqIdx := 254 }) 0),
     isCompleting 0 {} && !busOff (completing 0 {}),
     busOff { completing 0 {} with pcie := {} },
     isCompleting 1 {} && (atuCheck (completing 1 {}) 1 (cqAddr (win (completing 1 {}) 1) 0) 32 true).isSome] := by decide +kernel

/-- Instance 512 waits for a restart at its next boundary. -/
def restarting : State := { up with
  insts := [(512, { st := .held, restart := some { kind := .restart, cmd := none, target := none, start := 0 } })]
  doms := [(0, { boundary := [⟨16, 262144, 10 ^ 13⟩] })] }

theorem witness_InstanceEvents : All
    [(restartDue restarting 512).isSome,
     (let s := withInst 1 { running with freezeReq := some none, freezeAt := some 262144 } up
      decide ((inst s 1).freezeReq = some none ∧ (inst s 1).st = .running ∧ (inst s 1).freezeAt = some 262144)),
     (let s : State := { up with insts := [(1, { st := .held, freezeReq := some none })], doms := [(0, { kept := [⟨16, 4194304, 10⟩] })] }
      decide ((inst s 1).freezeReq = some none ∧ (inst s 1).st = .held ∧ (heldFreeze s 1 none).isSome = true)),
     (let r : ResetRun := { clear := false, start := 0, cmd := none, aborted := 0, unwritten := 0 }
      let s := withInst 1 { held with reset := some r } { up with clk := 1000000 }
      decide ((inst s 1).reset = some r ∧ r.start + 1000000 ≤ s.clk)),
     (let r : ResetRun := { clear := false, start := 1, cmd := none, aborted := 0, unwritten := 0 }
      let s := withInst 1 { held with reset := some r } { up with clk := 1000000 }
      decide ((inst s 1).reset = some r ∧ s.clk < r.start + 1000000)),
     domRestartDue { up with waits := [⟨.domRestart 15, none, 0⟩], doms := [(15, { ahead := [⟨64, 1048576, 10 ^ 13⟩] })] } 15] := by
  decide +kernel

def atPhase (n : Nat) : State := { State.reset with pwr := { phase := n, rails := 8 } }

theorem witness_PowerUp : All
    [decide ({ State.reset with pwr := { good := false } }.pwr.good = false), decide ({ State.reset with pwr := { pfw := .entered } }.pwr.pfw = .entered),
     (let s : State := { State.reset with pwr := { rails := 7 } }
      decide (s.pwr.good = true ∧ s.pwr.rails < 8 ∧ s.pwr.fail = false)),
     phaseIs 0 State.reset && !State.reset.pwr.soft, decide (phaseIs 0 { State.reset with pwr := { soft := true } } = true),
     phaseIs 2 (atPhase 2), phaseIs 3 (atPhase 3) && !(atPhase 3).pwr.soft, decide (phaseIs 3 { State.reset with pwr := { soft := true, phase := 3 } } = true),
     phaseIs 4 (atPhase 4), phaseIs 5 (atPhase 5), phaseIs 6 (atPhase 6), phaseIs 7 (atPhase 7),
     decide (phaseIs 8 (atPhase 8) = true ∧ (atPhase 8).svc.state = .boot ∧ (atPhase 8).pwr.bootFault = false),
     (let s : State := { up with pwr := { up.pwr with resetDue := true } }
      decide (s.pwr.resetDue = true ∧ s.pwr.good = true ∧ s.pwr.pfw = .idle)),
     decide (State.reset.pwr.good = true ∧ State.reset.pwr.pfwArmed = false)] := by decide +kernel

/-- The power-fail sequence stands at a step, at a time. -/
def failing (p : PfwStep) (t : Nat) : State := { up with clk := t, pwr := { up.pwr with pfw := p, pfwAt := 0 } }

def failsAt (p : PfwStep) (t : Nat) : Bool :=
  decide ((failing p t).pwr.good = true ∧ (failing p t).pwr.pfw = p ∧ (failing p t).pwr.pfwAt + t ≤ (failing p t).clk)

theorem witness_PowerFail : All
    [decide (up.pwr.good = true ∧ up.pwr.pfwArmed = true ∧ up.pwr.pfw = .idle), failsAt .warned 100000, failsAt .outputsOff 500000,
     failsAt .gasped 600000, failsAt .linksDown 1000000, failsAt .pcieDown 4000000,
     decide ((failing .entered 0).pwr.good = true ∧ (failing .entered 0).pwr.pfw ≠ .idle)] := by decide +kernel

theorem witness_FaultEvents : All
    [decide (up.pwr.good = true ∧ up.pwr.therm = false ∧ trpAlarm up ≤ tempOf 0x7FFF),
     (let s : State := { up with pwr := { up.pwr with therm := true } }
      decide (s.pwr.good = true ∧ s.pwr.therm = true ∧ tempOf 0x8000 < trpAlarm s)), decide (1760 ≤ tempOf 1760),
     decide (7 < 8 ∧ up.pwr.fail = false), decide ({ up with met := { holdup := some 0 } }.met.holdup.isSome = true),
     (let i : Energy := { duration := 10, start := 0, energy0 := 0, pcs0 := 0, running := true }
      let s : State := { up with clk := 10 * 10 ^ 9, met := { interval := some i } }
      decide (s.met.interval = some i ∧ i.running = true ∧ i.start + i.duration * 1000000000 ≤ s.clk)), decide (up.pwr.pfw = .idle)] := by
  decide +kernel

def plain : Frame := ⟨0, 0, none, 64, 0, none, .supervision⟩

def copyOf (f : Frame) (cls : Nat) : Copy :=
  { fid := 0, frame := f, cls := cls, ingress := 0, arrival := 0, stamp := 0, notTraceable := true, own := 0, com := 0 }

/-- Frames wait on a port in one class. -/
def queued (p c : Nat) (l : List Copy) (s : State) : State := { s with sw := { s.sw with eg := [(p, { queues := [(c, l)] })] } }

/-- Port 47 in a state, with forwarding on. -/
def withPort (q : Port) : State := { up with sw := { up.sw with forwarding := true }, ports := [(47, q)] }

/-- A process port. -/
def procCfg : Cfg := fset {} prRole 1

def linked : Port := { cfg := procCfg, link := true }

/-- Every gate open for 1 ms, in a cycle of as much. -/
def gcl0 : Gcl := ⟨0, 1000000, [(255, 1000000)]⟩

/-- Port 47 under gate control in service, at time 10. -/
def gated (q : Port) : State :=
  { withPort { q with cfg := fset procCfg prGclEn 1 } with svc := { state := .inService }, time := { up.time with n := 10 } }

theorem witness_PortEvents : All
    [portReceives (withPort linked) 47,
     (let s := queued 47 7 [copyOf plain 7] (withPort linked)
      portOpen s 47 && (readyClass (ageAll 47 s) 47 8).isSome),
     (let s := withPort { cfg := procCfg }
      decide (s.sw.forwarding = true ∧ (port s 47).held = false ∧ (port s 47).txOff = false ∧ portf s 47 prRole ≠ 0 ∧
        (port s 47).link = false ∧ speedOk (port s 47) 1 = true)),
     (let s := { withPort { cfg := procCfg, frozen := true } with clk := 10000000 }
      decide ((port s 47).frozen = true ∧ (port s 47).link = false ∧ (port s 47).frozenAt + 10000000 ≤ s.clk)),
     (let s := { withPort { linked with paused := true } with clk := 10000000 }
      decide ((port s 47).paused = true ∧ (port s 47).wdActive = false ∧
        (port s 47).pausedSince + fval (port s 47).cfg prPauseWd * 1000000 ≤ s.clk ∧ (port s 47).pauseEnd ≤ s.clk)),
     (let s := { withPort { linked with wdActive := true } with clk := 1000000000 }
      decide ((port s 47).wdActive = true ∧ (port s 47).lastPause + 1000000000 ≤ s.clk)),
     decide ((withPort {}).sw.forwarding = true ∧ portf (withPort {}) 47 prRole = 0),
     (let s := { withPort linked with clk := 10000000 }
      decide ((port s 47).link = true ∧ portf s 47 prVerifyEn = 1 ∧ (port s 47).verify ≠ 2 ∧
        (port s 47).verifyAt + portf s 47 prVerifyTime * 1000000 ≤ s.clk)),
     (let s := gated { link := true, gcl := some gcl0, gatesRun := true, gateEnd := 10 }
      decide ((port s 47).gcl = some gcl0 ∧ gatesWanted s 47 = true ∧ (port s 47).gatesRun = true ∧ (port s 47).gateEnd ≤ s.time.n)),
     (let s := gated { link := true, gcl := some gcl0, gateAt := some 10 }
      decide ((port s 47).gcl = some gcl0 ∧ gatesWanted s 47 = true ∧ (port s 47).gatesRun = false ∧ (port s 47).gateAt = some 10 ∧
        10 ≤ s.time.n)),
     (let s := gated { link := true, gclNext := some (gcl0, 10) }
      decide ((port s 47).gclNext = some (gcl0, 10) ∧ 10 ≤ s.time.n ∧ busyTx s 47 = false ∧ gatesWanted s 47 = true)),
     (let s := gated { link := true, gclNext := some (gcl0, 10), busyUntil := 1 }
      decide ((port s 47).gclNext = some (gcl0, 10) ∧ 10 ≤ s.time.n ∧ busyTx s 47 = true ∧ gatesWanted s 47 = true ∧
        gatesWanted (count 47 17 s) 47 = true)),
     (let s := queued 47 7 [{ copyOf plain 7 with launch := some 0 }] (withPort linked)
      decide (launchClass s 47 8 = some 7 ∧ portOpen s 47 = true ∧ (classReady s 47 7).isSome = true)),
     (let q := { copyOf plain 0 with launch := some 0 }
      let s := queued 47 0 [q] (withPort { linked with paused := true })
      decide (launchClass s 47 8 = some 0 ∧ portOpen s 47 = false ∧ queueOf s 47 0 = [q])),
     (let q := { copyOf plain 0 with launch := some 0 }
      let s := queued 47 0 [q] (withPort { linked with busyUntil := 1 })
      decide (launchClass s 47 8 = some 0 ∧ classReady s 47 0 = none ∧ queueOf s 47 0 = [q]))] := by decide +kernel

/-- A redundancy pair that is enabled, its last supervision frame two seconds old. -/
def supPair : RPair := { cfg := fset {} rpEnable 1 }

def supping : State := { withPort linked with clk := 2000000000, sw := { up.sw with forwarding := true, pairs := [(23, supPair)] } }

theorem witness_SwitchEvents : All
    [stockDue { withPort linked with clk := 1000000000 },
     decide (tfind supping.sw.pairs 23 = some supPair), fon supPair.cfg rpEnable, supping.sw.forwarding,
     Nat.ble (supPair.supAt + 2000000000) supping.clk] := by
  decide +kernel

def svFrame0 : Frame := { plain with payload := .sv ⟨0x4000, false, none, true, 1, [⟨[0x53], 0, 2, 1, none, none, [5], [0]⟩]⟩ }

/-- The last sample of a stream that runs; the next sample is not known. -/
def smp0 : Smp := { n := 5, t := 0, w := 0, cnt := 5, vals := [] }

def streamNow : Stream := { desc := svDesc 0, state := .running, next := some 6, final := [smp0] }

def det0 : Det := { event := some (true, 65536, 9) }

/-- Domain 15 in a state. -/
def withDom (x : Dom) : State := { up with doms := [(15, x)] }

def inDom (x : Dom) (p : Dom → Bool) : Bool := p (dom (withDom x) 15)

theorem witness_StreamAndDomainEvents : All
    [(let s := queued 48 6 [copyOf svFrame0 6] up
      match takeFrom 48 isSv 8 s with
      | some (_, t) => ingestRuns t && !joining s 3
      | none => false),
     (let s : State := { up with sv := { streams := [(2047, streamNow)] }, time := { up.time with n := 10 ^ 15 } }
      decide ((tfind s.sv.streams 2047) = some streamNow ∧ streamNow.state ≠ .held ∧ s.tdm.standalone = true ∧
        nextUnknown streamNow = some 6 ∧ missingDue s streamNow 6 = true)),
     (let s : State := { up with sv := { streams := [(2047, streamNow)] }, clk := 10 ^ 11 }
      decide ((tfind s.sv.streams 2047) = some streamNow ∧ streamNow.state = .running ∧
        streamNow.lastAt + fval streamNow.cfg sTimeout * 1000000 ≤ s.clk)),
     (let s : State := { up with filt := { dets := [(1023, det0)] } }
      decide (tfind s.filt.dets 1023 = some det0 ∧ det0.event = some (true, 65536, 9))),
     inDom { mode := .track, lockRun := 512 } (fun x => x.mode == .track && !x.lock && decide (512 ≤ x.lockRun)),
     inDom { mode := .hold, lock := true, holdRun := 3200 } (fun x => x.mode == .hold && x.lock && decide (fval x.cfg aCoastMax * 64 ≤ x.holdRun)),
     inDom { mode := .coast, coastRun := 3200 } (fun x => x.mode == .coast && decide (fval x.cfg aCoastMax * 64 ≤ x.coastRun)),
     inDom { mode := .coast, fd := true, fdClear := 128 } (fun x => x.mode == .coast && x.fd && decide (fval x.cfg aHoldoff * 64 ≤ x.fdClear)),
     inDom { mode := .track, fd := true, fdClear := 128 } (fun x => x.mode != .coast && x.fd && decide (fval x.cfg aHoldoff * 64 ≤ x.fdClear)),
     inDom { setB := true, aRun := 64 } (fun x => x.setB && decide (64 ≤ x.aRun)),
     inDom { mode := .glide, anyRun := 64 } (fun x => !x.setB && x.mode == .glide && decide (64 ≤ x.anyRun)),
     inDom { mode := .acquire, pass := 2, passN := 128 } (fun x => passDone x && !(acquirePass x).2)] := by decide +kernel

/-- A pair whose next grid sample's instant is fixed; its channel has no stream. -/
def producing : State := { up with
  filt := { pairs := [{ chan := 16383, dom := 15, next := 1 }] }
  doms := [(15, { running := true, ahead := [⟨1, 16384, 0⟩] })] }

/-- A domain that runs, at a boundary. -/
def bounding : State := withDom { running := true, boundary := [⟨2, 32768, 0⟩] }

def job0 (done : Bool) : Job := { inst := 512, slot := 64, gslot := 32767, epoch := 1, trip := true, word := 0, rs := {}, above := 0, complete := done }

/-- A step in progress with one evaluation. -/
def stepping (done : Bool) (t : Nat) : State :=
  { withDom { running := true, stepOpen := true } with clk := t, lanes := { steps := [(15, ⟨1, 32768, 0, 2, 0, [job0 done]⟩)] } }

def stepSt (done : Bool) (t : Nat) (p : Bool) : Bool :=
  decide ((dom (stepping done t) 15).stepOpen = true) &&
    match tfind (stepping done t).lanes.steps 15 with
    | some r => allComplete r == p
    | none => false

theorem witness_StepEvents : All
    [(match pairAt producing 16383 15 with
      | some p => pipeUp producing && (producePair producing p).isSome
      | none => false),
     decide ((dom bounding 15).boundary = [⟨2, 32768, 0⟩] ∧ pipeUp bounding = true ∧ (dom bounding 15).running = true ∧
       (dom bounding 15).stepOpen = false ∧ boundaryBusy bounding 15 = false ∧
       inputsReady bounding 15 2 (stepIndex (dom bounding 15) 32768) = true ∧
       boundaryBusy (atBoundary 15 ⟨2, 32768, 0⟩ bounding) 15 = false),
     (jobAt (stepping false 0) 512 64).isSome, stepSt true 0 true, stepSt false 0 false,
     stepSt false (10 ^ 9) false && decide (stepNs (dom (stepping false 0) 15) (fmaxRaw (dom (stepping false 0) 15).cfg) ≤ 10 ^ 9),
     decide ((stepping false (10 ^ 10)).lanes.testAt + 10000000000 ≤ (stepping false (10 ^ 10)).clk ∧
       (stepping false (10 ^ 10)).lanes.steps ≠ []),
     decide ({ up with clk := 10000000000 }.lanes.testAt + 10000000000 ≤ { up with clk := 10000000000 }.clk ∧ up.lanes.steps = []),
     decide (pipeUp up = true ∧ up.tdm.standalone = true ∧ sweepFree up = true),
     (let w : SweepIn := ⟨7, 0, [], []⟩
      let s : State := { up with tdm := { up.tdm with standalone := false, sweepTodo := [w] } }
      decide (pipeUp s = true ∧ s.tdm.standalone = false ∧ joining s 5 = false ∧ s.tdm.sweepTodo = [w]))] := by decide +kernel

/-- Output 7, owned by a running instance, in a state, at a time. -/
def withOut (o : Outp) (t : Nat) : State :=
  { withInst 1 { running with cfg := fset {} iOutputs 0x80, svc := 1 } up with clk := t, trip := { outs := [(7, o)] } }

def onOut (o : Outp) (t : Nat) (p : Outp → Bool) : Bool := p (outp (withOut o t) 7)

def test0 : OutTest := { start := 0, step := 4 }

theorem witness_OutputAndInputEvents : All
    [outActs (withOut {} 0) 7, onOut { energised := true } 100000000 (fun o => o.energised && decide (o.energAt + fval o.cfg oMinPulse * 1000000 ≤ 100000000)),
     onOut { energised := true, cfg := fset {} oMaxPulse 1 } 10000000 (fun o => o.energised && fval o.cfg oMaxPulse != 0 &&
       decide (o.energAt + fval o.cfg oMaxPulse * 10000000 ≤ 10000000)),
     onOut { energised := true, triph := true, tripl := true } 2000000 (fun o => o.energised && o.triph && o.tripl && !o.energSeen &&
       fon o.cfg oSupEn && decide (o.energAt + fval o.cfg oEnergTime * 100000 ≤ 2000000) &&
       decide (fval o.cfg oEnergMin ≤ 1000) && decide (999 < fval o.cfg oEnergMin)),
     onOut {} 0 (fun o => fon o.cfg oSupEn && !o.energised && o.test.isNone && decide (fval o.cfg oSupMin ≤ 100 ∧ 100 ≤ fval o.cfg oSupMax) &&
       decide (fval o.cfg oSupMin ≤ 400 ∧ 400 ≤ fval o.cfg oSupMax)),
     onOut { outWindows := 9 } 0 (fun o => fon o.cfg oSupEn && !o.energised && o.test.isNone && decide (99 < fval o.cfg oSupMin) &&
       decide (fval o.cfg oSupMax < 401) && decide (9 ≤ o.outWindows)),
     testReady (withOut {} (10 * 10 ^ 9)) 7, onOut { test := some test0 } 1200000 (fun o => decide (o.test = some test0 ∧ test0.start + testAt test0.step ≤ 1200000)),
     onOut { discSince := some 0 } 100000000 (fun o => decide (o.discSince = some 0 ∧ fon o.cfg oBkEn = true ∧ o.outDisc = false ∧
       0 + fval o.cfg oDiscTime * 1000000 ≤ 100000000)),
     (let s : State := { up with sig := { x3 := { running := true } } }
      decide (s.sig.x3.running = true ∧ bitOf s.sig.x3.state 19 ≠ true)),
     decide (up.pwr.good = true ∧ up.pwr.rails ≠ 0 ∧ up.sig.x3.running = false ∧ bitOf up.sig.x3.pins 19 ≠ true)] := by decide +kernel

/-- Publication 31 of a running instance. -/
def publishing (u : Pub) (t : Nat) : State :=
  { withInst 1 { running with svc := 1, pubs := [(31, u)] } up with clk := t }

def waitingPub (l : Launch) : Pub := { desc := pubDesc, live := true, pending := some (1, l) }

def gooseFrame0 : Frame := { plain with payload := .goose ⟨0, false, none, true, [], [], [], 1, 1, 0, 1000, 0, 0, true, false, false, 1, [⟨0, 1⟩]⟩ }

def runsOn (l : Launch) (locked : Bool) : Bool :=
  let s := publishing (waitingPub l) 0
  let k := freezeLaunch (dom s (instDom (inst s 1))) s.time.n l
  decide ((tfind (inst s 1).pubs 31) = some (waitingPub l)) && pubActs s 1 && k.frozen && (k.notLocked == !locked) &&
    decide (k.due ≤ s.time.n + 327680000)

theorem witness_GooseEvents : All
    [runsOn ⟨0, false, 0, false⟩ false, runsOn ⟨327680000, false, 0, true⟩ true,
     (let u : Pub := { desc := pubDesc, live := true, running := true }
      let s := publishing u (10 ^ 12)
      decide (1 ≠ 0 ∧ tfind (inst s 1).pubs 31 = some u ∧ pubDue s u = true ∧ s.pwr.pfw = .idle)),
     (let u : Pub := { desc := pubDesc, running := true }
      let s : State := { up with clk := 10 ^ 12, trip := { alarmPub := some u } }
      decide (s.trip.alarmPub = some u ∧ pubDue s u = true ∧ s.svc.state ≠ .boot ∧ s.pwr.pfw = .idle)),
     (let s := queued 49 7 [copyOf gooseFrame0 7] up
      match takeFrom 49 isGoose 8 s with
      | some (_, t) => ingestRuns t && !joining s 3
      | none => false), decide (up.tdm.standalone = true)] := by decide +kernel

def announce0 : PtpMsg := { kind := .announce, domain := 0, seq := 0, srcId := 9, srcPort := 1, twoStep := false, correction := 0, origin := 0 }

def keeping (t : Time) (c : Nat) : State := { up with time := t, clk := c }

theorem witness_TimeEvents : All
    [(takeFrom 50 isPtpCopy 8 (queued 50 4 [copyOf { plain with payload := .ptp announce0 } 4] up)).isSome,
     (let s := keeping { source := 2, rejects := 3 } 0
      sourceGone s && decide (s.time.source ≠ 1)),
     (let s := keeping { source := 1 } 3000000000
      sourceGone s && decide (s.time.source = 1)),
     (let s := keeping { state := .holdover } 5000000000
      decide (s.time.state = .holdover ∧ s.time.holdAt + timef s tHoldover * 1000000000 ≤ s.clk)),
     decide (timef (keeping { cfg := fset {} tPpsInEn 1 } 0) tPpsInEn = 1), decide (timef (keeping { cfg := fset {} tFreqInEn 1 } 0) tFreqInEn = 1),
     (let s := keeping { cfg := fset {} tPpsOutMode 1, n := 20 * nsU } 0
      decide (ppsOutOn s = true ∧ (secondOffset ((s.time.n : Int) - fvalI s.time.cfg tPpsOff * nsU)).natAbs ≤ 20 * nsU))] := by
  decide +kernel

/-- A unit of a pair, at a time. -/
def inPair (t : Tandem) (c : Nat) : State := { up with clk := c, tdm := { t with standalone := false } }

theorem witness_LinkEvents : All
    [pairUp (inPair {} 0), decide (max (inPair {} 300000).tdm.lastA (inPair {} 300000).tdm.lastB + tdmf (inPair {} 300000) dLinkDead * 1000 ≤ 300000),
     (let s := inPair { laneA := true, laneB := true } 100000
      decide (pairUp s = true ∧ s.tdm.laneA = true ∧ s.tdm.lastA + 100000 ≤ s.clk ∧ s.tdm.laneB = true ∧ s.tdm.lastB + 100000 ≤ s.clk)),
     (let s := inPair { session := some 7 } 10000
      decide (pairUp s = true ∧ s.tdm.session.isSome = true ∧ s.tdm.lastSent + 10000 ≤ s.clk)),
     (let s := inPair {} 1000000
      decide (pairUp s = true ∧ s.tdm.session = none ∧ s.tdm.lastHello + 1000000 ≤ s.clk))] := by decide +kernel

def input0 : BInput :=
  { id := .goose 1 0 1 0, period := 0, ownAt := 0, ownMissing := false, peerCrc := none, peerMissing := false, forwarded := false, settled := none
    own := some (.sample ⟨[], 0, 2, 1, none, none, [], []⟩ false 0) }

def resyncing (n t : Nat) : State := inPair { role := .detached, phase := n, session := some 7, verified := 16, peerRole := some .active } t

theorem witness_BallotAndResyncEvents : All
    [(let s := inPair { inputs := [input0] } 100000
      decide (findInput s input0.id = some input0 ∧ input0.own.isSome = true ∧ input0.settled = none ∧ input0.peerCrc = none ∧
        input0.ownAt + tdmf s dFwdWait * 1000 ≤ s.clk)),
     (let s : State := { inPair { inStep := false } 0 with time := { up.time with n := periodT } }
      decide (pairUp s = true ∧ (s.tdm.ballot + 1) * periodT ≤ s.time.n ∧ s.tdm.inStep = false)),
     (let s : State := { inPair { inStep := true } 0 with time := { up.time with n := periodT } }
      decide (pairUp s = true ∧ (s.tdm.ballot + 1) * periodT ≤ s.time.n ∧ s.tdm.inStep = true)),
     (let s : State := { inPair { ballot := 2 } 0 with time := { up.time with n := deadlineT 1 } }
      decide (pairUp s = true ∧ settler s = true ∧ deadlineT (s.tdm.closed + 1) ≤ s.time.n ∧ s.tdm.closed + 1 < s.tdm.ballot)),
     pairUp (resyncing 1 0) && phaseDone (resyncing 1 0), phaseDone (resyncing 6 0), phaseDone (resyncing 4 (10 ^ 9)),
     (let s := resyncing 1 (10 ^ 9)
      decide (pairUp s = true ∧ s.tdm.role = .detached ∧ s.tdm.phase ≠ 0 ∧ s.tdm.phaseAt + phaseBound s s.tdm.phase < s.clk)),
     (let s := inPair { role := .detached, attempts := 1, session := some 7 } (10 ^ 9)
      decide (pairUp s = true ∧ s.tdm.role = .detached ∧ s.tdm.phase = 0 ∧ s.tdm.attempts = 1 ∧ s.tdm.session.isSome = true ∧
        s.tdm.failedAt + 1000000000 ≤ s.clk)),
     (let s := inPair { scrub := true, role := .isolated, roleCause := 8, disagreements := [0, 0] } 0
      let u := closeError 0x0902 noObj (updTdm (fun t => { t with scrub := false }) s)
      decide (s.tdm.scrub = true ∧ u.tdm.role = .isolated ∧ u.tdm.roleCause = 8 ∧
        (u.tdm.disagreements.filter fun x => decide (u.clk ≤ x + 3600000000000)).length < 3))] := by decide +kernel

theorem witness_RefereeEvents : All
    [pairUp (inPair {} 0),
     (let s := inPair { demote := 2 } 20000000
      decide (pairUp s = true ∧ 1 ≤ s.tdm.demote ∧ s.tdm.demote < 3 ∧ s.tdm.demoteAt + 2000000 ≤ s.clk ∧ s.tdm.demote ≠ 0 ∧
        s.tdm.demoteStart + tdmf s dDemote * 1000000 ≤ s.clk)),
     (let s := inPair {} 2000000
      decide (pairUp s = true ∧ s.tdm.lastHb + tdmf s dHbPeriod * 1000000 ≤ s.clk)),
     (let s := inPair { helloOpen := true } 100000000
      decide (pairUp s = true ∧ s.tdm.helloOpen = true ∧ s.tdm.helloAt + 100000000 ≤ s.clk)),
     (let s := inPair { peerGasp := 2 } 2000000
      decide (pairUp s = true ∧ 1 ≤ s.tdm.peerGasp ∧ s.tdm.peerGasp < 3 ∧ s.tdm.peerGaspAt + 2000000 ≤ s.clk)),
     (let s := inPair { ref0 := true, ref1 := true } 8000000
      decide (pairUp s = true ∧ s.tdm.ref0 = true ∧ s.tdm.refLast0 + 4 * tdmf s dHbPeriod * 1000000 ≤ s.clk ∧ s.tdm.ref1 = true ∧
        s.tdm.refLast1 + 4 * tdmf s dHbPeriod * 1000000 ≤ s.clk))] := by decide +kernel

/-- A recorder of a stream with one final sample, an open folio that is full, and a trigger. -/
def recordingOf (c : Recorder) : State := { up with
  clk := 10 ^ 10
  sv := { streams := [(2047, { streamNow with pushed := 1 })] }
  arc := { recs := [(255, c)], folios := [(9, { folio with closed := false })], trigs := [{ recorder := 255, cause := 8, t := 0, notTraceable := true }] } }

def armed0 : Recorder := { desc := recDesc, st := .armed }

/-- AUTO after 1 s. -/
def autoDesc : List Byte := sliceOf recDesc 0 18 ++ le 1 4 ++ le 1 0 ++ le 4 1000 ++ recDesc.drop 24

/-- The last folio of a recording that ends with it. -/
def lastFolio : Recorder :=
  { armed0 with st := .recording, cur := some { first := 9, folio := 9, trigT := 0, segs := 1, between := true } }

def hasRow (s : State) : Bool :=
  match tfind s.arc.recs 255 with
  | some c => recRuns c && (if rdKind c.desc = 0 then rawRow s c else gridRow s c).isSome
  | none => false

theorem witness_ArchiveEvents : All
    [hasRow (recordingOf { armed0 with input := some 0 }), (execTriggerAccept.pickTrig (recordingOf armed0) (recordingOf armed0).arc.trigs).isSome,
     (let c := { armed0 with desc := autoDesc }
      decide ((tfind (recordingOf c).arc.recs 255) = some c ∧ c.st = .armed ∧ rdFlag c.desc 2 = true ∧
        c.quietFrom + rdAuto c.desc * 1000000 ≤ (recordingOf c).clk)),
     decide ((tfind (recordingOf armed0).arc.folios 9).map (fun f => f.full && !f.closed) = some true ∧
       folioEnds (closeFolio 9 (recordingOf armed0)) 9 = none),
     decide ((tfind (recordingOf lastFolio).arc.folios 9).map (fun f => f.full && !f.closed) = some true ∧
       (folioEnds (closeFolio 9 (recordingOf lastFolio)) 9).isSome = true)] := by decide +kernel

def lapsing (t : Tandem) : State := { up with
  tdm := t
  met := { opsec := 5 }
  keys := { slots := [(1023, { cur := some { id := 1, alg := 1, purpose := 0, origin := 0, lifetime := 5, notAfter := 0, bytes := [] } })] } }

theorem witness_SignallingAndKeyEvents : All
    [(let s : State := { up with clk := 50000, ntfs := [(512, { held := 8, last := [(3, 0)], modInt := [(3, 50)] })] }
      decide (bitOf (ntf s 512).held 3 = true ∧ tfind (ntf s 512).last 3 = some 0 ∧ 0 + tget 0 (ntf s 512).modInt 3 * 1000 ≤ s.clk)),
     decide (up.pwr.good = true ∧ 4 ≤ up.pwr.phase ∧ up.chr.ok0 = true ∧ up.chr.ok1 = true),
     decide (lapseDue (lapsing {}) 1023 = true ∧ unitLive (lapsing {}) = true ∧ pairLeads (lapsing {}) = false),
     (let s := lapsing { standalone := false, inStep := true }
      decide (lapseDue s 1023 = true ∧ unitLive s = true ∧ pairLeads s = true)),
     (let x : Session := { total := 304, at_ := 0 }
      let s : State := { up with clk := 60000000000, keys := { session := some x }, upd := { up.upd with session := some x } }
      decide (s.keys.session = some x ∧ s.upd.session = some x ∧ x.at_ + 60000000000 ≤ s.clk)),
     (let s : State := { up with met := { opsec := 600 }, upd := { up.upd with run := 1, trialFrom := some 0, boot := { up.upd.boot with trial := some 1, trialState := 2 } } }
      decide (s.pwr.good = true ∧ s.pwr.pfw = .idle ∧ s.upd.trialFrom.isSome = true ∧ trialRuns s = true ∧ confirmLeft s = 0))] := by
  decide +kernel

end Sys2Proof.Tests
end

section
/-! SUPPORT. Reads of registers (R5, R6, R390) and of the Reading Room (R415): what the list of latched high words answers
after a latch is kept, and what each reading row does once its address is known. -/

namespace Sys2Proof.Machine

/-! ## The latched high words (R6) -/

theorem keepLatch_eq (p rid h : Nat) (l : List (Nat × Nat × Nat)) : keepLatch p rid h l =
    (p, rid, h) :: (l.filter fun e => e.1 == p && e.2.1 != rid).take 7 ++ l.filter fun e => e.1 != p := rfl

theorem latchOf_cons_same (p rid h : Nat) (l : List (Nat × Nat × Nat)) : latchOf p rid ((p, rid, h) :: l) = some h := by
  simp [latchOf]

/-- A latch of another pair or of another Requester is passed over. -/
theorem latchOf_cons_other {p q rid x : Nat} (h : Nat) (l : List (Nat × Nat × Nat)) (ne : p = q → rid ≠ x) :
    latchOf q x ((p, rid, h) :: l) = latchOf q x l := by
  have pass : (p == q && rid == x) = false := by simpa using ne
  simp [latchOf, pass]

theorem latchOf_append (q x : Nat) (l m : List (Nat × Nat × Nat)) :
    latchOf q x (l ++ m) = (latchOf q x l).or (latchOf q x m) := by
  simp [latchOf, List.find?_append, Option.map_or]

theorem latchOf_eq_none {q x : Nat} {l : List (Nat × Nat × Nat)} (absent : ∀ e ∈ l, e.1 = q → e.2.1 ≠ x) :
    latchOf q x l = none := by
  simpa [latchOf] using fun p r h mem => absent (p, r, h) mem

/-- A selection that keeps every latch of a pair and Requester answers for them as the whole list does. -/
theorem latchOf_filter {q x : Nat} {keep : Nat × Nat × Nat → Bool} (l : List (Nat × Nat × Nat))
    (kept : ∀ e : Nat × Nat × Nat, e.1 = q → e.2.1 = x → keep e = true) :
    latchOf q x (l.filter keep) = latchOf q x l := by
  have same : (fun e => decide (keep e = true ∧ (e.1 == q && e.2.1 == x) = true)) = fun e => e.1 == q && e.2.1 == x := by
    funext e
    rw [Bool.eq_iff_iff]
    simpa using kept e
  rw [latchOf, List.find?_filter, same, latchOf]

theorem latchOf_keepLatch_same (p rid h : Nat) (l : List (Nat × Nat × Nat)) :
    latchOf p rid (keepLatch p rid h l) = some h :=
  latchOf_cons_same ..

/-- The latches of this pair come first and answer nothing for another; those of other pairs all stay, in order. -/
theorem latchOf_keepLatch_other_pair {p q : Nat} (rid h x : Nat) (l : List (Nat × Nat × Nat)) (ne : q ≠ p) :
    latchOf q x (keepLatch p rid h l) = latchOf q x l := by
  have mine : latchOf q x ((l.filter fun e => e.1 == p && e.2.1 != rid).take 7) = none := by
    refine latchOf_eq_none fun e mem same => ?_
    obtain ⟨ofPair, -⟩ : e.1 = p ∧ e.2.1 ≠ rid := by simpa using (List.mem_filter.mp (List.mem_of_mem_take mem)).2
    exact absurd (same.symm.trans ofPair) ne
  have others : latchOf q x (l.filter fun e => e.1 != p) = latchOf q x l :=
    latchOf_filter l fun e hq _ => by simpa [hq] using ne
  rw [keepLatch_eq, List.cons_append, latchOf_cons_other _ _ fun eq => absurd eq.symm ne, latchOf_append, mine, others,
    Option.none_or]

/-- While at most seven other Requesters hold a latch of the pair, none of theirs is dropped. -/
theorem latchOf_keepLatch_other_requester {p rid x : Nat} (h : Nat) {l : List (Nat × Nat × Nat)} (ne : x ≠ rid)
    (room : (l.filter fun e => e.1 == p && e.2.1 != rid).length ≤ 7) :
    latchOf p x (keepLatch p rid h l) = latchOf p x l := by
  have mine : latchOf p x (l.filter fun e => e.1 == p && e.2.1 != rid) = latchOf p x l :=
    latchOf_filter l fun e hp hx => by simpa [hp, hx] using ne
  have others : latchOf p x (l.filter fun e => e.1 != p) = none :=
    latchOf_eq_none fun e mem hp => by simp [hp] at mem
  rw [keepLatch_eq, List.take_of_length_le room, List.cons_append, latchOf_cons_other _ _ fun _ => ne.symm,
    latchOf_append, mine, others, Option.or_none]

theorem keepLatch_length_le (p rid h : Nat) (l : List (Nat × Nat × Nat)) :
    (keepLatch p rid h l).length ≤ 1 + 7 + (l.filter fun e => e.1 != p).length := by
  rw [keepLatch_eq, List.length_append, List.length_cons, List.length_take]
  omega

/-- With eight other Requesters the last of them gives way. -/
theorem keepLatch_drops_last {p rid : Nat} (h : Nat) {l m : List (Nat × Nat × Nat)} {e : Nat × Nat × Nat}
    (eight : (l.filter fun e => e.1 == p && e.2.1 != rid) = m ++ [e]) (seven : m.length = 7) :
    keepLatch p rid h l = (p, rid, h) :: m ++ l.filter fun e => e.1 != p := by
  rw [keepLatch_eq, eight, List.take_left' seven]

/-! ## Reads of BAR0 -/

theorem exec_lowWordRead {s : State} {addr : Nat} (rid : Nat) (opened : msixOpen s = true) (aligned : addr % 4 = 0) :
    exec (.lowWordRead addr rid) s = .next (readReg addr rid s) := by
  change execLowWordRead addr rid s = _
  simp [execLowWordRead, opened, aligned]

theorem readReg_low {s : State} {addr v : Nat} (rid : Nat) (low : pairSeen s addr = some v) :
    readReg addr rid s = readLowWord addr rid v s := by
  simp [readReg, low]

theorem readReg_high {s : State} {addr v : Nat} (rid : Nat) (high : pairSeen s (addr + 4) = none)
    (low : pairSeen s addr = some v) : readReg (addr + 4) rid s = readHighWord (addr + 4) rid v s := by
  simp [readReg, high, low]

theorem readHighWord_latched {s : State} {addr rid h : Nat} (v : Nat) (latched : latchOf addr rid s.pcie.latches = some h) :
    readHighWord (addr + 4) rid v s =
      emit (.value h) (updPcie (fun p => { p with latches := keepLatch addr rid h p.latches }) s) := by
  simp [readHighWord, latched]

/-- R6, the first of two reads. -/
theorem exec_lowWordRead_low {s : State} {addr v : Nat} (rid : Nat) (opened : msixOpen s = true) (aligned : addr % 4 = 0)
    (low : pairSeen s addr = some v) :
    exec (.lowWordRead addr rid) s = .next (emit (.value (v % 2 ^ 32))
      (updPcie (fun p => { p with latches := keepLatch addr rid (v / 2 ^ 32) p.latches }) s)) := by
  rw [exec_lowWordRead rid opened aligned, readReg_low rid low, readLowWord]

/-- R6, the second of two reads; that the latch stays is the model's choice (log entry 12). -/
theorem exec_lowWordRead_high {s : State} {addr rid v h : Nat} (opened : msixOpen s = true) (aligned : addr % 4 = 0)
    (high : pairSeen s (addr + 4) = none) (low : pairSeen s addr = some v)
    (latched : latchOf addr rid s.pcie.latches = some h) :
    exec (.lowWordRead (addr + 4) rid) s = .next (emit (.value h)
      (updPcie (fun p => { p with latches := keepLatch addr rid h p.latches }) s)) := by
  rw [exec_lowWordRead rid opened (by omega), readReg_high rid high low, readHighWord_latched v latched]

theorem exec_ptpNowTs32 {s : State} (rid : Nat) (up : hostUp s = true) :
    exec (.ptpNowTs32 rid) s = .next (readTs32 rid s) := by
  change execPtpNowTs32 rid s = _
  simp [execPtpNowTs32, up]

/-! ## Reads of the Reading Room (R415) -/

theorem exec_readingRoomRead {s : State} (off : Nat) (up : hostUp s = true) :
    exec (.readingRoomRead off) s = .next (roomRead off s) := by
  change execReadingRoomRead off s = _
  simp [execReadingRoomRead, up]

theorem roomRead_folio {s : State} {off : Nat} {w : RoomWin} {f : Folio}
    (shown : tfind s.arc.room (off / 0x1000000) = some w) (inPage : off % 4096 ≤ 4092)
    (present : tfind s.arc.folios w.folio = some f) :
    roomRead off s =
      emit (.room (padTo 4 (sliceOf (folioBytes w.folio f) (w.off * 65536 + off % 0x1000000) 4))) s := by
  simp [roomRead, shown, Nat.not_lt.mpr inPage, present]

theorem roomRead_closed {s : State} {off : Nat} (closed : tfind s.arc.room (off / 0x1000000) = none) :
    roomRead off s = emit (.room (List.replicate 4 255)) (accessError true false off s) := by
  simp [roomRead, closed]

/-! ## The statements -/

/-- Settles O17: the reads by the rows' own lemmas, the rest by what a kept latch leaves of the list. That a read of the
high word keeps its latch is log entry 12. -/
theorem highWordLatches : Obligations.HighWordLatches := by
  intro p rid h v l s
  refine ⟨fun _ opened aligned low => ?low, fun _ opened aligned high low latched => ?high, ?same, ?pair, ?requester,
    ?length, ?ninth⟩
  case low => exact exec_lowWordRead_low rid opened aligned low
  case high => exact exec_lowWordRead_high opened aligned high low latched
  case same => exact latchOf_keepLatch_same p rid h l
  case pair => exact fun q x ne => latchOf_keepLatch_other_pair rid h x l ne
  case requester => exact fun x ne room => latchOf_keepLatch_other_requester h ne room
  case length => exact keepLatch_length_le p rid h l
  case ninth => exact fun m e eight seven => keepLatch_drops_last h eight seven

/-- Settles O41: one row's lemma for each kind of read. The kept latch of a high word is log entry 12, the bytes of a
folio log entry 67. -/
theorem registerReads : Obligations.RegisterReads := by
  intro addr rid off v s up opened
  refine ⟨?stamp, fun aligned low => ?low, fun h aligned high low latched => ?high, fun w f shown inPage present => ?folio,
    fun closed => ?closed⟩
  case stamp => rw [exec_ptpNowTs32 rid up, readTs32]
  case low => exact exec_lowWordRead_low rid opened aligned low
  case high => exact exec_lowWordRead_high opened aligned high low latched
  case folio => rw [exec_readingRoomRead off up, roomRead_folio shown inPage present]
  case closed => rw [exec_readingRoomRead off up, roomRead_closed closed]

end Sys2Proof.Machine
end

section
/-! SUPPORT. Mailbox rows by the answer of their meaning (R75, R79): what a row that starts leaves, for every way its meaning
can end well, and the admin group (R32, R88, R97, R98). -/

namespace Sys2Proof.Machine

/-! ## A row that starts, by its answer

`row` is `exec`'s arm for the command: reflexivity at the row's own function. -/

section Started
variable {i : Instr} {op : Nat} {r : CmdId} {c : Cmd} {s t : State} {k : Cmd → State → Ans} {answer : Reply}

theorem exec_of_done (row : exec i s = feljo op r k s) (starts : Starts op r c s) (meaning : k c s = .done t answer)
    (bare : answer.out = []) : exec i s = .next (reply c.id answer t) := by
  rw [row, feljo_starts starts, meaning, settle_done bare]

theorem exec_of_wait (row : exec i s = feljo op r k s) (starts : Starts op r c s) (meaning : k c s = .wait t) :
    exec i s = .next (setPhase c.id .executing t) := by
  rw [row, feljo_starts starts, meaning, settle_wait]

theorem givesData_of_done {b : List Byte} (row : exec i s = feljo op r k s) (starts : Starts op r c s)
    (meaning : k c s = .done s (withOut b answer)) (bare : answer.out = []) : GivesData i c b answer s :=
  gives_data (by rw [row, feljo_starts starts, meaning]) bare

theorem gives_of_done {b : List Byte} {n : Nat} (row : exec i s = feljo op r k s) (starts : Starts op r c s)
    (meaning : k c s = .done s (withOut b answer)) (bare : answer.out = []) (size : b.length = n) :
    Gives i c n answer s :=
  ⟨b, size, givesData_of_done row starts meaning bare⟩

end Started

theorem require_holds {p : Bool} {r : Reply} {k : Ans} (holds : p = true) : require p r k = k := by
  simp [require, holds]

/-- R117, R128: the judgement that the commands of the 0x02 group begin with lets them pass. -/
theorem instReady_free {c : Cmd} {s : State} {k : Ans} (opened : Open s) (free : (inst s (instOf c)).st ≠ .resetting) :
    instReady s c k = k := by
  rw [instReady, notBootHalted_open opened, require_holds (by simpa using free)]

theorem okOrStaged_out (stg : Bool) : (okOrStaged stg).out = [] := by
  cases stg <;> rfl

/-! ## Sizes of the readings (R97) -/

theorem eeprom_length : eeprom.length = 36 := by
  simp only [eeprom, List.length_append, padTo_length, le_length]

theorem timeBytes_length (t : FullTime) : (timeBytes t).length = 16 := by
  simp only [timeBytes, List.length_append, le_length]

theorem boundsBytes_length (s : State) : (boundsBytes s).length = 1048 := by
  simp only [boundsBytes, List.length_append, le_length, flatMap_le_fun_length, List.length_range, zeros_length]

theorem winCounters_length (w : Window) : (winCounters w).length = 7 := rfl

/-! ## The commands that judge their operands -/

/-- R27, R28: an admitted transition to HALTED is made at once, any other begins. -/
theorem serviceSet_admitted {c : Cmd} {s : State} {t : Svc} (target : Svc.ofCode (argD c 2 0) = some t)
    (settled : s.svc.change = none) (current : s.svc.state.code = argD c 1 0) (allowed : svcAllowed s.svc.state t = true)
    (met : svcPrecondition s t = none) :
    serviceSet c s =
      if t = .halted then .done (enterHalted 1 s) ok else .wait (svcStart t 1 (some c.id) s) := by
  simp [serviceSet, target, settled, current, allowed, met]

/-- R88: a command that is another one, not yet committed, of the sender's own slice unless the sender is the admin slice. -/
theorem adminAbort_uncommitted {c x : Cmd} {s : State} (here : x ∈ s.cmds) (named : x.id = ⟨argD c 1 0, argD c 2 0⟩)
    (other : x.id ≠ c.id) (live : uncommitted s x = true) (may : Admin c ∨ argD c 1 0 = c.id.slice) :
    adminAbort c s = .done (abortCmd x.id 3 s) ok := by
  have entitled : ¬ (c.id.slice ≠ 0 ∧ argD c 1 0 ≠ c.id.slice) := fun ⟨notAdmin, foreign⟩ => may.elim notAdmin foreign
  have found : (s.cmds.find? fun y => y.id == x.id && y.id != c.id && uncommitted s y).isSome = true :=
    List.find?_isSome.mpr ⟨x, here, by simp [other, live]⟩
  obtain ⟨y, hit⟩ := Option.isSome_iff_exists.mp found
  simp only [adminAbort, if_neg entitled, ← named, hit]

/-! ## The readings -/

section Readings
variable {r : CmdId} {c : Cmd} {s : State}

theorem adminIdentify_gives (starts : Starts 0x0101 r c s) : Gives (.adminIdentify r) c 64 ok s :=
  gives_of_done (Eq.refl (execAdminIdentify r s)) starts rfl rfl
    (by simp only [List.length_append, eeprom_length, le_length, zeros_length])

theorem adminServiceGet_gives (starts : Starts 0x0102 r c s) :
    Gives (.adminServiceGet r) c 16 { ok with res0 := svcWord s } s :=
  gives_of_done (Eq.refl (execAdminServiceGet r s)) starts rfl rfl (timeBytes_length _)

theorem adminBoundsGet_gives (starts : Starts 0x0107 r c s) (adm : Admin c) : Gives (.adminBoundsGet r) c 1048 ok s :=
  gives_of_done (Eq.refl (execAdminBoundsGet r s)) starts (adminOnly_admin adm) rfl (boundsBytes_length s)

theorem adminCountersGet_gives (starts : Starts 0x0108 r c s) (may : Admin c ∨ argD c 1 c.id.slice = c.id.slice) :
    Gives (.adminCountersGet r) c 28 ok s := by
  have entitled : (fromAdmin c || argD c 1 c.id.slice == c.id.slice) = true := by simpa [fromAdmin] using may
  exact gives_of_done (Eq.refl (execAdminCountersGet r s)) starts (require_holds entitled) rfl
    (by rw [flatMap_le_length, winCounters_length])

theorem instanceConfigGet_gives (starts : Starts 0x0208 r c s) (opened : Open s)
    (free : (inst s (instOf c)).st ≠ .resetting) :
    GivesData (.instanceConfigGet r) c
      (keyList instFields (inst s (instOf c)).cfg ++
        ((inst s (instOf c)).streamsStaged.getD (inst s (instOf c)).streams).flatMap fun x =>
          entryBytes 0x10 x (inst s (instOf c)).streamsStaged.isSome)
      (okOrStaged (anyStaged (inst s (instOf c)).cfg || (inst s (instOf c)).streamsStaged.isSome)) s :=
  givesData_of_done (Eq.refl (execInstanceConfigGet r s)) starts (instReady_free opened free) (okOrStaged_out _)

end Readings

/-- Settles O19: each row by the answer of its meaning. A reply larger than its buffer is log entry 17, the service change
log entry 27, RESULT0 of the readings log entry 76. -/
theorem adminCommands : Obligations.AdminCommands := by
  refine ⟨fun r c s => ⟨adminIdentify_gives, adminServiceGet_gives, fun starts => ?echo, adminBoundsGet_gives,
      adminCountersGet_gives, fun starts => ?status, instanceConfigGet_gives⟩,
    fun r c s => ⟨fun t starts adm alone target settled current allowed met => ?service,
      fun x here starts named other live may => ?abort, fun starts => ?timeout, fun starts adm opened => ?save,
      fun starts adm => ?autoservice, fun starts adm => ?vector⟩⟩
  case echo => exact exec_of_done (Eq.refl (execAdminEcho r s)) starts rfl rfl
  case status => exact exec_of_done (Eq.refl (execInstanceStatusGet r s)) starts rfl rfl
  case service =>
    have judged : adminOnly c (carried c s serviceSet) =
        if t = .halted then .done (enterHalted 1 s) ok else .wait (svcStart t 1 (some c.id) s) := by
      rw [adminOnly_admin adm, carried_alone alone, serviceSet_admitted target settled current allowed met]
    by_cases halts : t = .halted
    · rw [if_pos halts] at judged ⊢
      exact exec_of_done (Eq.refl (execAdminServiceSet r s)) starts judged rfl
    · rw [if_neg halts] at judged ⊢
      exact exec_of_wait (Eq.refl (execAdminServiceSet r s)) starts judged
  case abort =>
    exact exec_of_done (Eq.refl (execAdminAbort r s)) starts (adminAbort_uncommitted here named other live may) rfl
  case timeout => exact exec_of_done (Eq.refl (execAdminTimeoutSet r s)) starts rfl rfl
  case save =>
    exact exec_of_done (Eq.refl (execAdminConfigSave r s)) starts
      ((adminOnly_admin adm).trans (notBootHalted_open opened)) rfl
  case autoservice => exact exec_of_done (Eq.refl (execAdminAutoserviceSet r s)) starts (adminOnly_admin adm) rfl
  case vector => exact exec_of_done (Eq.refl (execAdminVectorSet r s)) starts (adminOnly_admin adm) rfl

end Sys2Proof.Machine
end

section
/-! SUPPORT. The rows of `quietRows` keep the protection pipeline (R18, R98, R126): every row by the frame lemma of its own
meaning. -/

namespace Sys2Proof.Machine

theorem sameProtection_iff {s t : State} : SameProtection s t ↔ t.prot = s.prot := by
  simp [SameProtection, State.prot]

theorem sameProtection_of_resProt {i : Instr} {s t : State} (kept : resProt (exec i s) = some s.prot)
    (outcome : exec i s = .next t) : SameProtection s t := by
  rw [outcome, next_prot] at kept
  exact sameProtection_iff.mpr (Option.some.inj kept)

theorem quietRows_prot : ∀ e ∈ quietRows, ∀ (r : CmdId) (s : State), resProt (exec (e r) s) = some s.prot := by
  simp only [quietRows, List.forall_mem_append, List.forall_mem_cons]
  refine ⟨⟨?keysUpdatePower, ?signalTimeSwitch⟩, ?portsArchive⟩
  case keysUpdatePower =>
    exact ⟨execKeyIdentityGet_prot, execKeyOwnerEnrol_prot, execKeyDepositBegin_prot, execKeyDepositChunk_prot,
      execKeyDepositEnd_prot, execKeyDepositAbort_prot, execKeySlotGet_prot, execKeySlotPromote_prot,
      execKeyGenerate_prot, execKeySign_prot, execKeyAttest_prot, execKeyModeSet_prot, execUpdateStatusGet_prot,
      execUpdateDepositBegin_prot, execUpdateDepositChunk_prot, execUpdateDepositEnd_prot, execUpdateDepositAbort_prot,
      execUpdateActivate_prot, execUpdateCancel_prot, execUpdateWindowSet_prot, execPowerStatusGet_prot,
      execPowerEnergyStart_prot, execPowerEnergyRead_prot, execPowerGatingSet_prot, execPowerHoldupTest_prot,
      execPowerCountersGet_prot, execPowerThermalSet_prot, execPowerReset_prot,
      List.forall_mem_nil _⟩
  case signalTimeSwitch =>
    exact ⟨execChronicleRead_prot, execChronicleStatusGet_prot, execChronicleClear_prot, execChronicleNote_prot,
      execChronicleConfigSet_prot, execErrorContextsGet_prot, execNotifyConfigSet_prot, execNotifyConfigGet_prot,
      execNotifyAlarmGet_prot, execNotifyAlarmClear_prot, execNotifyAlarmpubSet_prot, execNotifyFilterSet_prot,
      execTimeStatusGet_prot, execTimeNowGet_prot, execTimeConfigSet_prot, execTimeConfigGet_prot, execTimePortSet_prot,
      execTimePortGet_prot, execTimeSet_prot, execTimeCountersClear_prot, execSwitchFdbSet_prot, execSwitchFdbGet_prot,
      execSwitchFdbFlush_prot, execSwitchGroupSet_prot, execSwitchVlanSet_prot, execSwitchMirrorSet_prot,
      execSwitchRedundancySet_prot, execSwitchRedundancyGet_prot, execSwitchShelfGet_prot, execSwitchStocktakeRun_prot,
      execSwitchConfigSet_prot,
      List.forall_mem_nil _⟩
  case portsArchive =>
    exact ⟨execPortConfigGet_prot, execPortStatusGet_prot, execPortHold_prot, execPortCountersClear_prot,
      execPortGclSet_prot, execPortGclGet_prot, execPortVportSet_prot, execPortVportGet_prot, execArchiveStatusGet_prot,
      execArchiveFolioList_prot, execArchiveFolioRelease_prot, execArchiveFolioKeep_prot, execArchiveRoomOpen_prot,
      execArchiveRoomClose_prot, execArchiveConfigSet_prot, execArchiveCountersClear_prot,
      List.forall_mem_nil _⟩

/-- Settles O13: every row of the list keeps `State.prot`, the six parts of the pipeline together. -/
theorem quietRowsLeaveProtection : Obligations.QuietRowsLeaveProtection :=
  fun e quiet r s _ outcome => sameProtection_of_resProt (quietRows_prot e quiet r s) outcome

end Sys2Proof.Machine
end

section
/-! SUPPORT. The state before the first command (R33, R68, R102, R421): a table without entries answers every index with
the values of its reset. -/

namespace Sys2Proof.Machine

theorem win_reset (n : Nat) : win State.reset n = {} := rfl

theorem inst_reset (n : Nat) : inst State.reset n = {} := rfl

theorem port_reset (p : Nat) : port State.reset p = {} := rfl

theorem ntf_reset {n : Nat} (slice : n ≠ 0) : ntf State.reset n = {} := by
  rw [ntf, if_neg slice]
  rfl

theorem fval_unset (d : Desc) : fval {} d = d.rst := rfl

theorem ringOn_unset : ringOn {} = false := rfl

/-- Settles O3: the kinds of state by their reset tables, the rest by the fields of `State.reset`. -/
theorem coldStartLeaves : Obligations.ColdStartLeaves := by
  refine ⟨rfl, rfl, rfl, rfl, rfl, fun n => ?instances, fun n => ?windows, rfl, fun n slice => ?sources, rfl, rfl, rfl,
    fun p d => ?ports, rfl, rfl⟩
  case instances =>
    rw [inst_reset]
    exact ⟨rfl, rfl, fval_unset⟩
  case windows =>
    rw [win_reset]
    exact ⟨rfl, fun _ => rfl, ringOn_unset⟩
  case sources => rw [ntf_reset slice]
  case ports =>
    rw [port_reset]
    exact fval_unset d

end Sys2Proof.Machine
end

section
/-! SUPPORT. The referee's messages and the events of its clock (R30, R315 to R320, R327): what each row does where it is
due. -/

namespace Sys2Proof.Machine

section Referee
variable {s : State} (up : pairUp s = true)
include up

/-! ## Messages that arrive -/

theorem exec_hbReply :
    exec .hbReply s = .next (refArrive 0x0003 (fun _ s => updTdm (fun t => { t with helloOpen := false }) s) s) := by
  change execHbReply s = _
  rw [execHbReply, if_pos up]

theorem exec_grant : exec .grant s = .next (refArrive 0x0009 takeGrant s) := by
  change execGrant s = _
  rw [execGrant, if_pos up]

theorem exec_revoke : exec .revoke s = .next (refArrive 0x000C takeRevoke s) := by
  change execRevoke s = _
  rw [execRevoke, if_pos up]

theorem exec_demoteAck :
    exec .demoteAck s = .next (refArrive 0x0007 (fun _ s => if s.tdm.demote = 0 then s
      else enterHalted 5 (updTdm (fun t => { t with demote := 0 }) s)) s) := by
  change execDemoteAck s = _
  rw [execDemoteAck, if_pos up]

/-! ## Messages sent again, and waits that end -/

theorem exec_demoteResend (begun : 1 ≤ s.tdm.demote) (left : s.tdm.demote < 3)
    (due : s.tdm.demoteAt + 2000000 ≤ s.clk) :
    exec .demoteResend s = .next
      (updTdm (fun t => { t with demote := t.demote + 1, demoteAt := s.clk }) (refResend s.tdm.demoteSeq 0x0006 0 0 s)) := by
  change execDemoteResend s = _
  simp [execDemoteResend, ms, up, begun, left, due]

theorem exec_demoteTimeout (begun : s.tdm.demote ≠ 0)
    (due : s.tdm.demoteStart + tdmf s dDemote * 1000000 ≤ s.clk) :
    exec .demoteTimeout s = .next (enterHalted 5 (updTdm (fun t => { t with demote := 0 }) s)) := by
  change execDemoteTimeout s = _
  simp [execDemoteTimeout, ms, up, begun, due]

theorem exec_heartbeat (due : s.tdm.lastHb + tdmf s dHbPeriod * 1000000 ≤ s.clk) :
    exec .heartbeat s = .next (refSend 0x0002 0 0 (updTdm (fun t => { t with lastHb := s.clk }) s)) := by
  change execHeartbeat s = _
  simp [execHeartbeat, ms, up, due]

theorem exec_refereeHello (unanswered : s.tdm.helloOpen = true) (due : s.tdm.helloAt + 100000000 ≤ s.clk) :
    exec .refereeHello s = .next
      (refResend s.tdm.helloSeq 0x0001 0 0 (updTdm (fun t => { t with helloAt := s.clk }) s)) := by
  change execRefereeHello s = _
  simp [execRefereeHello, ms, up, unanswered, due]

theorem exec_peerGaspResend (begun : 1 ≤ s.tdm.peerGasp) (left : s.tdm.peerGasp < 3)
    (due : s.tdm.peerGaspAt + 2000000 ≤ s.clk) :
    exec .peerGaspResend s = .next (refResend s.tdm.peerGaspSeq 0x0005 1 0
      (updTdm (fun t => { t with peerGasp := t.peerGasp + 1, peerGaspAt := s.clk }) s)) := by
  change execPeerGaspResend s = _
  simp [execPeerGaspResend, ms, up, begun, left, due]

/-! ## A referee that no longer replies, on either path -/

theorem exec_refereeUnreachable_first (replied : s.tdm.ref0 = true)
    (due : s.tdm.refLast0 + 4 * tdmf s dHbPeriod * 1000000 ≤ s.clk) :
    exec (.refereeUnreachable 0) s = .next (setAlarm 11 (updTdm (fun t => { t with ref0 := false }) s)) := by
  change execRefereeUnreachable 0 s = _
  simp [execRefereeUnreachable, ms, up, replied, due]

theorem exec_refereeUnreachable_second (replied : s.tdm.ref1 = true)
    (due : s.tdm.refLast1 + 4 * tdmf s dHbPeriod * 1000000 ≤ s.clk) :
    exec (.refereeUnreachable 1) s = .next (setAlarm 11 (updTdm (fun t => { t with ref1 := false }) s)) := by
  change execRefereeUnreachable 1 s = _
  simp [execRefereeUnreachable, ms, up, replied, due]

end Referee

/-- Settles O58: one row's lemma for each clause. How messages are numbered, taken and refused is log entry 57. -/
theorem refereeEvents : Obligations.RefereeEvents :=
  fun _ up => ⟨exec_hbReply up, exec_grant up, exec_revoke up, exec_demoteAck up, exec_demoteResend up,
    exec_demoteTimeout up, exec_heartbeat up, exec_refereeHello up, exec_peerGaspResend up,
    exec_refereeUnreachable_first up, exec_refereeUnreachable_second up⟩

end Sys2Proof.Machine
end

section
/-! SUPPORT. The commands of power (R49, R59): the answer of each row's meaning once the admin slice has sent it. -/

namespace Sys2Proof.Machine

section PowerRows
variable {r : CmdId} {c : Cmd} {s : State}

/-- A row that starts, changes the state and answers with data that the buffer takes. -/
theorem exec_of_data {i : Instr} {op : Nat} {k : Cmd → State → Ans} {t : State} {b : List Byte} {answer : Reply}
    (row : exec i s = feljo op r k s) (starts : Starts op r c s) (meaning : k c s = .done t (withOut b answer))
    (room : Takes c s b.length) (nonempty : b ≠ []) : exec i s = .next (sentFrom c b answer s t) := by
  rw [row, feljo_starts starts, meaning, settle_sentFrom room nonempty]

/-! ## Status and counters -/

theorem powerStatusGet_gives (adm : Admin c) (starts : Starts 0x1001 r c s) :
    GivesData (.powerStatusGet r) c (le 4 (pwrStatus s) ++ le 4 (pwrInput s) ++ le 4 (pwrTemp s)) ok s :=
  givesData_of_done (Eq.refl (execPowerStatusGet r s)) starts (adminOnly_admin adm) rfl

theorem powerCountersGet_gives (adm : Admin c) (starts : Starts 0x1006 r c s) : Gives (.powerCountersGet r) c 32 ok s :=
  gives_of_done (Eq.refl (execPowerCountersGet r s)) starts (adminOnly_admin adm) rfl
    (by simp only [List.length_append, le_length, zeros_length, timeBytes_length])

/-! ## The energy interval -/

theorem exec_powerEnergyStart (adm : Admin c) (starts : Starts 0x1002 r c s) (free : energyRuns s = false) :
    exec (.powerEnergyStart r) s = .next (reply c.id ok (energyStart (argD c 1 10) s)) :=
  exec_of_done (Eq.refl (execPowerEnergyStart r s)) starts
    ((adminOnly_admin adm).trans (require_holds (by rw [free]; rfl))) rfl

/-- The 24 bytes of an interval's reading: energy, protected channel-samples, their quotient, reserved. -/
theorem energyBytes_length (e p q : Nat) : (le 8 e ++ le 8 p ++ le 4 q ++ zeros 4).length = 24 := by
  simp only [List.length_append, le_length, zeros_length]

theorem energyRead_ended {i : Energy} (kept : s.met.interval = some i) (whole : i.soft = false)
    (ended : i.running = false) :
    energyRead s = .done { s with fresh := s.fresh + 1 }
      (withOut (le 8 (i.energy1 - i.energy0) ++ le 8 (i.pcs1 - i.pcs0) ++
        le 4 (quotient s (i.energy1 - i.energy0) (i.pcs1 - i.pcs0)) ++ zeros 4) ok) := by
  simp [energyRead, kept, whole, ended]

theorem exec_powerEnergyRead {i : Energy} (adm : Admin c) (starts : Starts 0x1003 r c s) (room : Takes c s 24)
    (kept : s.met.interval = some i) (whole : i.soft = false) (ended : i.running = false) :
    exec (.powerEnergyRead r) s = .next (sentFrom c
      (le 8 (i.energy1 - i.energy0) ++ le 8 (i.pcs1 - i.pcs0) ++
        le 4 (quotient s (i.energy1 - i.energy0) (i.pcs1 - i.pcs0)) ++ zeros 4) ok s { s with fresh := s.fresh + 1 }) := by
  refine exec_of_data (Eq.refl (execPowerEnergyRead r s)) starts
    ((adminOnly_admin adm).trans (energyRead_ended kept whole ended)) ?fits ?nonempty
  case fits => rwa [energyBytes_length]
  case nonempty => exact List.ne_nil_of_length_pos (by rw [energyBytes_length]; decide)

/-! ## Gating (R51, R59) -/

theorem exec_powerGatingSet_same (adm : Admin c) (starts : Starts 0x1004 r c s)
    (same : fread s.pwr.cfg pGating = argD c 1 0) :
    exec (.powerGatingSet r) s = .next (reply c.id (okOrStaged (fstaged s.pwr.cfg pGating)) s) :=
  exec_of_done (Eq.refl (execPowerGatingSet r s)) starts ((adminOnly_admin adm).trans (if_pos same)) (okOrStaged_out _)

theorem exec_powerGatingSet_running (adm : Admin c) (starts : Starts 0x1004 r c s)
    (new : fread s.pwr.cfg pGating ≠ argD c 1 0) (runs : lanePoolRuns s = true) :
    exec (.powerGatingSet r) s = .next
      (reply c.id stagedR (updPwr (fun p => { p with cfg := fstage p.cfg pGating (argD c 1 0) }) s)) :=
  exec_of_done (Eq.refl (execPowerGatingSet r s)) starts
    ((adminOnly_admin adm).trans ((if_neg new).trans (if_pos runs))) rfl

theorem exec_powerGatingSet_stopped (adm : Admin c) (starts : Starts 0x1004 r c s)
    (new : fread s.pwr.cfg pGating ≠ argD c 1 0) (stopped : lanePoolRuns s = false) :
    exec (.powerGatingSet r) s = .next
      (reply c.id ok (updPwr (fun p => { p with cfg := fset p.cfg pGating (argD c 1 0) }) s)) :=
  exec_of_done (Eq.refl (execPowerGatingSet r s)) starts
    ((adminOnly_admin adm).trans ((if_neg new).trans (if_neg (ne_true_of_eq_false stopped)))) rfl

/-! ## Hold-up test, thermal alarm, soft reset -/

/-- R49: the test wants 11.5 V at the input and the store charged. -/
theorem exec_powerHoldupTest (adm : Admin c) (starts : Starts 0x1005 r c s) (free : s.met.holdup = none)
    (volts : 11500 ≤ s.pwr.vin) (charged : s.pwr.holdupReady = true) :
    exec (.powerHoldupTest r) s = .next (setPhase c.id .executing
      (addWait .holdup (some c.id) (updMet (fun m => { m with holdup := some s.clk }) s))) := by
  have idle : s.met.holdup.isNone = true := by rw [free]; rfl
  have able : (decide (11500 ≤ s.pwr.vin) && s.pwr.holdupReady) = true := by simp [volts, charged]
  exact exec_of_wait (Eq.refl (execPowerHoldupTest r s)) starts
    ((adminOnly_admin adm).trans ((require_holds idle).trans (require_holds able)))

theorem exec_powerThermalSet (adm : Admin c) (starts : Starts 0x1007 r c s) :
    exec (.powerThermalSet r) s = .next
      (reply c.id ok (updPwr (fun p => { p with cfg := fset p.cfg pTrpAlarm (argD c 1 0x55) }) s)) :=
  exec_of_done (Eq.refl (execPowerThermalSet r s)) starts (adminOnly_admin adm) rfl

theorem exec_powerReset (adm : Admin c) (starts : Starts 0x1008 r c s) (outOfService : s.svc.state ≠ .inService) :
    exec (.powerReset r) s = .next (reply c.id { ok with reset := true } s) :=
  exec_of_done (Eq.refl (execPowerReset r s)) starts
    ((adminOnly_admin adm).trans (require_holds (bne_iff_ne.mpr outOfService))) rfl

end PowerRows

/-- Settles O37: each row by the answer of its meaning. The size of a reply against its buffer is log entry 17, the soft
reset after its completion log entry 74, the meters' free values log entry 75; a gating value already held writes nothing
(R489). -/
theorem powerCommands : Obligations.PowerCommands := by
  intro r c s adm
  refine ⟨powerStatusGet_gives adm, exec_powerEnergyStart adm,
    fun i e p starts room kept whole ended energy samples => ?read,
    exec_powerGatingSet_same adm, exec_powerGatingSet_running adm, exec_powerGatingSet_stopped adm,
    exec_powerHoldupTest adm, powerCountersGet_gives adm, exec_powerThermalSet adm, exec_powerReset adm⟩
  case read =>
    rw [energy, samples]
    exact exec_powerEnergyRead adm starts room kept whole ended

end Sys2Proof.Machine
end

section
/-! SUPPORT. Start-up in its phases, soft reset and the loss of power (R41, R43, R46, R55, R471, R491): each row where its
condition holds. -/

namespace Sys2Proof.Machine

/-- An event's row takes effect where its condition holds; `row` is `exec`'s arm, reflexivity at the row's own function. -/
theorem exec_of_due {i : Instr} {s t : State} {due : Bool} (row : exec i s = .next (if due then t else s))
    (holds : due = true) : exec i s = .next t := by
  rw [row, if_pos holds]

section StartUp
variable {s : State}

/-! ## 12 V and rails -/

/-- R43, R48: power returns to a module that was off, or whose power-fail sequence has ended. -/
theorem exec_twelveVGood (off : s.pwr.good = false ∨ s.pwr.pfw = .entered) :
    exec .twelveVGood s = .next (coldStart s) :=
  exec_of_due (Eq.refl (execTwelveVGood s)) (by simpa using off)

theorem exec_railsUp (powered : s.pwr.good = true) (left : s.pwr.rails < 8) (sound : s.pwr.fail = false) :
    exec .railsUp s = .next (updPwr (fun p => { p with
      rails := p.rails + 1, phase := if p.rails = 7 ∧ p.phase = 1 then 2 else p.phase }) s) :=
  exec_of_due (Eq.refl (execRailsUp s)) (by simp [powered, left, sound])

/-! ## The phases, in their order -/

/-- R41: DBG_EN is sampled at a cold start. -/
theorem exec_supervisorStart_cold (dbg : Bool) (first : phaseIs 0 s = true) (cold : s.pwr.soft = false) :
    exec (.supervisorStart dbg) s = .next (updPwr (fun p => { p with
      dbg := dbg, phase := if p.rails = 8 then 2 else 1 }) s) := by
  change execSupervisorStart dbg s = _
  rw [execSupervisorStart, if_pos first, if_neg (ne_true_of_eq_false cold)]

/-- R491: after a soft reset rails and endpoint stand, and their phases are passed over. -/
theorem exec_supervisorStart_soft (dbg : Bool) (first : phaseIs 0 s = true) (soft : s.pwr.soft = true) :
    exec (.supervisorStart dbg) s = .next (setPhaseTo 3 s) := by
  change execSupervisorStart dbg s = _
  rw [execSupervisorStart, if_pos first, if_pos soft]

theorem exec_pcieEndpointConfigured (third : phaseIs 2 s = true) :
    exec .pcieEndpointConfigured s = .next (setPhaseTo 3 s) :=
  exec_of_due (Eq.refl (execPcieEndpointConfigured s)) third

theorem exec_countersRestored_soft (fourth : phaseIs 3 s = true) (soft : s.pwr.soft = true) :
    exec .countersRestored s = .next (setPhaseTo 4 (updPwr (fun p => { p with pfwArmed := true }) s)) := by
  change execCountersRestored s = _
  rw [execCountersRestored, if_pos fourth]
  exact congrArg _ (if_pos soft)

/-- R57, R431: a cold start scans the Chronicle, counts itself and enters the power-up. -/
theorem exec_countersRestored_cold {t : State} (fourth : phaseIs 3 s = true) (cold : s.pwr.soft = false)
    (entered : t = noteMod 0x1001 0 noObj [] (coldCounters (updChr chrScan
      (setPhaseTo 4 (updPwr (fun p => { p with pfwArmed := true }) s))))) :
    exec .countersRestored s = .next (if t.pwr.dbg then noteMod 0x1003 0 noObj [] t else t) := by
  subst entered
  change execCountersRestored s = _
  rw [execCountersRestored, if_pos fourth]
  exact congrArg _ (if_neg (ne_true_of_eq_false cold))

theorem exec_bankSelect (fifth : phaseIs 4 s = true) : exec .bankSelect s = .next (bankSelect s) :=
  exec_of_due (Eq.refl (execBankSelect s)) fifth

theorem exec_dramTrained (sixth : phaseIs 5 s = true) :
    exec .dramTrained s = .next (setPhaseTo 6 (updPwr (fun p => { p with holdupReady := true }) s)) :=
  exec_of_due (Eq.refl (execDramTrained s)) sixth

theorem exec_settingsLoaded (seventh : phaseIs 6 s = true) : exec .settingsLoaded s = .next (loadSettings s) :=
  exec_of_due (Eq.refl (execSettingsLoaded s)) seventh

theorem exec_mbxReady (eighth : phaseIs 7 s = true) :
    exec .mbxReady s = .next (setPhaseTo 8 (updPwr (fun p => { p with mbxReady := true }) s)) :=
  exec_of_due (Eq.refl (execMbxReady s)) eighth

/-- R30, R55: a module fault in BOOT keeps the pipeline from starting. -/
theorem exec_pipelineStart (ninth : phaseIs 8 s = true) (booting : s.svc.state = .boot) (sound : s.pwr.bootFault = false) :
    exec .pipelineStart s = .next (startPipeline s) :=
  exec_of_due (Eq.refl (execPipelineStart s)) (by simp [ninth, booting, sound])

/-! ## Soft reset and loss of power -/

theorem exec_softReset (due : s.pwr.resetDue = true) (powered : s.pwr.good = true) (steady : s.pwr.pfw = .idle) :
    exec .softReset s = .next (softReset s) :=
  exec_of_due (Eq.refl (execSoftReset s)) (by simp [due, powered, steady])

theorem exec_modEnLow : exec .modEnLow s = .next (powerOff false s) := rfl

/-- R46: before the power-fail warning is armed there is no sequence to run. -/
theorem exec_vinLossUnarmed (powered : s.pwr.good = true) (unarmed : s.pwr.pfwArmed = false) :
    exec .vinLossUnarmed s = .next (powerOff s.pwr.modEn s) :=
  exec_of_due (Eq.refl (execVinLossUnarmed s)) (by simp [powered, unarmed])

end StartUp

/-- Settles O46: one row's lemma for each clause. The order of rails and phases, and scan and restore in one event, are log
entry 74; what boot does with the stored configuration is log entry 26. -/
theorem powerUp : Obligations.PowerUp :=
  fun _ dbg => ⟨exec_twelveVGood, exec_modEnLow, exec_railsUp, exec_supervisorStart_cold dbg,
    exec_supervisorStart_soft dbg, exec_pcieEndpointConfigured, exec_countersRestored_soft,
    fun _ => exec_countersRestored_cold, exec_bankSelect, exec_dramTrained, exec_settingsLoaded, exec_mbxReady,
    exec_pipelineStart, exec_softReset, exec_vinLossUnarmed⟩

end Sys2Proof.Machine
end

section
/-! SUPPORT. The power-fail sequence (R45): the warning, and each step after it once the step before it is done and its
instant is reached. -/

namespace Sys2Proof.Machine

section Sequence
variable {s : State}

theorem pfwAt_iff {p : PfwStep} {t : Nat} : pfwAt p t s = true ↔ s.pwr.pfw = p ∧ s.pwr.pfwAt + t ≤ s.clk := by
  simp [pfwAt]

theorem exec_powerFailWarning (powered : s.pwr.good = true) (armed : s.pwr.pfwArmed = true) (steady : s.pwr.pfw = .idle) :
    exec .powerFailWarning s = .next (alertPin
      { updPwr (fun p => { p with pfw := .warned, pfwAt := s.clk }) s with pins := { s.pins with pfwOut := true } }) :=
  exec_of_due (Eq.refl (execPowerFailWarning s)) (by simp [powered, armed, steady])

theorem exec_pfwOutputsOff (step : s.pwr.pfw = .warned) (due : s.pwr.pfwAt + 100000 ≤ s.clk) :
    exec .pfwOutputsOff s = .next (setPfw .outputsOff (updPwr (fun p => { p with state := 2 })
      (pipelineOff (haltArchive (holdAll (stopAlarmPub (dropOuts s))))))) :=
  exec_of_due (Eq.refl (execPfwOutputsOff s)) (pfwAt_iff.mpr ⟨step, due⟩)

/-- R45: a standalone module has no partner and no referee to tell. -/
theorem exec_dyingGasp (step : s.pwr.pfw = .outputsOff) (due : s.pwr.pfwAt + 500000 ≤ s.clk) :
    exec .dyingGasp s = .next (if s.tdm.standalone then setPfw .gasped s
      else refSend 0x0004 1 0 (linkSend (.gasp 1) (setPfw .gasped s))) :=
  exec_of_due (Eq.refl (execDyingGasp s)) (pfwAt_iff.mpr ⟨step, due⟩)

theorem exec_pfwLinksDown (step : s.pwr.pfw = .gasped) (due : s.pwr.pfwAt + 600000 ≤ s.clk) :
    exec .pfwLinksDown s = .next (setPfw .linksDown
      { updTdm (fun t => { t with laneA := false, laneB := false, session := none, inStep := false }) s with
        sw := { s.sw with forwarding := false }
        ports := tmapD {} (fun _ q => { q with link := false, txOff := true }) s.ports }) :=
  exec_of_due (Eq.refl (execPfwLinksDown s)) (pfwAt_iff.mpr ⟨step, due⟩)

theorem exec_pfwPcieDown (step : s.pwr.pfw = .linksDown) (due : s.pwr.pfwAt + 1000000 ≤ s.clk) :
    exec .pfwPcieDown s = .next (setPfw .pcieDown (pcieOff (edge 0 4 s))) :=
  exec_of_due (Eq.refl (execPfwPcieDown s)) (pfwAt_iff.mpr ⟨step, due⟩)

/-- R431: the entry carries the X3 latches; it is written behind what the queue held. -/
theorem exec_pfwChronicleEntry (step : s.pwr.pfw = .pcieDown) (due : s.pwr.pfwAt + 4000000 ≤ s.clk) :
    exec .pfwChronicleEntry s = .next (setPfw .entered (persist (updChr chrDrain
      (noteMod 0x1002 0 noObj [s.sig.x3.rise, s.sig.x3.fall] (updChr chrDrain s))))) :=
  exec_of_due (Eq.refl (execPfwChronicleEntry s)) (pfwAt_iff.mpr ⟨step, due⟩)

theorem exec_supervisorResetHold (powered : s.pwr.good = true) (failing : s.pwr.pfw ≠ .idle) :
    exec .supervisorResetHold s = .next (powerOff s.pwr.modEn s) :=
  exec_of_due (Eq.refl (execSupervisorResetHold s)) (by simp [powered, failing])

end Sequence

/-- Settles O47: one row's lemma for each clause. That the counters are persisted together with the last entry, and cause 1
of the gasp, are log entry 74. -/
theorem powerFail : Obligations.PowerFail :=
  fun _ => ⟨exec_powerFailWarning, fun _ => exec_pfwOutputsOff, fun _ => exec_dyingGasp, fun _ => exec_pfwLinksDown,
    fun _ => exec_pfwPcieDown, fun _ => exec_pfwChronicleEntry, exec_supervisorResetHold⟩

end Sys2Proof.Machine
end

section
/-! SUPPORT. Temperature, supervision and hardware faults, the ends of the hold-up test and of the energy interval, and the
operating hours (R36, R38, R44, R49, R56, R57, R59, R246, R428). -/

namespace Sys2Proof.Machine

section Faults
variable {s : State}

/-! ## Temperature -/

theorem exec_thermalAlarm {x : Nat} (powered : s.pwr.good = true) (cool : s.pwr.therm = false)
    (hot : trpAlarm s ≤ tempOf x) :
    exec (.thermalAlarm x) s = .next (setAlarm 0 (noteMod 0x1005 0 noObj [x % 65536]
      (alertPin (updPwr (fun p => { p with therm := true, trpTemp := x % 65536 }) s)))) :=
  exec_of_due (Eq.refl (execThermalAlarm x s)) (by simp [powered, cool, hot])

theorem exec_thermalAlarmCleared {x : Nat} (alarmed : s.pwr.therm = true) (below : tempOf x < trpAlarm s) :
    exec (.thermalAlarmCleared x) s = .next
      (alertPin (updPwr (fun p => { p with therm := false, trpTemp := x % 65536 }) s)) :=
  exec_of_due (Eq.refl (execThermalAlarmCleared x s)) (by simp [alarmed, below])

/-- R36: 110 °C is 1760 counts of 0.0625 °C. -/
theorem exec_dieOvertemperature {x : Nat} (powered : s.pwr.good = true) (hot : 1760 ≤ tempOf x) :
    exec (.dieOvertemperature x) s = .next (moduleFault 1 (updPwr (fun p => { p with dieTemp := x % 65536 }) s)) :=
  exec_of_due (Eq.refl (execDieOvertemperature x s)) (by simp [powered, hot])

/-! ## Supervision and hardware -/

theorem exec_supervisorWatchdog (powered : s.pwr.good = true) : exec .supervisorWatchdog s = .next (moduleFault 3 s) :=
  exec_of_due (Eq.refl (execSupervisorWatchdog s)) powered

theorem exec_eccUncorrected (powered : s.pwr.good = true) : exec .eccUncorrected s = .next (moduleFault 6 s) :=
  exec_of_due (Eq.refl (execEccUncorrected s)) powered

theorem exec_switchHardwareFault (powered : s.pwr.good = true) :
    exec .switchHardwareFault s = .next (moduleFault 9 s) :=
  exec_of_due (Eq.refl (execSwitchHardwareFault s)) powered

theorem exec_railFault {rail : Nat} (powered : s.pwr.good = true) (known : rail < 8) (sound : s.pwr.fail = false) :
    exec (.railFault rail) s = .next (railFault rail s) :=
  exec_of_due (Eq.refl (execRailFault rail s)) (by simp [powered, known, sound])

/-! ## Hold-up test, energy interval, operating hours -/

/-- R49: the test passes at 7.4 mF or more. -/
theorem exec_holdupTestEnd (x : Nat) (tested : s.met.holdup.isSome = true) :
    exec (.holdupTestEnd x) s = .next (finishWaits .holdup
      { withKey 1 (b2n (decide (7400 ≤ x))) ok with res1 := some (x % 2 ^ 32) }
      (noteAs (if 7400 ≤ x then 1 else 2) 0x1006 0 noObj noObj []
        (updPwr (fun p => { p with holdupFail := !decide (7400 ≤ x) }) (updMet (fun m => { m with holdup := none }) s)))) := by
  change execHoldupTestEnd x s = _
  rw [execHoldupTestEnd, if_pos tested]
  simp only [decide_eq_true_eq]

/-- R59: an interval that has lasted its whole number of seconds keeps the meters as they stand. -/
theorem exec_powerEnergyIntervalEnd {i : Energy} (kept : s.met.interval = some i) (running : i.running = true)
    (due : i.start + i.duration * 1000000000 ≤ s.clk) :
    exec .powerEnergyIntervalEnd s = .next (updMet (fun m => { m with interval := some { i with
      running := false, energy1 := meter m.energy 11, pcs1 := m.pcs } }) (readMeters s)) := by
  change execPowerEnergyIntervalEnd s = _
  simp [execPowerEnergyIntervalEnd, kept, running, sec1, due]

theorem exec_opsecTick (powered : s.pwr.good = true) :
    exec .opsecTick s = .next (updMet (fun m => { m with opsec := (m.opsec + 1) % 2 ^ 40 }) s) :=
  exec_of_due (Eq.refl (execOpsecTick s)) powered

theorem exec_opsecPersist (powered : s.pwr.good = true) (steady : s.pwr.pfw = .idle) :
    exec .opsecPersist s = .next (persist s) :=
  exec_of_due (Eq.refl (execOpsecPersist s)) (by simp [powered, steady])

end Faults

/-- Settles O48: one row's lemma for each clause. The cause numbers of module faults are log entry 70, the contents of the
entries log entry 69. -/
theorem faultEvents : Obligations.FaultEvents :=
  fun _ x powered => ⟨exec_thermalAlarm powered, exec_thermalAlarmCleared, exec_dieOvertemperature powered,
    exec_supervisorWatchdog powered, exec_eccUncorrected powered, exec_switchHardwareFault powered,
    exec_railFault powered, exec_holdupTestEnd x, fun _ => exec_powerEnergyIntervalEnd, exec_opsecTick powered,
    exec_opsecPersist powered⟩

end Sys2Proof.Machine
end

section
/-! SUPPORT. The refusals of the mailbox commands by slice and by service state (R75, R97, R98): every row by the
judgement that its meaning opens with. -/

namespace Sys2Proof.Machine

/-- The meaning of the row `e` fails with one answer wherever `unmet` holds of the command and the state. -/
def RefusesWhere (unmet : Cmd → State → Prop) (answer : Reply) (e : (CmdId → Instr) × Nat) : Prop :=
  ∃ k : Cmd → State → Ans, (∀ r s, exec (e.1 r) s = feljo e.2 r k s) ∧ ∀ c s, unmet c s → k c s = .fail answer

theorem exec_of_refusesWhere {unmet : Cmd → State → Prop} {answer : Reply} {e : (CmdId → Instr) × Nat} {r : CmdId}
    {c : Cmd} {s : State} (row : RefusesWhere unmet answer e) (starts : Starts e.2 r c s) (here : unmet c s) :
    exec (e.1 r) s = .next (refusedWith c answer s) := by
  obtain ⟨k, meaning, fails⟩ := row
  rw [meaning, feljo_starts starts, fails c s here, settle_fail]

theorem notBootHalted_closed {s : State} {k : Ans} (closed : bootOrHalted s = true) :
    notBootHalted s k = .fail (denied 1) := by
  simp [notBootHalted, require, closed]

theorem notBoot_boot {s : State} {k : Ans} (boot : s.svc.state = .boot) : notBoot s k = .fail (denied 1) := by
  simp [notBoot, require, boot]

/-! ## The rows of the three lists -/

/-- Each of these meanings is `adminOnly` of the rest. -/
theorem adminRows_refuse : ∀ e ∈ adminRows, RefusesWhere (fun c _ => ¬ Admin c) (denied 2) e := by
  simp only [adminRows, List.forall_mem_append, List.forall_mem_cons, List.not_mem_nil, false_implies, implies_true,
    and_true]
  and_intros
  all_goals exact ⟨_, fun _ _ => rfl, fun _ _ other => adminOnly_other other⟩

/-- What comes before the judgement of BOOT and HALTED is that of the admin slice, if anything. -/
theorem closedRows_refuse :
    ∀ e ∈ closedRows, RefusesWhere (fun c s => Admin c ∧ bootOrHalted s = true) (denied 1) e := by
  simp only [closedRows, List.forall_mem_append, List.forall_mem_cons, List.not_mem_nil, false_implies, implies_true,
    and_true]
  and_intros
  all_goals
    refine ⟨_, fun _ _ => rfl, fun _ _ ⟨adm, closed⟩ => ?_⟩
    simp only [adminOnly_admin adm, svReserved, instReady, ownReady, notBootHalted_closed closed]

theorem bootRows_refuse : ∀ e ∈ bootRows, RefusesWhere (fun c s => Admin c ∧ s.svc.state = .boot) (denied 1) e := by
  simp only [bootRows, List.forall_mem_append, List.forall_mem_cons, List.not_mem_nil, false_implies, implies_true,
    and_true]
  and_intros
  all_goals
    refine ⟨_, fun _ _ => rfl, fun _ _ ⟨adm, boot⟩ => ?_⟩
    simp only [adminOnly_admin adm, notBoot_boot boot]

/-- Settles O8: every row of the list fails by the judgement of its slice. -/
theorem adminRowsRefuseOtherSlices : Obligations.AdminRowsRefuseOtherSlices :=
  fun e listed _ _ _ starts other => exec_of_refusesWhere (adminRows_refuse e listed) starts other

/-- Settles O9: every row of the two lists fails by the judgement of the service state. -/
theorem serviceStateRefusals : Obligations.ServiceStateRefusals :=
  ⟨fun e listed _ _ _ starts adm closed => exec_of_refusesWhere (closedRows_refuse e listed) starts ⟨adm, closed⟩,
    fun e listed _ _ _ starts adm boot => exec_of_refusesWhere (bootRows_refuse e listed) starts ⟨adm, boot⟩⟩

end Sys2Proof.Machine
end

section
/-! SUPPORT. A fetched entry and its checks (R70, R71, R490): what each way through `receiveEntry` leaves, in the order
of the checks. -/

namespace Sys2Proof.Machine

theorem padTo_of_length {n : Nat} {b : List Byte} (size : b.length = n) : padTo n b = b := by
  simp only [padTo, size, Nat.sub_self, zeros, List.replicate_zero, List.append_nil]
  exact List.take_of_length_le (Nat.le_of_eq size)

/-! ## The parameters -/

theorem checkParams_bad {o : OpSpec} {slice i : Nat} {raw : List RawParam}
    (bad : badParam (keysFrom o slice) (joinParams 0 raw) = some i) : checkParams o slice raw = .error (badarg i) := by
  simp [checkParams, bad, badarg]

theorem checkParams_missing {o : OpSpec} {slice k : Nat} {raw : List RawParam}
    (sound : badParam (keysFrom o slice) (joinParams 0 raw) = none)
    (absent : missingKey (keysFrom o slice) slice (joinParams 0 raw) = some k) :
    checkParams o slice raw = .error { status := 3, detail := 0xFFFC, res0 := k, nres := 1 } := by
  simp [checkParams, sound, absent]

theorem checkParams_complete {o : OpSpec} {slice : Nat} {raw : List RawParam}
    (sound : badParam (keysFrom o slice) (joinParams 0 raw) = none)
    (complete : missingKey (keysFrom o slice) slice (joinParams 0 raw) = none) :
    checkParams o slice raw = .ok (joinParams 0 raw) := by
  simp [checkParams, sound, complete]

theorem checked_of_error {o : OpSpec} {c : Cmd} {raw : List RawParam} {r : Reply}
    (fails : checkParams o c.id.slice raw = .error r) :
    checked o c raw = { c with phase := .completing, reply := r, inline := [] } := by
  simp [checked, fails]

theorem checked_of_ok {o : OpSpec} {c : Cmd} {raw : List RawParam} {ps : List Param}
    (passes : checkParams o c.id.slice raw = .ok ps) :
    checked o c raw = { c with params := ps, phase := .fetched, inline := [] } := by
  simp [checked, passes]

/-! ## The form -/

theorem wellFormed_iff (o : OpSpec) (b : List Byte) (c : Cmd) :
    wellFormed o b c = true ↔ c.flags < 8 ∧ leAt b 5 1 ≤ 5 ∧ c.bufLen ≤ 1048576 ∧
      (takesList o = true → c.bufLen % 8 = 0) ∧ (c.bufLen ≠ 0 → c.bufAddr % 8 = 0) := by
  simp [wellFormed, and_assoc, Decidable.imp_iff_not_or]

theorem dirOk_iff (o : OpSpec) (c : Cmd) : dirOk o c = true ↔ c.bufLen = 0 ∨ bitOf c.flags 1 = writesBuffer o := by
  simp [dirOk]

/-! ## The checks in their order -/

/-- The command that the bytes of an entry spell. -/
def entryCmd (n : Nat) (b : List Byte) (s : State) : Cmd :=
  { id := { slice := n, cid := leAt b 2 2 }, op := leAt b 0 2, seq := s.seq, flags := leAt b 4 1, timeout := leAt b 6 2,
    bufLen := leAt b 12 4, bufAddr := leAt b 16 8 }

/-- Its inline parameter entries. -/
def entryParams (b : List Byte) : List RawParam := rawParams (min 5 (leAt b 5 1)) (b.drop 24)

/-- Its buffer carries further parameter entries. -/
def readsList (o : OpSpec) (c : Cmd) : Bool := takesList o && c.bufLen != 0 && !descriptorForm c.op c.bufLen

/-- An entry whose inline parameters hold no fault: its list or its input is read, or it needs no read. -/
def admitEntry (o : OpSpec) (b : List Byte) (c : Cmd) (raw : List RawParam) (s : State) : State :=
  if readsList o c then startRead { c with inline := sliceOf b 24 (8 * raw.length) } (inputLen o c) s
  else if (checked o c raw).phase == .fetched && inputLen o (checked o c raw) != 0 then
    startRead (checked o c raw) (inputLen o (checked o c raw)) s
  else addCmd (checked o c raw) s

/-- The checks of an entry whose CID and EPOCH hold. -/
def judgeEntry (n : Nat) (b : List Byte) (c : Cmd) (s : State) : State :=
  match opSpec c.op with
  | none => refused c (badarg 0xFFFF) s
  | some o =>
    if !wellFormed o b c || !dirOk o c then refused c (badarg 0xFFFE) s
    else match badParam (keysFrom o n) (joinParams 0 (inlineNow (entryParams b) (readsList o c))) with
      | some i => refused c (badarg i) s
      | none => admitEntry o b c (entryParams b) s

theorem receiveEntry_eq {n : Nat} {b : List Byte} {s : State} (size : b.length = 64) : receiveEntry n b s =
    if s.cmds.any fun x => x.id == (entryCmd n b s).id then refused (entryCmd n b s) (badarg 0xFFFD) s
    else if n = 0 ∧ leAt b 8 4 ≠ 0 then refused (entryCmd n b s) (badarg 0xFFFE) s
    else if n ≠ 0 ∧ leAt b 8 4 ≠ (win s n).epoch.toNat then refused (entryCmd n b s) { status := 7 } s
    else judgeEntry n b (entryCmd n b s) s := by
  rw [receiveEntry, padTo_of_length size]
  rfl

section Entry
variable {n : Nat} {b : List Byte} {s : State} (size : b.length = 64)
include size

theorem receiveEntry_cidInUse (used : ∃ x ∈ s.cmds, x.id = (entryCmd n b s).id) :
    receiveEntry n b s = refused (entryCmd n b s) (badarg 0xFFFD) s := by
  rw [receiveEntry_eq size, if_pos (by simpa using used)]

variable (unused : ∀ x ∈ s.cmds, x.id ≠ (entryCmd n b s).id)
include unused

theorem receiveEntry_adminEpoch (admin : n = 0) (stamped : leAt b 8 4 ≠ 0) :
    receiveEntry n b s = refused (entryCmd n b s) (badarg 0xFFFE) s := by
  rw [receiveEntry_eq size, if_neg (by simpa using unused), if_pos ⟨admin, stamped⟩]

theorem receiveEntry_oldEpoch (other : n ≠ 0) (old : leAt b 8 4 ≠ (win s n).epoch.toNat) :
    receiveEntry n b s = refused (entryCmd n b s) { status := 7 } s := by
  rw [receiveEntry_eq size, if_neg (by simpa using unused), if_neg fun h => other h.1, if_pos ⟨other, old⟩]

theorem receiveEntry_current (admin : n = 0 → leAt b 8 4 = 0) (other : n ≠ 0 → leAt b 8 4 = (win s n).epoch.toNat) :
    receiveEntry n b s = judgeEntry n b (entryCmd n b s) s := by
  rw [receiveEntry_eq size, if_neg (by simpa using unused), if_neg fun h => h.2 (admin h.1),
    if_neg fun h => h.2 (other h.1)]

end Entry

section Judge
variable {n : Nat} {b : List Byte} {c : Cmd} {s : State} {o : OpSpec}

theorem judgeEntry_unknown (unknown : opSpec c.op = none) : judgeEntry n b c s = refused c (badarg 0xFFFF) s := by
  simp [judgeEntry, unknown]

variable (known : opSpec c.op = some o)
include known

theorem judgeEntry_malformed (bad : wellFormed o b c = false ∨ dirOk o c = false) :
    judgeEntry n b c s = refused c (badarg 0xFFFE) s := by
  simp [judgeEntry, known, bad]

variable (formed : wellFormed o b c = true) (dir : dirOk o c = true)
include formed dir

theorem judgeEntry_badParam {i : Nat}
    (bad : badParam (keysFrom o n) (joinParams 0 (inlineNow (entryParams b) (readsList o c))) = some i) :
    judgeEntry n b c s = refused c (badarg i) s := by
  simp [judgeEntry, known, formed, dir, bad]

theorem judgeEntry_sound
    (sound : badParam (keysFrom o n) (joinParams 0 (inlineNow (entryParams b) (readsList o c))) = none) :
    judgeEntry n b c s = admitEntry o b c (entryParams b) s := by
  simp [judgeEntry, known, formed, dir, sound]

end Judge

section Admit
variable {o : OpSpec} {b : List Byte} {c : Cmd} {raw : List RawParam} {s : State}

theorem admitEntry_list (more : readsList o c = true) :
    admitEntry o b c raw s = startRead { c with inline := sliceOf b 24 (8 * raw.length) } (inputLen o c) s := by
  simp [admitEntry, more]

theorem inputLen_checked : inputLen o (checked o c raw) = inputLen o c := by
  have size : (checked o c raw).bufLen = c.bufLen := by
    unfold checked
    split <;> rfl
  simp [inputLen, size]

theorem admitEntry_input (whole : readsList o c = false) (starts : (checked o c raw).phase = .fetched)
    (carries : inputLen o c ≠ 0) : admitEntry o b c raw s = startRead (checked o c raw) (inputLen o c) s := by
  simp [admitEntry, whole, starts, inputLen_checked, carries]

theorem admitEntry_noRead (whole : readsList o c = false)
    (nothing : (checked o c raw).phase ≠ .fetched ∨ inputLen o c = 0) : admitEntry o b c raw s =
      addCmd (checked o c raw) s := by
  have noInput : ((checked o c raw).phase == .fetched && inputLen o (checked o c raw) != 0) = false := by
    simpa [inputLen_checked, Decidable.imp_iff_not_or] using nothing
  simp [admitEntry, whole, noInput]

end Admit

/-- Settles O14: the checks in their order, then the parameters. That BUF_OUT is judged only where there is a buffer, and
that a list's inline entries are judged before the buffer is read, is log entry 18. -/
theorem entryChecks : Obligations.EntryChecks := by
  intro n b c e raw s size spelled epoch inline
  obtain rfl : c = entryCmd n b s := spelled
  obtain rfl : raw = entryParams b := inline
  subst epoch
  refine ⟨receiveEntry_cidInUse size, fun unused => ⟨receiveEntry_adminEpoch size unused,
    receiveEntry_oldEpoch size unused, fun admin other => ?passed⟩, fun o x l => ?params⟩
  case passed =>
    rw [receiveEntry_current size unused admin other]
    refine ⟨judgeEntry_unknown, fun o known => ⟨judgeEntry_malformed known, fun more formed dir lists => ?sound⟩⟩
    obtain rfl : more = readsList o (entryCmd n b s) := lists
    refine ⟨fun i => judgeEntry_badParam known formed dir, fun sound => ?_⟩
    rw [judgeEntry_sound known formed dir sound]
    exact ⟨admitEntry_list, admitEntry_input, admitEntry_noRead⟩
  case params =>
    exact ⟨wellFormed_iff o b x, dirOk_iff o x, fun i bad => checked_of_error (checkParams_bad bad),
      fun k sound absent => checked_of_error (checkParams_missing sound absent),
      fun sound complete => checked_of_ok (checkParams_complete sound complete)⟩

end Sys2Proof.Machine
end

section
/-! SUPPORT. Fetches of entries, reads of host memory and frames to transmit (R82, R85, R95, R96, R108): what each row
does by whether its address translates, and by how its read ends. -/

namespace Sys2Proof.Machine

/-! ## Fetching an entry -/

theorem exec_submissionFetch {n : Nat} {s t : State} (entry : Option (List Byte)) (turn : takeTurn n s = some t) :
    exec (.submissionFetch n entry) s = .next (fetchEntry n entry t) := by
  change execSubmissionFetch n entry s = _
  simp only [execSubmissionFetch, turn]

section Fetch
variable {n : Nat} {s : State}

theorem fetchEntry_fault {k x : Nat} (entry : Option (List Byte))
    (fault : atuCheck s n (sqAddr (win s n) (win s n).sqHead) 64 false = some (k, x)) :
    fetchEntry n entry s = ringErr n (sqStop n (atuFault n k x false 2 0 s)) := by
  simp only [fetchEntry, fault]

variable (mapped : atuCheck s n (sqAddr (win s n) (win s n).sqHead) 64 false = none)
include mapped

theorem fetchEntry_given (b : List Byte) : fetchEntry n (some b) s =
    receiveEntry n b (updWin n (fun w => { w with sqHead := (w.sqHead + 1) % sqLen w }) s) := by
  simp only [fetchEntry, mapped]

theorem fetchEntry_asked : fetchEntry n none s =
    issueRead
      { tag := 0, purpose := .entry n, addr := sqAddr (win s n) (win s n).sqHead, len := 64, attempt := 0, at_ := s.clk }
      (updWin n (fun w => { w with sqHead := (w.sqHead + 1) % sqLen w }) s) := by
  simp only [fetchEntry, mapped, updWin_clk]

end Fetch

/-! ## The end of a read -/

section Reads
variable {r : Rd} {s : State} (found : s.pcie.reads.find? (fun x => x.tag == r.tag) = some r)
include found

theorem exec_dmaReadCompletion_data (b : List Byte) :
    exec (.dmaReadCompletion r.tag true b) s = .next (readDone r b (endRead r.tag s)) := by
  change execDmaReadCompletion r.tag true b s = _
  simp [execDmaReadCompletion, found]

theorem exec_dmaReadCompletion_failed (b : List Byte) :
    exec (.dmaReadCompletion r.tag false b) s = .next (readFailed r (endRead r.tag s)) := by
  change execDmaReadCompletion r.tag false b s = _
  simp [execDmaReadCompletion, found]

variable (due : r.at_ + cto s ≤ s.clk)
include due

theorem exec_dmaReadTimeout_unwanted (unwanted : wanted s r = false) :
    exec (.dmaReadTimeout r.tag) s = .next (endRead r.tag s) := by
  change execDmaReadTimeout r.tag s = _
  simp [execDmaReadTimeout, found, Nat.not_lt.mpr due, unwanted]

variable (want : wanted s r = true)
include want

theorem exec_dmaReadTimeout_first (first : r.attempt = 0) :
    exec (.dmaReadTimeout r.tag) s = .next (issueRead { r with attempt := 1 } (endRead r.tag s)) := by
  change execDmaReadTimeout r.tag s = _
  simp [execDmaReadTimeout, found, Nat.not_lt.mpr due, want, first]

theorem exec_dmaReadTimeout_again (again : r.attempt ≠ 0) :
    exec (.dmaReadTimeout r.tag) s = .next (readFailed r (endRead r.tag s)) := by
  change execDmaReadTimeout r.tag s = _
  simp [execDmaReadTimeout, found, Nat.not_lt.mpr due, want, again]

end Reads

/-! ## Frames to transmit -/

/-- A translation depends on the translation unit alone. -/
theorem atuWalk_congr {s t : State} (same : s.atu = t.atu) (slice : Nat) (write : Bool) (fuel addr len : Nat)
    (first : Bool) : atuWalk s slice write fuel addr len first = atuWalk t slice write fuel addr len first := by
  induction fuel generalizing addr len first with
  | zero => rfl
  | succ fuel ih => simp only [atuWalk, atuHit, same, ih]

theorem atuCheck_congr {s t : State} (same : s.atu = t.atu) (slice addr len : Nat) (write : Bool) :
    atuCheck s slice addr len write = atuCheck t slice addr len write := by
  simp only [atuCheck, atuWalk_congr same]

theorem txBufFault_congr {s t : State} (same : s.atu = t.atu) (n x : Nat) (ds : List TxDesc) :
    txBufFault s n x ds = txBufFault t n x ds := by
  induction ds generalizing x with
  | nil => rfl
  | cons d ds ih => simp only [txBufFault, atuCheck_congr same, ih]

section Transmit
variable {n : Nat} {ds : List TxDesc} {s : State} (f : Frame) (may : txReady s n ds.length = true)
include may

theorem exec_txFrameFetch : exec (.txFrameFetch n ds f) s = .next (txFetch n ds f s) :=
  exec_of_due (Eq.refl (execTxFrameFetch n ds f s)) may

theorem exec_txFrameFetch_fault {k a : Nat} (fault : txFault s n (win s n).txHead ds.length = some (k, a)) :
    exec (.txFrameFetch n ds f) s = .next (txStop n (atuFault n k a false 5 0 s)) := by
  rw [exec_txFrameFetch f may]
  simp only [txFetch, fault]

theorem exec_txFrameFetch_mapped (mapped : txFault s n (win s n).txHead ds.length = none)
    (buffers : txBufFault s n s.fresh ds = none) :
    exec (.txFrameFetch n ds f) s = .next (txFrame n (win s n).txHead ds f
      (updWin n (fun w => { w with txHead := ((win s n).txHead + ds.length) % ringLen (fval w.cfg wTxLog2) })
        { s with fresh := s.fresh + ds.length })) := by
  have drawn : txBufFault { s with fresh := s.fresh + ds.length } n s.fresh ds = none :=
    (txBufFault_congr (s := { s with fresh := s.fresh + ds.length }) (t := s) rfl n s.fresh ds).trans buffers
  rw [exec_txFrameFetch f may]
  simp only [txFetch, mapped, drawn]

end Transmit

/-- Settles O43: each row by how its address translates and how its read ends. How entry reads are issued is log entry 19,
the addresses of transmit buffers log entry 62, the transmit rings log entry 63. -/
theorem mailboxEvents : Obligations.MailboxEvents := by
  refine ⟨fun n s t a turn address => ?fetch, fun r s found => ?reads, fun n i ds f s may head => ?transmit⟩
  case fetch =>
    subst address
    refine ⟨fun b mapped => ?_, fun mapped => ?_, fun e k x fault => ?_⟩
    · rw [exec_submissionFetch _ turn, fetchEntry_given mapped]
    · rw [exec_submissionFetch _ turn, fetchEntry_asked mapped]
    · rw [exec_submissionFetch _ turn, fetchEntry_fault e fault]
  case reads =>
    exact ⟨exec_dmaReadCompletion_data found, exec_dmaReadCompletion_failed found, exec_dmaReadTimeout_first found,
      exec_dmaReadTimeout_again found, exec_dmaReadTimeout_unwanted found⟩
  case transmit =>
    subst head
    exact ⟨exec_txFrameFetch_mapped f may, fun k a => exec_txFrameFetch_fault f may⟩

end Sys2Proof.Machine
end

section
/-! SUPPORT. Expiry of commands (R84), completions (R80, R83, R90, R108), the resets of the host interface (R89) and bus
mastering (R90). -/

namespace Sys2Proof.Machine

/-! ## Timeouts -/

/-- R84: both floors in nanoseconds. -/
theorem effTimeout_eq (s : State) (c : Cmd) : effTimeout s c =
    max ((if c.timeout = 0 then fval (win s c.id.slice).cfg wTimeout else c.timeout) * 1000000)
      (max (4 * cto s + 1000000) (if c.op = 0x0103 then 2000000 else 0)) := rfl

/-- A command with no input enters EXECUTING at this instant. -/
theorem mem_setPhase {r : CmdId} {c : Cmd} {s : State} (p : Phase) (here : c ∈ s.cmds) (named : c.id = r)
    (fetched : c.phase = .fetched) (bare : c.input = []) :
    { c with phase := p, started := s.clk } ∈ (setPhase r p s).cmds :=
  List.mem_map.mpr ⟨c, here, by simp [named, fetched, bare]⟩

section Timeout
variable {r : CmdId} {c : Cmd} {s : State} (found : s.cmds.find? (fun c => c.id == r && executing c) = some c)
include found

theorem exec_commandTimeout : exec (.commandTimeout r) s =
    .next (if committed s c || decide (s.clk < c.started + effTimeout s c) then s else abortCmd r 2 s) := by
  change execCommandTimeout r s = _
  simp only [execCommandTimeout, found]

theorem exec_commandTimeout_expired (short : committed s c = false) (due : c.started + effTimeout s c ≤ s.clk) :
    exec (.commandTimeout r) s = .next (reply r (aborted 2) (cancelCmd r s)) := by
  rw [exec_commandTimeout found, if_neg (by simp [short, due]), abortCmd]

theorem exec_commandTimeout_left (left : committed s c = true ∨ s.clk < c.started + effTimeout s c) :
    exec (.commandTimeout r) s = .next s := by
  rw [exec_commandTimeout found, if_pos (by simpa using left)]

end Timeout

/-- Settles O15: the bound by its definition, its start by the change of phase, its expiry by the row. -/
theorem commandTimeouts : Obligations.CommandTimeouts :=
  fun _ c s => ⟨effTimeout_eq s c, mem_setPhase,
    fun found => ⟨exec_commandTimeout_expired found, exec_commandTimeout_left found⟩⟩

/-! ## Completions -/

section Completion
variable {r : CmdId} {c : Cmd} {s : State}
  (found : s.cmds.find? (fun c => c.id == r && c.phase == .completing) = some c)
include found

theorem completing_id : c.id = r := by
  have holds := List.find?_some found
  simp only [Bool.and_eq_true, beq_iff_eq] at holds
  exact holds.1

variable (up : s.pcie.down = false)
include up

theorem exec_completionWrite_held (off : busOff s = true) : exec (.completionWrite r) s = .next (holdCqe r s) := by
  change execCompletionWrite r s = _
  simp [execCompletionWrite, found, up, off]

variable (on : busOff s = false)
include on

theorem exec_completionWrite_complete : exec (.completionWrite r) s = .next (complete c s) := by
  change execCompletionWrite r s = _
  simp [execCompletionWrite, found, up, on]

end Completion

section Complete
variable {c : Cmd} {s : State}

theorem complete_failedRing (failed : (win s c.id.slice).cqFailed = true) :
    complete c s = retire c.id (countAborted c.id.slice s) := by
  simp [complete, failed]

variable (sound : (win s c.id.slice).cqFailed = false)
include sound

theorem complete_full (full : cqFull (win s c.id.slice) = true) : complete c s = s := by
  simp [complete, sound, full]

variable (room : cqFull (win s c.id.slice) = false)
include room

theorem complete_written
    (mapped : atuCheck s c.id.slice (cqAddr (win s c.id.slice) (win s c.id.slice).cqIdx) 32 true = none) :
    complete c s = writeCqe c s := by
  simp [complete, sound, room, mapped]

theorem complete_fault {k a : Nat}
    (fault : atuCheck s c.id.slice (cqAddr (win s c.id.slice) (win s c.id.slice).cqIdx) 32 true = some (k, a)) :
    complete c s = failCq c k a s := by
  simp [complete, sound, room, fault]

end Complete

/-! ## Resets of the host interface -/

theorem tfind_mem {α : Type} {t : Tab α} {i : Nat} {x : α} (found : tfind t i = some x) : (i, x) ∈ t := by
  induction t with
  | nil => simp [tfind] at found
  | cons e t ih =>
    obtain ⟨k, v⟩ := e
    by_cases same : k = i
    · simp_all [tfind]
    · exact List.mem_cons_of_mem _ (ih (by simpa [tfind, same] using found))

/-- An entry of a changed table is the default or a changed entry. -/
theorem tget_tmapD {α : Type} [DecidableEq α] (d : α) (f : Nat → α → α) (t : Tab α) (i : Nat) :
    tget d (tmapD d f t) i = d ∨ ∃ x, tget d (tmapD d f t) i = f i x := by
  cases found : tfind (tmapD d f t) i with
  | none => exact .inl (by simp [tget, found])
  | some y =>
    obtain ⟨⟨j, x⟩, -, changed⟩ := List.mem_map.mp (List.mem_filter.mp (tfind_mem found)).1
    obtain ⟨rfl, rfl⟩ : j = i ∧ f j x = y := by simpa using changed
    exact .inr ⟨x, by simp [tget, found]⟩

/-- What a reset of the host interface clears (R89; log entry 20). -/
def HostCleared (t : State) : Prop :=
  t.cmds = [] ∧ t.heldOut = [] ∧ t.atu.entries = [] ∧ t.pcie.reads = [] ∧ t.pcie.latches = [] ∧ t.pcie.unmasked = [] ∧
    t.ntfs = [] ∧ ∀ n, (win t n).pasid = none ∧ (win t n).enabled = false

theorem hostCleared_updSw (f : Switch → Switch) (s : State) : HostCleared (updSw f s) ↔ HostCleared s := Iff.rfl

theorem hostCleared_setQueue (p c : Nat) (q : List Copy) (s : State) : HostCleared (setQueue p c q s) ↔ HostCleared s :=
  hostCleared_updSw ..

theorem hostCleared_release (p : Nat) (q : Copy) (s : State) : HostCleared (release p q s) ↔ HostCleared s :=
  (hostCleared_updSw ..).trans (hostCleared_updSw ..)

theorem hostCleared_rxNobuf {s : State} (n : Nat) (cleared : HostCleared s) : HostCleared (rxNobuf n s) := by
  obtain ⟨cmds, held, atu, reads, latches, unmasked, ntfs, wins⟩ := cleared
  refine ⟨cmds, held, atu, reads, latches, unmasked, ntfs, fun m => ?_⟩
  by_cases same : m = n
  · subst same
    simpa [rxNobuf] using wins m
  · simpa [rxNobuf, win_updWin_ne _ _ same] using wins m

/-- What a flush of a virtual port drops is counted in its window, and the switch core alone holds the rest. -/
theorem hostCleared_flushVport {s : State} (n : Nat) (cleared : HostCleared s) : HostCleared (flushVport n s) :=
  List.foldlRecOn _ _ cleared fun _ before _ _ =>
    List.foldlRecOn _ _ ((hostCleared_setQueue ..).mpr before) fun _ before _ _ =>
      hostCleared_rxNobuf n ((hostCleared_release ..).mpr before)

theorem tget_winReset_unassigned (t : Tab Window) (n : Nat) :
    (tget {} (tmapD {} (fun _ w => winReset w) t) n).pasid = none ∧
      (tget {} (tmapD {} (fun _ w => winReset w) t) n).enabled = false := by
  rcases tget_tmapD {} (fun _ w => winReset w) t n with unset | ⟨w, reset⟩
  · rw [unset]
    exact ⟨rfl, rfl⟩
  · rw [reset]
    exact ⟨rfl, rfl⟩

theorem hostReset_cleared (s : State) : HostCleared (hostReset s) := by
  refine List.foldlRecOn _ _ ⟨rfl, rfl, rfl, rfl, rfl, rfl, rfl, tget_winReset_unassigned _⟩ fun t before i _ => ?_
  split
  · exact before
  · exact hostCleared_flushVport _ before

theorem exec_functionLevelReset {s : State} (up : s.pcie.down = false) :
    exec .functionLevelReset s = .next (hostReset s) := by
  change execFunctionLevelReset s = _
  simp [execFunctionLevelReset, up]

theorem exec_busMasterChange {b d : Bool} {s : State} (up : s.pcie.down = false) :
    exec (.busMasterChange b d) s = .next (busChange b d s) := by
  change execBusMasterChange b d s = _
  simp [execBusMasterChange, up]

/-- Settles O44: the expiry and the completions by their rows, the resets by what they clear. What the resets clear beyond
R89 is log entry 20, what an aborted command had begun log entry 81, the masks of MSI-X after a reset log entry 5. -/
theorem completionAndResetEvents : Obligations.CompletionAndResetEvents := by
  refine ⟨fun r c s => ⟨exec_commandTimeout_expired, exec_completionWrite_held, fun found up on => ?completes⟩,
    fun s t b d => ⟨rfl, exec_functionLevelReset, ?reset, exec_busMasterChange⟩⟩
  case completes =>
    obtain rfl := completing_id found
    rw [exec_completionWrite_complete found up on]
    refine ⟨fun failed => ?_, fun sound room mapped => ?_, fun sound full => ?_, fun k a sound room fault => ?_⟩
    · rw [complete_failedRing failed]
    · rw [complete_written sound room mapped]
    · rw [complete_full sound full]
    · rw [complete_fault sound room fault]
  case reset => exact fun made => made ▸ hostReset_cleared s

end Sys2Proof.Machine
end

section
/-! SUPPORT. Writes to the registers of a window that turn its rings on and off (R68, R72, R344), and to BAR2 (R64): what
each write leaves by the bit it sets and the bit before it. -/

namespace Sys2Proof.Machine

section Rings
variable {n value : Nat} {g : Cfg} {s : State}

/-! ## RING_CFG -/

theorem writeRingCfg_denied (refused : winWrite n 0x010 value s = none) : writeRingCfg n value s = deniedWr n s := by
  simp [writeRingCfg, refused]

theorem writeRingCfg_starts (written : winWrite n 0x010 value s = some g) (on : fon g wEnable = true)
    (off : fon (win s n).cfg wEnable = false) :
    writeRingCfg n value s = sqStart n (updWin n (fun w => { w with cfg := g }) s) := by
  simp [writeRingCfg, written, on, off]

theorem writeRingCfg_runs (written : winWrite n 0x010 value s = some g) (on : fon g wEnable = true)
    (was : fon (win s n).cfg wEnable = true) :
    writeRingCfg n value s = updWin n (fun w => { w with cfg := g }) s := by
  simp [writeRingCfg, written, on, was]

theorem writeRingCfg_stops (written : winWrite n 0x010 value s = some g) (off : fon g wEnable = false)
    (was : fon (win s n).cfg wEnable = true) :
    writeRingCfg n value s = sqStop n (updWin n (fun w => { w with cfg := g }) s) := by
  simp [writeRingCfg, written, off, was]

/-! ## RX_CFG and TX_CFG -/

theorem writeRxCfg_starts (written : winWrite n 0x048 value s = some g) (on : fon g wRxEn = true)
    (off : fon (win s n).cfg wRxEn = false) :
    writeRxCfg n value s = vportRestart n (updWin n (fun w => { w with rxHead := 0, rxTail := 0 })
      (updWin n (fun w => { w with cfg := g }) s)) := by
  simp [writeRxCfg, written, on, off]

theorem writeRxCfg_stops (written : winWrite n 0x048 value s = some g) (off : fon g wRxEn = false)
    (was : fon (win s n).cfg wRxEn = true) :
    writeRxCfg n value s = flushVport n (updWin n (fun w => { w with cfg := g }) s) := by
  simp [writeRxCfg, written, off, was]

theorem writeTxCfg_starts (written : winWrite n 0x068 value s = some g) (on : fon g wTxEn = true)
    (off : fon (win s n).cfg wTxEn = false) :
    writeTxCfg n value s = updWin n (fun w => { w with txHead := 0, txTail := 0 })
      (updWin n (fun w => { w with cfg := g }) s) := by
  simp [writeTxCfg, written, on, off]

theorem writeTxCfg_off (written : winWrite n 0x068 value s = some g) (off : fon g wTxEn = false) :
    writeTxCfg n value s = updWin n (fun w => { w with cfg := g }) s := by
  simp [writeTxCfg, written, off]

/-! ## The rows -/

variable (up : hostUp s = true) (window : n ≤ 512)
include up window

theorem exec_ringEnable (sets : bitOf value 8 = true) :
    exec (.ringEnable n value) s = .next (writeRingCfg n value s) :=
  exec_of_due (Eq.refl (execRingEnable n value s)) (by simp [up, winExists, window, sets])

theorem exec_ringDisable (clears : bitOf value 8 = false) :
    exec (.ringDisable n value) s = .next (writeRingCfg n value s) :=
  exec_of_due (Eq.refl (execRingDisable n value s)) (by simp [up, winExists, window, clears])

variable (station : n ≠ 0)
include station

theorem stationUp_of_hostUp : stationUp s n = true := by
  simp [stationUp, up, winExists, window, station]

theorem exec_rxRingEnable (sets : bitOf value 16 = true) :
    exec (.rxRingEnable n value) s = .next (writeRxCfg n value s) :=
  exec_of_due (Eq.refl (execRxRingEnable n value s)) (by simp [stationUp_of_hostUp up window station, sets])

theorem exec_rxRingDisable (clears : bitOf value 16 = false) :
    exec (.rxRingDisable n value) s = .next (writeRxCfg n value s) :=
  exec_of_due (Eq.refl (execRxRingDisable n value s)) (by simp [stationUp_of_hostUp up window station, clears])

theorem exec_txRingEnable (sets : bitOf value 16 = true) :
    exec (.txRingEnable n value) s = .next (writeTxCfg n value s) :=
  exec_of_due (Eq.refl (execTxRingEnable n value s)) (by simp [stationUp_of_hostUp up window station, sets])

theorem exec_txRingDisable (clears : bitOf value 16 = false) :
    exec (.txRingDisable n value) s = .next (writeTxCfg n value s) :=
  exec_of_due (Eq.refl (execTxRingDisable n value s)) (by simp [stationUp_of_hostUp up window station, clears])

end Rings

/-- Settles O39: each row by what the write to its register leaves. The indices at the start of a ring are log entry 21,
STOP_CAUSE after a reset of the slice log entry 22, the lists of the virtual port log entry 24. -/
theorem ringEnables : Obligations.RingEnables := by
  intro n value g s up window
  refine ⟨fun written sets on off => ?start, fun written sets on was => ?runs, fun written clears off was => ?stop,
    fun refused sets => ?denied, fun station written sets on off => ?rxStart,
    fun station written clears off was => ?rxStop, fun station written sets on off => ?txStart,
    fun station written clears off => ?txStop⟩
  case start => rw [exec_ringEnable up window sets, writeRingCfg_starts written on off, sqStart]
  case runs => rw [exec_ringEnable up window sets, writeRingCfg_runs written on was]
  case stop => rw [exec_ringDisable up window clears, writeRingCfg_stops written off was]
  case denied => rw [exec_ringEnable up window sets, writeRingCfg_denied refused]
  case rxStart => rw [exec_rxRingEnable up window station sets, writeRxCfg_starts written on off]
  case rxStop => rw [exec_rxRingDisable up window station clears, writeRxCfg_stops written off was]
  case txStart => rw [exec_txRingEnable up window station sets, writeTxCfg_starts written on off]
  case txStop => rw [exec_txRingDisable up window station clears, writeTxCfg_off written off]

theorem exec_bar2Write {addr : Nat} {s : State} (opened : regsOpen s = true) :
    exec (.bar2Write addr) s = .next (accessError true true addr s) :=
  exec_of_due (Eq.refl (execBar2Write addr s)) opened

/-- Settles O16: the write is an access error of BAR2. -/
theorem readOnlyArchiveWindow : Obligations.ReadOnlyArchiveWindow :=
  fun _ _ opened => exec_bar2Write opened

end Sys2Proof.Machine
end

section
/-! SUPPORT. Commands that meet a reset (R117, R128): which opcodes the reset holds, and what their rows answer. -/

namespace Sys2Proof.Machine

/-- The command that `ready` finds is the one named, fetched with the row's opcode. -/
theorem ready_found {op : Nat} {r : CmdId} {c : Cmd} {s : State} (found : ready op r s = some c) : c.id = r ∧ c.op = op := by
  unfold ready at found
  split at found
  case h_1 x hit =>
    obtain ⟨-, rfl⟩ : startable s x = true ∧ x = c := by simpa using found
    obtain ⟨⟨named, coded⟩, -⟩ : (x.id = r ∧ x.op = op) ∧ x.phase = .fetched := by simpa using List.find?_some hit
    exact ⟨named, coded⟩
  case h_2 => nomatch found

/-- The opcodes that a reset holds (R117): the ranges that act on instances, without the commands that name none and
without the status reading 0x0201. -/
def heldOp (op : Nat) : Bool :=
  ([2, 6, 7].contains (op / 256) || op / 256 == 8 && op < 0x0809 || 0x0307 ≤ op && op ≤ 0x0309) &&
    !noInstance.contains op && op != 0x0201

theorem blockOf_heldOp {c : Cmd} (acts : heldOp c.op = true) : (blockOf c).1 = 2 := by
  have ranged : c.op / 256 = 2 ∨ c.op / 256 = 6 ∨ c.op / 256 = 7 ∨ (c.op / 256 = 8 ∧ c.op < 0x0809) ∨
      (0x0307 ≤ c.op ∧ c.op ≤ 0x0309) := by
    simp only [heldOp, Bool.and_eq_true] at acts
    obtain ⟨⟨ranged, -⟩, -⟩ := acts
    simpa [or_assoc] using ranged
  simp only [blockOf, if_pos ranged]

/-- R117: outside BOOT and HALTED the reset holds every such command. -/
theorem heldByReset_heldOp {c : Cmd} {s : State} (acts : heldOp c.op = true) (opened : Open s)
    (resetting : (inst s (instOf c)).st = .resetting) : heldByReset c s = true := by
  have block := blockOf_heldOp acts
  have serves : (s.svc.state == .boot || s.svc.state == .halted) = false := opened
  simp only [heldOp, Bool.and_eq_true] at acts
  obtain ⟨⟨-, names⟩, held⟩ := acts
  simp only [heldByReset, block, names, held, resetting, serves, beq_self_eq_true, Bool.not_false, Bool.and_self]

theorem heldByReset_statusGet {c : Cmd} {s : State} (status : c.op = 0x0201) : heldByReset c s = false := by
  simp [heldByReset, status]

theorem instanceRows_feljo : ∀ e ∈ instanceRows, ∃ k, ∀ r s, exec (e.1 r) s = feljo e.2 r k s := by
  simp only [instanceRows, List.forall_mem_append, List.forall_mem_cons, List.not_mem_nil, false_implies, implies_true,
    and_true]
  and_intros
  all_goals exact ⟨_, fun _ _ => rfl⟩

theorem instanceRows_heldOp : ∀ e ∈ instanceRows, heldOp e.2 = true := by decide

/-- Settles O11: the reset holds every row of the list before its meaning is judged, and the status reading alone is passed
on (log entry 15). -/
theorem resettingInstanceIsBusy : Obligations.ResettingInstanceIsBusy := by
  refine ⟨fun e listed r c s found opened resetting => ?held, fun r c s found _ => ?status⟩
  case held =>
    obtain ⟨k, row⟩ := instanceRows_feljo e listed
    obtain ⟨-, coded⟩ := ready_found found
    have acts : heldOp c.op = true := coded ▸ instanceRows_heldOp e listed
    rw [row, feljo_held found (heldByReset_heldOp acts opened resetting)]
  case status =>
    have starts : Starts 0x0201 r c s := ⟨found, heldByReset_statusGet (ready_found found).2⟩
    exact exec_of_done (Eq.refl (execInstanceStatusGet r s)) starts rfl rfl

end Sys2Proof.Machine
end

section
/-! SUPPORT. What a command leaves of the instances it does not name (R99, R126): the operations behind the rows of
`ownRows`, then the rows. -/

namespace Sys2Proof.Machine

/-- All instances but `n`. -/
def State.others (n : Nat) (s : State) : Nat → Inst := fun m => if m = n then {} else inst s m

theorem inst_of_others {n m : Nat} {s t : State} (kept : t.others n = s.others n) (other : m ≠ n) :
    inst t m = inst s m := by
  simpa [State.others, other] using congrFun kept m

theorem others_of_insts {n : Nat} {s t : State} (same : t.insts = s.insts) : t.others n = s.others n := by
  unfold State.others inst
  rw [same]

theorem others_of_prot {n : Nat} {s t : State} (same : t.prot = s.prot) : t.others n = s.others n :=
  others_of_insts (congrArg Prod.fst same)

theorem foldl_others {α : Type} {n : Nat} {g : State → α → State} (l : List α)
    (kept : ∀ s a, (g s a).others n = s.others n) (s : State) : (l.foldl g s).others n = s.others n := by
  induction l generalizing s with
  | nil => rfl
  | cons a l ih => rw [List.foldl_cons, ih, kept]

/-! ## Operations that name `n` -/

section Operations
variable (n : Nat) (s : State)

theorem updInst_others (f : Inst → Inst) : (updInst n f s).others n = s.others n := by
  funext m
  by_cases here : m = n
  · simp [State.others, here]
  · simp only [State.others, if_neg here, inst_updInst_ne f s here]

theorem updEl_others (f : Elems → Elems) : (updEl n f s).others n = s.others n := updInst_others ..

theorem updLogic_others (f : Logic → Logic) : (updLogic n f s).others n = s.others n := updInst_others ..

theorem putPub_others (p : Nat) (u : Pub) : (putPub n p u s).others n = s.others n := updInst_others ..

theorem stopPubs_others : (stopPubs n s).others n = s.others n := updInst_others ..

theorem replyTo_prot (id : Option CmdId) (r : Reply) : (replyTo id r s).prot = s.prot := by
  cases id with
  | none => rfl
  | some x => exact reply_prot x r s

theorem dropRestart_others (d : Nat) : (dropRestart n d s).others n = s.others n := by
  unfold dropRestart
  split
  · rw [others_of_prot (replyTo_prot ..), updInst_others]
  · rfl

theorem dropExch_others (d : Nat) : (dropExch n d s).others n = s.others n := by
  unfold dropExch
  split
  · rw [others_of_prot (replyTo_prot ..), updLogic_others]
  · rfl

theorem clearForces_others (slice : Nat) : (clearForces n slice s).others n = s.others n := by
  unfold clearForces
  rw [others_of_prot (foldl_prot _ _ (fun s e => note_prot ..) _), updInst_others]

theorem startWait_others (k : RestartKind) (c : Cmd) (target : Option Word) (img : List Byte) :
    (startWait n k c target img s).others n = s.others n := updInst_others ..

end Operations

/-! ## A change of state (R103) -/

theorem finishWaits_insts (k : WaitKind) (r : Reply) (s : State) : (finishWaits k r s).insts = s.insts :=
  congrArg Prod.fst (foldl_prot (fun s (w : Wait) => replyTo w.cmd r s) _ (fun s w => replyTo_prot s w.cmd r) s)

theorem endTest_insts (k : Nat) (s : State) : (endTest k s).insts = s.insts := by
  unfold endTest
  split
  · rw [finishWaits_insts, updOut_insts]
  · rfl

theorem refreshOut_insts (k : Nat) (s : State) : (refreshOut k s).insts = s.insts := by
  unfold refreshOut
  split
  · rfl
  · rw [updOut_insts]

theorem holdOut_insts (k : Nat) (s : State) : (holdOut k s).insts = s.insts := by
  rw [holdOut, deenergise, refreshOut_insts, updOut_insts, updOut_insts, endTest_insts]

theorem holdOuts_others (n : Nat) (s : State) : (holdOuts n s).others n = s.others n := by
  refine foldl_others _ (fun s k => ?_) s
  split
  · exact others_of_insts (holdOut_insts k s)
  · rfl

theorem holdPubs_others (n : Nat) (s : State) : (holdPubs n s).others n = s.others n := by
  refine foldl_others _ (fun s e => ?_) s
  split
  · rw [launchPub, others_of_prot (sendPub_prot ..), putPub_others]
  · rfl

theorem recJudge_prot (s : State) : (recJudge s).prot = s.prot := by
  unfold recJudge
  simp only [prot_mk, prot_fold, ite_prot, ite_self]

theorem setAlarm_prot (i : Nat) (s : State) : (setAlarm i s).prot = s.prot :=
  (alarmPubJudge_prot _).trans (withNtf_prot _ _ _ fun _ => rfl)

theorem ite_others (p : Prop) [Decidable p] (n : Nat) (s t : State) :
    (if p then s else t).others n = if p then s.others n else t.others n :=
  apply_ite (State.others n) p s t

/-- R103: what a change of state does to instances it does to the one that changes. -/
theorem changeInst_others (n : Nat) (new : IState) (cause slice : Nat) (quiet : Bool) (s : State) :
    (changeInst n new cause slice quiet s).others n = s.others n := by
  have judged (s : State) : (recJudge s).others n = s.others n := others_of_prot (recJudge_prot s)
  have alarmed (i : Nat) (s : State) : (setAlarm i s).others n = s.others n := others_of_prot (setAlarm_prot i s)
  have noted (sev code slice obj : Nat) (data : List Nat) (s : State) :
      (noteAs sev code n slice obj data s).others n = s.others n := others_of_prot (noteAs_prot ..)
  have signalled (m i : Nat) (s : State) : (edge m i s).others n = s.others n := others_of_prot (edge_prot m i s)
  unfold changeInst
  simp only [ite_others, judged, alarmed, signalled, noted, holdPubs_others, stopPubs_others, updInst_others,
    holdOuts_others, ite_self]

/-! ## Answers -/

/-- The answer leaves all instances but `n` as `s` has them. -/
def Ans.KeepsOthers (n : Nat) (s : State) : Ans → Prop
  | .fail _ => True
  | .wait t => t.others n = s.others n
  | .going t => t.others n = s.others n
  | .done t _ => t.others n = s.others n

theorem settle_others {n : Nat} {c : Cmd} {s : State} {a : Ans} (kept : a.KeepsOthers n s) :
    (settle c s a).others n = s.others n := by
  cases a with
  | fail r => exact others_of_prot (reply_prot ..)
  | wait t => exact (others_of_prot (setPhase_prot ..)).trans kept
  | going t => exact (others_of_prot (setPhase_prot ..)).trans kept
  | done t r =>
    have sent : t.others n = s.others n := kept
    simp only [settle]
    split
    · rw [others_of_prot (reply_prot ..), sent]
    · split
      · rw [others_of_prot (reply_prot ..)]
      · split
        · rw [others_of_prot (reply_prot ..), others_of_prot (atuFault_prot ..)]
        · rw [others_of_prot (reply_prot ..), others_of_prot (post_prot ..), sent]

section Judgements
variable {n : Nat} {s : State} {k : Ans}

theorem require_keepsOthers {p : Bool} {r : Reply} (kept : k.KeepsOthers n s) : (require p r k).KeepsOthers n s := by
  unfold require
  split
  · exact kept
  · trivial

theorem instReady_keepsOthers {c : Cmd} (kept : k.KeepsOthers n s) : (instReady s c k).KeepsOthers n s :=
  require_keepsOthers (require_keepsOthers kept)

theorem ownLoop_keepsOthers {c : Cmd} (kept : k.KeepsOthers n s) : (ownLoop s c k).KeepsOthers n s :=
  require_keepsOthers kept

/-- A command carried to the partner changes nothing here until its effect point (R325). -/
theorem carried_keepsOthers {c : Cmd} {body : Cmd → State → Ans} (kept : (body c s).KeepsOthers n s) :
    (carried c s body).KeepsOthers n s := by
  unfold carried
  split
  · exact kept
  · split
    · trivial
    · split
      · exact kept
      · exact others_of_prot (sendCarry_prot ..)

theorem withPairs_keepsOthers {t : State} {r : Reply} (kept : t.others n = s.others n) :
    (withPairs t r).KeepsOthers n s := by
  unfold withPairs
  split
  · exact (others_of_insts (updFilt_insts ..)).trans kept
  · trivial

end Judgements

/-! ## The meanings -/

section Meanings
variable (c : Cmd) (s : State)

theorem configSet_keepsOthers : (configSet c s).KeepsOthers (instOf c) s := by
  simp only [configSet]
  split
  · trivial
  split
  · trivial
  split
  · trivial
  split
  · trivial
  refine withPairs_keepsOthers ?_
  split
  · rw [changeInst_others, updInst_others]
  · rw [updInst_others]

theorem instHold_keepsOthers : (instHold c s).KeepsOthers (instOf c) s := by
  simp only [instHold]
  split
  · trivial
  split
  · exact dropRestart_others ..
  split
  · exact require_keepsOthers ((updInst_others ..).trans (dropExch_others ..))
  · trivial

theorem instRestart_keepsOthers : (instRestart c s).KeepsOthers (instOf c) s := by
  simp only [instRestart]
  split
  · trivial
  split
  · trivial
  split
  · exact startWait_others ..
  split
  · trivial
  · exact require_keepsOthers (startWait_others ..)

/-- A loop belongs to its domain; a change of its channel may begin pairs (R189). -/
theorem spareSet_keepsOthers : (spareSet c s).KeepsOthers (instOf c) s := by
  refine ownLoop_keepsOthers ?_
  split
  · trivial
  split
  · trivial
  split
  · trivial
  · exact withPairs_keepsOthers (others_of_insts rfl)

theorem spareHold_keepsOthers : (spareHold c s).KeepsOthers (instOf c) s :=
  ownLoop_keepsOthers (others_of_prot (addWait_prot ..))

theorem setLoad_keepsOthers : (setLoad c s).KeepsOthers (instOf c) s := by
  simp only [setLoad]
  split
  · trivial
  split
  · trivial
  split
  · trivial
  · exact updEl_others ..

theorem paramSet_keepsOthers : (paramSet c s).KeepsOthers (instOf c) s := by
  simp only [paramSet]
  split
  · trivial
  split
  · trivial
  split
  · trivial
  split
  · trivial
  split
  · trivial
  split
  · exact updEl_others ..
  · exact updEl_others ..

theorem startExchange_keepsOthers (p : Prog) : (startExchange c p s).KeepsOthers (instOf c) s := by
  simp only [startExchange]
  split
  · trivial
  split
  · trivial
  · exact updLogic_others ..

theorem programLoad_keepsOthers : (programLoad c s).KeepsOthers (instOf c) s := by
  simp only [programLoad]
  split
  · trivial
  split
  · trivial
  split
  · trivial
  split
  · exact updLogic_others ..
  · exact startExchange_keepsOthers ..

theorem controlWrite_keepsOthers : (controlWrite c s).KeepsOthers (instOf c) s := by
  simp only [controlWrite]
  split
  · trivial
  split
  · trivial
  · exact updLogic_others ..

theorem forceSet_keepsOthers : (forceSet c s).KeepsOthers (instOf c) s := by
  simp only [forceSet]
  split
  · trivial
  split
  · trivial
  split
  · trivial
  split
  · trivial
  · exact (others_of_prot (note_prot ..)).trans (updLogic_others ..)

theorem forceClear_keepsOthers : (forceClear c s).KeepsOthers (instOf c) s := by
  simp only [forceClear]
  split
  · exact clearForces_others ..
  split
  · exact (others_of_prot (note_prot ..)).trans (updLogic_others ..)
  · trivial

theorem pubSet_keepsOthers : (pubSet c s).KeepsOthers (instOf c) s := by
  simp only [pubSet]
  split
  · trivial
  split
  · trivial
  split
  · exact putPub_others ..
  · exact require_keepsOthers (putPub_others ..)

theorem pubRelease_keepsOthers : (pubRelease c s).KeepsOthers (instOf c) s := by
  simp only [pubRelease, withPub]
  split
  · trivial
  split
  · exact require_keepsOthers (updInst_others ..)
  · trivial

theorem subSet_keepsOthers : (subSet c s).KeepsOthers (instOf c) s := by
  simp only [subSet]
  split
  · trivial
  split
  · trivial
  split
  · exact updInst_others ..
  · exact require_keepsOthers (updInst_others ..)

end Meanings

/-! ## The rows -/

/-- The meaning of the row `e` leaves all instances but the one its command names. -/
def OwnRow (e : CmdId → Instr) : Prop :=
  ∃ (op : Nat) (k : Cmd → State → Ans), (∀ r s, exec (e r) s = feljo op r k s) ∧ ∀ c s, (k c s).KeepsOthers (instOf c) s

theorem instOf_own {c : Cmd} (own : c.id.slice ≠ 0) : instOf c = c.id.slice := if_neg own

theorem exec_ownRow_others {e : CmdId → Instr} {r : CmdId} {s t : State} (row : OwnRow e) (own : r.slice ≠ 0)
    (outcome : exec (e r) s = .next t) : t.others r.slice = s.others r.slice := by
  obtain ⟨op, k, meaning, kept⟩ := row
  rw [meaning, feljo] at outcome
  split at outcome
  case h_1 c found =>
    obtain ⟨rfl, -⟩ := ready_found found
    obtain rfl := Host.Outcome.next.inj outcome
    refine settle_others ?_
    split
    · trivial
    · exact instOf_own own ▸ kept c s
  case h_2 =>
    obtain rfl := Host.Outcome.next.inj outcome
    rfl

theorem ownRow_of_instReady {e : CmdId → Instr} {op : Nat} {body : Cmd → State → Ans}
    (row : ∀ r s, exec (e r) s = feljo op r (fun c s => instReady s c (carried c s body)) s)
    (kept : ∀ c s, (body c s).KeepsOthers (instOf c) s) : OwnRow e :=
  ⟨op, _, row, fun c s => instReady_keepsOthers (carried_keepsOthers (kept c s))⟩

theorem ownRow_of_notBootHalted {e : CmdId → Instr} {op : Nat} {body : Cmd → State → Ans}
    (row : ∀ r s, exec (e r) s = feljo op r (fun c s => notBootHalted s (carried c s body)) s)
    (kept : ∀ c s, (body c s).KeepsOthers (instOf c) s) : OwnRow e :=
  ⟨op, _, row, fun c s => require_keepsOthers (carried_keepsOthers (kept c s))⟩

theorem ownRows_ownRow : ∀ e ∈ ownRows, OwnRow e := by
  simp only [ownRows, List.forall_mem_cons]
  exact ⟨ownRow_of_instReady (fun _ _ => rfl) configSet_keepsOthers,
    ownRow_of_instReady (fun _ _ => rfl) instHold_keepsOthers,
    ownRow_of_instReady (fun _ _ => rfl) instRestart_keepsOthers,
    ownRow_of_notBootHalted (fun _ _ => rfl) spareSet_keepsOthers,
    ownRow_of_notBootHalted (fun _ _ => rfl) spareHold_keepsOthers,
    ownRow_of_notBootHalted (fun _ _ => rfl) setLoad_keepsOthers,
    ownRow_of_notBootHalted (fun _ _ => rfl) paramSet_keepsOthers,
    ownRow_of_notBootHalted (fun _ _ => rfl) programLoad_keepsOthers,
    ownRow_of_notBootHalted (fun _ _ => rfl) controlWrite_keepsOthers,
    ownRow_of_notBootHalted (fun _ _ => rfl) forceSet_keepsOthers,
    ownRow_of_notBootHalted (fun _ _ => rfl) forceClear_keepsOthers,
    ownRow_of_notBootHalted (fun _ _ => rfl) pubSet_keepsOthers,
    ownRow_of_notBootHalted (fun _ _ => rfl) pubRelease_keepsOthers,
    ownRow_of_notBootHalted (fun _ _ => rfl) subSet_keepsOthers,
    List.forall_mem_nil _⟩

/-- Settles O12: every meaning of the list keeps all instances but the one its command names, and a command from another
slice than the admin slice names its own. -/
theorem ownSliceTouchesOwnInstance : Obligations.OwnSliceTouchesOwnInstance :=
  fun e listed _ _ _ _ own other outcome => inst_of_others (exec_ownRow_others (ownRows_ownRow e listed) own outcome) other

end Sys2Proof.Machine
end

section
/-! SUPPORT. Hold, restart, reset, freeze, save, restore and thaw (R112, R113, R115, R118, R119, R121, R124): the answer
of each meaning in the states its rule names, then its row. -/

namespace Sys2Proof.Machine

theorem exec_of_going {i : Instr} {op : Nat} {r : CmdId} {c : Cmd} {s t : State} {k : Cmd → State → Ans}
    (row : exec i s = feljo op r k s) (starts : Starts op r c s) (meaning : k c s = .going t) :
    exec i s = .next (setPhase c.id .committed t) := by
  rw [row, feljo_starts starts, meaning, settle_going]

theorem st_ne {i : Inst} {a b : IState} (here : i.st = a) (other : a ≠ b := by decide) : i.st ≠ b :=
  here ▸ other

/-! ## The meanings -/

section Meanings
variable {c : Cmd} {s : State}

theorem instHold_held (held : (inst s (instOf c)).st = .held) :
    instHold c s = .done (dropRestart (instOf c) 3 s) ok := by
  simp [instHold, held]

/-- R113: what runs stops at the close of its step; an exchange in preparation is dropped (R266). -/
theorem instHold_running (runs : (inst s (instOf c)).st = .running) (free : (inst s (instOf c)).holdReq = none) :
    instHold c s =
      .wait (updInst (instOf c) (fun i => { i with holdReq := some (some c.id) }) (dropExch (instOf c) 3 s)) := by
  simp [instHold, runs, free, require]

theorem instRestart_next (held : (inst s (instOf c)).st = .held) (free : (inst s (instOf c)).restart = none)
    (domain : domHeld s (instOf c) = false) (untimed : arg c 2 = none) :
    instRestart c s = .wait (startWait (instOf c) .restart c none [] s) := by
  simp [instRestart, held, free, domain, untimed]

/-- R112: a target angle is a boundary not too far ahead. -/
theorem instRestart_target {a : Nat} (held : (inst s (instOf c)).st = .held)
    (free : (inst s (instOf c)).restart = none) (domain : domHeld s (instOf c) = false) (target : arg c 2 = some a)
    (ahead : targetOk (dom s (fread (inst s (instOf c)).cfg iDomain)) (BitVec.ofNat 32 a) = true)
    (boundary : isBoundary (dom s (fread (inst s (instOf c)).cfg iDomain)) (BitVec.ofNat 32 a) = true) :
    instRestart c s = .wait (startWait (instOf c) .restart c (some (BitVec.ofNat 32 a)) [] s) := by
  simp [instRestart, held, free, domain, target, ahead, boundary, require]

theorem instReset_configured (free : (inst s (instOf c)).st ≠ .resetting) (used : (inst s (instOf c)).st ≠ .empty) :
    instReset c s = .going (resetInst (instOf c) (argD c 2 0 == 1) (some c.id) c.id.slice s) := by
  simp [instReset, free, used]

theorem instFreeze_waits (state : (inst s (instOf c)).st = .running ∨ (inst s (instOf c)).st = .held)
    (free : (inst s (instOf c)).freezeReq = none) :
    instFreeze c s =
      .wait (updInst (instOf c) (fun i => { i with freezeReq := some (some c.id) }) (dropExch (instOf c) 3 s)) := by
  rcases state with runs | held
  · simp [instFreeze, runs, free]
  · simp [instFreeze, held, free]

/-- R119: the first save stops the publications, a later one reads the same state again. -/
theorem instSave_frozen {b : List Byte} (frozen : (inst s (instOf c)).st = .frozen)
    (captured : (inst s (instOf c)).captured = some b) :
    instSave c s = .done (if (inst s (instOf c)).saved then s
      else stopPubs (instOf c) (updInst (instOf c) (fun i => { i with saved := true }) s)) (withOut b ok) := by
  simp [instSave, frozen, captured]

theorem instRestore_checked (held : (inst s (instOf c)).st = .held) (free : (inst s (instOf c)).restart = none)
    (domain : domHeld s (instOf c) = false) (sound : restoreCheck s (instOf c) c.input = none) :
    instRestore c s = .wait (startWait (instOf c) .restore c none c.input s) := by
  simp [instRestore, held, free, domain, sound]

theorem instThaw_frozen (frozen : (inst s (instOf c)).st = .frozen) (free : (inst s (instOf c)).restart = none)
    (domain : domHeld s (instOf c) = false) :
    instThaw c s = .wait (startWait (instOf c) .thaw c none ((inst s (instOf c)).captured.getD []) s) := by
  simp [instThaw, frozen, free, domain]

end Meanings

/-! ## The rows

Before its meaning a move is judged by slice, service state, RESETTING and role (R114, R117, R128). -/

section Rows
variable {c : Cmd} {s : State}

theorem move_alone {body : Cmd → State → Ans} (opened : Open s) (alone : Alone s)
    (free : (inst s (instOf c)).st ≠ .resetting) : instReady s c (carried c s body) = body c s :=
  (instReady_free opened free).trans (carried_alone alone)

theorem adminMove_alone {body : Cmd → State → Ans} (adm : Admin c) (opened : Open s) (alone : Alone s)
    (free : (inst s (instOf c)).st ≠ .resetting) : adminOnly c (instReady s c (carried c s body)) = body c s :=
  (adminOnly_admin adm).trans (move_alone opened alone free)

end Rows

/-- Settles O21: each row by the answer of its meaning. That hold and freeze wait as requests is log entry 28, the saved
state log entry 29, its size against the buffer log entry 17. -/
theorem instanceMoves : Obligations.InstanceMoves := by
  intro r c s n opened alone named
  subst named
  refine ⟨fun starts held => ?holdHeld, fun starts runs free => ?holdRunning,
    fun starts held free domain next => ?restartNext,
    fun a starts held free domain target ahead boundary => ?restartTarget, fun starts adm free used => ?reset,
    fun starts adm state free => ?freeze, fun b starts adm frozen saved captured => ?saveAgain,
    fun b starts adm frozen unsaved captured nonempty room => ?saveFirst,
    fun starts adm held free domain sound => ?restore, fun starts adm frozen free domain => ?thaw⟩
  case holdHeld =>
    exact exec_of_done (Eq.refl (execInstanceHold r s)) starts
      ((move_alone opened alone (st_ne held)).trans (instHold_held held)) rfl
  case holdRunning =>
    exact exec_of_wait (Eq.refl (execInstanceHold r s)) starts
      ((move_alone opened alone (st_ne runs)).trans (instHold_running runs free))
  case restartNext =>
    exact exec_of_wait (Eq.refl (execInstanceRestart r s)) starts
      ((move_alone opened alone (st_ne held)).trans (instRestart_next held free domain next))
  case restartTarget =>
    exact exec_of_wait (Eq.refl (execInstanceRestart r s)) starts
      ((move_alone opened alone (st_ne held)).trans (instRestart_target held free domain target ahead boundary))
  case reset =>
    exact exec_of_going (Eq.refl (execInstanceReset r s)) starts
      ((adminMove_alone adm opened alone free).trans (instReset_configured free used))
  case freeze =>
    have live : (inst s (instOf c)).st ≠ .resetting := state.elim (st_ne ·) (st_ne ·)
    exact exec_of_wait (Eq.refl (execInstanceFreeze r s)) starts
      ((adminMove_alone adm opened alone live).trans (instFreeze_waits state free))
  case saveAgain =>
    have answer := instSave_frozen frozen captured
    rw [if_pos saved] at answer
    exact givesData_of_done (Eq.refl (execInstanceSave r s)) starts
      ((adminMove_alone adm opened alone (st_ne frozen)).trans answer) rfl
  case saveFirst =>
    have answer := instSave_frozen frozen captured
    rw [if_neg (ne_true_of_eq_false unsaved)] at answer
    exact exec_of_data (Eq.refl (execInstanceSave r s)) starts
      ((adminMove_alone adm opened alone (st_ne frozen)).trans answer) room nonempty
  case restore =>
    exact exec_of_wait (Eq.refl (execInstanceRestore r s)) starts
      ((adminMove_alone adm opened alone (st_ne held)).trans (instRestore_checked held free domain sound))
  case thaw =>
    exact exec_of_wait (Eq.refl (execInstanceThaw r s)) starts
      ((adminMove_alone adm opened alone (st_ne frozen)).trans (instThaw_frozen frozen free domain))

end Sys2Proof.Machine
end

section
/-! SUPPORT. The events of instances (R112, R115, R118) and the restart of a domain (R155): each row where its condition
holds. -/

namespace Sys2Proof.Machine

section Events
variable {n : Nat} {s : State}

theorem exec_instanceRestartBoundary {r : Restart} {a : Tick} (due : restartDue s n = some (r, a)) :
    exec (.instanceRestartBoundary n) s = .next (subSimEnd n (simEnd (restartBoundary n r s))) := by
  change execInstanceRestartBoundary n s = _
  simp only [execInstanceRestartBoundary, due]

/-- R118: what runs freezes at the close of its step, and a service transition that waits for it may end. -/
theorem exec_freezeBoundary_running {c : Option CmdId} {a : Word} (asked : (inst s n).freezeReq = some c)
    (runs : (inst s n).st = .running) (closed : (inst s n).freezeAt = some a) :
    exec (.freezeBoundary n) s = .next (svcDrop n (freezeInst n a c s)) := by
  change execFreezeBoundary n s = _
  simp only [execFreezeBoundary, asked, runs, closed]

/-- R118: in HELD the freeze takes the next boundary of the domain (log entry 28). -/
theorem exec_freezeBoundary_held {c : Option CmdId} {a : Word} (asked : (inst s n).freezeReq = some c)
    (held : (inst s n).st = .held) (boundary : heldFreeze s n c = some a) :
    exec (.freezeBoundary n) s = .next (freezeInst n a c s) := by
  change execFreezeBoundary n s = _
  simp only [execFreezeBoundary, asked, held, boundary]

variable {r : ResetRun}

/-- R115: what waits is discarded once the reset has lasted 1 ms. -/
theorem exec_instanceResetDiscard_late (runs : (inst s n).reset = some r) (late : r.start + 1000000 ≤ s.clk) :
    exec (.instanceResetDiscard n) s = .next (discardWaiting n s) := by
  change execInstanceResetDiscard n s = _
  simp only [execInstanceResetDiscard, runs]
  exact congrArg _ (if_pos late)

theorem exec_instanceResetDiscard_early (runs : (inst s n).reset = some r) (early : s.clk < r.start + 1000000) :
    exec (.instanceResetDiscard n) s = .next s := by
  change execInstanceResetDiscard n s = _
  simp only [execInstanceResetDiscard, runs]
  exact congrArg _ (if_neg (Nat.not_le.mpr early))

theorem resetReady_iff : resetReady n r s = true ↔ sliceCmds s n = [] ∨ r.start + 1000000 ≤ s.clk := by
  change ((sliceCmds s n).isEmpty || decide (r.start + 1000000 ≤ s.clk)) = true ↔ _
  simp

theorem exec_instanceResetComplete (runs : (inst s n).reset = some r)
    (ready : sliceCmds s n = [] ∨ r.start + 1000000 ≤ s.clk) :
    exec (.instanceResetComplete n) s = .next (simEnd (resetEnd n r s)) := by
  change execInstanceResetComplete n s = _
  simp only [execInstanceResetComplete, runs, resetReady_iff.mpr ready, if_true]

theorem exec_domainRestartBoundary {d : Nat} (due : domRestartDue s d = true) :
    exec (.domainRestartBoundary d) s = .next (restartDomain d s) :=
  exec_of_due (Eq.refl (execDomainRestartBoundary d s)) due

end Events

/-- Settles O45: one row's lemma for each clause. The end of a reset and the freeze in HELD are log entry 28,
the saved state log entry 29, the restart of a domain log entry 34. -/
theorem instanceEvents : Obligations.InstanceEvents :=
  fun _ _ _ => ⟨fun _ _ => exec_instanceRestartBoundary, fun _ _ => exec_freezeBoundary_running,
    fun _ _ => exec_freezeBoundary_held, fun _ => exec_instanceResetDiscard_late,
    fun _ => exec_instanceResetDiscard_early, fun _ => exec_instanceResetComplete, exec_domainRestartBoundary⟩

end Sys2Proof.Machine
end

section
/-! SUPPORT. The commands of angle domains and spare loops (R139, R145, R150, R153, R155, R158, R159, R160): the answer of
each meaning where its rule admits it, then its row. -/

namespace Sys2Proof.Machine

/-! ## Who may send them -/

section Judgements
variable {c : Cmd} {s : State}

theorem ownDomain_entitled {k : Ans} (may : Admin c ∨ instDom (inst s c.id.slice) = argD c 1 0) : ownDomain s c k = k :=
  require_holds (by simpa [fromAdmin] using may)

theorem ownLoop_owned {k : Ans} (owned : bitOf (fval (inst s (instOf c)).cfg iSpare) (argD c 2 0) = true) :
    ownLoop s c k = k :=
  require_holds owned

theorem reserved_alone {body : Cmd → State → Ans} (opened : Open s) (alone : Alone s) :
    notBootHalted s (carried c s body) = body c s :=
  (notBootHalted_open opened).trans (carried_alone alone)

theorem adminReserved_alone {body : Cmd → State → Ans} (adm : Admin c) (opened : Open s) (alone : Alone s) :
    adminOnly c (notBootHalted s (carried c s body)) = body c s :=
  (adminOnly_admin adm).trans (reserved_alone opened alone)

end Judgements

theorem withPairs_fit {s : State} {r : Reply} (fit : pairsFit s = true) : withPairs s r = .done (syncPairs s) r :=
  if_pos fit

theorem convStatus_out {d : Dom} {r : Reply} : (convStatus d r).out = r.out := by
  unfold convStatus
  split <;> rfl

/-! ## The meanings -/

section Meanings
variable {c : Cmd} {s : State} {cfg : Cfg} {stg : Bool}

/-- R150: the instant of an angle, as seconds and nanoseconds. -/
theorem angleConvert_toTime {t : Nat} (mode : argD c 2 0 = 0)
    (known : angleTime (dom s (argD c 1 0)) (BitVec.ofNat 32 (argD c 3 0)) = .at t) :
    angleConvert c s = .done s (convStatus (dom s (argD c 1 0))
      { res0 := (fullAt s t).sec, res1 := some (fullAt s t).ns, notTraceable := (fullAt s t).notTraceable }) := by
  simp only [angleConvert, if_pos mode, known]

/-- R150: the angle of an instant. -/
theorem angleConvert_toAngle {a : Word} (mode : argD c 2 0 ≠ 0)
    (known : timeAngle (dom s (argD c 1 0)) (nearTs s (BitVec.ofNat 32 (argD c 3 0))) = .at a) :
    angleConvert c s = .done s (convStatus (dom s (argD c 1 0)) { res0 := a.toNat }) := by
  simp only [angleConvert, if_neg mode, known]

theorem domainSet_written
    (written : writeKeys angFields (fun _ => domMode (dom s (argD c 1 0))) (c.params.filter fun p => p.key != 1)
      (dom s (argD c 1 0)).cfg false = .ok (cfg, stg))
    (limits : limitsBad (fun _ => domMode (dom s (argD c 1 0))) (c.params.filter fun p => p.key != 1)
      (dom s (argD c 1 0)).cfg = none)
    (load : fmaxFits s (argD c 1 0) cfg = true) (arc : arcFits s (argD c 1 0) cfg = true)
    (fit : pairsFit (updDom (argD c 1 0) (fun d => { d with cfg := cfg }) s) = true) :
    domainSet c s =
      .done (syncPairs (updDom (argD c 1 0) (fun d => { d with cfg := cfg }) s)) (okOrStaged stg) := by
  simp [domainSet, written, limits, load, arc, withPairs_fit fit]

theorem domainHold_held (free : domBusy s (argD c 1 0) = false) (held : (dom s (argD c 1 0)).held = true) :
    domainHold c s = .done s ok :=
  (require_holds (by rw [free]; rfl)).trans (if_pos held)

/-- R153: a domain that runs is held at a grid sample. -/
theorem domainHold_waits (free : domBusy s (argD c 1 0) = false) (runs : (dom s (argD c 1 0)).held = false) :
    domainHold c s = .wait (addWait (.domHold (argD c 1 0)) (some c.id) s) :=
  (require_holds (by rw [free]; rfl)).trans (if_neg (ne_true_of_eq_false runs))

/-- R155, R232: a staged STEP must leave the lanes the load that is reserved on them. -/
theorem domainRestart_waits (free : waiting (.domRestart (argD c 1 0)) s = false)
    (formed : refsMalformed (dom s (argD c 1 0)).cfg = none)
    (load : fval (dom s (argD c 1 0)).cfg aStep = fread (dom s (argD c 1 0)).cfg aStep ∨
      loadFits s s.insts (fmaxOf s)
        (fun x => if x = argD c 1 0 then fread (dom s (argD c 1 0)).cfg aStep else stepOf s x) = true) :
    domainRestart c s = .wait (addWait (.domRestart (argD c 1 0)) (some c.id) s) := by
  simp only [domainRestart, free, formed]
  exact require_holds (by simpa using load)

/-- R160: the keys of a loop, its channel and its band are judged together. -/
theorem spareSet_written (owned : bitOf (fval (inst s (instOf c)).cfg iSpare) (argD c 2 0) = true)
    (written : writeKeys loopFields (loopMode (inst s (instOf c))) (c.params.filter fun p => 2 < p.key)
      (spareAt s c).cfg false = .ok (cfg, stg))
    (chan : loopChanOk s (instOf c) cfg = true) (band : sext 32 (fread cfg lMin) < sext 32 (fread cfg lMax))
    (fit : pairsFit (updSpare (instDom (inst s (instOf c))) (argD c 2 0) (fun l => { l with cfg := cfg }) s) = true) :
    spareSet c s = .done
      (syncPairs (updSpare (instDom (inst s (instOf c))) (argD c 2 0) (fun l => { l with cfg := cfg }) s))
      (okOrStaged stg) := by
  rw [spareSet, ownLoop_owned owned, written]
  simp [chan, Int.not_le.mpr band, withPairs_fit fit]

end Meanings

/-! ## The readings -/

section Readings
variable {r : CmdId} {c : Cmd} {s : State}

theorem angleDomainGet_gives (starts : Starts 0x0301 r c s)
    (may : Admin c ∨ instDom (inst s c.id.slice) = argD c 1 0) :
    GivesData (.angleDomainGet r) c (keyList angFields (dom s (argD c 1 0)).cfg)
      { okOrStaged (anyStaged (dom s (argD c 1 0)).cfg) with res0 := angStatus s (argD c 1 0) } s :=
  givesData_of_done (Eq.refl (execAngleDomainGet r s)) starts (ownDomain_entitled may) (okOrStaged_out _)

theorem exec_angleConvert {answer : Reply} (starts : Starts 0x0306 r c s)
    (may : Admin c ∨ instDom (inst s c.id.slice) = argD c 1 0) (meaning : angleConvert c s = .done s answer)
    (bare : answer.out = []) : exec (.angleConvert r) s = .next (reply c.id answer s) :=
  exec_of_done (Eq.refl (execAngleConvert r s)) starts ((ownDomain_entitled may).trans meaning) bare

theorem angleSpareGet_gives (starts : Starts 0x0308 r c s)
    (owned : bitOf (fval (inst s (instOf c)).cfg iSpare) (argD c 2 0) = true) :
    GivesData (.angleSpareGet r) c (spareRec (argD c 2 0) (spareAt s c) ++ keyList loopFields (spareAt s c).cfg)
      (okOrStaged (anyStaged (spareAt s c).cfg)) s :=
  givesData_of_done (Eq.refl (execAngleSpareGet r s)) starts (ownLoop_owned owned) (okOrStaged_out _)

end Readings

/-- Settles O22: each row by the answer of its meaning. A loop hold writes ANG_CTRL.HOLD at the command while the mode
follows at the grid sample, and the class L keys of a spare loop act at once (log entry 34). The size of a reading against
its buffer is log entry 17, RESULT0 of the readings log entry 76. -/
theorem angleCommands : Obligations.AngleCommands := by
  refine ⟨fun r c s => ⟨angleDomainGet_gives, fun t starts may mode known => ?toTime,
      fun a starts may mode known => ?toAngle, angleSpareGet_gives⟩,
    fun r c s n opened alone => ⟨fun cfg stg t starts adm named written limits load arc next fit => ?domainSet,
      fun starts adm named free => ?domainHold, fun starts adm named free formed load => ?domainRestart,
      fun starts adm named => ?loopHold, fun cfg stg t starts named owned written chan band next fit => ?spareSet,
      fun starts named owned => ?spareHold⟩⟩
  case toTime => exact exec_angleConvert starts may (angleConvert_toTime mode known) convStatus_out
  case toAngle => exact exec_angleConvert starts may (angleConvert_toAngle mode known) convStatus_out
  case domainSet =>
    subst named next
    exact exec_of_done (Eq.refl (execAngleDomainSet r s)) starts
      ((adminReserved_alone adm opened alone).trans (domainSet_written written limits load arc fit)) (okOrStaged_out _)
  case domainHold =>
    subst named
    have row := Eq.refl (execAngleDomainHold r s)
    have judged := adminReserved_alone (body := domainHold) adm opened alone
    cases held : (dom s (argD c 1 0)).held with
    | true => exact exec_of_done row starts (judged.trans (domainHold_held free held)) rfl
    | false => exact exec_of_wait row starts (judged.trans (domainHold_waits free held))
  case domainRestart =>
    subst named
    exact exec_of_wait (Eq.refl (execAngleDomainRestart r s)) starts
      ((adminReserved_alone adm opened alone).trans (domainRestart_waits free formed load))
  case loopHold =>
    subst named
    exact exec_of_wait (Eq.refl (execAngleLoopHold r s)) starts (adminReserved_alone adm opened alone)
  case spareSet =>
    subst named next
    exact exec_of_done (Eq.refl (execAngleSpareSet r s)) starts
      ((reserved_alone opened alone).trans (spareSet_written owned written chan band fit)) (okOrStaged_out _)
  case spareHold =>
    subst named
    exact exec_of_wait (Eq.refl (execAngleSpareHold r s)) starts
      ((reserved_alone opened alone).trans (ownLoop_owned owned))

end Sys2Proof.Machine
end

section
/-! SUPPORT. The events of streams (R164, R177, R180, R207) and of domains (R133, R141, R142, R143): each row where its
condition holds. -/

namespace Sys2Proof.Machine

/-! ## Streams and detectors -/

section StreamEvents
variable {s t : State} {x : Nat}

/-- R164: a frame that waits at SVI is taken from its port and ingested where ingest runs (R26, R45). -/
theorem exec_svFrameIngest {q : Copy} (free : joining s 3 = false) (taken : takeFrom 48 isSv 8 s = some (q, t))
    (runs : ingestRuns t = true) : exec .svFrameIngest s = .next (svFrame q t) := by
  change execSvFrameIngest s = _
  simp [execSvFrameIngest, free, taken, runs]

theorem exec_sampleMissing {y : Stream} {n : Nat} (present : tfind s.sv.streams x = some y) (live : y.state ≠ .held)
    (alone : s.tdm.standalone = true) (unknown : nextUnknown y = some n) (due : missingDue s y n = true) :
    exec (.sampleMissing x) s = .next (declareMissing x n s) := by
  change execSampleMissing x s = _
  simp [execSampleMissing, present, live, alone, unknown, due]

theorem exec_streamTimeout {y : Stream} (present : tfind s.sv.streams x = some y) (runs : y.state = .running)
    (due : y.lastAt + fval y.cfg sTimeout * 1000000 ≤ s.clk) :
    exec (.streamTimeout x) s = .next (setStream x .lost (strCount x 15 (endSequence x s))) := by
  change execStreamTimeout x s = _
  simp [execStreamTimeout, ms, present, runs, due]

theorem exec_thresholdDetectorEvent {y : Det} {up : Bool} {n : Word} {instant : Nat} (present : tfind s.filt.dets x = some y)
    (pending : y.event = some (up, n, instant)) :
    exec (.thresholdDetectorEvent x) s = .next (offerEvent 3 x up instant (!s.time.traceable)
      (updFilt (fun f => { f with dets := tmod {} f.dets x fun d => { d with event := none } }) s)) := by
  change execThresholdDetectorEvent x s = _
  simp only [execThresholdDetectorEvent, present, pending]

end StreamEvents

/-! ## Domains -/

section DomainEvents
variable {s : State} {d : Nat}

/-- A change of a domain counts for its present value alone. -/
theorem updDom_congr {f g : Dom → Dom} (same : f (dom s d) = g (dom s d)) : updDom d f s = updDom d g s :=
  congrArg (fun y => { s with doms := tset {} s.doms d y }) same

theorem exec_lockSet (tracks : (dom s d).mode = .track) (unlocked : (dom s d).lock = false)
    (due : 512 ≤ (dom s d).lockRun) :
    exec (.lockSet d) s = .next (updDom d (fun x => { x with lock := true, everLock := true }) s) :=
  exec_of_due (Eq.refl (execLockSet d s)) (by simp [tracks, unlocked, due])

theorem exec_holdLockTimeout (holds : (dom s d).mode = .hold) (locked : (dom s d).lock = true)
    (due : fval (dom s d).cfg aCoastMax * 64 ≤ (dom s d).holdRun) :
    exec (.holdLockTimeout d) s = .next (updDom d (fun x => { x with lock := false }) s) :=
  exec_of_due (Eq.refl (execHoldLockTimeout d s)) (by simp [holds, locked, due])

theorem exec_coastTimeout (coasts : (dom s d).mode = .coast)
    (due : fval (dom s d).cfg aCoastMax * 64 ≤ (dom s d).coastRun) :
    exec (.coastTimeout d) s = .next (updDom d (fun x => endCoast { x with coastTimeout := true }) s) :=
  exec_of_due (Eq.refl (execCoastTimeout d s)) (by simp [coasts, due])

/-- R143: the detector is cleared in any mode, and in COAST the coasting ends with it. -/
theorem exec_holdoffExpiry (faulty : (dom s d).fd = true) (due : fval (dom s d).cfg aHoldoff * 64 ≤ (dom s d).fdClear) :
    exec (.holdoffExpiry d) s = .next (updDom d (fun x =>
      if x.mode == .coast then endCoast { x with fd := false, fdRun := [], fdClear := 0 }
      else { x with fd := false, fdRun := [], fdClear := 0 }) s) :=
  exec_of_due (Eq.refl (execHoldoffExpiry d s)) (by simp [faulty, due])

theorem exec_holdoffExpiry_coast (coasts : (dom s d).mode = .coast) (faulty : (dom s d).fd = true)
    (due : fval (dom s d).cfg aHoldoff * 64 ≤ (dom s d).fdClear) :
    exec (.holdoffExpiry d) s =
      .next (updDom d (fun x => endCoast { x with fd := false, fdRun := [], fdClear := 0 }) s) :=
  (exec_holdoffExpiry faulty due).trans (congrArg _ (updDom_congr (if_pos (beq_iff_eq.mpr coasts))))

theorem exec_holdoffExpiry_other (other : (dom s d).mode ≠ .coast) (faulty : (dom s d).fd = true)
    (due : fval (dom s d).cfg aHoldoff * 64 ≤ (dom s d).fdClear) :
    exec (.holdoffExpiry d) s = .next (updDom d (fun x => { x with fd := false, fdRun := [], fdClear := 0 }) s) :=
  (exec_holdoffExpiry faulty due).trans (congrArg _ (updDom_congr (if_neg (mt beq_iff_eq.mp other))))

/-- R133: set A takes over again after a cycle. -/
theorem exec_refSetResume_setA (onB : (dom s d).setB = true) (due : 64 ≤ (dom s d).aRun) :
    exec (.refSetResume d) s = .next
      (updDom d (fun x => { x with setB := false, bumpless := true, switched := true, fdRun := [] }) s) := by
  change execRefSetResume d s = _
  simp [execRefSetResume, onB, due]

/-- R140: a domain in GLIDE acquires after a cycle with a set valid, and aligns where it has never locked. -/
theorem exec_refSetResume_glide (onA : (dom s d).setB = false) (glides : (dom s d).mode = .glide)
    (due : 64 ≤ (dom s d).anyRun) :
    exec (.refSetResume d) s = .next (updDom d (fun x => enterAcquire x (!x.everLock)) s) := by
  change execRefSetResume d s = _
  simp [execRefSetResume, onA, glides, due]

/-- R142: a pass that does not align the grid changes the domain alone. -/
theorem exec_acquisitionPass_unaligned {y : Dom} (done : passDone (dom s d) = true)
    (pass : acquirePass (dom s d) = (y, false)) :
    exec (.acquisitionPass d) s = .next (updDom d (fun _ => y) s) := by
  change execAcquisitionPass d s = _
  simp [execAcquisitionPass, done, pass]

end DomainEvents

/-- Settles O51: one row's lemma for each clause. How COAST is left and when an acquisition ends are log entry 32, that a
pass which has ended comes before the tracker's next step log entry 34, where ingest runs and how samples are numbered log
entry 38. -/
theorem streamAndDomainEvents : Obligations.StreamAndDomainEvents := by
  refine ⟨fun s x => ⟨fun _ _ => exec_svFrameIngest, fun _ _ => exec_sampleMissing, fun _ => exec_streamTimeout,
      fun _ _ _ _ => exec_thresholdDetectorEvent⟩, fun s d x here => ?domains⟩
  case domains =>
    subst here
    exact ⟨exec_lockSet, exec_holdLockTimeout, exec_coastTimeout, exec_holdoffExpiry_coast, exec_holdoffExpiry_other,
      exec_refSetResume_setA, exec_refSetResume_glide,
      fun done unaligned => exec_acquisitionPass_unaligned done (Prod.ext rfl unaligned)⟩

end Sys2Proof.Machine
end

section
/-! SUPPORT. The commands of sampled-value streams (R163, R169, R183 to R188): the answer of each meaning where its rule
admits it, then its row. -/

namespace Sys2Proof.Machine

section Streams
variable {r : CmdId} {c : Cmd} {s : State} {t u : Stream}

/-! ## The stream a command names, and who may send the command -/

theorem withStream_present {k : Stream → Ans} (present : tfind s.sv.streams (streamIx c) = some t) :
    withStream c s k = k t := by
  simp only [withStream, present]

/-- R187: the admin slice, or an instance slice whose instance references the stream. -/
theorem referenced_entitled {k : Ans} (may : Admin c ∨ c.id.slice ∈ referers s (streamIx c)) : referenced c s k = k :=
  require_holds (by simpa [fromAdmin] using may)

theorem svReserved_alone {body : Cmd → State → Ans} (adm : Admin c) (opened : Open s) (alone : Alone s) :
    svReserved c s body = body c s :=
  adminReserved_alone adm opened alone

/-! ## The readings -/

theorem counterBytes_length (n : Nat) (counts : Tab Word) : (counterBytes n counts).length = n * 4 := by
  rw [counterBytes, flatMap_le_fun_length, List.length_range]

/-- R163: five figures, each with its ceiling, then UNKNOWN. -/
theorem loadBytes_length (s : State) : (loadBytes s).length = 88 := by
  rw [loadBytes, List.length_append, flatMap_length _ 16 _ fun p _ => by simp, le_length]
  rfl

theorem svStreamGet_gives (present : tfind s.sv.streams (streamIx c) = some t) (starts : Starts 0x0404 r c s)
    (may : Admin c ∨ c.id.slice ∈ referers s (streamIx c)) :
    GivesData (.svStreamGet r) c (streamDesc t ++ descKeys t ++ keyList streamLiveFields t.cfg)
      (okOrStaged (anyStaged t.cfg || t.descStaged.isSome)) s :=
  givesData_of_done (Eq.refl (execSvStreamGet r s)) starts
    ((withStream_present present).trans (referenced_entitled may)) (okOrStaged_out _)

theorem svStreamStatus_gives (present : tfind s.sv.streams (streamIx c) = some t) (starts : Starts 0x0407 r c s)
    (may : Admin c ∨ c.id.slice ∈ referers s (streamIx c)) :
    Gives (.svStreamStatus r) c 64 { ok with
      res0 := t.state.code + b2n t.simActive * 4 + b2n t.notTraceable * 8 + t.lastCnt % 65536 * 65536,
      res1 := some t.lastTs.toNat } s :=
  gives_of_done (Eq.refl (execSvStreamStatus r s)) starts
    ((withStream_present present).trans (referenced_entitled may)) rfl (counterBytes_length 16 t.counts)

theorem svLoadGet_gives (starts : Starts 0x0408 r c s) (adm : Admin c) : Gives (.svLoadGet r) c 88 ok s :=
  gives_of_done (Eq.refl (execSvLoadGet r s)) starts (adminOnly_admin adm) rfl (loadBytes_length s)

/-! ## Subscription -/

/-- R163: a free index takes a descriptor that is well formed, clashes with no other and keeps the load in its ceilings;
what is left to judge are the pairs it needs (R190). -/
theorem streamSubscribe_judged (unused : thas s.sv.streams (streamIx c) = false)
    (judged : descJudge s (streamIx c) c.input = none) :
    streamSubscribe c s = withPairs
      { s with sv := { s.sv with streams := tput s.sv.streams (streamIx c) { desc := c.input } } } ok := by
  simp only [streamSubscribe, unused, judged, Bool.false_eq_true, if_false]

theorem streamUnsubscribe_unused (present : tfind s.sv.streams (streamIx c) = some t)
    (unreferenced : referers s (streamIx c) = []) (unnamed : refNamed s t = false) :
    streamUnsubscribe c s = .done (syncPairs (finishWaits (.streamRestart (streamIx c)) stale
      { s with sv := { s.sv with streams := tdel s.sv.streams (streamIx c) } })) ok :=
  (withStream_present present).trans (require_holds (by simp [unreferenced, unnamed]))

/-! ## Setting -/

/-- The keys of R188 on a stream: what they write, and an entry where the setting of AUTH changes. -/
theorem streamSetAs_written {old : Stream} {stg k : Bool} (written : setKeys c t = .ok (u, k)) :
    streamSetAs c s old t stg = .done
      (if authNext u = authNext old then updStream (streamIx c) (fun _ => u) s
        else note 0x0405 0 c.id.slice (streamIx c) [b2n (authNext u)] (updStream (streamIx c) (fun _ => u) s))
      (okOrStaged (stg || k)) := by
  simp only [streamSetAs, written]

theorem streamSet_keys (present : tfind s.sv.streams (streamIx c) = some t)
    (keys : descriptorForm c.op c.bufLen = false) : streamSet c s = streamSetAs c s t t false :=
  (withStream_present present).trans (if_neg (ne_true_of_eq_false keys))

/-- R183: in HELD a descriptor is staged first, and the keys of the same command after it. -/
theorem streamSet_descriptor (present : tfind s.sv.streams (streamIx c) = some t)
    (form : descriptorForm c.op c.bufLen = true) (held : t.state = .held)
    (judged : descJudge s (streamIx c) c.input = none) :
    streamSet c s = streamSetAs c s t (stageDesc c.input t) true := by
  rw [streamSet, withStream_present present]
  simp only [form, held, judged, ne_eq, not_true_eq_false, if_true, if_false]

/-! ## Hold, restart, simulation and counters -/

theorem streamHold_free (present : tfind s.sv.streams (streamIx c) = some t)
    (free : streamBusy s (streamIx c) = false) :
    streamHold c s = .done (setStream (streamIx c) .held (endSequence (streamIx c) s)) ok :=
  (withStream_present present).trans (require_holds (by rw [free]; rfl))

/-- R183: the restart waits for the stream's first frame under the new configuration. -/
theorem streamRestart_waits (present : tfind s.sv.streams (streamIx c) = some t) (held : t.state = .held)
    (free : t.restart = false) :
    streamRestart c s = .wait (addWait (.streamRestart (streamIx c)) (some c.id)
      (updStream (streamIx c) (fun t => { t with restart := true }) s)) :=
  (withStream_present present).trans ((if_neg (not_not_intro held)).trans (if_neg (ne_true_of_eq_false free)))

theorem simReset_active (present : tfind s.sv.streams (streamIx c) = some t) (active : t.simActive = true) :
    simReset c s = .done (setSim (streamIx c) false s) ok :=
  (withStream_present present).trans (require_holds active)

theorem svClear_one (one : streamIx c ≠ 0xFFFF) (present : tfind s.sv.streams (streamIx c) = some t) :
    svClear c s = .done (updStream (streamIx c) (fun t => { t with counts := [] }) s) ok :=
  (if_neg one).trans (withStream_present present)

end Streams

/-- Settles O23: each row by the answer of its meaning. That a descriptor is read with its staged fields, that the end of a
subscription answers a waiting restart STALE and that a change of AUTH is noted at the command are log entry 37, the size of
a reading against its buffer log entry 17, RESULT0 of the status log entry 76. -/
theorem streamCommands : Obligations.StreamCommands := by
  refine ⟨fun r c s t present => ⟨svStreamGet_gives present, svStreamStatus_gives present, svLoadGet_gives⟩,
    fun r c s x t named => ?changes⟩
  case changes =>
    subst named
    refine ⟨fun u starts adm opened alone unused judged next fit => ?subscribe,
      fun starts adm opened alone present unreferenced unnamed => ?unsubscribe,
      fun u k starts adm opened alone present keys written => ?setKeys,
      fun u k starts adm opened alone present form held judged written => ?setDescriptor,
      fun starts adm opened alone present free => ?hold,
      fun starts adm opened alone present held free => ?restart,
      fun starts adm opened alone present active => ?simReset,
      fun starts adm opened all => ?clearAll,
      fun starts adm opened one present => ?clearOne⟩
    case subscribe =>
      subst next
      exact exec_of_done (Eq.refl (execSvStreamSubscribe r s)) starts
        ((svReserved_alone adm opened alone).trans ((streamSubscribe_judged unused judged).trans (withPairs_fit fit))) rfl
    case unsubscribe =>
      exact exec_of_done (Eq.refl (execSvStreamUnsubscribe r s)) starts
        ((svReserved_alone adm opened alone).trans (streamUnsubscribe_unused present unreferenced unnamed)) rfl
    case setKeys =>
      exact exec_of_done (Eq.refl (execSvStreamSet r s)) starts
        ((svReserved_alone adm opened alone).trans ((streamSet_keys present keys).trans (streamSetAs_written written)))
        (okOrStaged_out _)
    case setDescriptor =>
      exact exec_of_done (Eq.refl (execSvStreamSet r s)) starts
        ((svReserved_alone adm opened alone).trans
          ((streamSet_descriptor present form held judged).trans (streamSetAs_written written))) rfl
    case hold =>
      exact exec_of_done (Eq.refl (execSvStreamHold r s)) starts
        ((svReserved_alone adm opened alone).trans (streamHold_free present free)) rfl
    case restart =>
      exact exec_of_wait (Eq.refl (execSvStreamRestart r s)) starts
        ((svReserved_alone adm opened alone).trans (streamRestart_waits present held free))
    case simReset =>
      exact exec_of_done (Eq.refl (execSvSimReset r s)) starts
        ((svReserved_alone adm opened alone).trans (simReset_active present active)) rfl
    case clearAll =>
      exact exec_of_done (Eq.refl (execSvCountersClear r s)) starts
        ((adminOnly_admin adm).trans ((notBootHalted_open opened).trans (if_pos all))) rfl
    case clearOne =>
      exact exec_of_done (Eq.refl (execSvCountersClear r s)) starts
        ((adminOnly_admin adm).trans ((notBootHalted_open opened).trans (svClear_one one present))) rfl

end Sys2Proof.Machine
end

section
/-! SUPPORT. The commands of resampling channels and threshold detectors (R201, R204, R209 to R211): the answer of each
meaning where its rule admits it, then its row. -/

namespace Sys2Proof.Machine

section Filter
variable {r : CmdId} {c : Cmd} {s : State}

theorem chanReferenced_admin {k : Ans} (adm : Admin c) : chanReferenced c s k = k :=
  require_holds (Bool.or_eq_true_iff.mpr (.inl (beq_iff_eq.mpr adm)))

/-! ## Sizes of the readings (R191, R193, R209) -/

theorem gridBytes_length (g : Grid) : (gridBytes g).length = 12 := by
  simp only [gridBytes, List.length_append, le_length, zeros_length]

/-- The pairs in all, their limit, and the pairs of each of the 16 domains. -/
theorem pairsGet_length (s : State) : (pairsGet s).length = 40 := by
  simp only [pairsGet, List.length_append, le_length, flatMap_le_fun_length, List.length_range]

/-- The records of the last grid samples asked for, as far as the pair has kept them. -/
theorem gridRecords_length (n : Nat) (hist : List Grid) :
    ((hist.take n).reverse.flatMap gridBytes).length = 12 * min n hist.length := by
  rw [flatMap_length gridBytes 12 _ fun g _ => gridBytes_length g, List.length_reverse, List.length_take, Nat.mul_comm]

/-- R193: 257 rows of a resampler response. -/
theorem romBytes_response_length {resp : Nat} (rate : Nat) (response : resp ≠ 3) :
    (romBytes resp rate).length = 4 + 257 * respTaps resp rate * 4 := by
  have row (i : Nat) : ((List.range (respTaps resp rate)).flatMap fun j => le 4 (enc 32 (coef resp rate i j))).length =
      respTaps resp rate * 4 := by
    rw [flatMap_le_fun_length, List.length_range]
  rw [romBytes, if_neg response, List.length_append, le_length, flatMap_length _ _ _ fun i _ => row i, List.length_range,
    Nat.mul_assoc]

/-- R191: one stage of a decimator. -/
theorem romBytes_decimator_length (stage : Nat) : (romBytes 3 stage).length = 4 + hbTaps stage * 4 := by
  rw [romBytes, if_pos rfl, List.length_append, le_length, flatMap_le_fun_length, List.length_range]

/-! ## The readings -/

theorem filterChannelGet_gives (starts : Starts 0x0502 r c s) (adm : Admin c) :
    GivesData (.filterChannelGet r) c
      (keyList chanFields (chanCfg s (argD c 1 0)) ++ (pairsOf s (argD c 1 0)).flatMap (pairBytes s))
      { okOrStaged (anyStaged (chanCfg s (argD c 1 0))) with res0 := (pairsOf s (argD c 1 0)).length } s :=
  givesData_of_done (Eq.refl (execFilterChannelGet r s)) starts (chanReferenced_admin adm) (okOrStaged_out _)

theorem filterRomGet_response_gives (starts : Starts 0x0503 r c s) (response : argD c 1 0 ≠ 3)
    (rate : argD c 2 0 ∈ inRates) :
    Gives (.filterRomGet r) c (4 + 257 * respTaps (argD c 1 0) (argD c 2 0) * 4) ok s :=
  gives_of_done (Eq.refl (execFilterRomGet r s)) starts
    (require_holds (by rw [if_neg response]; exact List.contains_iff_mem.mpr rate)) rfl
    (romBytes_response_length _ response)

theorem filterRomGet_decimator_gives (starts : Starts 0x0503 r c s) (decimator : argD c 1 0 = 3)
    (low : 1 ≤ argD c 2 0) (high : argD c 2 0 ≤ 4) : Gives (.filterRomGet r) c (4 + hbTaps (argD c 2 0) * 4) ok s :=
  gives_of_done (Eq.refl (execFilterRomGet r s)) starts
    (require_holds (by rw [if_pos decimator]; simp [low, high])) rfl
    (decimator ▸ romBytes_decimator_length _)

theorem filterPairsGet_gives (starts : Starts 0x0504 r c s) (adm : Admin c) : Gives (.filterPairsGet r) c 40 ok s :=
  gives_of_done (Eq.refl (execFilterPairsGet r s)) starts (adminOnly_admin adm) rfl (pairsGet_length s)

theorem gridRead_present {p : Pair} (adm : Admin c) (present : pairAt s (argD c 1 0) (argD c 2 0) = some p) :
    gridRead c s = .done s (withOut ((p.hist.take (argD c 3 1)).reverse.flatMap gridBytes) ok) := by
  rw [gridRead, chanReferenced_admin adm, chanIx, present]

theorem filterGridRead_gives {p : Pair} (starts : Starts 0x0505 r c s) (adm : Admin c)
    (present : pairAt s (argD c 1 0) (argD c 2 0) = some p) :
    Gives (.filterGridRead r) c (12 * min (argD c 3 1) p.hist.length) ok s :=
  gives_of_done (Eq.refl (execFilterGridRead r s)) starts (gridRead_present adm present) rfl (gridRecords_length _ _)

/-- R209: the admin slice, or the slice that owns the detector. -/
theorem filterDetectorGet_gives (starts : Starts 0x0508 r c s) (opened : Open s)
    (may : Admin c ∨ fval (det s (argD c 1 0)).cfg tdOwner = c.id.slice) :
    GivesData (.filterDetectorGet r) c
      (keyList detFields (det s (argD c 1 0)).cfg ++ le 4 (det s (argD c 1 0)).asserts.toNat ++
        le 4 (det s (argD c 1 0)).deasserts.toNat ++ le 4 (det s (argD c 1 0)).suppressed.toNat)
      { okOrStaged (anyStaged (det s (argD c 1 0)).cfg) with
        res0 := b2n (det s (argD c 1 0)).state + fval (det s (argD c 1 0)).cfg tdEnable * 2 + (det s (argD c 1 0)).run * 4 }
      s := by
  have entitled : (fromAdmin c || fval (det s (argD c 1 0)).cfg tdOwner == c.id.slice) = true := by
    simpa [fromAdmin] using may
  exact givesData_of_done (Eq.refl (execFilterDetectorGet r s)) starts
    ((require_holds entitled).trans (notBootHalted_open opened)) (okOrStaged_out _)

/-! ## Channels and pairs -/

/-- R204: the keys are judged with those already staged, and all are staged. -/
theorem channelSet_judged (judged : scsBad c (stageKeys chanFields c (chanCfg s (argD c 1 0))) = none) :
    channelSet c s = .done (updFilt (fun f => { f with
      chans := tset {} f.chans (argD c 1 0) (stageKeys chanFields c (chanCfg s (argD c 1 0))) }) s) stagedR := by
  simp only [channelSet, chanIx, judged]

/-- R201: the pairs named wait for the stream's next placed sample. -/
theorem resync_waits (state : s.svc.state = .commissioning ∨ s.svc.state = .test)
    (named : ∃ p ∈ s.filt.pairs, p.chan = argD c 1 0 ∧ (argD c 2 0 = 0xFF ∨ p.dom = argD c 2 0)) :
    resync c s = .wait (addWait (.resync (argD c 1 0) (argD c 2 0)) (some c.id)
      (mapPairs (fun p => p.chan == argD c 1 0 && (argD c 2 0 == 0xFF || p.dom == argD c 2 0)) pairWait s)) := by
  have admitted : (s.svc.state == .commissioning || s.svc.state == .test) = true := by simpa using state
  have hit : (s.filt.pairs.any fun p => p.chan == argD c 1 0 && (argD c 2 0 == 0xFF || p.dom == argD c 2 0)) = true := by
    simpa using named
  exact (require_holds admitted).trans (require_holds hit)

/-! ## Detectors -/

/-- R211: the keys of a detector act at once, and one that they enable starts anew; what is left to judge are the pairs
that it needs (R190). -/
theorem detectorSet_written {cfg : Cfg} {stg : Bool}
    (written : writeKeys detFields (fun _ => if fon (det s (argD c 1 0)).cfg tdEnable then .run else .idle)
      (c.params.filter fun p => p.key != 1) (det s (argD c 1 0)).cfg false = .ok (cfg, stg))
    (band : fval cfg tdHyst ≤ fval cfg tdLevel) (owner : ownerOk s cfg = true) :
    detectorSet c s = withPairs (updDet (argD c 1 0) (fun d =>
      if fon cfg tdEnable && !fon (det s (argD c 1 0)).cfg tdEnable then
        { d with cfg := cfg, state := false, run := 0, lastK := none, event := none } else { d with cfg := cfg }) s) ok := by
  simp only [detectorSet, written, if_neg (Nat.not_lt.mpr band), owner, Bool.not_true, Bool.false_eq_true, if_false]

end Filter

/-- Settles O24: each row by the answer of its meaning. The grid samples kept, the reset that waits and the detector that
starts anew where it is enabled are log entry 41, the size of a reading against its buffer log entry 17, RESULT0 of the
readings log entry 76. -/
theorem filterCommands : Obligations.FilterCommands := by
  refine ⟨fun r c s i named => ?readings, fun r c s i named => ?changes⟩
  case readings =>
    subst named
    exact ⟨filterChannelGet_gives, filterRomGet_response_gives, filterRomGet_decimator_gives, filterPairsGet_gives,
      fun _ => filterGridRead_gives, filterDetectorGet_gives⟩
  case changes =>
    subst named
    refine ⟨fun starts adm opened alone judged => ?channelSet,
      fun starts adm opened alone state pairs => ?resync,
      fun cfg stg t starts adm opened alone written band owner next fit => ?detectorSet,
      fun starts adm opened => ?detectorClear⟩
    case channelSet =>
      exact exec_of_done (Eq.refl (execFilterChannelSet r s)) starts
        ((svReserved_alone adm opened alone).trans (channelSet_judged judged)) rfl
    case resync =>
      exact exec_of_wait (Eq.refl (execFilterResync r s)) starts
        ((svReserved_alone adm opened alone).trans (resync_waits state pairs))
    case detectorSet =>
      subst next
      exact exec_of_done (Eq.refl (execFilterDetectorSet r s)) starts
        ((svReserved_alone adm opened alone).trans ((detectorSet_written written band owner).trans (withPairs_fit fit))) rfl
    case detectorClear =>
      exact exec_of_done (Eq.refl (execFilterDetectorClear r s)) starts
        ((adminOnly_admin adm).trans (notBootHalted_open opened)) rfl

end Sys2Proof.Machine
end

section
/-! SUPPORT. Grid samples (R198), the evaluation step (R214 to R221) and the sweep of the scheme logic (R242 to R244,
R262): each row where its condition holds. -/

namespace Sys2Proof.Machine

section GridAndSteps
variable {s : State} {d : Nat}

/-- R198: a pair whose inputs are final produces its grid sample, and detectors and tracker follow it. -/
theorem exec_gridSampleProduce {n : Nat} {p q : Pair} (up : pipeUp s = true) (present : pairAt s n d = some p)
    (produced : producePair s p = some q) :
    exec (.gridSampleProduce n d) s = .next (trackAll d (runDets q (putPair q s))) := by
  change execGridSampleProduce n d s = _
  simp [execGridSampleProduce, up, present, produced]

/-- R214: the boundary's own effects come first, and none of them may leave anything to do before the step. -/
theorem exec_stepDispatch {tk : Tick} {ts : List Tick} (reached : (dom s d).boundary = tk :: ts) (up : pipeUp s = true)
    (runs : (dom s d).running = true) (closed : (dom s d).stepOpen = false) (free : boundaryBusy s d = false)
    (ready : inputsReady s d tk.k (stepIndex (dom s d) tk.angle) = true)
    (still : boundaryBusy (atBoundary d tk s) d = false) :
    exec (.stepDispatch d) s = .next (dispatchStep d tk (atBoundary d tk s)) := by
  change execStepDispatch d s = _
  simp [execStepDispatch, reached, up, runs, closed, free, ready, still]

/-- R216: a step in progress closes once all its evaluations have completed. -/
theorem exec_stepClose {r : StepRun} (opened : (dom s d).stepOpen = true) (run : tfind s.lanes.steps d = some r) :
    exec (.stepClose d) s = .next (if allComplete r then closeStep d r s else s) := by
  change execStepClose d s = _
  simp [execStepClose, opened, run]

theorem exec_stepClose_complete {r : StepRun} (opened : (dom s d).stepOpen = true) (run : tfind s.lanes.steps d = some r)
    (complete : allComplete r = true) : exec (.stepClose d) s = .next (closeStep d r s) :=
  (exec_stepClose opened run).trans (congrArg _ (if_pos complete))

theorem exec_stepClose_waits {r : StepRun} (opened : (dom s d).stepOpen = true) (run : tfind s.lanes.steps d = some r)
    (going : allComplete r = false) : exec (.stepClose d) s = .next s :=
  (exec_stepClose opened run).trans (congrArg _ (if_neg (ne_true_of_eq_false going)))

/-- R216, R218: at the deadline the step closes with what has completed. -/
theorem exec_stepDeadline {r : StepRun} (opened : (dom s d).stepOpen = true) (run : tfind s.lanes.steps d = some r)
    (late : r.at_ + stepNs (dom s d) (fmaxRaw (dom s d).cfg) ≤ s.clk) :
    exec (.stepDeadline d) s = .next (closeStep d r s) := by
  change execStepDeadline d s = _
  simp [execStepDeadline, opened, run, late]

end GridAndSteps

/-! ## Lanes -/

section Lanes
variable {s : State}

theorem exec_laneEvaluationComplete {n slot d : Nat} {x : Job} (u : LaneUpset) (running : jobAt s n slot = some (d, x)) :
    exec (.laneEvaluationComplete n slot u) s = .next (endEval d x u s) := by
  change execLaneEvaluationComplete n slot u s = _
  simp only [execLaneEvaluationComplete, running]

theorem failLanes_steps (l : List Nat) (s : State) : (failLanes l s).lanes.steps = s.lanes.steps := by
  have kept (ks : List Nat) : ∀ t : State,
      (ks.foldl (fun s k => updLane k (fun x => { x with failed := true, due := true }) s) t).lanes.steps =
        t.lanes.steps := by
    induction ks with
    | nil => exact fun _ => rfl
    | cons k ks ih => exact fun t => ih (updLane k _ t)
  exact kept _ _

/-- R221: a lane that is due retires at the close of a step in progress, else at once. -/
theorem retireIdle_steps (idle : s.lanes.steps = []) : retireIdle s = retireLanes s :=
  if_pos (by rw [idle]; rfl)

theorem retireIdle_busy (busy : s.lanes.steps ≠ []) : retireIdle s = s :=
  if_neg (by simpa using busy)

theorem exec_laneSelftest (l : List Nat) (due : s.lanes.testAt + 10000000000 ≤ s.clk) :
    exec (.laneSelftest l) s = .next (retireIdle (failLanes l s)) :=
  congrArg _ (if_pos due)

theorem exec_laneSelftest_busy (l : List Nat) (due : s.lanes.testAt + 10000000000 ≤ s.clk) (busy : s.lanes.steps ≠ []) :
    exec (.laneSelftest l) s = .next (failLanes l s) := by
  rw [exec_laneSelftest l due, retireIdle_busy (by rwa [failLanes_steps])]

theorem exec_laneSelftest_idle (l : List Nat) (due : s.lanes.testAt + 10000000000 ≤ s.clk) (idle : s.lanes.steps = []) :
    exec (.laneSelftest l) s = .next (retireLanes (failLanes l s)) := by
  rw [exec_laneSelftest l due, retireIdle_steps (by rwa [failLanes_steps])]

end Lanes

/-! ## Sweeps -/

section Sweeps
variable {s : State}

/-- R243: a unit that stands alone sweeps when its logic is free, over the time since the sweep before. -/
theorem exec_logicSweep_standalone (up : pipeUp s = true) (alone : s.tdm.standalone = true) (free : sweepFree s = true) :
    exec .logicSweep s = .next (sweepWith none
      (match s.logic.lastStart with
        | some t => s.clk / 1000 - t / 1000
        | none => 0) latchStandalone s) :=
  (if_neg (by rw [up]; exact Bool.false_ne_true)).trans ((if_pos alone).trans (congrArg _ (if_pos free)))

/-- R244: a unit of a pair sweeps the oldest ballot that has closed. -/
theorem exec_logicSweep_pair {w : SweepIn} {ws : List SweepIn} (up : pipeUp s = true) (paired : s.tdm.standalone = false)
    (free : joining s 5 = false) (next : s.tdm.sweepTodo = w :: ws) : exec .logicSweep s = .next (sweepBallot w s) := by
  change execLogicSweep s = _
  simp [execLogicSweep, up, paired, free, next]

end Sweeps

/-- Settles O52: one row's lemma for each clause. Grid samples are log entry 41, the lane of an evaluation log entry 31, the
parameters that it runs with log entry 43, a sweep as one event log entry 47, the element region of a pair's sweep log
entry 48. -/
theorem stepEvents : Obligations.StepEvents :=
  fun _ _ _ _ u l => ⟨fun _ _ => exec_gridSampleProduce, fun _ _ => exec_stepDispatch,
    fun _ => exec_laneEvaluationComplete u, fun _ => exec_stepClose_complete, fun _ => exec_stepClose_waits,
    fun _ => exec_stepDeadline, exec_laneSelftest_busy l, exec_laneSelftest_idle l, exec_logicSweep_standalone,
    fun _ _ => exec_logicSweep_pair, rfl⟩

end Sys2Proof.Machine
end

section
/-! SUPPORT. The commands of element sets, slots, lanes and the catalogue (R231, R235 to R240): the answer of each meaning
where its rule admits it, then its row. -/

namespace Sys2Proof.Machine

/-- R117: outside BOOT and HALTED a row that a reset would hold starts only where its instance is not being reset. -/
theorem not_resetting_of_starts {op : Nat} {r : CmdId} {c : Cmd} {s : State} (starts : Starts op r c s)
    (acts : heldOp op = true) (opened : Open s) : (inst s (instOf c)).st ≠ .resetting := by
  obtain ⟨found, free⟩ := starts
  intro resetting
  rw [← (ready_found found).2] at acts
  rw [heldByReset_heldOp acts opened resetting] at free
  nomatch free

theorem ownReady_open {s : State} {k : Ans} (opened : Open s) : ownReady s k = k :=
  notBootHalted_open opened

section Elements
variable {r : CmdId} {c : Cmd} {s : State}

/-! ## Readings of sets and slots -/

/-- The set that a reading names: the one in effect, or the staged one. -/
theorem setGet_present {g : List Byte}
    (present : (if argD c 3 0 = 0 then (inst s (instOf c)).el.img else (inst s (instOf c)).el.staged) = some g) :
    setGet c s = .done s (withOut g ok) := by
  simp only [setGet, present]

theorem elementSetGet_gives {g : List Byte} (starts : Starts 0x0602 r c s)
    (present : (if argD c 3 0 = 0 then (inst s (instOf c)).el.img else (inst s (instOf c)).el.staged) = some g) :
    GivesData (.elementSetGet r) c g ok s :=
  givesData_of_done (Eq.refl (execElementSetGet r s)) starts (setGet_present present) rfl

/-- R236: with no staged set the fields in effect are read. -/
theorem paramGet_inEffect {g x : List Byte} {o : Nat} (unstaged : (inst s (instOf c)).el.staged = none)
    (present : (inst s (instOf c)).el.img = some g) (held : findRec g (argD c 2 0) = some (o, x)) :
    paramGet c s = .done s (withOut ((slotKeys x).flatMap fun p => entryBytes p.1 p.2 false) ok) := by
  simp [paramGet, unstaged, present, held]

/-- R236: the fields of the staged set, those marked that differ from the set in effect. -/
theorem paramGet_staged {g x : List Byte} {o : Nat} (staged : (inst s (instOf c)).el.staged = some g)
    (held : findRec g (argD c 2 0) = some (o, x)) :
    paramGet c s = .done s (withOut ((slotKeys x).flatMap fun p => entryBytes p.1 p.2
      (!(((((inst s (instOf c)).el.img.bind fun g => findRec g (argD c 2 0)).map (·.2)).map slotKeys).getD []).contains p))
      stagedR) := by
  simp [paramGet, staged, held]

theorem withSlot_reserved {x : Reserve} {k : Reserve → SlotSt → Ans}
    (reserved : (inst s (instOf c)).el.reserved.find? (fun x => x.slot == argD c 2 0) = some x) :
    withSlot c s k = k x (tget {} (inst s (instOf c)).el.slots x.slot) := by
  simp only [withSlot, reserved]

theorem elementSlotStatus_gives {x : Reserve} (starts : Starts 0x0607 r c s)
    (reserved : (inst s (instOf c)).el.reserved.find? (fun x => x.slot == argD c 2 0) = some x) :
    GivesData (.elementSlotStatus r) c
      (le 4 (tget {} (inst s (instOf c)).el.slots x.slot).evals.toNat ++
        le 4 (tget {} (inst s (instOf c)).el.slots x.slot).blocked.toNat ++
        le 4 (tget {} (inst s (instOf c)).el.slots x.slot).mismatch.toNat ++
        le 4 (tget {} (inst s (instOf c)).el.slots x.slot).overrun.toNat)
      { ok with res0 := (tget {} (inst s (instOf c)).el.slots x.slot).word + x.gslot * 65536,
                res1 := some (tget {} (inst s (instOf c)).el.slots x.slot).lastAngle.toNat } s :=
  givesData_of_done (Eq.refl (execElementSlotStatus r s)) starts (withSlot_reserved reserved) rfl

theorem elementStateGet_gives {x : Reserve} (starts : Starts 0x0608 r c s)
    (reserved : (inst s (instOf c)).el.reserved.find? (fun x => x.slot == argD c 2 0) = some x) :
    GivesData (.elementStateGet r) c (slotBytes x.type (tget {} (inst s (instOf c)).el.slots x.slot)) ok s :=
  givesData_of_done (Eq.refl (execElementStateGet r s)) starts (withSlot_reserved reserved) rfl

/-! ## Load, lanes and the catalogue -/

/-- R239: lanes, Λ and U, then C_d and R_d of the 16 domains. -/
theorem elLoadBytes_length (s : State) : (elLoadBytes s).length = 148 := by
  rw [elLoadBytes, List.length_append, flatMap_length _ 8 _ fun d _ => by simp]
  simp

theorem elementLoadGet_gives (starts : Starts 0x0606 r c s) (adm : Admin c) : Gives (.elementLoadGet r) c 148 ok s :=
  gives_of_done (Eq.refl (execElementLoadGet r s)) starts (adminOnly_admin adm) rfl (elLoadBytes_length s)

theorem exec_elementLaneStatus (starts : Starts 0x0609 r c s) (adm : Admin c) :
    exec (.elementLaneStatus r) s = .next (reply c.id { ok with
      res0 := b2n (lane s (argD c 3 0)).retired + b2n (lane s (argD c 3 0)).failed * 2 +
        recentCharges s (lane s (argD c 3 0)) * 4,
      res1 := some (lane s (argD c 3 0)).evals.toNat } s) :=
  exec_of_done (Eq.refl (execElementLaneStatus r s)) starts (adminOnly_admin adm) rfl

/-- R239: the figures of a type, then minimum, maximum and class of up to 8 parameters. -/
theorem catBytes_length (x : CatRow) : (catBytes x).length = 80 := by
  rw [catBytes, List.length_append, flatMap_length _ 9 _ fun i _ => by split <;> simp]
  simp

theorem catalogueGet_present {x : CatRow} (present : catalogue (argD c 3 0) = some x) :
    catalogueGet c s = .done s (withOut (catBytes x) ok) := by
  simp only [catalogueGet, present]

theorem elementCatalogueGet_gives {x : CatRow} (starts : Starts 0x060A r c s)
    (present : catalogue (argD c 3 0) = some x) : Gives (.elementCatalogueGet r) c 80 ok s :=
  gives_of_done (Eq.refl (execElementCatalogueGet r s)) starts (catalogueGet_present present) rfl (catBytes_length x)

/-! ## Setting sets and fields -/

theorem ownReserved_alone {body : Cmd → State → Ans} (opened : Open s) (alone : Alone s) :
    ownReady s (carried c s body) = body c s :=
  reserved_alone opened alone

/-- R235: an image whose trailer and fields hold is staged whole. -/
theorem setLoad_checked (usable : (inst s (instOf c)).st ≠ .resetting) (trailer : sealed c.input = true)
    (fields : setBad c.input = none) :
    setLoad c s = .done (updEl (instOf c) (fun e => { e with staged := some c.input, fieldsOnly := false }) s) stagedR := by
  simp [setLoad, usable, trailer, fields]

/-- R236, R240: fields that pass every judgement. Those of a staged set of its own go to that set; otherwise those of class
L of a running instance act at once, and the others are staged as fields. -/
theorem paramSet_judged {g x : List Byte} {o : Nat} {ps live wait : List Param}
    (usable : (inst s (instOf c)).st ≠ .resetting) (keys : ps = c.params.filter fun p => 2 < p.key)
    (base : ((inst s (instOf c)).el.staged <|> (inst s (instOf c)).el.img) = some g)
    (held : findRec g (argD c 2 0) = some (o, x))
    (classes : ∀ p ∈ ps, keyClass (rType x) p.key = some .live ∨ keyClass (rType x) p.key = some .staged)
    (fields : fieldBad g (argD c 2 0) ps = none)
    (atOnce : live = if (inst s (instOf c)).st = .running then
      ps.filter fun p => keyClass (rType x) p.key == some .live else [])
    (later : wait = if (inst s (instOf c)).st = .running then
      ps.filter fun p => keyClass (rType x) p.key == some .staged else ps) :
    paramSet c s =
      if (inst s (instOf c)).el.staged.isSome && !(inst s (instOf c)).el.fieldsOnly then
        .done (updEl (instOf c) (fun e => { e with staged := some (putFields g (argD c 2 0) ps) }) s) stagedR
      else
        .done (updEl (instOf c) (fun e => { e with
          img := e.img.map fun m => putFields m (argD c 2 0) live
          staged := if wait.isEmpty && e.staged.isNone then none else some (putFields g (argD c 2 0) ps)
          fieldsOnly := true }) s) (okOrStaged (!wait.isEmpty)) := by
  have known : (ps.find? fun p => (keyClass (rType x) p.key).isNone) = none :=
    List.find?_eq_none.mpr fun p member => by
      rcases classes p member with h | h <;> simp [h]
  have unlocked : (ps.any fun p => keyClass (rType x) p.key == some .locked) = false :=
    List.any_eq_false.mpr fun p member => by
      rcases classes p member with h | h <;> simp [h]
  subst keys atOnce later
  cases staged : (inst s (instOf c)).el.staged
  all_goals
    simp only [staged, Option.orElse_eq_orElse, Option.orElse_some, Option.orElse_none, Option.some.injEq] at base
    simp only [paramSet, if_neg usable, staged, base, Option.bind_some, held, Option.map_some, known, fields, unlocked,
      Bool.false_eq_true, if_false]

/-- The fields go to the staged set where it is an image of its own. -/
theorem paramSet_stagedSet {g x : List Byte} {o : Nat} {ps : List Param}
    (usable : (inst s (instOf c)).st ≠ .resetting) (keys : ps = c.params.filter fun p => 2 < p.key)
    (staged : (inst s (instOf c)).el.staged = some g) (own : (inst s (instOf c)).el.fieldsOnly = false)
    (held : findRec g (argD c 2 0) = some (o, x))
    (classes : ∀ p ∈ ps, keyClass (rType x) p.key = some .live ∨ keyClass (rType x) p.key = some .staged)
    (fields : fieldBad g (argD c 2 0) ps = none) :
    paramSet c s =
      .done (updEl (instOf c) (fun e => { e with staged := some (putFields g (argD c 2 0) ps) }) s) stagedR :=
  (paramSet_judged usable keys (by rw [staged]; rfl) held classes fields rfl rfl).trans
    (if_pos (by rw [staged, own]; rfl))

/-! ## Admission -/

/-- R231: the set that the next restart would bring, admitted, and the load it would leave. -/
theorem admitCheck_admitted {rs : List Reserve}
    (admitted : admitSet (updInst (instOf c) applyStaged s) (instOf c)
      (inst (updInst (instOf c) applyStaged s) (instOf c)).el.img = .ok rs) :
    admitCheck c s = .done s { ok with res1 := some (loadShare s (loadU
      (tmod {} (updInst (instOf c) applyStaged s).insts (instOf c) fun i =>
        { i with el := { i.el with reserved := rs, resDom := instDom i } }) (fmaxOf s) (stepOf s))) } := by
  simp only [admitCheck, admitted]

end Elements

/-- Settles O25: each row by the answer of its meaning. Where a value of param.set goes is log entry 44, the layouts of the
catalogue and the load log entry 45, what admit.check judges log entry 30, the size of a reading against its buffer log
entry 17, RESULT0 of the readings log entry 76. -/
theorem elementCommands : Obligations.ElementCommands := by
  refine ⟨fun r c s e named => ?readings, fun r c s n named => ?changes⟩
  case readings =>
    subst named
    exact ⟨fun g starts effect present => elementSetGet_gives starts ((if_pos effect).trans present),
      fun g starts other present => elementSetGet_gives starts ((if_neg other).trans present),
      fun g o x starts unstaged present held =>
        givesData_of_done (Eq.refl (execElementParamGet r s)) starts (paramGet_inEffect unstaged present held) rfl,
      fun g o x starts staged held =>
        givesData_of_done (Eq.refl (execElementParamGet r s)) starts (paramGet_staged staged held) rfl,
      elementLoadGet_gives,
      fun x => elementSlotStatus_gives, fun x => elementStateGet_gives, exec_elementLaneStatus,
      fun x => elementCatalogueGet_gives⟩
  case changes =>
    subst named
    refine ⟨fun starts opened alone trailer fields => ?setLoad,
      fun g o x ps live wait starts opened alone keys base held classes fields unowned atOnce later => ?paramInEffect,
      fun g o x ps starts opened alone keys staged own held classes fields => ?paramStaged,
      fun rs t starts opened alone next admitted => ?admitCheck, fun starts adm opened => ?clear⟩
    case setLoad =>
      have usable := not_resetting_of_starts starts rfl opened
      exact exec_of_done (Eq.refl (execElementSetLoad r s)) starts
        ((ownReserved_alone opened alone).trans (setLoad_checked usable trailer fields)) rfl
    case paramInEffect =>
      have usable := not_resetting_of_starts starts rfl opened
      have shared : ¬ ((inst s (instOf c)).el.staged.isSome && !(inst s (instOf c)).el.fieldsOnly) = true := by
        rcases unowned with unstaged | fieldsOnly
        · simp [unstaged]
        · simp [fieldsOnly]
      exact exec_of_done (Eq.refl (execElementParamSet r s)) starts
        ((ownReserved_alone opened alone).trans
          ((paramSet_judged usable keys base held classes fields atOnce later).trans (if_neg shared))) (okOrStaged_out _)
    case paramStaged =>
      have usable := not_resetting_of_starts starts rfl opened
      exact exec_of_done (Eq.refl (execElementParamSet r s)) starts
        ((ownReserved_alone opened alone).trans (paramSet_stagedSet usable keys staged own held classes fields)) rfl
    case admitCheck =>
      subst next
      exact exec_of_done (Eq.refl (execElementAdmitCheck r s)) starts
        ((ownReady_open opened).trans (admitCheck_admitted admitted)) rfl
    case clear =>
      exact exec_of_done (Eq.refl (execElementCountersClear r s)) starts
        ((adminOnly_admin adm).trans (notBootHalted_open opened)) rfl

end Sys2Proof.Machine
end

section
/-! SUPPORT. Every row ends in a next state and leaves the clock and the queue alone (R79, R245): what the rows keep
(`State.keep`), taken together over all commands, and what the two rows that advance the fuse minimum keep. The passing
of time on an empty queue (log entry 2) keeps all of it but the clock. -/

namespace Sys2Proof.Machine

/-! ## Rows that keep queue, clock and fuse minimum -/

/-- The two rows that advance the fuse minimum (R471, R473). -/
def advancesFuse : Instr → Bool
  | .bankSelect => true
  | .updateConfirm _ => true
  | _ => false

theorem advancesFuse_iff {i : Instr} : advancesFuse i = true ↔ i = .bankSelect ∨ ∃ r, i = .updateConfirm r := by
  constructor
  · intro advances
    unfold advancesFuse at advances
    split at advances
    case h_1 => exact .inl rfl
    case h_2 r => exact .inr ⟨r, rfl⟩
    case h_3 => nomatch advances
  · rintro (rfl | ⟨r, rfl⟩)
    · rfl
    · rfl

/-- Every other row keeps queue, clock and fuse minimum, by the frame lemma of its own meaning. -/
theorem exec_keep (s : State) : ∀ i : Instr, advancesFuse i = false → resKeep (exec i s) = some s.keep
  | .adminIdentify r, _ => execAdminIdentify_keep r s
  | .adminServiceGet r, _ => execAdminServiceGet_keep r s
  | .adminServiceSet r, _ => execAdminServiceSet_keep r s
  | .adminEcho r, _ => execAdminEcho_keep r s
  | .adminAbort r, _ => execAdminAbort_keep r s
  | .adminTimeoutSet r, _ => execAdminTimeoutSet_keep r s
  | .adminBoundsGet r, _ => execAdminBoundsGet_keep r s
  | .adminCountersGet r, _ => execAdminCountersGet_keep r s
  | .adminConfigSave r, _ => execAdminConfigSave_keep r s
  | .adminAutoserviceSet r, _ => execAdminAutoserviceSet_keep r s
  | .adminVectorSet r, _ => execAdminVectorSet_keep r s
  | .instanceStatusGet r, _ => execInstanceStatusGet_keep r s
  | .instanceSliceAssign r, _ => execInstanceSliceAssign_keep r s
  | .instanceSliceRelease r, _ => execInstanceSliceRelease_keep r s
  | .instanceAtuMap r, _ => execInstanceAtuMap_keep r s
  | .instanceAtuUnmap r, _ => execInstanceAtuUnmap_keep r s
  | .instanceShareSet r, _ => execInstanceShareSet_keep r s
  | .instanceConfigSet r, _ => execInstanceConfigSet_keep r s
  | .instanceConfigGet r, _ => execInstanceConfigGet_keep r s
  | .instanceHold r, _ => execInstanceHold_keep r s
  | .instanceRestart r, _ => execInstanceRestart_keep r s
  | .instanceReset r, _ => execInstanceReset_keep r s
  | .instanceFreeze r, _ => execInstanceFreeze_keep r s
  | .instanceSave r, _ => execInstanceSave_keep r s
  | .instanceRestore r, _ => execInstanceRestore_keep r s
  | .instanceThaw r, _ => execInstanceThaw_keep r s
  | .angleDomainGet r, _ => execAngleDomainGet_keep r s
  | .angleDomainSet r, _ => execAngleDomainSet_keep r s
  | .angleDomainHold r, _ => execAngleDomainHold_keep r s
  | .angleDomainRestart r, _ => execAngleDomainRestart_keep r s
  | .angleLoopHold r, _ => execAngleLoopHold_keep r s
  | .angleConvert r, _ => execAngleConvert_keep r s
  | .angleSpareSet r, _ => execAngleSpareSet_keep r s
  | .angleSpareGet r, _ => execAngleSpareGet_keep r s
  | .angleSpareHold r, _ => execAngleSpareHold_keep r s
  | .svStreamSubscribe r, _ => execSvStreamSubscribe_keep r s
  | .svStreamUnsubscribe r, _ => execSvStreamUnsubscribe_keep r s
  | .svStreamSet r, _ => execSvStreamSet_keep r s
  | .svStreamGet r, _ => execSvStreamGet_keep r s
  | .svStreamHold r, _ => execSvStreamHold_keep r s
  | .svStreamRestart r, _ => execSvStreamRestart_keep r s
  | .svStreamStatus r, _ => execSvStreamStatus_keep r s
  | .svLoadGet r, _ => execSvLoadGet_keep r s
  | .svSimReset r, _ => execSvSimReset_keep r s
  | .svCountersClear r, _ => execSvCountersClear_keep r s
  | .filterChannelSet r, _ => execFilterChannelSet_keep r s
  | .filterChannelGet r, _ => execFilterChannelGet_keep r s
  | .filterRomGet r, _ => execFilterRomGet_keep r s
  | .filterPairsGet r, _ => execFilterPairsGet_keep r s
  | .filterGridRead r, _ => execFilterGridRead_keep r s
  | .filterResync r, _ => execFilterResync_keep r s
  | .filterDetectorSet r, _ => execFilterDetectorSet_keep r s
  | .filterDetectorGet r, _ => execFilterDetectorGet_keep r s
  | .filterDetectorClear r, _ => execFilterDetectorClear_keep r s
  | .elementSetLoad r, _ => execElementSetLoad_keep r s
  | .elementSetGet r, _ => execElementSetGet_keep r s
  | .elementParamSet r, _ => execElementParamSet_keep r s
  | .elementParamGet r, _ => execElementParamGet_keep r s
  | .elementAdmitCheck r, _ => execElementAdmitCheck_keep r s
  | .elementLoadGet r, _ => execElementLoadGet_keep r s
  | .elementSlotStatus r, _ => execElementSlotStatus_keep r s
  | .elementStateGet r, _ => execElementStateGet_keep r s
  | .elementLaneStatus r, _ => execElementLaneStatus_keep r s
  | .elementCatalogueGet r, _ => execElementCatalogueGet_keep r s
  | .elementCountersClear r, _ => execElementCountersClear_keep r s
  | .logicProgramLoad r, _ => execLogicProgramLoad_keep r s
  | .logicProgramGet r, _ => execLogicProgramGet_keep r s
  | .logicProgramInfo r, _ => execLogicProgramInfo_keep r s
  | .logicSignalRead r, _ => execLogicSignalRead_keep r s
  | .logicControlWrite r, _ => execLogicControlWrite_keep r s
  | .logicForceSet r, _ => execLogicForceSet_keep r s
  | .logicForceClear r, _ => execLogicForceClear_keep r s
  | .logicForceList r, _ => execLogicForceList_keep r s
  | .logicStateGet r, _ => execLogicStateGet_keep r s
  | .logicExchangeReport r, _ => execLogicExchangeReport_keep r s
  | .logicSweepGet r, _ => execLogicSweepGet_keep r s
  | .logicEngineSet r, _ => execLogicEngineSet_keep r s
  | .goosePubSet r, _ => execGoosePubSet_keep r s
  | .goosePubGet r, _ => execGoosePubGet_keep r s
  | .goosePubStatus r, _ => execGoosePubStatus_keep r s
  | .goosePubRelease r, _ => execGoosePubRelease_keep r s
  | .gooseSubSet r, _ => execGooseSubSet_keep r s
  | .gooseSubGet r, _ => execGooseSubGet_keep r s
  | .gooseSubStatus r, _ => execGooseSubStatus_keep r s
  | .gooseCountersClear r, _ => execGooseCountersClear_keep r s
  | .tripOutputSet r, _ => execTripOutputSet_keep r s
  | .tripOutputGet r, _ => execTripOutputGet_keep r s
  | .tripOutputTest r, _ => execTripOutputTest_keep r s
  | .tripReactionGet r, _ => execTripReactionGet_keep r s
  | .tandemStatusGet r, _ => execTandemStatusGet_keep r s
  | .tandemPairSet r, _ => execTandemPairSet_keep r s
  | .tandemPairGet r, _ => execTandemPairGet_keep r s
  | .tandemSwitchover r, _ => execTandemSwitchover_keep r s
  | .tandemIsolate r, _ => execTandemIsolate_keep r s
  | .tandemRejoin r, _ => execTandemRejoin_keep r s
  | .tandemResyncGet r, _ => execTandemResyncGet_keep r s
  | .tandemCountersGet r, _ => execTandemCountersGet_keep r s
  | .tandemCountersClear r, _ => execTandemCountersClear_keep r s
  | .tandemRefereeGet r, _ => execTandemRefereeGet_keep r s
  | .portConfigSet r, _ => execPortConfigSet_keep r s
  | .portConfigGet r, _ => execPortConfigGet_keep r s
  | .portStatusGet r, _ => execPortStatusGet_keep r s
  | .portHold r, _ => execPortHold_keep r s
  | .portRestart r, _ => execPortRestart_keep r s
  | .portCountersClear r, _ => execPortCountersClear_keep r s
  | .portGclSet r, _ => execPortGclSet_keep r s
  | .portGclGet r, _ => execPortGclGet_keep r s
  | .portVportSet r, _ => execPortVportSet_keep r s
  | .portVportGet r, _ => execPortVportGet_keep r s
  | .switchFdbSet r, _ => execSwitchFdbSet_keep r s
  | .switchFdbGet r, _ => execSwitchFdbGet_keep r s
  | .switchFdbFlush r, _ => execSwitchFdbFlush_keep r s
  | .switchGroupSet r, _ => execSwitchGroupSet_keep r s
  | .switchVlanSet r, _ => execSwitchVlanSet_keep r s
  | .switchMirrorSet r, _ => execSwitchMirrorSet_keep r s
  | .switchRedundancySet r, _ => execSwitchRedundancySet_keep r s
  | .switchRedundancyGet r, _ => execSwitchRedundancyGet_keep r s
  | .switchShelfGet r, _ => execSwitchShelfGet_keep r s
  | .switchStocktakeRun r, _ => execSwitchStocktakeRun_keep r s
  | .switchConfigSet r, _ => execSwitchConfigSet_keep r s
  | .timeStatusGet r, _ => execTimeStatusGet_keep r s
  | .timeNowGet r, _ => execTimeNowGet_keep r s
  | .timeConfigSet r, _ => execTimeConfigSet_keep r s
  | .timeConfigGet r, _ => execTimeConfigGet_keep r s
  | .timePortSet r, _ => execTimePortSet_keep r s
  | .timePortGet r, _ => execTimePortGet_keep r s
  | .timeRestart r, _ => execTimeRestart_keep r s
  | .timeSet r, _ => execTimeSet_keep r s
  | .timeCountersClear r, _ => execTimeCountersClear_keep r s
  | .archiveRecorderSet r, _ => execArchiveRecorderSet_keep r s
  | .archiveRecorderGet r, _ => execArchiveRecorderGet_keep r s
  | .archiveRecorderArm r, _ => execArchiveRecorderArm_keep r s
  | .archiveRecorderHold r, _ => execArchiveRecorderHold_keep r s
  | .archiveRecorderDelete r, _ => execArchiveRecorderDelete_keep r s
  | .archiveTrigger r, _ => execArchiveTrigger_keep r s
  | .archiveStatusGet r, _ => execArchiveStatusGet_keep r s
  | .archiveFolioList r, _ => execArchiveFolioList_keep r s
  | .archiveFolioRelease r, _ => execArchiveFolioRelease_keep r s
  | .archiveFolioKeep r, _ => execArchiveFolioKeep_keep r s
  | .archiveRoomOpen r, _ => execArchiveRoomOpen_keep r s
  | .archiveRoomClose r, _ => execArchiveRoomClose_keep r s
  | .archiveConfigSet r, _ => execArchiveConfigSet_keep r s
  | .archiveCountersClear r, _ => execArchiveCountersClear_keep r s
  | .chronicleRead r, _ => execChronicleRead_keep r s
  | .chronicleStatusGet r, _ => execChronicleStatusGet_keep r s
  | .chronicleClear r, _ => execChronicleClear_keep r s
  | .chronicleNote r, _ => execChronicleNote_keep r s
  | .chronicleConfigSet r, _ => execChronicleConfigSet_keep r s
  | .errorContextsGet r, _ => execErrorContextsGet_keep r s
  | .notifyConfigSet r, _ => execNotifyConfigSet_keep r s
  | .notifyConfigGet r, _ => execNotifyConfigGet_keep r s
  | .notifyAlarmGet r, _ => execNotifyAlarmGet_keep r s
  | .notifyAlarmClear r, _ => execNotifyAlarmClear_keep r s
  | .notifyAlarmpubSet r, _ => execNotifyAlarmpubSet_keep r s
  | .notifyFilterSet r, _ => execNotifyFilterSet_keep r s
  | .keyIdentityGet r, _ => execKeyIdentityGet_keep r s
  | .keyOwnerEnrol r, _ => execKeyOwnerEnrol_keep r s
  | .keyDepositBegin r, _ => execKeyDepositBegin_keep r s
  | .keyDepositChunk r, _ => execKeyDepositChunk_keep r s
  | .keyDepositEnd r, _ => execKeyDepositEnd_keep r s
  | .keyDepositAbort r, _ => execKeyDepositAbort_keep r s
  | .keySlotGet r, _ => execKeySlotGet_keep r s
  | .keySlotPromote r, _ => execKeySlotPromote_keep r s
  | .keyGenerate r, _ => execKeyGenerate_keep r s
  | .keySign r, _ => execKeySign_keep r s
  | .keyAttest r, _ => execKeyAttest_keep r s
  | .keyModeSet r, _ => execKeyModeSet_keep r s
  | .updateStatusGet r, _ => execUpdateStatusGet_keep r s
  | .updateDepositBegin r, _ => execUpdateDepositBegin_keep r s
  | .updateDepositChunk r, _ => execUpdateDepositChunk_keep r s
  | .updateDepositEnd r, _ => execUpdateDepositEnd_keep r s
  | .updateDepositAbort r, _ => execUpdateDepositAbort_keep r s
  | .updateActivate r, _ => execUpdateActivate_keep r s
  | .updateCancel r, _ => execUpdateCancel_keep r s
  | .updateWindowSet r, _ => execUpdateWindowSet_keep r s
  | .powerStatusGet r, _ => execPowerStatusGet_keep r s
  | .powerEnergyStart r, _ => execPowerEnergyStart_keep r s
  | .powerEnergyRead r, _ => execPowerEnergyRead_keep r s
  | .powerGatingSet r, _ => execPowerGatingSet_keep r s
  | .powerHoldupTest r, _ => execPowerHoldupTest_keep r s
  | .powerCountersGet r, _ => execPowerCountersGet_keep r s
  | .powerThermalSet r, _ => execPowerThermalSet_keep r s
  | .powerReset r, _ => execPowerReset_keep r s
  | .sqTail slice value, _ => execSqTail_keep slice value s
  | .cqHead slice value, _ => execCqHead_keep slice value s
  | .ringEnable slice value, _ => execRingEnable_keep slice value s
  | .ringDisable slice value, _ => execRingDisable_keep slice value s
  | .rxTail slice value, _ => execRxTail_keep slice value s
  | .txTail slice value, _ => execTxTail_keep slice value s
  | .rxRingEnable slice value, _ => execRxRingEnable_keep slice value s
  | .rxRingDisable slice value, _ => execRxRingDisable_keep slice value s
  | .txRingEnable slice value, _ => execTxRingEnable_keep slice value s
  | .txRingDisable slice value, _ => execTxRingDisable_keep slice value s
  | .snap value, _ => execSnap_keep value s
  | .angCtrlHold d value, _ => execAngCtrlHold_keep d value s
  | .ntfAdmClaim, _ => execNtfAdmClaim_keep s
  | .ntfAdmComplete value, _ => execNtfAdmComplete_keep value s
  | .slcNtfClaim slice v, _ => execSlcNtfClaim_keep slice v s
  | .slcNtfComplete slice value, _ => execSlcNtfComplete_keep slice value s
  | .ptpNowTs32 rid, _ => execPtpNowTs32_keep rid s
  | .lowWordRead addr rid, _ => execLowWordRead_keep addr rid s
  | .registerWrite addr value, _ => execRegisterWrite_keep addr value s
  | .bar0BadAccess addr write, _ => execBar0BadAccess_keep addr write s
  | .readingRoomRead off, _ => execReadingRoomRead_keep off s
  | .bar2Write off, _ => execBar2Write_keep off s
  | .msixUnmask vec, _ => execMsixUnmask_keep vec s
  | .submissionFetch slice entry, _ => execSubmissionFetch_keep slice entry s
  | .dmaReadCompletion tag ok data, _ => execDmaReadCompletion_keep tag ok data s
  | .dmaReadTimeout tag, _ => execDmaReadTimeout_keep tag s
  | .commandTimeout r, _ => execCommandTimeout_keep r s
  | .completionWrite r, _ => execCompletionWrite_keep r s
  | .perst, _ => execPerst_keep s
  | .functionLevelReset, _ => execFunctionLevelReset_keep s
  | .busMasterChange bme d3, _ => execBusMasterChange_keep bme d3 s
  | .txFrameFetch slice descs frame, _ => execTxFrameFetch_keep slice descs frame s
  | .instanceRestartBoundary n, _ => execInstanceRestartBoundary_keep n s
  | .freezeBoundary n, _ => execFreezeBoundary_keep n s
  | .instanceResetDiscard n, _ => execInstanceResetDiscard_keep n s
  | .instanceResetComplete n, _ => execInstanceResetComplete_keep n s
  | .domainRestartBoundary d, _ => execDomainRestartBoundary_keep d s
  | .twelveVGood, _ => execTwelveVGood_keep s
  | .modEnLow, _ => execModEnLow_keep s
  | .railsUp, _ => execRailsUp_keep s
  | .railFault rail, _ => execRailFault_keep rail s
  | .supervisorStart dbgEn, _ => execSupervisorStart_keep dbgEn s
  | .pcieEndpointConfigured, _ => execPcieEndpointConfigured_keep s
  | .countersRestored, _ => execCountersRestored_keep s
  | .dramTrained, _ => execDramTrained_keep s
  | .settingsLoaded, _ => execSettingsLoaded_keep s
  | .mbxReady, _ => execMbxReady_keep s
  | .pipelineStart, _ => execPipelineStart_keep s
  | .softReset, _ => execSoftReset_keep s
  | .vinLossUnarmed, _ => execVinLossUnarmed_keep s
  | .powerFailWarning, _ => execPowerFailWarning_keep s
  | .pfwOutputsOff, _ => execPfwOutputsOff_keep s
  | .dyingGasp, _ => execDyingGasp_keep s
  | .pfwLinksDown, _ => execPfwLinksDown_keep s
  | .pfwPcieDown, _ => execPfwPcieDown_keep s
  | .pfwChronicleEntry, _ => execPfwChronicleEntry_keep s
  | .supervisorResetHold, _ => execSupervisorResetHold_keep s
  | .holdupTestEnd microfarad, _ => execHoldupTestEnd_keep microfarad s
  | .powerEnergyIntervalEnd, _ => execPowerEnergyIntervalEnd_keep s
  | .thermalAlarm temp, _ => execThermalAlarm_keep temp s
  | .dieOvertemperature temp, _ => execDieOvertemperature_keep temp s
  | .supervisorWatchdog, _ => execSupervisorWatchdog_keep s
  | .eccUncorrected, _ => execEccUncorrected_keep s
  | .demoteResend, _ => execDemoteResend_keep s
  | .demoteTimeout, _ => execDemoteTimeout_keep s
  | .opsecTick, _ => execOpsecTick_keep s
  | .opsecPersist, _ => execOpsecPersist_keep s
  | .portFrameReceive p frame, _ => execPortFrameReceive_keep p frame s
  | .frameTransmit p, _ => execFrameTransmit_keep p s
  | .linkDown p, _ => execLinkDown_keep p s
  | .linkUp p speed, _ => execLinkUp_keep p speed s
  | .linkDownFlush p, _ => execLinkDownFlush_keep p s
  | .pauseWatchdog p, _ => execPauseWatchdog_keep p s
  | .pauseWdRelease p, _ => execPauseWdRelease_keep p s
  | .wake p, _ => execWake_keep p s
  | .fdbAgeExpiry vid mac, _ => execFdbAgeExpiry_keep vid mac s
  | .ddAgeExpiry pair src, _ => execDdAgeExpiry_keep pair src s
  | .stocktake, _ => execStocktake_keep s
  | .gateEvent p, _ => execGateEvent_keep p s
  | .gclChange p, _ => execGclChange_keep p s
  | .preemptionVerify p ok, _ => execPreemptionVerify_keep p ok s
  | .supervisionFrameSend pair, _ => execSupervisionFrameSend_keep pair s
  | .launchTime p, _ => execLaunchTime_keep p s
  | .svFrameIngest, _ => execSvFrameIngest_keep s
  | .sampleMissing stream, _ => execSampleMissing_keep stream s
  | .streamTimeout stream, _ => execStreamTimeout_keep stream s
  | .gridSampleProduce ch d, _ => execGridSampleProduce_keep ch d s
  | .thresholdDetectorEvent k, _ => execThresholdDetectorEvent_keep k s
  | .acquisitionPass d, _ => execAcquisitionPass_keep d s
  | .lockSet d, _ => execLockSet_keep d s
  | .holdLockTimeout d, _ => execHoldLockTimeout_keep d s
  | .coastTimeout d, _ => execCoastTimeout_keep d s
  | .holdoffExpiry d, _ => execHoldoffExpiry_keep d s
  | .refSetResume d, _ => execRefSetResume_keep d s
  | .stepDispatch d, _ => execStepDispatch_keep d s
  | .laneEvaluationComplete n slot upset, _ => execLaneEvaluationComplete_keep n slot upset s
  | .stepClose d, _ => execStepClose_keep d s
  | .stepDeadline d, _ => execStepDeadline_keep d s
  | .laneSelftest failed, _ => execLaneSelftest_keep failed s
  | .logicSweep, _ => execLogicSweep_keep s
  | .exchangeShadowReady n, _ => execExchangeShadowReady_keep n s
  | .powLaunch k, _ => execPowLaunch_keep k s
  | .minPulseExpiry k, _ => execMinPulseExpiry_keep k s
  | .maxPulseExpiry k, _ => execMaxPulseExpiry_keep k s
  | .energTimeExpiry k mV, _ => execEnergTimeExpiry_keep k mV s
  | .supervisionWindow k mV, _ => execSupervisionWindow_keep k mV s
  | .outputTest k, _ => execOutputTest_keep k s
  | .outputTestPhase k mV, _ => execOutputTestPhase_keep k mV s
  | .discTimeExpiry k, _ => execDiscTimeExpiry_keep k s
  | .filteredInputEdge k level ts, _ => execFilteredInputEdge_keep k level ts s
  | .x3LatchEdge k rising, _ => execX3LatchEdge_keep k rising s
  | .gooseLaunch n p, _ => execGooseLaunch_keep n p s
  | .gooseRetransmit n p, _ => execGooseRetransmit_keep n p s
  | .gooseFrameReceive, _ => execGooseFrameReceive_keep s
  | .gooseTalExpiry n sub, _ => execGooseTalExpiry_keep n sub s
  | .ptpMessageHandle, _ => execPtpMessageHandle_keep s
  | .residenceDiscard p seq, _ => execResidenceDiscard_keep p seq s
  | .sourceLoss, _ => execSourceLoss_keep s
  | .holdoverLimitExpiry, _ => execHoldoverLimitExpiry_keep s
  | .ppsInEdge, _ => execPpsInEdge_keep s
  | .freqInLoss, _ => execFreqInLoss_keep s
  | .ppsOutPulse, _ => execPpsOutPulse_keep s
  | .idle h role gen tcl alarms, _ => execIdle_keep h role gen tcl alarms s
  | .notice h recs, _ => execNotice_keep h recs s
  | .forward h input data, _ => execForward_keep h input data s
  | .settle h recs, _ => execSettle_keep h recs s
  | .report h digests x3, _ => execReport_keep h digests x3 s
  | .close h b settled steps crc, _ => execClose_keep h b settled steps crc s
  | .closeAck h b crc, _ => execCloseAck_keep h b crc s
  | .carry h ident op slice effect params input, _ => execCarry_keep h ident op slice effect params input s
  | .carryAck h ident status, _ => execCarryAck_keep h ident status s
  | .nak h first last, _ => execNak_keep h first last s
  | .gasp h cause, _ => execGasp_keep h cause s
  | .hello h serial position pairId tclMin tclMax proposal, _ => execHello_keep h serial position pairId tclMin tclMax proposal s
  | .resync h chunk, _ => execResync_keep h chunk s
  | .linkFrameResend seq, _ => execLinkFrameResend_keep seq s
  | .linkDead, _ => execLinkDead_keep s
  | .laneDead lane, _ => execLaneDead_keep lane s
  | .idleSend, _ => execIdleSend_keep s
  | .helloSend, _ => execHelloSend_keep s
  | .fwdWaitExpiry input, _ => execFwdWaitExpiry_keep input s
  | .ballotPeriodEnd, _ => execBallotPeriodEnd_keep s
  | .ballotDeadline, _ => execBallotDeadline_keep s
  | .hbReply, _ => execHbReply_keep s
  | .grant, _ => execGrant_keep s
  | .revoke, _ => execRevoke_keep s
  | .demoteAck, _ => execDemoteAck_keep s
  | .heartbeat, _ => execHeartbeat_keep s
  | .refereeHello, _ => execRefereeHello_keep s
  | .peerGaspResend, _ => execPeerGaspResend_keep s
  | .refereeUnreachable path, _ => execRefereeUnreachable_keep path s
  | .resyncPhaseEnd, _ => execResyncPhaseEnd_keep s
  | .resyncFailure, _ => execResyncFailure_keep s
  | .resyncRetry, _ => execResyncRetry_keep s
  | .selftestScrubComplete ok, _ => execSelftestScrubComplete_keep ok s
  | .archiveRow rec, _ => execArchiveRow_keep rec s
  | .triggerAccept, _ => execTriggerAccept_keep s
  | .autoTimeout rec, _ => execAutoTimeout_keep rec s
  | .folioClose folio, _ => execFolioClose_keep folio s
  | .moderationExpiry slice v, _ => execModerationExpiry_keep slice v s
  | .chronicleItemWrite good0 good1, _ => execChronicleItemWrite_keep good0 good1 s
  | .framDeviceFailed dev, _ => execFramDeviceFailed_keep dev s
  | .keyLapse slot, _ => execKeyLapse_keep slot s
  | .depositSessionTimeout firmware, _ => execDepositSessionTimeout_keep firmware s
  | .trialWindowExpiry, _ => execTrialWindowExpiry_keep s
  | .freqInPresent, _ => execFreqInPresent_keep s
  | .thermalAlarmCleared temp, _ => execThermalAlarmCleared_keep temp s
  | .pauseTimeExpiry p, _ => execPauseTimeExpiry_keep p s
  | .switchHardwareFault, _ => execSwitchHardwareFault_keep s

/-! ## Queue and clock alone -/

/-- The commands that wait and the free-running clock. -/
def State.pace (s : State) : List Instr × Nat := (s.pending, s.clk)

theorem pace_of_keep {s t : State} (kept : t.keep = s.keep) : t.pace = s.pace :=
  congrArg (fun k => (k.1, k.2.1)) kept

theorem updUpd_pace (f : Upd → Upd) (s : State) : (updUpd f s).pace = s.pace := rfl

theorem setStore_pace (x : Store) (s : State) : { s with store := x }.pace = s.pace := rfl

/-- The outcome is a next state with the queue and the clock of `s`. -/
def CompletesInPace (s : State) (o : Res) : Prop := ∃ t, o = .next t ∧ t.pace = s.pace

theorem completesInPace_of_resKeep {o : Res} {s : State} (kept : resKeep o = some s.keep) : CompletesInPace s o := by
  cases o with
  | next t => exact ⟨t, rfl, pace_of_keep (Option.some.inj kept)⟩
  | fault => nomatch kept
  | refused => nomatch kept

/-! ## The boot ROM's bank selection (R471) -/

theorem startBank_pace (b : Nat) (s : State) : (startBank b s).pace = s.pace := rfl

theorem bootBank_pace (b : Nat) (s : State) : (bootBank b s).pace = s.pace := by
  simp only [bootBank]
  split
  · rw [startBank_pace]
  split
  · rw [startBank_pace, pace_of_keep (writeRec_keep ..)]
  · rw [pace_of_keep (bootFailed_keep s)]

theorem fallBack_pace (t code : Nat) (s : State) : (fallBack t code s).pace = s.pace := by
  rw [fallBack, updUpd_pace, bootBank_pace, pace_of_keep (noteMod_keep ..), pace_of_keep (writeRec_keep ..)]

theorem bankSelect_pace (s : State) : (bankSelect s).pace = s.pace := by
  have emptied : (emptyLoading 1 (emptyLoading 0 s)).pace = s.pace :=
    pace_of_keep ((emptyLoading_keep ..).trans (emptyLoading_keep ..))
  simp only [bankSelect]
  split
  case h_1 trial _ =>
    split
    · split
      · rw [bootBank_pace, pace_of_keep (noteMod_keep ..), pace_of_keep (convertStore_keep _),
          pace_of_keep (writeRec_keep ..), emptied]
      · rw [fallBack_pace, emptied]
    · rw [fallBack_pace, emptied]
  case h_2 => rw [bootBank_pace, emptied]

theorem exec_bankSelect_completesInPace (s : State) : CompletesInPace s (exec .bankSelect s) := by
  refine ⟨_, rfl, ?_⟩
  split
  · exact bankSelect_pace s
  · rfl

/-! ## The confirmation of an update (R473) -/

/-- A row settles in the state it started from or in the one its answer gives. -/
theorem settle_keep_or (c : Cmd) (s : State) (a : Ans) :
    (settle c s a).keep = s.keep ∨ (settle c s a).keep = a.keepFrom s := by
  cases a with
  | fail r => exact .inl (reply_keep ..)
  | wait t => exact .inr (setPhase_keep ..)
  | going t => exact .inr (setPhase_keep ..)
  | done t r =>
    simp only [settle]
    split
    · exact .inr (reply_keep ..)
    split
    · exact .inl (reply_keep ..)
    split
    · exact .inl ((reply_keep ..).trans (atuFault_keep ..))
    · exact .inr ((reply_keep ..).trans (post_keep ..))

theorem feljo_keep_or (op : Nat) (r : CmdId) (k : Cmd → State → Ans) (s : State) :
    ∃ t, feljo op r k s = .next t ∧ (t.keep = s.keep ∨ ∃ c, t.keep = (k c s).keepFrom s) := by
  unfold feljo
  split
  case h_1 c _ =>
    refine ⟨_, rfl, ?_⟩
    split
    · exact .inl ((settle_keep_or ..).elim id id)
    · exact (settle_keep_or ..).imp_right fun kept => ⟨c, kept⟩
  case h_2 => exact ⟨s, rfl, .inl rfl⟩

theorem require_keep_or {p : Bool} {r : Reply} {k : Ans} {s : State} {kept : List Instr × Nat × Nat}
    (passed : k.keepFrom s = s.keep ∨ k.keepFrom s = kept) :
    (require p r k).keepFrom s = s.keep ∨ (require p r k).keepFrom s = kept := by
  rw [require_keep]
  split
  · exact passed
  · exact .inl rfl

theorem confirmTrial_pace (s : State) : (confirmTrial s).pace = s.pace := by
  rw [confirmTrial, pace_of_keep (noteMod_keep ..)]
  split
  all_goals rw [setStore_pace, updUpd_pace, pace_of_keep (writeRec_keep ..)]

/-- A confirmation changes nothing, or confirms the trial. -/
theorem execUpdateConfirm_keep_or (r : CmdId) (s : State) :
    ∃ t, execUpdateConfirm r s = .next t ∧ (t.keep = s.keep ∨ t.keep = (confirmTrial s).keep) := by
  unfold execUpdateConfirm
  obtain ⟨t, outcome, kept⟩ := feljo_keep_or 0x0F07 r _ s
  refine ⟨t, outcome, kept.elim .inl fun ⟨c, answered⟩ => ?_⟩
  rw [answered]
  refine require_keep_or (require_keep_or (require_keep_or ?_))
  split
  · exact .inl rfl
  · exact .inr rfl

theorem exec_updateConfirm_completesInPace (r : CmdId) (s : State) : CompletesInPace s (exec (.updateConfirm r) s) := by
  obtain ⟨t, outcome, kept | confirmed⟩ := execUpdateConfirm_keep_or r s
  · exact ⟨t, outcome, pace_of_keep kept⟩
  · exact ⟨t, outcome, (pace_of_keep confirmed).trans (confirmTrial_pace s)⟩

/-! ## Every row -/

theorem exec_completesInPace (i : Instr) (s : State) : CompletesInPace s (exec i s) := by
  cases advances : advancesFuse i with
  | false => exact completesInPace_of_resKeep (exec_keep s i advances)
  | true =>
    rcases advancesFuse_iff.mp advances with rfl | ⟨r, rfl⟩
    · exact exec_bankSelect_completesInPace s
    · exact exec_updateConfirm_completesInPace r s

/-- Settles O4: the two rows that advance the fuse minimum by their own lemmas, every other row by what it keeps. That one
event is one instant is log entries 1 and 2. -/
theorem everyCommandCompletes : Obligations.EveryCommandCompletes := by
  intro i s
  obtain ⟨t, outcome, pace⟩ := exec_completesInPace i s
  obtain ⟨pending, clk⟩ := Prod.mk.inj pace
  exact ⟨t, outcome, clk, pending⟩

/-! ## The passing of time -/

theorem tickDue_keep (s : State) : (tickDue s).keep = s.keep := by
  have sampled (t : State) : (if t.clk % ms = 0 then sampleSupply t else t).keep = t.keep := by
    rw [ite_keep, sampleSupply_keep, ite_self]
  unfold tickDue
  rw [ite_keep, ptpPeriodic_keep, ite_self, sampled, ppsFall_keep, launchHandIns_keep]

theorem tick_keep (s : State) : (tick s).keep = { s with clk := s.clk + 1 }.keep := by
  simp only [tick, ite_keep, tickDue_keep, updTime_keep, ite_self]

theorem tick_unpowered {s : State} (off : s.pwr.good = false) : tick s = { s with clk := s.clk + 1 } := by
  simp [tick, off]

/-- Settles O2: a tick keeps all but the clock, and does no more without power. That an empty queue is a nanosecond is log
entry 2. -/
theorem idleStepPassesTime : Obligations.IdleStepPassesTime := by
  intro s empty
  obtain ⟨pending, rest⟩ := Prod.mk.inj (tick_keep s)
  obtain ⟨clk, minSvn⟩ := Prod.mk.inj rest
  exact ⟨tick s, by rw [step, empty], clk, pending.trans empty, minSvn, tick_unpowered⟩

end Sys2Proof.Machine
end

section
/-! SUPPORT. The commands of scheme logic (R243, R261, R265, R267, R269, R271, R272): the answer of each meaning where its
rule admits it, then its row. -/

namespace Sys2Proof.Machine

section Logic
variable {r : CmdId} {c : Cmd} {s : State} {p : Prog}

/-! ## Readings -/

/-- R272: the program that a reading names, in effect or staged. -/
theorem logicProgramGet_gives (starts : Starts 0x0702 r c s)
    (present : (if argD c 3 0 = 0 then (inst s (instOf c)).lg.prog else (inst s (instOf c)).lg.staged) = some p) :
    GivesData (.logicProgramGet r) c p.img ok s :=
  givesData_of_done (Eq.refl (execLogicProgramGet r s)) starts (by simp only [programGet, present]) rfl

theorem logicProgramInfo_gives (starts : Starts 0x0703 r c s) (present : (inst s (instOf c)).lg.prog = some p) :
    GivesData (.logicProgramInfo r) c
      (le 1 (inst s (instOf c)).lg.bank ++ zeros 3 ++ le 4 p.code.length ++ le 4 p.states.length ++ le 4 p.sigs.length ++
        sha384 p.img) ok s :=
  givesData_of_done (Eq.refl (execLogicProgramInfo r s)) starts (by simp only [programInfo, present]) rfl

theorem logicSignalRead_gives (starts : Starts 0x0704 r c s) (inside : argD c 3 0 + argD c 4 1 ≤ 4096) :
    GivesData (.logicSignalRead r) c
      (le ((argD c 4 1 + 7) / 8) (bitsOf (inst s (instOf c)).lg.space (argD c 3 0) (argD c 4 1)))
      { ok with res1 := some (s.logic.sweep % 2 ^ 32) } s :=
  givesData_of_done (Eq.refl (execLogicSignalRead r s)) starts (require_holds (decide_eq_true inside)) rfl

theorem logicForceList_gives (starts : Starts 0x0708 r c s) :
    GivesData (.logicForceList r) c
      ((inst s (instOf c)).lg.forces.flatMap (forceRec (inst s (instOf c)).lg.prog)) ok s :=
  givesData_of_done (Eq.refl (execLogicForceList r s)) starts rfl rfl

theorem logicStateGet_gives {x : StRec} (starts : Starts 0x0709 r c s)
    (present : (inst s (instOf c)).lg.recs.find? (fun x => x.ident == argD c 3 0) = some x) :
    GivesData (.logicStateGet r) c (logicRec x) ok s :=
  givesData_of_done (Eq.refl (execLogicStateGet r s)) starts (by simp only [logicState, present]) rfl

theorem logicExchangeReport_gives {b : List Byte} (starts : Starts 0x070A r c s)
    (present : (inst s (instOf c)).lg.report = some b) : GivesData (.logicExchangeReport r) c b ok s :=
  givesData_of_done (Eq.refl (execLogicExchangeReport r s)) starts (by simp only [exchangeReport, present]) rfl

theorem sweepBytes_length (s : State) : (sweepBytes s).length = 64 := by
  simp only [sweepBytes, List.length_append, le_length, zeros_length, flatMap_le_fun_length, List.length_range]

theorem logicSweepGet_gives (starts : Starts 0x070B r c s) (adm : Admin c) : Gives (.logicSweepGet r) c 64 ok s :=
  gives_of_done (Eq.refl (execLogicSweepGet r s)) starts (adminOnly_admin adm) rfl (sweepBytes_length s)

/-! ## Programs and controls -/

/-- R259, R261: a sound image for an instance in which no exchange runs is staged, or begins one. -/
theorem programLoad_sound (usable : (inst s (instOf c)).st ≠ .resetting) (idle : (inst s (instOf c)).lg.exch = none)
    (trailer : sealed c.input = true) (code : progBad c.input = none) :
    programLoad c s =
      if argD c 2 0 = 0 then
        .done (updLogic (instOf c) (fun l => { l with staged := some (readProg c.input) }) s) stagedR
      else startExchange c (readProg c.input) s := by
  simp [programLoad, usable, idle, trailer, code]

/-- R261: an exchange prepares the new program in the bank that it finds room in, beside the one that runs. -/
theorem startExchange_placed {old : Prog} {b : Nat} (runs : (inst s (instOf c)).st = .running)
    (present : (inst s (instOf c)).lg.prog = some old) (placed : placeProg s.insts p = some b) :
    startExchange c p s = .wait (updLogic (instOf c) (fun l => { l with
      exch := some { prog := p, bank := b, start := s.clk, ballot := exchBallot s, cmd := some c.id } }) s) := by
  simp [startExchange, runs, present, placed]

/-- R272: as many values as bits, one to 32 of them. -/
theorem controlWrite_listed (usable : (inst s (instOf c)).st ≠ .resetting) (named : args c 3 ≠ [])
    (paired : (args c 3).length = (args c 4).length) (few : (args c 3).length ≤ 32) :
    controlWrite c s = .done (updLogic (instOf c) (fun l => { l with
      controls := ((args c 3).zip (args c 4)).foldl (fun m p => putBit m (p.1 - 1664) (p.2 != 0)) l.controls }) s) ok := by
  have listed : ¬ ((args c 3).isEmpty ∨ (args c 3).length ≠ (args c 4).length ∨ 32 < (args c 3).length) := by
    rintro (empty | uneven | many)
    · exact named (List.isEmpty_iff.mp empty)
    · exact uneven paired
    · omega
  simp only [controlWrite, if_neg usable, if_neg listed]

/-! ## Forces -/

/-- R267: a force on a signal of the program, in the states that allow one, while its table has room or holds it. -/
theorem forceSet_admitted (state : s.svc.state = .commissioning ∨ s.svc.state = .test)
    (usable : (inst s (instOf c)).st ≠ .resetting)
    (known : (identAddr (inst s (instOf c)).lg.prog (argD c 3 0)).isSome = true)
    (room : (inst s (instOf c)).lg.forces.length < 64 ∨ thas (inst s (instOf c)).lg.forces (argD c 3 0) = true) :
    forceSet c s = .done (note 0x0703 (instOf c) c.id.slice 0xFFFF [argD c 3 0, argD c 4 0]
      (updLogic (instOf c) (fun l => { l with forces := tput l.forces (argD c 3 0) (argD c 4 0) }) s)) ok := by
  have admitted : (s.svc.state == .commissioning || s.svc.state == .test) = true := by simpa using state
  have named : (identAddr (inst s (instOf c)).lg.prog (argD c 3 0)).isNone = false :=
    Option.isNone_eq_false_iff.mpr known
  have fits : ¬ (64 ≤ (inst s (instOf c)).lg.forces.length ∧
      (!thas (inst s (instOf c)).lg.forces (argD c 3 0)) = true) := by
    rintro ⟨full, absent⟩
    rcases room with free | held
    · omega
    · simp [held] at absent
  simp only [forceSet, admitted, named, if_neg usable, if_neg fits, noObj, Bool.not_true, Bool.false_eq_true, if_false]

theorem forceClear_all (all : argD c 3 0 = 0xFFFFFFFF) :
    forceClear c s = .done (clearForces (instOf c) c.id.slice s) ok := by
  simp only [forceClear, if_pos all]

theorem forceClear_one {v : Nat} (one : argD c 3 0 ≠ 0xFFFFFFFF)
    (present : tfind (inst s (instOf c)).lg.forces (argD c 3 0) = some v) :
    forceClear c s = .done (note 0x0704 (instOf c) c.id.slice 0xFFFF [argD c 3 0, v]
      (updLogic (instOf c) (fun l => { l with forces := tdel l.forces (argD c 3 0) }) s)) ok := by
  simp only [forceClear, if_neg one, present, noObj]

theorem open_of_testing (state : s.svc.state = .commissioning ∨ s.svc.state = .test) : Open s := by
  rcases state with h | h <;> simp [Open, bootOrHalted, h]

end Logic

/-- Settles O26: each row by the answer of its meaning. What loads, exchanges and forces do is log entry 46, the layouts of
program and state records log entry 45, the size of a reading against its buffer log entry 17. -/
theorem logicCommands : Obligations.LogicCommands := by
  refine ⟨fun r c s l named => ?readings, fun r c s n named => ?changes⟩
  case readings =>
    subst named
    exact ⟨fun p starts effect present => logicProgramGet_gives starts ((if_pos effect).trans present),
      fun p starts other present => logicProgramGet_gives starts ((if_neg other).trans present),
      fun p => logicProgramInfo_gives, logicSignalRead_gives, logicForceList_gives, fun x => logicStateGet_gives,
      fun b => logicExchangeReport_gives, logicSweepGet_gives⟩
  case changes =>
    subst named
    refine ⟨fun starts opened alone idle trailer code stage => ?staged,
      fun old b starts opened alone idle trailer code swap runs present placed => ?exchange,
      fun starts opened alone named paired few => ?controls, fun starts alone state known room => ?forceSet,
      fun starts opened alone all => ?clearAll, fun v starts opened alone one present => ?clearOne,
      fun starts adm opened => ?engine⟩
    case staged =>
      have usable := not_resetting_of_starts starts rfl opened
      exact exec_of_done (Eq.refl (execLogicProgramLoad r s)) starts
        ((ownReserved_alone opened alone).trans ((programLoad_sound usable idle trailer code).trans (if_pos stage))) rfl
    case exchange =>
      have sound := (programLoad_sound (st_ne runs) idle trailer code).trans (if_neg swap)
      exact exec_of_wait (Eq.refl (execLogicProgramLoad r s)) starts
        ((ownReserved_alone opened alone).trans (sound.trans (startExchange_placed runs present placed)))
    case controls =>
      have usable := not_resetting_of_starts starts rfl opened
      exact exec_of_done (Eq.refl (execLogicControlWrite r s)) starts
        ((ownReserved_alone opened alone).trans (controlWrite_listed usable named paired few)) rfl
    case forceSet =>
      have opened := open_of_testing state
      have usable := not_resetting_of_starts starts rfl opened
      exact exec_of_done (Eq.refl (execLogicForceSet r s)) starts
        ((ownReserved_alone opened alone).trans (forceSet_admitted state usable known room)) rfl
    case clearAll =>
      exact exec_of_done (Eq.refl (execLogicForceClear r s)) starts
        ((ownReserved_alone opened alone).trans (forceClear_all all)) rfl
    case clearOne =>
      exact exec_of_done (Eq.refl (execLogicForceClear r s)) starts
        ((ownReserved_alone opened alone).trans (forceClear_one one present)) rfl
    case engine =>
      exact exec_of_done (Eq.refl (execLogicEngineSet r s)) starts
        ((adminOnly_admin adm).trans (notBootHalted_open opened)) rfl

end Sys2Proof.Machine
end

section
/-! SUPPORT. The commands of trip outputs (R279, R297 to R299): the answer of each meaning where its rule admits it, then its
row. -/

namespace Sys2Proof.Machine

section TripOutputs
variable {r : CmdId} {c : Cmd} {s : State}

/-- R298: the admin slice, or the slice of the instance that owns the output. -/
theorem outGet_entitled (may : Admin c ∨ ownerOf s (argD c 2 0) = some c.id.slice) :
    outGet c s = .done s (withOut
      (keyList outFields (outp s (argD c 2 0)).cfg ++ le 4 (outCounts (outp s (argD c 2 0))).1 ++
        le 4 (outCounts (outp s (argD c 2 0))).2)
      { okOrStaged (anyStaged (outp s (argD c 2 0)).cfg) with res0 := outStatus s (argD c 2 0) }) :=
  require_holds (by simpa [fromAdmin] using may)

theorem outSet_written {g : Cfg} {stg : Bool}
    (written : writeKeys outFields (fun _ => outMode s (argD c 2 0)) (c.params.filter fun p => 2 < p.key)
      (outp s (argD c 2 0)).cfg false = .ok (g, stg)) (sound : outRuleBad g = none) :
    outSet c s = .done (outChanged (argD c 2 0) c.id.slice (outp s (argD c 2 0)).cfg
      (updOut (argD c 2 0) (fun o => { o with cfg := g }) s)) (okOrStaged stg) := by
  simp only [outSet, written, sound]

/-- R279: one output at a time is tested, owned and not energised; the command waits for the test's end. -/
theorem outTest_begins {m : Nat} (owned : ownerOf s (argD c 2 0) = some m)
    (released : (outp s (argD c 2 0)).energised = false) (untested : ∀ e ∈ s.trip.outs, e.2.test = none) :
    outTest c s = .wait (addWait (.outTest (argD c 2 0)) (some c.id) (startTest (argD c 2 0) s)) := by
  have named : (ownerOf s (argD c 2 0)).isSome = true := by rw [owned]; rfl
  have alone : (s.trip.outs.any fun e => e.2.test.isSome) = false :=
    List.any_eq_false.mpr fun e here => by simp [untested e here]
  have free : (!(outp s (argD c 2 0)).energised && !(s.trip.outs.any fun e => e.2.test.isSome)) = true := by
    rw [released, alone]; rfl
  exact (require_holds named).trans (require_holds free)

/-- R293: five times of 4 bytes, then zeros. -/
theorem reactionBytes_length (s : State) (d : Nat) : (reactionBytes s d).length = 32 := by
  simp only [reactionBytes, List.length_append, le_length, zeros_length]

theorem tripOutputGet_gives (starts : Starts 0x080A r c s)
    (may : Admin c ∨ ownerOf s (argD c 2 0) = some c.id.slice) :
    GivesData (.tripOutputGet r) c
      (keyList outFields (outp s (argD c 2 0)).cfg ++ le 4 (outCounts (outp s (argD c 2 0))).1 ++
        le 4 (outCounts (outp s (argD c 2 0))).2)
      { okOrStaged (anyStaged (outp s (argD c 2 0)).cfg) with res0 := outStatus s (argD c 2 0) } s :=
  givesData_of_done (Eq.refl (execTripOutputGet r s)) starts (outGet_entitled may) (okOrStaged_out _)

theorem tripReactionGet_gives (starts : Starts 0x080C r c s) : Gives (.tripReactionGet r) c 32 ok s :=
  gives_of_done (Eq.refl (execTripReactionGet r s)) starts rfl rfl (reactionBytes_length s _)

end TripOutputs

/-- Settles O27: each row by the answer of its meaning. How an output's fields are written and its tests are run is log entry
49, the size of a reading against its buffer log entry 17. -/
theorem tripCommands : Obligations.TripCommands := by
  intro r c s k named
  subst named
  refine ⟨fun g stg starts adm opened alone written sound => ?set, tripOutputGet_gives,
    fun m starts adm opened alone owned released untested => ?test, tripReactionGet_gives⟩
  case set =>
    exact exec_of_done (Eq.refl (execTripOutputSet r s)) starts
      ((adminReserved_alone adm opened alone).trans (outSet_written written sound)) (okOrStaged_out _)
  case test =>
    exact exec_of_wait (Eq.refl (execTripOutputTest r s)) starts
      ((adminReserved_alone adm opened alone).trans (outTest_begins owned released untested))

end Sys2Proof.Machine
end

section
/-! SUPPORT. The events of trip outputs (R275, R276, R278, R279, R280) and of the X3 inputs (R430, R431): each row where its
condition holds. -/

namespace Sys2Proof.Machine

section OutputEvents
variable {s : State} {k mV : Nat}

/-! ## Pulses (R275, R276) -/

theorem exec_powLaunch (acts : outActs s k = true) : exec (.powLaunch k) s = .next (powJudge k s) :=
  exec_of_due (Eq.refl (execPowLaunch k s)) acts

theorem exec_minPulseExpiry (energised : (outp s k).energised = true)
    (due : (outp s k).energAt + fval (outp s k).cfg oMinPulse * 1000000 ≤ s.clk) :
    exec (.minPulseExpiry k) s = .next (updOut k (fun o => { o with minDone := true }) s) :=
  exec_of_due (Eq.refl (execMinPulseExpiry k s)) (by simp [ms, energised, due])

/-- R275: MAX_PULSE is in units of 10 ms, and 0 sets no limit. -/
theorem exec_maxPulseExpiry (energised : (outp s k).energised = true) (limited : fval (outp s k).cfg oMaxPulse ≠ 0)
    (due : (outp s k).energAt + fval (outp s k).cfg oMaxPulse * 10000000 ≤ s.clk) :
    exec (.maxPulseExpiry k) s = .next (noteMod 0x0801 0 k [] (deenergise k
      (updOut k (fun o => { o with maxPulse := true, blocked := o.trip || o.powReq }) s))) :=
  exec_of_due (Eq.refl (execMaxPulseExpiry k s)) (by simp [ms, Nat.mul_assoc, energised, limited, due])

/-! ## Supervision (R278) -/

/-- The reading at ENERG_TIME after energising, on an output whose lines are driven. -/
theorem exec_energTimeExpiry (energised : (outp s k).energised = true) (high : (outp s k).triph = true)
    (low : (outp s k).tripl = true) (unseen : (outp s k).energSeen = false)
    (supervised : fon (outp s k).cfg oSupEn = true)
    (due : (outp s k).energAt + fval (outp s k).cfg oEnergTime * 100000 ≤ s.clk) :
    exec (.energTimeExpiry k mV) s = .next
      (if mV < fval (outp s k).cfg oEnergMin then
        setSupFault k (updOut k (fun o => { o with tripi := mV % 4096, energSeen := true }) s)
      else updOut k (fun o => { o with tripi := mV % 4096, energSeen := true }) s) := by
  have condition : ((outp s k).energised && (outp s k).triph && (outp s k).tripl && !(outp s k).energSeen &&
      fon (outp s k).cfg oSupEn &&
      decide ((outp s k).energAt + fval (outp s k).cfg oEnergTime * 100 * us ≤ s.clk)) = true := by
    simp [us, Nat.mul_assoc, energised, high, low, unseen, supervised, due]
  exact if_pos condition

/-- The mean of a window, inside SUP_MIN and SUP_MAX or not. -/
theorem exec_supervisionWindow {good : Bool} (supervised : fon (outp s k).cfg oSupEn = true)
    (released : (outp s k).energised = false) (untested : (outp s k).test = none)
    (judged : (decide (fval (outp s k).cfg oSupMin ≤ mV) && decide (mV ≤ fval (outp s k).cfg oSupMax)) = good) :
    exec (.supervisionWindow k mV) s = .next
      (if !good && decide (10 ≤ (outp s k).outWindows + 1) then
        setSupFault k (updOut k (fun o => { o with
          tripi := mV % 4096, inRangeNow := good, outWindows := if good then 0 else min 10 (o.outWindows + 1) }) s)
      else updOut k (fun o => { o with
        tripi := mV % 4096, inRangeNow := good, outWindows := if good then 0 else min 10 (o.outWindows + 1) }) s) := by
  subst judged
  have measured : ¬ (!fon (outp s k).cfg oSupEn || (outp s k).energised || (outp s k).test.isSome) = true := by
    simp [supervised, released, untested]
  exact if_neg measured

theorem exec_supervisionWindow_inside (supervised : fon (outp s k).cfg oSupEn = true)
    (released : (outp s k).energised = false) (untested : (outp s k).test = none)
    (least : fval (outp s k).cfg oSupMin ≤ mV) (most : mV ≤ fval (outp s k).cfg oSupMax) :
    exec (.supervisionWindow k mV) s = .next
      (updOut k (fun o => { o with tripi := mV % 4096, inRangeNow := true, outWindows := 0 }) s) :=
  exec_supervisionWindow (good := true) supervised released untested (by simp [least, most])

/-- The tenth window in a row out of range is a fault of the circuit. -/
theorem exec_supervisionWindow_outside (supervised : fon (outp s k).cfg oSupEn = true)
    (released : (outp s k).energised = false) (untested : (outp s k).test = none)
    (outside : mV < fval (outp s k).cfg oSupMin ∨ fval (outp s k).cfg oSupMax < mV)
    (tenth : 9 ≤ (outp s k).outWindows) :
    exec (.supervisionWindow k mV) s = .next (setSupFault k (updOut k (fun o => { o with
      tripi := mV % 4096, inRangeNow := false, outWindows := min 10 (o.outWindows + 1) }) s)) := by
  have judged : (decide (fval (outp s k).cfg oSupMin ≤ mV) && decide (mV ≤ fval (outp s k).cfg oSupMax)) = false := by
    rw [Bool.and_eq_false_iff, decide_eq_false_iff_not, decide_eq_false_iff_not]
    omega
  have last : (!false && decide (10 ≤ (outp s k).outWindows + 1)) = true := decide_eq_true (Nat.succ_le_succ tenth)
  exact (exec_supervisionWindow supervised released untested judged).trans (congrArg _ (if_pos last))

/-! ## Tests and breaker feedback (R279, R280) -/

theorem exec_outputTest (here : k < 8) (ready : testReady s k = true) :
    exec (.outputTest k) s = .next (startTest k s) :=
  exec_of_due (Eq.refl (execOutputTest k s)) (by simp [here, ready])

theorem exec_outputTestPhase {t : OutTest} (running : (outp s k).test = some t)
    (due : t.start + testAt t.step ≤ s.clk) : exec (.outputTestPhase k mV) s = .next (testStep k mV t s) := by
  change execOutputTestPhase k mV s = _
  simp only [execOutputTestPhase, running, if_pos due]

theorem exec_discTimeExpiry {t : Nat} (since : (outp s k).discSince = some t)
    (enabled : fon (outp s k).cfg oBkEn = true) (unmarked : (outp s k).outDisc = false)
    (due : t + fval (outp s k).cfg oDiscTime * 1000000 ≤ s.clk) :
    exec (.discTimeExpiry k) s = .next
      (noteMod 0x0804 0 k [] (updOut k (fun o => { o with outDisc := true, discEvt := true }) s)) := by
  change execDiscTimeExpiry k s = _
  simp [execDiscTimeExpiry, ms, since, enabled, unmarked, due]

end OutputEvents

/-! ## X3 inputs -/

section InputEvents
variable {s : State} {i : Nat} {b : Bool}

theorem exec_filteredInputEdge (ts : Nat) (wired : i < 20) (filtered : s.sig.x3.running = true)
    (new : bitOf s.sig.x3.state i ≠ b) : exec (.filteredInputEdge i b ts) s = .next (x3Edge i b ts s) :=
  exec_of_due (Eq.refl (execFilteredInputEdge i b ts s)) (by simp [filtered, wired, new])

/-- R431: before the filters run, the edges of a powered module are latched. -/
theorem exec_x3LatchEdge (wired : i < 20) (powered : s.pwr.good = true) (railed : s.pwr.rails ≠ 0)
    (unfiltered : s.sig.x3.running = false) (new : bitOf s.sig.x3.pins i ≠ b) :
    exec (.x3LatchEdge i b) s = .next (x3Latch i b s) :=
  exec_of_due (Eq.refl (execX3LatchEdge i b s)) (by simp [powered, railed, unfiltered, wired, new])

end InputEvents

/-- Settles O53: one row's lemma for each clause. Energising, supervision and the tests are log entry 49, launches at an angle
log entry 36, the X3 inputs log entry 68. -/
theorem outputAndInputEvents : Obligations.OutputAndInputEvents := by
  refine ⟨fun s k mV o named => ?outputs, fun s i ts b wired =>
    ⟨exec_filteredInputEdge ts wired, exec_x3LatchEdge wired⟩⟩
  case outputs =>
    subst named
    exact ⟨exec_powLaunch, exec_minPulseExpiry, exec_maxPulseExpiry,
      fun energised high low unseen supervised due enough =>
        (exec_energTimeExpiry energised high low unseen supervised due).trans (congrArg _ (if_neg (Nat.not_lt.mpr enough))),
      fun energised high low unseen supervised due weak =>
        (exec_energTimeExpiry energised high low unseen supervised due).trans (congrArg _ (if_pos weak)),
      exec_supervisionWindow_inside, exec_supervisionWindow_outside, exec_outputTest,
      fun _ => exec_outputTestPhase, fun _ => exec_discTimeExpiry⟩

end Sys2Proof.Machine
end

section
/-! SUPPORT. The commands of GOOSE publications and subscriptions (R281, R287, R298): the answer of each meaning where its
rule admits it, then its row. -/

namespace Sys2Proof.Machine

section Goose
variable {r : CmdId} {c : Cmd} {s : State}

/-! ## Publications -/

section Publications
variable {u : Pub}

theorem withPub_present {k : Pub → Ans} (present : tfind (inst s (instOf c)).pubs (localIx c) = some u) :
    withPub c s k = k u := by
  simp only [withPub, present]

theorem goosePubGet_gives (starts : Starts 0x0802 r c s)
    (present : tfind (inst s (instOf c)).pubs (localIx c) = some u) :
    GivesData (.goosePubGet r) c (u.staged.getD u.desc) (okOrStaged u.staged.isSome) s :=
  givesData_of_done (Eq.refl (execGoosePubGet r s)) starts (withPub_present present) (okOrStaged_out _)

theorem goosePubStatus_gives (starts : Starts 0x0803 r c s)
    (present : tfind (inst s (instOf c)).pubs (localIx c) = some u) :
    GivesData (.goosePubStatus r) c
      (le 4 u.sentCount.toNat ++ le 4 u.superseded.toNat ++ le 4 u.powUnlocked.toNat ++ timeBytes u.at_)
      { ok with res0 := u.stNum.toNat, res1 := some u.sqNum.toNat } s :=
  givesData_of_done (Eq.refl (execGoosePubStatus r s)) starts (withPub_present present) rfl

/-- R281: over an existing publication the live fields act at once and the rest is staged. -/
theorem pubSet_over (usable : (inst s (instOf c)).st ≠ .resetting) (sound : pubBad c.input = none)
    (present : tfind (inst s (instOf c)).pubs (localIx c) = some u) :
    pubSet c s = .done
      (putPub (instOf c) (localIx c) { u with
        desc := (writeDesc pubLive ((inst s (instOf c)).st == .running && u.live) c.input u.desc).1
        staged := (writeDesc pubLive ((inst s (instOf c)).st == .running && u.live) c.input u.desc).2 } s)
      (okOrStaged (writeDesc pubLive ((inst s (instOf c)).st == .running && u.live) c.input u.desc).2.isSome) := by
  simp only [pubSet, if_neg usable, sound, present]

theorem pubSet_new (usable : (inst s (instOf c)).st ≠ .resetting) (sound : pubBad c.input = none)
    (absent : tfind (inst s (instOf c)).pubs (localIx c) = none) (room : pubCount s < 4096) :
    pubSet c s = .done (putPub (instOf c) (localIx c) { desc := c.input, staged := some c.input } s) stagedR := by
  simp only [pubSet, if_neg usable, sound, absent, require_holds (decide_eq_true room)]

theorem pubRelease_stopped (usable : (inst s (instOf c)).st ≠ .resetting)
    (present : tfind (inst s (instOf c)).pubs (localIx c) = some u) (stopped : (inst s (instOf c)).st ≠ .running) :
    pubRelease c s =
      .done (updInst (instOf c) (fun i => { i with pubs := tdel i.pubs (localIx c) }) s) ok :=
  (if_neg usable).trans ((withPub_present present).trans (require_holds (bne_iff_ne.mpr stopped)))

end Publications

/-! ## Subscriptions -/

section Subscriptions
variable {u : Sub}

theorem withSub_present {k : Sub → Ans} (present : tfind (inst s (instOf c)).subs (localIx c) = some u) :
    withSub c s k = k u := by
  simp only [withSub, present]

theorem gooseSubGet_gives (starts : Starts 0x0806 r c s)
    (present : tfind (inst s (instOf c)).subs (localIx c) = some u) :
    GivesData (.gooseSubGet r) c (u.staged.getD u.desc) (okOrStaged u.staged.isSome) s :=
  givesData_of_done (Eq.refl (execGooseSubGet r s)) starts (withSub_present present) (okOrStaged_out _)

theorem gooseSubStatus_gives (starts : Starts 0x0807 r c s)
    (present : tfind (inst s (instOf c)).subs (localIx c) = some u) :
    GivesData (.gooseSubStatus r) c
      ([u.authFail, u.decodeErr, u.simDiscard, u.seqErr, u.missed, u.restarts, u.validChanges].flatMap fun w => le 4 w.toNat)
      { ok with res0 := subSignal u, res1 := some u.stNum.toNat } s :=
  givesData_of_done (Eq.refl (execGooseSubStatus r s)) starts (withSub_present present) rfl

/-- R287: over an existing subscription the live fields act at once and the rest is staged. -/
theorem subSet_over (usable : (inst s (instOf c)).st ≠ .resetting) (sound : subBad c.input = none)
    (present : tfind (inst s (instOf c)).subs (localIx c) = some u) :
    subSet c s = .done
      (updInst (instOf c) (fun i => { i with subs := tput i.subs (localIx c) { u with
        desc := (writeDesc subLive ((inst s (instOf c)).st == .running && u.live) c.input u.desc).1
        staged := (writeDesc subLive ((inst s (instOf c)).st == .running && u.live) c.input u.desc).2 } }) s)
      (okOrStaged (writeDesc subLive ((inst s (instOf c)).st == .running && u.live) c.input u.desc).2.isSome) := by
  simp only [subSet, if_neg usable, sound, present]

theorem subSet_new (usable : (inst s (instOf c)).st ≠ .resetting) (sound : subBad c.input = none)
    (absent : tfind (inst s (instOf c)).subs (localIx c) = none) (room : subCount s < 8192) :
    subSet c s = .done (updInst (instOf c) (fun i => { i with
      subs := tput i.subs (localIx c) { desc := c.input, staged := some c.input } }) s) stagedR := by
  simp only [subSet, if_neg usable, sound, absent, require_holds (decide_eq_true room)]

end Subscriptions

end Goose

/-- Settles O28: each row by the answer of its meaning. How a descriptor is written over another is log entry 50, the size of
a reading against its buffer log entry 17. -/
theorem gooseCommands : Obligations.GooseCommands := by
  refine ⟨fun r c s => ⟨fun _ => goosePubGet_gives, fun _ => goosePubStatus_gives, fun _ => gooseSubGet_gives,
    fun _ => gooseSubStatus_gives⟩, fun r c s n k inInst index => ?changes⟩
  case changes =>
    subst inInst index
    refine ⟨fun u starts opened alone sound present => ?pubOver,
      fun starts opened alone sound absent room => ?pubNew,
      fun u starts opened alone present stopped => ?release,
      fun u starts opened alone sound present => ?subOver,
      fun starts opened alone sound absent room => ?subNew,
      fun starts adm opened alone => ?clear⟩
    case pubOver =>
      have usable := not_resetting_of_starts starts rfl opened
      exact exec_of_done (Eq.refl (execGoosePubSet r s)) starts
        ((ownReserved_alone opened alone).trans (pubSet_over usable sound present)) (okOrStaged_out _)
    case pubNew =>
      have usable := not_resetting_of_starts starts rfl opened
      exact exec_of_done (Eq.refl (execGoosePubSet r s)) starts
        ((ownReserved_alone opened alone).trans (pubSet_new usable sound absent room)) rfl
    case release =>
      have usable := not_resetting_of_starts starts rfl opened
      exact exec_of_done (Eq.refl (execGoosePubRelease r s)) starts
        ((ownReserved_alone opened alone).trans (pubRelease_stopped usable present stopped)) rfl
    case subOver =>
      have usable := not_resetting_of_starts starts rfl opened
      exact exec_of_done (Eq.refl (execGooseSubSet r s)) starts
        ((ownReserved_alone opened alone).trans (subSet_over usable sound present)) (okOrStaged_out _)
    case subNew =>
      have usable := not_resetting_of_starts starts rfl opened
      exact exec_of_done (Eq.refl (execGooseSubSet r s)) starts
        ((ownReserved_alone opened alone).trans (subSet_new usable sound absent room)) rfl
    case clear =>
      exact exec_of_done (Eq.refl (execGooseCountersClear r s)) starts (adminReserved_alone adm opened alone) rfl

end Sys2Proof.Machine
end

section
/-! SUPPORT. The events of GOOSE (R282, R283, R288, R291, R429): each row where its condition holds. -/

namespace Sys2Proof.Machine

section GooseEvents
variable {s : State} {n p : Nat} {u : Pub}

/-! ## Messages sent -/

section Launches
variable {m : Nat} {l k : Launch}

/-- R151, R282: a conversion that is frozen without a lock is launched at once and counted. -/
theorem exec_gooseLaunch_unlocked (present : tfind (inst s n).pubs p = some u) (pending : u.pending = some (m, l))
    (acts : pubActs s n = true) (conversion : k = freezeLaunch (dom s (instDom (inst s n))) s.time.n l)
    (frozen : k.frozen = true) (unlocked : k.notLocked = true) :
    exec (.gooseLaunch n p) s = .next (pubUnlocked n p (launchPub n p u m false none s)) := by
  change execGooseLaunch n p s = _
  simp [execGooseLaunch, pubLaunch, present, pending, acts, ← conversion, frozen, unlocked]

/-- R282: a frozen launch at most 5 µs away is handed in with its launch time. -/
theorem exec_gooseLaunch_due (present : tfind (inst s n).pubs p = some u) (pending : u.pending = some (m, l))
    (acts : pubActs s n = true) (conversion : k = freezeLaunch (dom s (instDom (inst s n))) s.time.n l)
    (frozen : k.frozen = true) (locked : k.notLocked = false) (near : k.due ≤ s.time.n + 327680000) :
    exec (.gooseLaunch n p) s = .next
      (updInst n (fun i => { i with pubs := tupd i.pubs p fun u => { u with
          launchAt := s.clk + (k.due - s.time.n) / 65536 } })
        (launchPub n p u m false (if s.time.n < k.due then some k.due else none) s)) := by
  change execGooseLaunch n p s = _
  simp [execGooseLaunch, pubLaunch, us, present, pending, acts, ← conversion, frozen, locked, near]

end Launches

theorem exec_gooseRetransmit (ofInstance : n ≠ 0) (present : tfind (inst s n).pubs p = some u)
    (due : pubDue s u = true) (powered : s.pwr.pfw = .idle) :
    exec (.gooseRetransmit n p) s = .next (repeatPub n p u u.launchAt s) := by
  change execGooseRetransmit n p s = _
  simp [execGooseRetransmit, ofInstance, present, due, powered]

/-- R429: the alarm publication repeats in every service state but BOOT, and is a test message in TEST. -/
theorem exec_gooseRetransmit_alarm (present : s.trip.alarmPub = some u) (due : pubDue s u = true)
    (booted : s.svc.state ≠ .boot) (powered : s.pwr.pfw = .idle) :
    exec (.gooseRetransmit 0 p) s = .next
      (sendPub true (s.svc.state == .test) { u with sqNum := nextCount u.sqNum } u.n none
        { s with trip := { s.trip with alarmPub := some { u with
          sqNum := nextCount u.sqNum, n := u.n + 1, sentCount := u.sentCount + 1 } } }) := by
  change execGooseRetransmit 0 p s = _
  simp [execGooseRetransmit, present, due, booted, powered]

/-! ## Messages received -/

theorem exec_gooseFrameReceive {q : Copy} {t : State} (free : joining s 3 = false)
    (taken : takeFrom 49 isGoose 8 s = some (q, t)) (runs : ingestRuns t = true) :
    exec .gooseFrameReceive s = .next (gooseFrame q t) := by
  change execGooseFrameReceive s = _
  simp [execGooseFrameReceive, free, taken, runs]

theorem exec_gooseTalExpiry (alone : s.tdm.standalone = true) : exec (.gooseTalExpiry n p) s = .next (talOut n p s) :=
  exec_of_due (Eq.refl (execGooseTalExpiry n p s)) alone

end GooseEvents

/-- Settles O54: one row's lemma for each clause. Launches at an angle are log entry 36, the schedule of repetitions log entry
50, the order of a subscription's states and its lifetime log entry 52. -/
theorem gooseEvents : Obligations.GooseEvents :=
  fun _ _ _ => ⟨fun _ _ _ _ => exec_gooseLaunch_unlocked, fun _ _ _ _ => exec_gooseLaunch_due,
    fun _ => exec_gooseRetransmit, fun _ => exec_gooseRetransmit_alarm, fun _ _ => exec_gooseFrameReceive,
    exec_gooseTalExpiry⟩

end Sys2Proof.Machine
end

section
/-! SUPPORT. The fuse minimum (R471, R473): bank selection and confirmation alone move it, and only up. -/

namespace Sys2Proof.Machine

/-! ## Rows that leave it -/

theorem minSvn_of_keep {s t : State} (kept : t.keep = s.keep) : t.upd.minSvn = s.upd.minSvn :=
  congrArg (fun k => k.2.2) kept

theorem minSvn_le_of_keep {s t : State} (kept : t.keep = s.keep) : s.upd.minSvn ≤ t.upd.minSvn :=
  Nat.le_of_eq (minSvn_of_keep kept).symm

theorem minSvn_of_exec {i : Instr} {s t : State} (stands : advancesFuse i = false) (outcome : exec i s = .next t) :
    t.upd.minSvn = s.upd.minSvn := by
  have kept := exec_keep s i stands
  rw [outcome, next_keep] at kept
  exact minSvn_of_keep (Option.some.inj kept)

/-! ## Bank selection (R471) -/

theorem startBank_minSvn_le (b : Nat) (s : State) : s.upd.minSvn ≤ (startBank b s).upd.minSvn :=
  Nat.le_max_left ..

theorem bootBank_minSvn_le (b : Nat) (s : State) : s.upd.minSvn ≤ (bootBank b s).upd.minSvn := by
  simp only [bootBank]
  split
  · exact startBank_minSvn_le b s
  split
  · exact Nat.le_trans (minSvn_le_of_keep (writeRec_keep ..)) (startBank_minSvn_le ..)
  · exact minSvn_le_of_keep (bootFailed_keep s)

theorem fallBack_minSvn_le (t code : Nat) (s : State) : s.upd.minSvn ≤ (fallBack t code s).upd.minSvn :=
  Nat.le_trans (minSvn_le_of_keep ((noteMod_keep ..).trans (writeRec_keep ..))) (bootBank_minSvn_le ..)

theorem bankSelect_minSvn_le (s : State) : s.upd.minSvn ≤ (bankSelect s).upd.minSvn := by
  rw [← minSvn_of_keep ((emptyLoading_keep 1 _).trans (emptyLoading_keep 0 s))]
  simp only [bankSelect]
  split
  case h_1 trial _ =>
    split
    · split
      · exact Nat.le_trans
          (minSvn_le_of_keep ((noteMod_keep ..).trans ((convertStore_keep _).trans (writeRec_keep ..))))
          (bootBank_minSvn_le ..)
      · exact fallBack_minSvn_le ..
    · exact fallBack_minSvn_le ..
  case h_2 => exact bootBank_minSvn_le ..

theorem exec_bankSelect_minSvn_le {s t : State} (outcome : exec .bankSelect s = .next t) :
    s.upd.minSvn ≤ t.upd.minSvn := by
  change execBankSelect s = _ at outcome
  rw [execBankSelect] at outcome
  cases outcome
  split
  · exact bankSelect_minSvn_le s
  · exact Nat.le_refl _

/-! ## The confirmation of an update (R473) -/

theorem confirmTrial_minSvn_le (s : State) : s.upd.minSvn ≤ (confirmTrial s).upd.minSvn := by
  rw [confirmTrial, minSvn_of_keep (noteMod_keep ..)]
  split
  all_goals exact Nat.le_trans (minSvn_le_of_keep (writeRec_keep ..)) (Nat.le_max_left ..)

theorem exec_updateConfirm_minSvn_le {r : CmdId} {s t : State} (outcome : exec (.updateConfirm r) s = .next t) :
    s.upd.minSvn ≤ t.upd.minSvn := by
  obtain ⟨u, reached, kept⟩ := execUpdateConfirm_keep_or r s
  cases reached.symm.trans outcome
  rcases kept with left | confirmed
  · exact minSvn_le_of_keep left
  · exact Nat.le_trans (confirmTrial_minSvn_le s) (minSvn_le_of_keep confirmed)

/-! ## Every row, and every step -/

theorem exec_minSvn_le {i : Instr} {s t : State} (outcome : exec i s = .next t) : s.upd.minSvn ≤ t.upd.minSvn := by
  cases advances : advancesFuse i with
  | false => exact Nat.le_of_eq (minSvn_of_exec advances outcome).symm
  | true =>
    rcases advancesFuse_iff.mp advances with rfl | ⟨r, rfl⟩
    · exact exec_bankSelect_minSvn_le outcome
    · exact exec_updateConfirm_minSvn_le outcome

theorem step_front {i : Instr} {l : List Instr} {s : State} (front : s.pending = i :: l) :
    step s = exec i { s with pending := l } := by
  rw [step, front]

theorem step_idle {s : State} (empty : s.pending = []) : step s = .next (tick s) := by
  rw [step, empty]

theorem step_minSvn_le {s t : State} (outcome : step s = .next t) : s.upd.minSvn ≤ t.upd.minSvn := by
  cases waiting : s.pending with
  | nil =>
    cases (step_idle waiting).symm.trans outcome
    exact Nat.le_of_eq (minSvn_of_keep (tick_keep s)).symm
  | cons i l => exact exec_minSvn_le (s := { s with pending := l }) ((step_front waiting).symm.trans outcome)

/-- Settles O5: every step keeps the bound, since none lets the fuse minimum fall. -/
theorem minSvnNeverFalls : Obligations.MinSvnNeverFalls :=
  fun _ _ _ bound outcome => Nat.le_trans bound (step_minSvn_le outcome)

/-- Settles O6: every row but the two keeps the fuse minimum. -/
theorem minSvnAdvancesOnlyThere : Obligations.MinSvnAdvancesOnlyThere := by
  intro i s t outcome moved
  cases advances : advancesFuse i with
  | false => exact absurd (minSvn_of_exec advances outcome) moved
  | true => exact advancesFuse_iff.mp advances

/-- Settles O1: the form in which commands come to the block is log entry 1. -/
theorem stepTakesFront : Obligations.StepTakesFront :=
  fun _ _ _ front => step_front front

end Sys2Proof.Machine
end

section
/-! SUPPORT. The commands reserved to the ACTIVE unit of a pair (R114, R325, R326): every row by the judgements that come
before the role is asked. -/

namespace Sys2Proof.Machine

section Roles
variable {c : Cmd} {s : State} {body : Cmd → State → Ans}

theorem carried_notActive (paired : s.tdm.standalone = false) (passive : s.tdm.role ≠ .active) :
    carried c s body = .fail (denied 1) := by
  simp [carried, paired, passive]

theorem carried_inStep (paired : s.tdm.standalone = false) (active : s.tdm.role = .active)
    (joined : s.tdm.inStep = true) : carried c s body = .going (sendCarry c s) := by
  simp [carried, paired, active, joined]

end Roles

/-- Sent from the admin slice outside BOOT and HALTED, and for none that is being reset, the row `e` asks only the
unit's role before its body. -/
def CarriedRow (e : (CmdId → Instr) × Nat) : Prop :=
  ∃ k body : Cmd → State → Ans, (∀ r s, exec (e.1 r) s = feljo e.2 r k s) ∧
    ∀ c s, Admin c → Open s → (heldOp e.2 = true → (inst s (instOf c)).st ≠ .resetting) → k c s = carried c s body

theorem exec_carriedRow {e : (CmdId → Instr) × Nat} {r : CmdId} {c : Cmd} {s : State} (row : CarriedRow e)
    (starts : Starts e.2 r c s) (adm : Admin c) (opened : Open s) :
    ∃ body, exec (e.1 r) s = .next (settle c s (carried c s body)) := by
  obtain ⟨k, body, meaning, asks⟩ := row
  have free (acts : heldOp e.2 = true) := not_resetting_of_starts starts acts opened
  exact ⟨body, by rw [meaning, feljo_starts starts, asks c s adm opened free]⟩

section Shapes
variable {e : CmdId → Instr} {op : Nat} {body : Cmd → State → Ans}

theorem carriedRow_of_move (row : ∀ r s, exec (e r) s = feljo op r (fun c s => instReady s c (carried c s body)) s)
    (acts : heldOp op = true) : CarriedRow (e, op) :=
  ⟨_, body, row, fun _ _ _ opened free => instReady_free opened (free acts)⟩

theorem carriedRow_of_adminMove
    (row : ∀ r s, exec (e r) s = feljo op r (fun c s => adminOnly c (instReady s c (carried c s body))) s)
    (acts : heldOp op = true) : CarriedRow (e, op) :=
  ⟨_, body, row, fun _ _ adm opened free => (adminOnly_admin adm).trans (instReady_free opened (free acts))⟩

theorem carriedRow_of_reserved
    (row : ∀ r s, exec (e r) s = feljo op r (fun c s => notBootHalted s (carried c s body)) s) : CarriedRow (e, op) :=
  ⟨_, body, row, fun _ _ _ opened _ => notBootHalted_open opened⟩

theorem carriedRow_of_adminReserved
    (row : ∀ r s, exec (e r) s = feljo op r (fun c s => adminOnly c (notBootHalted s (carried c s body))) s) :
    CarriedRow (e, op) :=
  ⟨_, body, row, fun _ _ adm opened _ => (adminOnly_admin adm).trans (notBootHalted_open opened)⟩

end Shapes

/-- In the order of the list: the moves of instances; domains; spare loops; streams, channels and detectors; sets, programs,
forces, publications and subscriptions; counters and trip outputs. -/
theorem carriedRows_carriedRow : ∀ e ∈ carriedRows, CarriedRow e := by
  simp only [carriedRows, List.forall_mem_append, List.forall_mem_cons, List.not_mem_nil, false_implies, implies_true,
    and_true]
  and_intros
  iterate 3 exact carriedRow_of_move (fun _ _ => rfl) rfl
  iterate 5 exact carriedRow_of_adminMove (fun _ _ => rfl) rfl
  iterate 4 exact carriedRow_of_adminReserved fun _ _ => rfl
  iterate 2 exact carriedRow_of_reserved fun _ _ => rfl
  iterate 9 exact carriedRow_of_adminReserved fun _ _ => rfl
  iterate 9 exact carriedRow_of_reserved fun _ _ => rfl
  iterate 3 exact carriedRow_of_adminReserved fun _ _ => rfl

/-- Settles O10: every row of the list comes to the question of the role. That a carried command is past its commit point once
its CARRY is sent is log entry 25. -/
theorem reservedCommandsInAPair : Obligations.ReservedCommandsInAPair := by
  intro e listed r c s starts adm opened paired
  obtain ⟨body, row⟩ := exec_carriedRow (carriedRows_carriedRow e listed) starts adm opened
  refine ⟨fun passive => ?refused, fun active joined => ?carried⟩
  case refused => rw [row, carried_notActive paired passive, settle_fail]
  case carried => rw [row, carried_inStep paired active joined, settle_going]

end Sys2Proof.Machine
end

section
/-! SUPPORT. What notifications, the Chronicle and the frames that the module sends leave of the tandem state: an isolation
ends in its role and out of step, whatever alarm and publication it brings about (R314, R428, R429). -/

namespace Sys2Proof.Machine

theorem foldl_tdm {α : Type} {g : State → α → State} (l : List α) (kept : ∀ s a, (g s a).tdm = s.tdm) (s : State) :
    (l.foldl g s).tdm = s.tdm := by
  induction l generalizing s with
  | nil => rfl
  | cons a l ih => rw [List.foldl_cons, ih, kept]

theorem ite_tdm (p : Prop) [Decidable p] (s t : State) : (if p then s else t).tdm = if p then s.tdm else t.tdm := by
  split <;> rfl

/-! ## Messages and notification sources (R90, R422 to R427) -/

theorem post_tdm (o : Out) (s : State) : (post o s).tdm = s.tdm := by
  unfold post
  split
  · rfl
  · split <;> rfl

theorem updNtf_tdm (n : Nat) (f : Ntf → Ntf) (s : State) : (updNtf n f s).tdm = s.tdm := by
  unfold updNtf
  split <;> rfl

theorem ntfSend_tdm (n v : Nat) (s : State) : (ntfSend n v s).tdm = s.tdm := by
  simp only [ntfSend]
  split
  · rw [post_tdm, updNtf_tdm]
  · rw [updNtf_tdm]

theorem ntfDue_tdm (n v : Nat) (s : State) : (ntfDue n v s).tdm = s.tdm := by
  simp only [ntfDue]
  split
  · split
    · exact updNtf_tdm ..
    · exact ntfSend_tdm ..
  · exact ntfSend_tdm ..

theorem ntfJudge_tdm (before : State) (n v : Nat) (s : State) : (ntfJudge before n v s).tdm = s.tdm := by
  unfold ntfJudge
  split
  · exact ntfDue_tdm ..
  · split
    · exact ntfSend_tdm ..
    · rfl

/-- A judged change leaves of the tandem state what the change itself leaves. -/
theorem withNtf_tdm (n : Nat) (f : State → State) (s : State) : (withNtf n f s).tdm = (f s).tdm := by
  unfold withNtf
  split <;> simp only [ntfJudge_tdm]

theorem edge_tdm (n i : Nat) (s : State) : (edge n i s).tdm = s.tdm := by
  rw [edge, withNtf_tdm, updNtf_tdm]

theorem ringErr_tdm (n : Nat) (s : State) : (ringErr n s).tdm = s.tdm := by
  rw [ringErr, withNtf_tdm, updWin_tdm]

theorem atuFault_tdm (n kind addr : Nat) (write : Bool) (source cid : Nat) (s : State) :
    (atuFault n kind addr write source cid s).tdm = s.tdm := by
  simp only [atuFault, edge_tdm, updWin_tdm, withNtf_tdm]

theorem noteAs_tdm (sev code n slice obj : Nat) (data : List Nat) (s : State) :
    (noteAs sev code n slice obj data s).tdm = s.tdm := by
  simp only [noteAs]
  split
  · split
    · rfl
    · split
      · exact edge_tdm ..
      · rfl
  · split
    · exact edge_tdm ..
    · rfl

theorem noteMod_tdm (code n obj : Nat) (data : List Nat) (s : State) : (noteMod code n obj data s).tdm = s.tdm :=
  noteAs_tdm ..

/-! ## Replies -/

theorem replyTo_tdm (id : Option CmdId) (r : Reply) (s : State) : (replyTo id r s).tdm = s.tdm := by
  cases id <;> rfl

theorem finishWaits_tdm (k : WaitKind) (r : Reply) (s : State) : (finishWaits k r s).tdm = s.tdm :=
  foldl_tdm (g := fun s (w : Wait) => replyTo w.cmd r s) _ (fun s w => replyTo_tdm w.cmd r s) s

/-! ## Frames of the module's own (R281, R341) -/

theorem count_tdm (p i : Nat) (s : State) : (count p i s).tdm = s.tdm := by
  unfold count
  split <;> rfl

theorem enqueue_tdm (p n : Nat) (q : Copy) (s : State) : (enqueue p n q s).tdm = s.tdm := by
  unfold enqueue
  split
  · rfl
  · exact count_tdm ..

theorem setQueue_tdm (p c : Nat) (l : List Copy) (s : State) : (setQueue p c l s).tdm = s.tdm := rfl

theorem release_tdm (p : Nat) (q : Copy) (s : State) : (release p q s).tdm = s.tdm := rfl

theorem rxNobuf_tdm (n : Nat) (s : State) : (rxNobuf n s).tdm = s.tdm := rfl

theorem flushVport_tdm (n : Nat) (s : State) : (flushVport n s).tdm = s.tdm := by
  have left (t : State) (q : Copy) : (rxNobuf n (release (50 + n) q t)).tdm = t.tdm :=
    (rxNobuf_tdm ..).trans (release_tdm ..)
  exact foldl_tdm _ (fun t c => (foldl_tdm _ left _).trans (setQueue_tdm ..)) s

theorem popHead_tdm {p c : Nat} {s t : State} {q : Copy} (popped : popHead p c s = some (q, t)) : t.tdm = s.tdm := by
  unfold popHead at popped
  split at popped
  case h_1 =>
    obtain ⟨-, rfl⟩ := Prod.mk.inj (Option.some.inj popped)
    rfl
  case h_2 => nomatch popped

theorem dropAged_tdm (p c : Nat) (s : State) : (dropAged p c s).tdm = s.tdm := by
  simp only [dropAged]
  split
  · rfl
  · exact foldl_tdm (g := fun s q => count p (32 + c) (release p q s)) _ (fun s q => (count_tdm ..).trans (release_tdm ..)) _

theorem rxStop_tdm (n : Nat) (s : State) : (rxStop n s).tdm = s.tdm := by
  rw [rxStop, flushVport_tdm, ringErr_tdm, updWin_tdm]

theorem rxWriteBacks_tdm (n : Nat) (f : Nat → List Byte) (k i j : Nat) (s : State) :
    (rxWriteBacks n f i j k s).tdm = s.tdm := by
  induction k generalizing i j s with
  | zero => rfl
  | succ k ih => simp only [rxWriteBacks, ih, post_tdm]

theorem deliverCopy_tdm (n : Nat) (q : Copy) (bad : Bool) (s : State) : (deliverCopy n q bad s).tdm = s.tdm := by
  simp only [deliverCopy]
  split
  · rw [rxNobuf_tdm, rxStop_tdm, atuFault_tdm]
  · split
    · rw [rxNobuf_tdm, rxStop_tdm, atuFault_tdm]
    · simp only [ite_tdm, edge_tdm, updWin_tdm, rxWriteBacks_tdm, post_tdm, ite_self]

theorem deliverLoop_tdm (n fuel c : Nat) (s : State) : (deliverLoop n fuel c s).tdm = s.tdm := by
  induction fuel generalizing c s with
  | zero => rfl
  | succ fuel ih =>
    cases c with
    | zero => rfl
    | succ c =>
      simp only [deliverLoop]
      split
      · rfl
      · split
        case h_1 popped => rw [ih, deliverCopy_tdm, popHead_tdm popped, dropAged_tdm]
        case h_2 => rw [ih, dropAged_tdm]

theorem copyTo_tdm (p n : Nat) (q : Copy) (s : State) : (copyTo p n q s).tdm = s.tdm := by
  have delivered (m : Nat) (t : State) : (deliver m t).tdm = t.tdm := deliverLoop_tdm ..
  simp only [copyTo, ite_tdm, count_tdm, enqueue_tdm, delivered, rxNobuf_tdm, ite_self]

theorem copyAll_tdm (n vid pcp : Nat) (q : Copy) (l served : List Nat) (s : State) :
    (copyAll n vid pcp q l served s).tdm = s.tdm := by
  induction l generalizing served s with
  | nil => rfl
  | cons p l ih =>
    simp only [copyAll]
    split
    · exact ih ..
    · split
      · simp only [ih, copyPair, copyTo_tdm]
        rfl
      · rw [ih, copyTo_tdm]

theorem handInGoose_tdm (vid pcp cls : Nat) (f : Frame) (launch : Option Nat) (s : State) :
    (handInGoose vid pcp cls f launch s).tdm = s.tdm := by
  have captured (p : Nat) (q : Copy) (t : State) : (capture p q t).tdm = t.tdm := enqueue_tdm ..
  simp only [handInGoose, ite_tdm, copyAll_tdm, captured, ite_self]
  rfl

theorem alarmPubJudge_tdm (s : State) : (alarmPubJudge s).tdm = s.tdm := by
  simp only [alarmPubJudge]
  split
  · split
    · rfl
    · exact handInGoose_tdm ..
  · rfl

theorem setAlarm_tdm (i : Nat) (s : State) : (setAlarm i s).tdm = s.tdm := by
  rw [setAlarm, alarmPubJudge_tdm, withNtf_tdm]

/-! ## Roles (R313, R314) -/

theorem refreshOuts_tdm (s : State) : (refreshOuts s).tdm = s.tdm := by
  refine foldl_tdm _ (fun s k => ?_) s
  unfold refreshOut
  split <;> rfl

/-- A change of role names it, its cause and its instant, and leaves the rest of the tandem state. -/
theorem setRole_tdm (r : Role) (cause : Nat) (s : State) : (setRole r cause s).tdm =
    { s.tdm with role := r, roleCause := cause, roleChg := true, roleAt := fullNow (noteMod 0x0901 0 noObj [cause, s.tdm.gen] s) } := by
  simp only [setRole, ite_tdm, ite_self, setAlarm_tdm, refreshOuts_tdm, withNtf_tdm, updTdm, noteMod_tdm]

theorem updTdm_tdm (f : Tandem → Tandem) (s : State) : (updTdm f s).tdm = f s.tdm := rfl

theorem isolate_tdm (s : State) : (isolate s).tdm.role = .isolated ∧ (isolate s).tdm.inStep = false := by
  unfold isolate
  extract_lets ended left
  split
  case isTrue already => exact ⟨already, rfl⟩
  case isFalse =>
    rw [setRole_tdm]
    exact ⟨rfl, rfl⟩

end Sys2Proof.Machine
end

section
/-! SUPPORT. The commands of tandem operation (R314, R320, R329, R330): the answer of each meaning where its rule admits it,
then its row. -/

namespace Sys2Proof.Machine

section Tandem
variable {r : CmdId} {c : Cmd} {s : State}

/-! ## The readings -/

theorem tandemStatusGet_gives (adm : Admin c) (starts : Starts 0x0901 r c s) :
    GivesData (.tandemStatusGet r) c
      (le 8 s.tdm.closed ++ le 1 s.tdm.tcl ++ le 1 (tdmStatus s / 64 % 4) ++ zeros 6 ++ timeBytes s.tdm.roleAt)
      { ok with res0 := tdmStatus s, res1 := some s.tdm.gen } s :=
  givesData_of_done (Eq.refl (execTandemStatusGet r s)) starts (adminOnly_admin adm) rfl

theorem tandemPairGet_gives (adm : Admin c) (starts : Starts 0x0903 r c s) :
    GivesData (.tandemPairGet r) c (keyList tdmFields s.tdm.cfg) (okOrStaged (anyStaged s.tdm.cfg)) s :=
  givesData_of_done (Eq.refl (execTandemPairGet r s)) starts (adminOnly_admin adm) (okOrStaged_out _)

theorem tandemResyncGet_gives (adm : Admin c) (starts : Starts 0x0907 r c s) : Gives (.tandemResyncGet r) c 32 ok s :=
  gives_of_done (Eq.refl (execTandemResyncGet r s)) starts (adminOnly_admin adm) rfl
    (by simp only [List.length_append, le_length, zeros_length])

theorem tandemCountersGet_gives (adm : Admin c) (starts : Starts 0x0908 r c s) :
    GivesData (.tandemCountersGet r) c ((List.range 12).flatMap fun i => le 4 (tget 0 s.tdm.counts i).toNat) ok s := by
  rw [← List.flatMap_map (fun i => (tget 0 s.tdm.counts i).toNat) (le 4)]
  exact givesData_of_done (Eq.refl (execTandemCountersGet r s)) starts (adminOnly_admin adm) rfl

theorem refBytes_length (m : Option RefMsg) : (refBytes m).length = 80 := by
  cases m with
  | none => exact zeros_length 80
  | some m => simp only [refBytes, List.length_append, le_length, zeros_length]

theorem tandemRefereeGet_gives (adm : Admin c) (starts : Starts 0x090A r c s) : Gives (.tandemRefereeGet r) c 320 ok s :=
  gives_of_done (Eq.refl (execTandemRefereeGet r s)) starts (adminOnly_admin adm) rfl
    (by simp only [flatMap_length refBytes 80 _ fun m _ => refBytes_length m, List.length_cons, List.length_nil])

/-! ## Settings and roles -/

theorem tandemPairSet_written {g : Cfg} {stg : Bool}
    (written : writeKeys tdmFields (fun _ => .run) c.params s.tdm.cfg false = .ok (g, stg)) (sound : pairBad s c g = none) :
    tandemPairSet c s = .done (updTdm (fun t => { t with cfg := g }) s) (okOrStaged stg) := by
  simp only [tandemPairSet, written, sound]

/-- R320: the switch-over waits for the referee's answer. -/
theorem tandemSwitchover_asks (opened : Open s) (paired : s.tdm.standalone = false) (active : s.tdm.role = .active)
    (idle : waiting .switchover s = false) (free : s.tdm.switchH = none) :
    tandemSwitchover c s = .wait (addWait .switchover (some c.id) (refSend 0x000F 0 0 s)) := by
  have leads : (!s.tdm.standalone && s.tdm.role == .active) = true := by simp [paired, active]
  have settled : (!waiting .switchover s && s.tdm.switchH.isNone) = true := by simp [idle, free]
  rw [tandemSwitchover, require_holds leads, notBootHalted_open opened, require_holds settled]

theorem exec_tandemIsolate (adm : Admin c) (starts : Starts 0x0905 r c s) (paired : s.tdm.standalone = false) :
    exec (.tandemIsolate r) s = .next (reply c.id ok (isolate s)) :=
  exec_of_done (Eq.refl (execTandemIsolate r s)) starts
    ((adminOnly_admin adm).trans (require_holds (by rw [paired]; rfl))) rfl

theorem exec_tandemRejoin (adm : Admin c) (starts : Starts 0x0906 r c s) (paired : s.tdm.standalone = false)
    (isolated : s.tdm.role = .isolated) (sound : s.sig.fault = false) :
    exec (.tandemRejoin r) s = .next (reply c.id ok (toDetached 11 (updTdm (fun t => { t with
      attempts := 0, disagreements := [], phase := if t.session.isSome then 1 else 0, phaseAt := s.clk,
      startAt := s.clk }) s))) := by
  have admissible : (!s.tdm.standalone && s.tdm.role == .isolated && !s.sig.fault) = true := by
    simp [paired, isolated, sound]
  exact exec_of_done (Eq.refl (execTandemRejoin r s)) starts
    ((adminOnly_admin adm).trans (require_holds admissible)) rfl

end Tandem

/-- Settles O29: each row by the answer of its meaning, and what an isolation leaves of the tandem state. Roles and the
preconditions of the commands are log entry 57, the size of a reading against its buffer log entry 17. -/
theorem tandemCommands : Obligations.TandemCommands := by
  refine ⟨fun r c s adm => ⟨tandemStatusGet_gives adm, tandemPairGet_gives adm, tandemResyncGet_gives adm,
      tandemCountersGet_gives adm, tandemRefereeGet_gives adm⟩,
    fun r c s adm => ⟨fun g stg starts written sound => ?set, fun starts opened paired active idle free => ?switchover,
      fun starts paired => ⟨exec_tandemIsolate adm starts paired, isolate_tdm s⟩, exec_tandemRejoin adm,
      fun starts => ?clear⟩⟩
  case set =>
    exact exec_of_done (Eq.refl (execTandemPairSet r s)) starts
      ((adminOnly_admin adm).trans (tandemPairSet_written written sound)) (okOrStaged_out stg)
  case switchover =>
    exact exec_of_wait (Eq.refl (execTandemSwitchover r s)) starts
      ((adminOnly_admin adm).trans (tandemSwitchover_asks opened paired active idle free))
  case clear => exact exec_of_done (Eq.refl (execTandemCountersClear r s)) starts (adminOnly_admin adm) rfl

end Sys2Proof.Machine
end

section
/-! SUPPORT. The tandem link (R301, R302, R322): its frames, and each of its timers where it is due. -/

namespace Sys2Proof.Machine

section LinkTimers
variable {s : State}

theorem exec_linkFrameResend (n : Nat) (up : pairUp s = true) :
    exec (.linkFrameResend n) s =
      .next (linkResend (fun f => f.seq == n && decide (f.at_ + 15000 ≤ s.clk)) s) :=
  exec_of_due (Eq.refl (execLinkFrameResend n s)) up

theorem exec_linkDead (up : pairUp s = true) (silent : max s.tdm.lastA s.tdm.lastB + tdmf s dLinkDead * 1000 ≤ s.clk) :
    exec .linkDead s = .next (linkDie 5 s) :=
  exec_of_due (Eq.refl (execLinkDead s)) (by simp [up, us, silent])

theorem exec_laneDead_first (live : s.tdm.laneA = true) (silent : s.tdm.lastA + 100000 ≤ s.clk) :
    exec (.laneDead 0) s = .next (updTdm (fun t => { t with laneA := false }) s) :=
  exec_of_due (due := s.tdm.laneA && decide (s.tdm.lastA + 100000 ≤ s.clk)) (Eq.refl (execLaneDead 0 s))
    (by simp [live, silent])

theorem exec_laneDead_second (live : s.tdm.laneB = true) (silent : s.tdm.lastB + 100000 ≤ s.clk) :
    exec (.laneDead 1) s = .next (updTdm (fun t => { t with laneB := false }) s) :=
  exec_of_due (due := s.tdm.laneB && decide (s.tdm.lastB + 100000 ≤ s.clk)) (Eq.refl (execLaneDead 1 s))
    (by simp [live, silent])

/-- R301: a session that has sent nothing for 10 µs sends IDLE. -/
theorem exec_idleSend (up : pairUp s = true) (joined : s.tdm.session.isSome = true)
    (due : s.tdm.lastSent + 10000 ≤ s.clk) :
    exec .idleSend s =
      .next (linkOut false s.tdm.txSeq (.idle s.tdm.role.code s.tdm.gen s.tdm.tcl s.sig.alarm) s) :=
  exec_of_due (Eq.refl (execIdleSend s)) (by simp [up, us, joined, due])

/-- R322: without a session a HELLO is sent each millisecond. -/
theorem exec_helloSend (up : pairUp s = true) (alone : s.tdm.session = none)
    (due : s.tdm.lastHello + 1000000 ≤ s.clk) :
    exec .helloSend s = .next
      (linkOut false 0 (.hello Config.serialNo (tdmf s dPosition) (tdmf s dPairId) (tclRange s).1 (tclRange s).2 s.tdm.proposal)
        (updTdm (fun t => { t with lastHello := s.clk }) s)) :=
  exec_of_due (Eq.refl (execHelloSend s)) (by simp [up, ms, alone, due])

end LinkTimers

/-- Settles O56: a frame's row is its arrival, a timer's row the timer's lemma. The order of frames, their tags and the sessions
are log entry 53, the records that frames carry log entries 54 and 56. -/
theorem linkEvents : Obligations.LinkEvents :=
  ⟨fun _ _ _ _ _ _ _ => ⟨rfl, fun _ => rfl, fun _ _ => rfl, fun _ => rfl, fun _ _ => rfl, fun _ => rfl, rfl, fun _ _ => rfl,
      rfl, rfl, rfl, fun _ => rfl, fun _ => rfl⟩,
    fun _ n up => ⟨exec_linkFrameResend n up, exec_linkDead up, exec_laneDead_first, exec_laneDead_second,
      exec_idleSend up, exec_helloSend up⟩⟩

end Sys2Proof.Machine
end

section
/-! SUPPORT. Ballots (R304, R308) and resynchronisation (R311, R323, R324): each row where its condition holds. -/

namespace Sys2Proof.Machine

section Ballots
variable {s : State} {x : BInput} {v : InputData}

theorem exec_fwdWaitExpiry {i : InputId} (held : findInput s i = some x) (placed : x.own = some v)
    (unsettled : x.settled = none) (alone : x.peerCrc = none) (due : x.ownAt + tdmf s dFwdWait * 1000 ≤ s.clk) :
    exec (.fwdWaitExpiry i) s = .next (fwdExpired x v s) := by
  change execFwdWaitExpiry i s = _
  simp only [execFwdWaitExpiry, held, placed]
  simp [us, unsettled, alone, due]

/-- R308: the period's X3 state is kept, reported to a partner in step, and the next ballot begins. -/
theorem exec_ballotPeriodEnd (up : pairUp s = true) (due : (s.tdm.ballot + 1) * periodT ≤ s.time.n) :
    exec .ballotPeriodEnd s = .next (updTdm (fun t => { t with ballot := t.ballot + 1 })
      (if s.tdm.inStep then linkSend (.report [] (some s.sig.x3.state))
          (updTdm (fun t => { t with ownX3 := tput t.ownX3 t.ballot s.sig.x3.state }) s)
        else updTdm (fun t => { t with ownX3 := tput t.ownX3 t.ballot s.sig.x3.state }) s)) :=
  exec_of_due (Eq.refl (execBallotPeriodEnd s)) (by simp only [up, decide_eq_true due, Bool.and_self])

theorem exec_ballotDeadline (up : pairUp s = true) (settles : settler s = true)
    (due : deadlineT (s.tdm.closed + 1) ≤ s.time.n) (ended : s.tdm.closed + 1 < s.tdm.ballot) :
    exec .ballotDeadline s = .next (closeNext s) :=
  exec_of_due (Eq.refl (execBallotDeadline s))
    (by simp only [up, settles, decide_eq_true due, decide_eq_true ended, Bool.and_self])

end Ballots

section Resync
variable {s : State}

theorem exec_resyncPhaseEnd (up : pairUp s = true) (done : phaseDone s = true) :
    exec .resyncPhaseEnd s = .next (nextPhase s) :=
  exec_of_due (Eq.refl (execResyncPhaseEnd s)) (by rw [up, done]; rfl)

theorem exec_resyncFailure (up : pairUp s = true) (detached : s.tdm.role = .detached) (runs : s.tdm.phase ≠ 0)
    (late : s.tdm.phaseAt + phaseBound s s.tdm.phase < s.clk) : exec .resyncFailure s = .next (resyncFail s) :=
  exec_of_due (Eq.refl (execResyncFailure s)) (by simp [up, detached, runs, late])

/-- R324: 1 s after a first failure the resynchronisation is tried again. -/
theorem exec_resyncRetry (up : pairUp s = true) (detached : s.tdm.role = .detached) (ended : s.tdm.phase = 0)
    (first : s.tdm.attempts = 1) (joined : s.tdm.session.isSome = true) (due : s.tdm.failedAt + 1000000000 ≤ s.clk) :
    exec .resyncRetry s = .next (closeError 0x0903 noObj (updTdm (fun t => { t with
      phase := 1, phaseAt := s.clk, startAt := s.clk }) s)) :=
  exec_of_due (Eq.refl (execResyncRetry s)) (by simp [up, sec1, detached, ended, first, joined, due])

/-! ## The scrub after a disagreement (R311) -/

theorem exec_selftestScrubComplete_failed (scrubs : s.tdm.scrub = true) :
    exec (.selftestScrubComplete false) s = .next
      (moduleFault 8 (closeError 0x0902 noObj (updTdm (fun t => { t with scrub := false }) s))) := by
  change execSelftestScrubComplete false s = _
  rw [execSelftestScrubComplete, if_neg (by simp [scrubs])]
  rfl

/-- An ISOLATED unit that has had fewer than three disagreements within 1 h rejoins. -/
theorem exec_selftestScrubComplete_passed {u : State} (scrubs : s.tdm.scrub = true)
    (ended : u = closeError 0x0902 noObj (updTdm (fun t => { t with scrub := false }) s))
    (isolated : u.tdm.role = .isolated) (cause : u.tdm.roleCause = 8)
    (few : (u.tdm.disagreements.filter fun x => decide (u.clk ≤ x + 3600000000000)).length < 3) :
    exec (.selftestScrubComplete true) s = .next (toDetached 11 (updTdm (fun t => { t with
      phase := if t.session.isSome then 1 else 0, phaseAt := u.clk, startAt := u.clk }) u)) := by
  change execSelftestScrubComplete true s = _
  simp [execSelftestScrubComplete, sec1, scrubs, ← ended, isolated, cause, few]

end Resync

/-- Settles O57: one row's lemma for each clause. What is offered, settled and counted in a ballot is log entry 55, the images
of a resynchronisation log entry 56, the roles it ends in log entry 57. -/
theorem ballotAndResyncEvents : Obligations.BallotAndResyncEvents := by
  refine ⟨fun s i x v => ⟨exec_fwdWaitExpiry, fun up due alone => ?alone, fun up due joined => ?joined, exec_ballotDeadline⟩,
    fun s => ⟨exec_resyncPhaseEnd, exec_resyncFailure, exec_resyncRetry, exec_selftestScrubComplete_failed,
      fun u => exec_selftestScrubComplete_passed⟩⟩
  case alone => exact (exec_ballotPeriodEnd up due).trans (by rw [if_neg (ne_true_of_eq_false alone)])
  case joined => exact (exec_ballotPeriodEnd up due).trans (by rw [if_pos joined])

end Sys2Proof.Machine
end

section
/-! SUPPORT. The commands of the switch core (R358, R360, R365, R371, R374): the answer of each meaning where its rule admits
it, then its row. -/

namespace Sys2Proof.Machine

/-- Commands of the admin slice that BOOT refuses (R371, R394, R450, R479). -/
theorem adminServing {c : Cmd} {s : State} {k : Ans} (adm : Admin c) (booted : Booted s) :
    adminOnly c (notBoot s k) = k :=
  (adminOnly_admin adm).trans (notBoot_booted booted)

/-- Every record of a list passes its judgement. -/
theorem findIdx?_not_eq_none {α : Type} {judge : α → Bool} {l : List α} (sound : ∀ x ∈ l, judge x = true) :
    (l.map judge).findIdx? (fun x => !x) = none := by
  rw [List.findIdx?_eq_none_iff]
  simpa using sound

section SwitchMeanings
variable {c : Cmd} {s : State}

/-! ## Tables -/

theorem fdbSet_sound {t : State} (whole : c.input.length % 16 = 0) (some : 1 ≤ (recordsOf 16 c.input).length)
    (most : (recordsOf 16 c.input).length ≤ 1024) (sound : ∀ x ∈ recordsOf 16 c.input, fdbOk s x = true)
    (applied : t = updSw (fun w => { w with
      fdb := ((recordsOf 16 c.input).map (fdbRecord s.clk)).foldl fdbApply s.sw.fdb }) s)
    (room : t.sw.fdb.length ≤ 32768) (statics : staticUsed t ≤ 16384) : fdbSet c s = .done t ok := by
  subst applied
  have formed : ¬ (c.input.length % 16 ≠ 0 ∨ (recordsOf 16 c.input).length = 0 ∨ 1024 < (recordsOf 16 c.input).length) := by
    omega
  simp only [fdbSet, if_neg formed, findIdx?_not_eq_none sound]
  exact if_neg (not_or.mpr ⟨Nat.not_lt.mpr room, Nat.not_lt.mpr statics⟩)

theorem groupSet_sound {k : Nat} {vs : List Nat} (counted : k = leAt c.input 12 2) (most : k ≤ 32)
    (whole : c.input.length = 16 + 2 * k) (named : leAt c.input 0 2 ≤ 4095) (ports : leAt c.input 4 8 < 2 ^ 51)
    (listed : vs = (List.range k).map fun i => leAt c.input (16 + 2 * i) 2) (virtual : ∀ v ∈ vs, 51 ≤ v ∧ v ≤ 562) :
    groupSet c s = .done (updSw (fun w => { w with
      groups := tput w.groups (leAt c.input 0 2) { ports := leAt c.input 4 8, vports := vs } }) s) ok := by
  subst counted listed
  have least : 16 ≤ c.input.length := by omega
  have inside : (((List.range (leAt c.input 12 2)).map fun i => leAt c.input (16 + 2 * i) 2).all
      fun v => decide (51 ≤ v) && decide (v ≤ 562)) = true := by
    simpa only [List.all_eq_true, Bool.and_eq_true, decide_eq_true_eq] using virtual
  simp only [groupSet, inside, decide_eq_true least, decide_eq_true most, beq_iff_eq.mpr whole, decide_eq_true named,
    decide_eq_true ports, Bool.and_self, if_true]

theorem vlanSet_sound (whole : c.input.length % 24 = 0) (some : 1 ≤ (recordsOf 24 c.input).length)
    (sound : ∀ x ∈ recordsOf 24 c.input, vlanOk x = true) :
    vlanSet c s = .done (updSw (fun w => { w with vlans := (recordsOf 24 c.input).foldl vlanApply w.vlans }) s) ok := by
  have formed : ¬ (c.input.length % 24 ≠ 0 ∨ (recordsOf 24 c.input).length = 0) := by omega
  simp only [vlanSet, if_neg formed, findIdx?_not_eq_none sound]

/-! ## Mirror sessions and redundancy pairs -/

variable {g : Cfg} {stg : Bool}

theorem mirrorSet_sound
    (written : writeKeys mirFields (fun _ => .run) c.params (tget {} s.sw.mirrors (argD c 2 0)) false = .ok (g, stg))
    (transcript : transcriptOk s (fval g mrPort) = true ∨ (arg c 6 = none ∧ fon g mrEnable = false)) :
    mirrorSet c s = .done (updSw (fun w => { w with mirrors := tset {} w.mirrors (argD c 2 0) g }) s) ok := by
  have judged : (((arg c 6).isSome || fon g mrEnable) && !transcriptOk s (fval g mrPort)) = false := by
    rcases transcript with fits | ⟨unnamed, off⟩
    · simp [fits]
    · simp [unnamed, off]
  simp only [mirrorSet, written, judged, Bool.false_eq_true, if_false]

/-- R365: members are judged where the command names them, and all of them on an enabled pair. -/
theorem redundancySet_sound {k : Nat} (named : k = argD c 2 0)
    (written : writeKeys pairFields (fun _ => .run) c.params (rpair s k).cfg false = .ok (g, stg))
    (first : arg c 3 = none ∨ pairPortOk s k (fread g rpFirst) = true)
    (second : arg c 4 = none ∨ (pairPortOk s k (fread g rpSecond) = true ∧ fread g rpSecond ≠ fread g rpFirst))
    (enabled : fread g rpEnable ≠ 1 ∨ (pairPortOk s k (fread g rpFirst) = true ∧
      pairPortOk s k (fread g rpSecond) = true ∧ fread g rpSecond ≠ fread g rpFirst)) :
    redundancySet c s =
      .done (updSw (fun w => { w with pairs := tput w.pairs k { rpair s k with cfg := g, done := [] } }) s) stagedR := by
  subst named
  have firstJudged : ((arg c 3).isSome && !pairPortOk s (argD c 2 0) (fread g rpFirst)) = false := by
    rcases first with unnamed | fits
    · simp [unnamed]
    · simp [fits]
  have secondJudged : ((arg c 4).isSome && (!pairPortOk s (argD c 2 0) (fread g rpSecond) ||
      fread g rpSecond == fread g rpFirst)) = false := by
    rcases second with unnamed | ⟨fits, other⟩
    · simp [unnamed]
    · simp [fits, other]
  have pairJudged : ¬ (fread g rpEnable = 1 ∧ ((!pairPortOk s (argD c 2 0) (fread g rpFirst)) = true ∨
      (!pairPortOk s (argD c 2 0) (fread g rpSecond)) = true ∨ fread g rpSecond = fread g rpFirst)) := by
    rcases enabled with off | ⟨firstFits, secondFits, other⟩
    · exact fun h => off h.1
    · simp [firstFits, secondFits, other]
  simp only [redundancySet, written, firstJudged, secondJudged, Bool.false_eq_true, if_false, if_neg pairJudged]

/-! ## Settings -/

theorem switchConfigSet_sound {t : State} (written : writeKeys swFields (fun _ => .run) c.params s.sw.cfg false = .ok (g, stg))
    (applied : t = updSw (fun w => { w with cfg := g }) s) (floor : floorOk t = true) :
    switchConfigSet c s = .done t (okOrStaged stg) := by
  subst applied
  simp only [switchConfigSet, written, floor, Bool.not_true, Bool.and_false, Bool.false_eq_true, if_false]

end SwitchMeanings

/-! ## The readings -/

theorem shelfBytes_length (s : State) (p : Nat) : (shelfBytes s p).length = 100 := by
  rw [shelfBytes, List.length_append, flatMap_length _ 12 _ fun _ _ => by simp only [List.length_append, le_length],
    List.length_range, le_length]

section SwitchReadings
variable {r : CmdId} {c : Cmd} {s : State} (booted : Booted s) (adm : Admin c)
include booted adm

theorem switchFdbGet_gives (starts : Starts 0x0A0C r c s) :
    GivesData (.switchFdbGet r) c (((s.sw.fdb.drop (argD c 2 0)).take (argD c 3 1)).zipIdx.flatMap
      fun e => fdbBytes e.1 (argD c 2 0 + e.2)) ok s :=
  givesData_of_done (Eq.refl (execSwitchFdbGet r s)) starts (adminServing adm booted) rfl

theorem switchRedundancyGet_gives {k : Nat} (starts : Starts 0x0A12 r c s) (named : k = argD c 2 0) :
    GivesData (.switchRedundancyGet r) c
      (keyList pairFields (rpair s k).cfg ++ le 4 (pairSources s k) ++ le 4 (rpair s k).dup.toNat ++
        le 4 (rpair s k).outWindow.toNat ++ le 4 (rpair s k).wrongLan.toNat ++ le 4 (rpair s k).nodeFull.toNat)
      (okOrStaged (anyStaged (rpair s k).cfg)) s := by
  subst named
  exact givesData_of_done (Eq.refl (execSwitchRedundancyGet r s)) starts (adminServing adm booted) (okOrStaged_out _)

theorem switchShelfGet_gives (starts : Starts 0x0A13 r c s) : Gives (.switchShelfGet r) c 100 ok s :=
  gives_of_done (Eq.refl (execSwitchShelfGet r s)) starts (adminServing adm booted) rfl (shelfBytes_length s _)

theorem exec_switchStocktakeRun (starts : Starts 0x0A14 r c s) (idle : s.sw.stRunning = false) :
    exec (.switchStocktakeRun r) s = .next (setPhase c.id .executing
      (addWait .stocktake (some c.id) (updSw (fun w => { w with stRunning := true }) s))) :=
  exec_of_wait (Eq.refl (execSwitchStocktakeRun r s)) starts
    ((adminServing adm booted).trans (if_neg (ne_true_of_eq_false idle)))

end SwitchReadings

/-- Settles O30: each row by the answer of its meaning. What the port and pair commands stage is log entry 58, the size of a
reading against its buffer log entry 17. -/
theorem switchCommands : Obligations.SwitchCommands := by
  intro r c s booted adm
  refine ⟨fun rs t starts records whole some most sound applied room statics => ?fdbSet, switchFdbGet_gives booted adm,
    fun starts => ?flush,
    fun k vs starts counted most whole named ports listed virtual => ?groupSet,
    fun rs starts records whole some sound => ?vlanSet,
    fun g stg starts written transcript => ?mirrorSet,
    fun k g stg starts named written first second enabled => ?redundancySet,
    fun k => switchRedundancyGet_gives booted adm, switchShelfGet_gives booted adm,
    exec_switchStocktakeRun booted adm, fun g stg t starts written applied floor => ?configSet⟩
  case fdbSet =>
    subst records
    exact exec_of_done (Eq.refl (execSwitchFdbSet r s)) starts
      ((adminServing adm booted).trans (fdbSet_sound whole some most sound applied room statics)) rfl
  case flush => exact exec_of_done (Eq.refl (execSwitchFdbFlush r s)) starts (adminServing adm booted) rfl
  case groupSet =>
    exact exec_of_done (Eq.refl (execSwitchGroupSet r s)) starts
      ((adminServing adm booted).trans (groupSet_sound counted most whole named ports listed virtual)) rfl
  case vlanSet =>
    subst records
    exact exec_of_done (Eq.refl (execSwitchVlanSet r s)) starts
      ((adminServing adm booted).trans (vlanSet_sound whole some sound)) rfl
  case mirrorSet =>
    exact exec_of_done (Eq.refl (execSwitchMirrorSet r s)) starts
      ((adminServing adm booted).trans (mirrorSet_sound written transcript)) rfl
  case redundancySet =>
    exact exec_of_done (Eq.refl (execSwitchRedundancySet r s)) starts
      ((adminServing adm booted).trans (redundancySet_sound named written first second enabled)) rfl
  case configSet =>
    exact exec_of_done (Eq.refl (execSwitchConfigSet r s)) starts
      ((adminServing adm booted).trans (switchConfigSet_sound written applied floor)) (okOrStaged_out stg)

end Sys2Proof.Machine
end

section
/-! SUPPORT. The commands of ports, gates and virtual ports (R338, R344, R361, R371 to R373): the answer of each meaning where
its rule admits it, then its row. -/

namespace Sys2Proof.Machine

section PortMeanings
variable {c : Cmd} {s : State}

theorem portConfigSet_sound {g : Cfg} {t : State}
    (written : portWrite (if (port s (argD c 1 0)).held then .held else .run) c.params (port s (argD c 1 0)).cfg = .ok g)
    (lanes : portLaneOk g = true) (applied : t = updPort (argD c 1 0) (fun q => { q with cfg := g }) s)
    (floor : arg c 0x0E = none ∨ floorOk t = true) :
    portConfigSet c s = .done (portEffects (argD c 1 0) t) (okOrStaged (stagedAny c.params g)) := by
  subst applied
  have judged : ((arg c 0x0E).isSome && !floorOk (updPort (argD c 1 0) (fun q => { q with cfg := g }) s)) = false := by
    rcases floor with unnamed | kept
    · simp [unnamed]
    · simp [kept]
  simp only [portConfigSet, written, lanes, judged, Bool.not_true, Bool.false_eq_true, if_false]

theorem portHold_held (p : Nat) (s : State) : (port (portHold p s) p).held = true := by
  rw [portHold, port_updPort]

/-- R361: a list that keeps its rules waits for its first cycle start at least 1 ms away. -/
theorem portGclSet_waits {g : Gcl} (free : (port s (argD c 1 0)).gclNext = none) (sound : readGcl c.input = some g) :
    portGclSet c s = .wait (addWait (.gcl (argD c 1 0)) (some c.id) (updPort (argD c 1 0) (fun q => { q with
      gclNext := some (g, firstStart g (s.time.n + ms * 65536)) }) s)) := by
  simp only [portGclSet, free, sound, Option.isSome_none, Bool.false_eq_true, if_false]

theorem tooMany_fits {key most : Nat} (fits : (args c key).length ≤ most) : tooMany c key most = none := by
  rw [args, List.length_map] at fits
  rw [tooMany, List.drop_of_length_le fits, List.head?_nil, Option.map_none]

/-- R344, R373: lists are staged, the other keys act at once. -/
theorem portVportSet_sound {v : Vport} {g : Cfg} {stg : Bool} {t : State} (macs : (args c 2).length ≤ 4)
    (vlans : (args c 3).length ≤ 16) (named : v = vport s (argD c 1 1))
    (written : writeKeys vpFields (fun _ => .run) c.params v.cfg false = .ok (g, stg))
    (applied : t = updSw (fun w => { w with vports := tset {} w.vports (argD c 1 1) { v with
      cfg := g, macsStaged := if args c 2 = [] then v.macsStaged else some (args c 2),
      vlansStaged := if args c 3 = [] then v.vlansStaged else some (args c 3) } }) s)
    (statics : staticUsed t ≤ 16384) :
    portVportSet c s = .done t (okOrStaged (!(args c 2).isEmpty || !(args c 3).isEmpty)) := by
  subst applied named
  simp only [portVportSet, tooMany_fits macs, tooMany_fits vlans, written]
  exact if_neg (Nat.not_lt.mpr statics)

end PortMeanings

section PortReadings
variable {r : CmdId} {c : Cmd} {s : State} (booted : Booted s)
include booted

theorem portConfigGet_gives (starts : Starts 0x0A02 r c s) (adm : Admin c) :
    GivesData (.portConfigGet r) c (portKeys (port s (argD c 1 0)).cfg)
      (okOrStaged (anyStaged (port s (argD c 1 0)).cfg)) s :=
  givesData_of_done (Eq.refl (execPortConfigGet r s)) starts (adminServing adm booted) (okOrStaged_out _)

theorem portStatusGet_gives (starts : Starts 0x0A03 r c s) :
    GivesData (.portStatusGet r) c
      ((List.range 40).flatMap fun i => le 4 (tget 0 (port s (argD c 1 0)).counts i).toNat)
      { ok with res0 := portStatus s (argD c 1 0), nres := 0 } s :=
  givesData_of_done (Eq.refl (execPortStatusGet r s)) starts (notBoot_booted booted) rfl

/-- The list in effect, or the one that waits for its change. -/
theorem portGclGet_gives {g : Gcl} (starts : Starts 0x0A08 r c s) (adm : Admin c)
    (present : (if argD c 2 0 = 0 then (port s (argD c 1 0)).gcl else (port s (argD c 1 0)).gclNext.map Prod.fst) = some g) :
    GivesData (.portGclGet r) c (gclBytes g) ok s := by
  refine givesData_of_done (Eq.refl (execPortGclGet r s)) starts ((adminServing adm booted).trans ?_) rfl
  simp only [present]

theorem portVportGet_gives (starts : Starts 0x0A0A r c s) (may : Admin c ∨ argD c 1 0 = c.id.slice) :
    GivesData (.portVportGet r) c (vportKeys (vport s (argD c 1 1)))
      (okOrStaged ((vport s (argD c 1 1)).macsStaged.isSome || (vport s (argD c 1 1)).vlansStaged.isSome)) s :=
  givesData_of_done (Eq.refl (execPortVportGet r s)) starts
    ((notBoot_booted booted).trans (require_holds (by simpa [fromAdmin] using may))) (okOrStaged_out _)

end PortReadings

/-- Settles O31: each row by the answer of its meaning. What is staged and what a restart brings into effect is log entry 58,
the first start of a gate list log entry 59, the lists of a virtual port log entry 24, the size of a reading against its
buffer log entry 17. -/
theorem portCommands : Obligations.PortCommands := by
  refine ⟨fun r c s p booted named => ?readings, fun r c s p booted adm named => ?changes⟩
  case readings =>
    subst named
    exact ⟨portConfigGet_gives booted, portStatusGet_gives booted,
      fun g starts adm active present => portGclGet_gives booted starts adm (by rw [if_pos active, present]),
      fun g t starts adm next present => portGclGet_gives booted starts adm (by rw [if_neg next, present, Option.map_some]),
      portVportGet_gives booted⟩
  case changes =>
    subst named
    refine ⟨fun g t starts written lanes applied floor => ?config, fun starts => ⟨?hold, portHold_held _ s⟩,
      fun starts => ?restart, fun starts all => ?clearAll, fun starts one => ?clearOne,
      fun g starts free sound => ?gcl, fun v g stg t starts macs vlans named written applied statics => ?vport⟩
    case config =>
      exact exec_of_done (Eq.refl (execPortConfigSet r s)) starts
        ((adminServing adm booted).trans (portConfigSet_sound written lanes applied floor)) (okOrStaged_out _)
    case hold => exact exec_of_done (Eq.refl (execPortHold r s)) starts (adminServing adm booted) rfl
    case restart => exact exec_of_done (Eq.refl (execPortRestart r s)) starts (adminServing adm booted) rfl
    case clearAll =>
      exact exec_of_done (Eq.refl (execPortCountersClear r s)) starts ((adminServing adm booted).trans (if_pos all)) rfl
    case clearOne =>
      exact exec_of_done (Eq.refl (execPortCountersClear r s)) starts ((adminServing adm booted).trans (if_neg one)) rfl
    case gcl =>
      exact exec_of_wait (Eq.refl (execPortGclSet r s)) starts
        ((adminServing adm booted).trans (portGclSet_waits free sound))
    case vport =>
      exact exec_of_done (Eq.refl (execPortVportSet r s)) starts
        ((adminServing adm booted).trans (portVportSet_sound macs vlans named written applied statics)) (okOrStaged_out _)

end Sys2Proof.Machine
end

section
/-! SUPPORT. The events of a port (R336, R337, R340, R355, R357, R361, R364, R389) and of the switch core (R343, R359, R365,
R368): each row where its condition holds. -/

namespace Sys2Proof.Machine

section PortEvents
variable {p : Nat} {s : State} (wired : p < 48)
include wired

theorem isPhys_of_lt : isPhys p = true := decide_eq_true wired

/-! ## Frames -/

theorem exec_frameTransmit {c : Nat} (opened : portOpen s p = true) (ready : readyClass (ageAll p s) p 8 = some c) :
    exec (.frameTransmit p) s = .next (sendHead p c (ageAll p s)) := by
  change execFrameTransmit p s = _
  simp only [execFrameTransmit, isPhys_of_lt wired, opened, ready, Bool.and_self, if_true]

theorem exec_launchTime_sends {c : Nat} (due : launchClass s p 8 = some c) (opened : portOpen s p = true)
    (ready : (classReady s p c).isSome = true) : exec (.launchTime p) s = .next (sendHead p c s) := by
  change execLaunchTime p s = _
  simp only [execLaunchTime, isPhys_of_lt wired, due, opened, ready, Bool.and_self, if_true]

/-- R389: a head that may not start at its launch time is late and leaves at the first opportunity. -/
theorem exec_launchTime_late {c : Nat} {q : Copy} {l : List Copy} (due : launchClass s p 8 = some c)
    (blocked : portOpen s p = false ∨ classReady s p c = none) (queued : queueOf s p c = q :: l) :
    exec (.launchTime p) s = .next (updPort p (fun o => { o with launchLate := o.launchLate + 1 })
      (setQueue p c ({ q with launch := none } :: l) s)) := by
  have unsent : (portOpen s p && (classReady s p c).isSome) = false := by
    rcases blocked with closed | none
    · simp [closed]
    · simp [none]
  change execLaunchTime p s = _
  simp only [execLaunchTime, isPhys_of_lt wired, due, unsent, queued, if_true, Bool.false_eq_true, if_false]

/-! ## Link (R338, R357) -/

theorem exec_linkDown : exec (.linkDown p) s = .next (linkLost p s) :=
  exec_of_due (Eq.refl (execLinkDown p s)) (isPhys_of_lt wired)

theorem exec_linkUp {x : Nat} (forwards : s.sw.forwarding = true) (runs : (port s p).held = false)
    (sends : (port s p).txOff = false) (used : portf s p prRole ≠ 0) (down : (port s p).link = false)
    (speed : speedOk (port s p) x = true) :
    exec (.linkUp p x) s = .next (preemptJudge (updPort p (fun q => { q with
      link := true, frozen := false, speedAct := x, verify := fval q.cfg prVerifyEn, verifyAt := s.clk }) (downFlush p s))) :=
  exec_of_due (Eq.refl (execLinkUp p x s)) (by simp [isPhys_of_lt wired, forwards, runs, sends, used, down, speed])

theorem exec_linkDownFlush (frozen : (port s p).frozen = true) (down : (port s p).link = false)
    (due : (port s p).frozenAt + 10000000 ≤ s.clk) :
    exec (.linkDownFlush p) s = .next (updPort p (fun q => { q with frozen := false }) (txSettle (flushPort p s))) := by
  have flushed : downFlush p s = updPort p (fun q => { q with frozen := false }) (txSettle (flushPort p s)) :=
    if_pos (by simp [ms, frozen, down, due])
  exact flushed ▸ exec_of_due (Eq.refl (execLinkDownFlush p s)) (isPhys_of_lt wired)

/-! ## Pause and wake (R336, R337) -/

theorem exec_pauseWatchdog (paused : (port s p).paused = true) (quiet : (port s p).wdActive = false)
    (due : (port s p).pausedSince + fval (port s p).cfg prPauseWd * 1000000 ≤ s.clk) :
    exec (.pauseWatchdog p) s = .next
      (setAlarm 6 (passError 0x0A01 p (noteMod 0x0A01 0 p [] (count p 19 (updPort p (fun q => { q with
        pauseWd := true, wdActive := true, paused := false, unpausedAt := s.clk }) s))))) := by
  change execPauseWatchdog p s = _
  simp [execPauseWatchdog, pauseTrip, ms, isPhys_of_lt wired, paused, quiet, due]

theorem exec_pauseWdRelease (active : (port s p).wdActive = true) (due : (port s p).lastPause + 1000000000 ≤ s.clk) :
    exec (.pauseWdRelease p) s = .next (updPort p (fun q => { q with wdActive := false }) s) :=
  exec_of_due (Eq.refl (execPauseWdRelease p s)) (by simp [sec1, isPhys_of_lt wired, active, due])

theorem exec_pauseTimeExpiry (paused : (port s p).paused = true) (due : (port s p).pauseEnd ≤ s.clk) :
    exec (.pauseTimeExpiry p) s = .next (updPort p (fun q => { q with paused := false, unpausedAt := s.clk }) s) :=
  exec_of_due (Eq.refl (execPauseTimeExpiry p s)) (by simp [isPhys_of_lt wired, paused, due])

theorem exec_wake (forwards : s.sw.forwarding = true) (spare : portf s p prRole = 0) :
    exec (.wake p) s = .next
      (edge 0 10 (noteMod 0x0A02 0 p [] (count p 20 (updPort p (fun q => { q with wake := true }) s)))) :=
  exec_of_due (Eq.refl (execWake p s)) (by simp [isPhys_of_lt wired, forwards, spare])

/-- R364: an attempt lasts VERIFY_TIME ms. -/
theorem exec_preemptionVerify (b : Bool) (up : (port s p).link = true) (enabled : portf s p prVerifyEn = 1)
    (unverified : (port s p).verify ≠ 2) (due : (port s p).verifyAt + portf s p prVerifyTime * 1000000 ≤ s.clk) :
    exec (.preemptionVerify p b) s = .next
      (preemptJudge (updPort p (fun q => { q with verify := if b then 2 else 3, verifyAt := s.clk }) s)) :=
  exec_of_due (Eq.refl (execPreemptionVerify p b s)) (by simp [ms, isPhys_of_lt wired, up, enabled, unverified, due])

/-! ## Gates (R361, R362) -/

variable {g : Gcl} {t : Nat}

theorem exec_gateEvent_entry (loaded : (port s p).gcl = some g) (wanted : gatesWanted s p = true)
    (runs : (port s p).gatesRun = true) (ended : (port s p).gateEnd ≤ s.time.n) :
    exec (.gateEvent p) s =
      .next (runEntry p g (((port s p).entry + 1) % g.entries.length) (port s p).gateEnd s) := by
  change execGateEvent p s = _
  simp [execGateEvent, gateEvent, isPhys_of_lt wired, loaded, wanted, runs, ended]

theorem exec_gateEvent_start (loaded : (port s p).gcl = some g) (wanted : gatesWanted s p = true)
    (stopped : (port s p).gatesRun = false) (armed : (port s p).gateAt = some t) (due : t ≤ s.time.n) :
    exec (.gateEvent p) s = .next (runEntry p g 0 t s) := by
  change execGateEvent p s = _
  simp [execGateEvent, gateEvent, isPhys_of_lt wired, loaded, wanted, stopped, armed, due]

omit wired in
/-- The gates' condition reads of a port its settings alone. -/
theorem gatesWanted_updPort {f : Port → Port} (kept : ∀ q, (f q).cfg = q.cfg) :
    gatesWanted (updPort p f s) p = gatesWanted s p := by
  simp only [gatesWanted, portf, port_updPort, kept, updPort_svc]

/-- R361: a frame in transmission at the change instant is counted. -/
theorem exec_gclChange (next : (port s p).gclNext = some (g, t)) (due : t ≤ s.time.n)
    (wanted : gatesWanted (if busyTx s p then count p 17 s else s) p = true) :
    exec (.gclChange p) s = .next (finishWaits (.gcl p) ok (runEntry p g 0 t
      (updPort p (fun q => { q with gcl := some g, gclNext := none, gateAt := none })
        (if busyTx s p then count p 17 s else s)))) := by
  change execGclChange p s = _
  simp only [execGclChange, gclChange, isPhys_of_lt wired, next, if_pos due, if_true]
  refine congrArg (fun u => Host.Outcome.next (finishWaits (.gcl p) ok u)) (if_pos ?_)
  rw [gatesWanted_updPort, wanted]
  exact fun _ => rfl

end PortEvents

/-- Settles O49: one row's lemma for each clause. Gates, pause, preemption and transmission are log entry 59, frames as whole
records log entry 60, membership and learning log entry 61, launch times log entry 63. -/
theorem portEvents : Obligations.PortEvents := by
  refine ⟨fun p x b f s wired => ⟨fun receives => ?receive, fun opened _ => exec_frameTransmit wired opened,
      exec_linkDown wired, exec_linkUp wired, exec_linkDownFlush wired, exec_pauseWatchdog wired,
      exec_pauseWdRelease wired, exec_pauseTimeExpiry wired, exec_wake wired, exec_preemptionVerify wired b⟩,
    fun p c g t s wired => ⟨exec_gateEvent_entry wired, exec_gateEvent_start wired,
      fun next due free wanted => ?changeFree, fun next due busy wanted counted => ?changeBusy,
      exec_launchTime_sends wired, fun q l => exec_launchTime_late wired⟩⟩
  case receive => exact exec_of_due (Eq.refl (execPortFrameReceive p f s)) receives
  case changeFree =>
    have plain : (if busyTx s p then count p 17 s else s) = s := if_neg (ne_true_of_eq_false free)
    have changed := exec_gclChange (s := s) wired next due (by rw [plain, wanted])
    rwa [plain] at changed
  case changeBusy =>
    have overrun : (if busyTx s p then count p 17 s else s) = count p 17 s := if_pos busy
    have changed := exec_gclChange (s := s) wired next due (by rw [overrun, counted])
    rwa [overrun] at changed

/-! ## The switch core -/

section SwitchEvents
variable {s : State}

theorem exec_stocktake (due : stockDue s = true) :
    exec .stocktake s = .next (stockEnd (stockPass s).1 (stockPass s).2.1 (stockPass s).2.2) :=
  exec_of_due (Eq.refl (execStocktake s)) due

/-- R365: on an enabled pair a supervision frame is due every 2 s. -/
theorem exec_supervisionFrameSend {k : Nat} {r : RPair} (present : tfind s.sw.pairs k = some r)
    (enabled : fon r.cfg rpEnable = true) (forwards : s.sw.forwarding = true) (due : r.supAt + 2000000000 ≤ s.clk) :
    exec (.supervisionFrameSend k) s = .next (sendSupervision k r s) := by
  change execSupervisionFrameSend k s = _
  simp [execSupervisionFrameSend, sec1, present, enabled, forwards, due]

end SwitchEvents

/-- Settles O50: the two ages by their rows, which filter the entry named, the others by a row's lemma. Learning and duplicate
windows are log entry 61. -/
theorem switchEvents : Obligations.SwitchEvents :=
  fun _ _ _ => ⟨rfl, rfl, exec_stocktake, fun _ => exec_supervisionFrameSend⟩

end Sys2Proof.Machine
end

section
/-! SUPPORT. The commands of network time (R375, R385, R390, R393, R394): the answer of each meaning where its rule admits it,
then its row. -/

namespace Sys2Proof.Machine

section TimeMeanings
variable {c : Cmd} {s : State} {g : Cfg} {stg : Bool}

theorem timeConfigSet_sound (written : writeKeys timeFields (fun _ => .run) c.params s.time.cfg false = .ok (g, stg))
    (domain : timeCfgOk g = true ∨ (arg c 4 = none ∧ arg c 5 = none)) :
    timeConfigSet c s = .done (updTime (fun t => { t with cfg := g }) s) (okOrStaged stg) := by
  have judged : (!timeCfgOk g && ((arg c 4).isSome || (arg c 5).isSome)) = false := by
    rcases domain with fits | ⟨profile, number⟩
    · simp [fits]
    · simp [profile, number]
  simp only [timeConfigSet, written, judged, Bool.false_eq_true, if_false]

/-- R394: an ordinary clock has one PTP port. -/
theorem timePortSet_sound {t : State}
    (written : writeKeys timePortFields (portMode (port s (argD c 1 0))) c.params (port s (argD c 1 0)).ptp false = .ok (g, stg))
    (applied : t = updPort (argD c 1 0) (fun q => { q with ptp := g }) s)
    (ports : arg c 2 ≠ some 1 ∨ fread s.time.cfg tType ≠ 0 ∨ (ptpEnabled t).length ≤ 1) :
    timePortSet c s = .done t (okOrStaged stg) := by
  subst applied
  simp only [timePortSet, written]
  refine if_neg fun ⟨enables, ordinary, two⟩ => ?_
  rcases ports with other | other | one
  · exact other enables
  · exact other ordinary
  · exact absurd two (Nat.not_lt.mpr one)

end TimeMeanings

section TimeRows
variable {r : CmdId} {c : Cmd} {s : State} (booted : Booted s)
include booted

/-! ## The readings -/

omit booted in
theorem timeStatus_length (s : State) : (timeStatus s).length = 64 := by
  simp only [timeStatus, List.length_append, le_length, zeros_length]

theorem timeStatusGet_gives (starts : Starts 0x0B01 r c s) :
    Gives (.timeStatusGet r) c 64 { ok with res0 := ptpStatus s } s :=
  gives_of_done (Eq.refl (execTimeStatusGet r s)) starts (notBoot_booted booted) rfl (timeStatus_length s)

theorem timeConfigGet_gives (starts : Starts 0x0B04 r c s) (adm : Admin c) :
    GivesData (.timeConfigGet r) c (keyList timeFields s.time.cfg) (okOrStaged (anyStaged s.time.cfg)) s :=
  givesData_of_done (Eq.refl (execTimeConfigGet r s)) starts (adminServing adm booted) (okOrStaged_out _)

omit booted in
theorem ptpCounts_bytes (q : Port) : (ptpCounts q).flatMap (le 4) = le 4 q.pstate ++ le 4 (q.pdelay / nsU) ++
    le 4 q.tsqOvf.toNat ++ le 4 q.launchLate.toNat ++ le 4 q.foreign.toNat := by
  simp only [ptpCounts, List.flatMap_cons, List.flatMap_nil, List.append_nil, List.append_assoc]

theorem timePortGet_gives {q : Port} (starts : Starts 0x0B06 r c s) (adm : Admin c) (named : q = port s (argD c 1 0)) :
    GivesData (.timePortGet r) c
      (keyList timePortFields q.ptp ++ (le 4 q.pstate ++ le 4 (q.pdelay / nsU) ++ le 4 q.tsqOvf.toNat ++
        le 4 q.launchLate.toNat ++ le 4 q.foreign.toNat)) (okOrStaged (anyStaged q.ptp)) s := by
  subst named
  rw [← ptpCounts_bytes]
  exact givesData_of_done (Eq.refl (execTimePortGet r s)) starts (adminServing adm booted) (okOrStaged_out _)

/-! ## Restart and setting -/

theorem exec_timeRestart (starts : Starts 0x0B07 r c s) (adm : Admin c)
    (free : s.svc.state ≠ .inService ∨ anyGcl s = false) :
    exec (.timeRestart r) s = .next (reply c.id ok (timeRestart s)) := by
  have allowed : (!(s.svc.state == .inService && anyGcl s)) = true := by
    rcases free with calm | gateless
    · simp [calm]
    · simp [gateless]
  exact exec_of_done (Eq.refl (execTimeRestart r s)) starts ((adminServing adm booted).trans (require_holds allowed)) rfl

/-- R393: with a pulse as the source the second given is that of the next pulse. -/
theorem exec_timeSet (starts : Starts 0x0B08 r c s) (adm : Admin c) (pulse : s.time.source = 2)
    (free : s.time.setSec = none) :
    exec (.timeSet r) s = .next (setPhase c.id .executing (addWait .timeSet (some c.id)
      (updTime (fun t => { t with setSec := some (argD c 2 0, argD c 3 0 == 1) }) s))) := by
  have idle : s.time.setSec.isNone = true := by rw [free]; rfl
  exact exec_of_wait (Eq.refl (execTimeSet r s)) starts
    ((adminServing adm booted).trans ((require_holds (beq_iff_eq.mpr pulse)).trans (require_holds idle)))

end TimeRows

/-- Settles O32: each row by the answer of its meaning. What a restart does to the sources is log entry 65, the size of a
reading against its buffer log entry 17. -/
theorem timeCommands : Obligations.TimeCommands := by
  intro r c s booted
  refine ⟨timeStatusGet_gives booted, fun starts => ?now, fun g stg starts adm written domain => ?config,
    timeConfigGet_gives booted, fun p g stg t starts adm named written applied ports => ?port,
    fun q => timePortGet_gives booted, exec_timeRestart booted, exec_timeSet booted,
    fun starts adm all => ?clearAll, fun starts adm one => ?clearOne⟩
  case now => exact exec_of_done (Eq.refl (execTimeNowGet r s)) starts (notBoot_booted booted) rfl
  case config =>
    exact exec_of_done (Eq.refl (execTimeConfigSet r s)) starts
      ((adminServing adm booted).trans (timeConfigSet_sound written domain)) (okOrStaged_out stg)
  case port =>
    subst named
    exact exec_of_done (Eq.refl (execTimePortSet r s)) starts
      ((adminServing adm booted).trans (timePortSet_sound written applied ports)) (okOrStaged_out stg)
  case clearAll =>
    exact exec_of_done (Eq.refl (execTimeCountersClear r s)) starts ((adminServing adm booted).trans (if_pos all)) rfl
  case clearOne =>
    exact exec_of_done (Eq.refl (execTimeCountersClear r s)) starts ((adminServing adm booted).trans (if_neg one)) rfl

end Sys2Proof.Machine
end

section
/-! SUPPORT. The events of network time (R377, R381, R384 to R386): each row where its condition holds. -/

namespace Sys2Proof.Machine

section TimeEvents
variable {s : State}

theorem exec_ptpMessageHandle {q : Copy} {t : State} (taken : takeFrom 50 isPtpCopy 8 s = some (q, t)) :
    exec .ptpMessageHandle s = .next (ptpHandle q t) := by
  change execPtpMessageHandle s = _
  simp only [execPtpMessageHandle, taken]

/-- R381: a residence time held for 1 s without its Follow_Up is dropped. -/
theorem exec_residenceDiscard {p : Nat} (n : Nat) (wired : p < 48) :
    exec (.residenceDiscard p n) s = .next (updPort p (fun q => { q with
      residence := q.residence.filter fun r => !(r.seq == n && decide (r.at_ + 1000000000 ≤ s.clk)) }) s) :=
  exec_of_due (Eq.refl (execResidenceDiscard p n s)) (decide_eq_true wired)

theorem exec_sourceLoss (gone : sourceGone s = true) :
    exec .sourceLoss s = .next (if s.time.source = 1 then
      bmca (updPort s.time.slavePort (fun q => { q with announce := none, sync := none }) (loseSource s)) else loseSource s) :=
  exec_of_due (Eq.refl (execSourceLoss s)) gone

theorem exec_holdoverLimitExpiry (holds : s.time.state = .holdover)
    (due : s.time.holdAt + timef s tHoldover * 1000000000 ≤ s.clk) :
    exec .holdoverLimitExpiry s = .next (holdoverEnd s) :=
  exec_of_due (Eq.refl (execHoldoverLimitExpiry s)) (by simp [sec1, holds, due])

theorem exec_ppsInEdge (enabled : timef s tPpsInEn = 1) : exec .ppsInEdge s = .next (ppsEdge s) :=
  congrArg _ (if_pos enabled)

theorem exec_freqInPresent (enabled : timef s tFreqInEn = 1) :
    exec .freqInPresent s = .next (updTime (fun t => { t with freqOk := true }) s) :=
  congrArg _ (if_pos enabled)

/-- R386: the pulse is raised within 20 ns of its second. -/
theorem exec_ppsOutPulse (enabled : ppsOutOn s = true)
    (near : (secondOffset ((s.time.n : Int) - fvalI s.time.cfg tPpsOff * nsU)).natAbs ≤ 20 * nsU) :
    exec .ppsOutPulse s = .next (updTime (fun t => { t with ppsOut := true, ppsOutAt := s.clk }) s) :=
  exec_of_due (Eq.refl (execPpsOutPulse s)) (by simp only [enabled, near, decide_true, Bool.and_self])

end TimeEvents

/-- Settles O55: one row's lemma for each clause. Clock states and sources are log entry 65, IEEE 1588's own rules log entry
40. -/
theorem timeEvents : Obligations.TimeEvents :=
  fun _ _ n => ⟨fun _ _ => exec_ptpMessageHandle, exec_residenceDiscard n,
    fun gone other => (exec_sourceLoss gone).trans (congrArg _ (if_neg other)),
    fun gone ptp => (exec_sourceLoss gone).trans (congrArg _ (if_pos ptp)), exec_holdoverLimitExpiry, exec_ppsInEdge, rfl,
    exec_freqInPresent, exec_ppsOutPulse⟩

end Sys2Proof.Machine
end

section
/-! SUPPORT. The commands of the Archive (R397, R401, R407, R415 to R419): the answer of each meaning where its rule admits it,
then its row. -/

namespace Sys2Proof.Machine

/-! ## Who may send them, and when -/

section Judgements
variable {c : Cmd} {s : State}

theorem arcService_open {halted : Bool} {k : Ans} (opened : Open s) : arcService s halted k = k := by
  obtain ⟨booted, running⟩ : (s.svc.state == .boot) = false ∧ (s.svc.state == .halted) = false :=
    Bool.or_eq_false_iff.mp opened
  exact require_holds (by simp [bne, booted, running])

/-- R418: the admin slice, or the slice that owns what the command names. -/
theorem entitled_of {owner : Nat} (may : Admin c ∨ owner = c.id.slice) :
    (fromAdmin c || owner == c.id.slice) = true := by
  simpa [fromAdmin] using may

theorem notForeign_of {owner : Nat} (may : Admin c ∨ owner = c.id.slice) :
    (!fromAdmin c && owner != c.id.slice) = false := by
  rcases may with admin | owned
  · simp [fromAdmin, show c.id.slice = 0 from admin]
  · simp [owned]

theorem withRec_present {x : Recorder} {missing : Reply} {k : Recorder → Ans}
    (present : tfind s.arc.recs (argD c 1 0) = some x) (may : Admin c ∨ rdOwner x.desc = c.id.slice) :
    withRec c s missing k = k x := by
  simp only [withRec, present, entitled_of may, if_true]

end Judgements

/-! ## Recorders -/

section RecorderMeanings
variable {c : Cmd} {s : State} {x : Recorder}

theorem recorderSet_new (absent : tfind s.arc.recs (argD c 1 0) = none) (sound : rdBad s (argD c 1 0) c.input = none)
    (may : Admin c ∨ rdOwner c.input = c.id.slice) :
    recorderSet c s = .done (updArc (fun a => { a with recs := tput a.recs (argD c 1 0) { desc := c.input } }) s) ok := by
  simp only [recorderSet, absent, sound, notForeign_of may, Bool.not_true, Bool.false_eq_true, if_false]

variable (present : tfind s.arc.recs (argD c 1 0) = some x) (sound : rdBad s (argD c 1 0) c.input = none)
  (may : Admin c ∨ (rdOwner x.desc = c.id.slice ∧ rdOwner c.input = c.id.slice))
include present sound may

/-- Over a recorder the descriptor is judged by the recorder's state. -/
theorem recorderSet_over : recorderSet c s =
    if x.st = .held then .done (updRec (argD c 1 0) (fun x => { x with staged := some c.input }) s) stagedR
    else if rdLocked c.input ≠ rdLocked x.desc then .fail (denied 3)
    else .done (updRec (argD c 1 0) (fun _ => recWrite x c.input) s) (okOrStaged (recWrite x c.input).staged.isSome) := by
  have mine := entitled_of (may.imp_right And.left)
  have given := notForeign_of (may.imp_right And.right)
  simp only [recorderSet, present, sound, mine, given, Bool.not_true, Bool.false_eq_true, if_false]

theorem recorderSet_held (held : x.st = .held) :
    recorderSet c s = .done (updRec (argD c 1 0) (fun x => { x with staged := some c.input }) s) stagedR :=
  (recorderSet_over present sound may).trans (if_pos held)

/-- R397: of a recorder that runs the locked fields must stand. -/
theorem recorderSet_running (runs : x.st ≠ .held) (locked : rdLocked c.input = rdLocked x.desc) :
    recorderSet c s = .done (updRec (argD c 1 0) (fun _ => recWrite x c.input) s)
      (okOrStaged (recWrite x c.input).staged.isSome) :=
  (recorderSet_over present sound may).trans ((if_neg runs).trans (if_neg (not_not_intro locked)))

end RecorderMeanings

section RecorderRows
variable {r : CmdId} {c : Cmd} {s : State} {x : Recorder} (opened : Open s)
  (present : tfind s.arc.recs (argD c 1 0) = some x) (may : Admin c ∨ rdOwner x.desc = c.id.slice)
include opened present may

theorem archiveRecorderGet_gives (starts : Starts 0x0C02 r c s) :
    GivesData (.archiveRecorderGet r) c (x.staged.getD x.desc) (okOrStaged x.staged.isSome) s :=
  givesData_of_done (Eq.refl (execArchiveRecorderGet r s)) starts
    ((arcService_open opened).trans (withRec_present present may)) (okOrStaged_out _)

theorem exec_archiveRecorderArm {t : State} (starts : Starts 0x0C03 r c s) (held : x.st = .held)
    (armed : armRec (argD c 1 0) s = .ok t) : exec (.archiveRecorderArm r) s = .next (reply c.id ok t) := by
  refine exec_of_done (Eq.refl (execArchiveRecorderArm r s)) starts ((arcService_open opened).trans
    ((withRec_present present may).trans ((require_holds (beq_iff_eq.mpr held)).trans ?_))) rfl
  simp only [armed]

theorem exec_archiveRecorderHold (starts : Starts 0x0C04 r c s) :
    exec (.archiveRecorderHold r) s = .next (reply c.id ok (holdRec (argD c 1 0) s)) :=
  exec_of_done (Eq.refl (execArchiveRecorderHold r s)) starts
    ((arcService_open opened).trans (withRec_present present may)) rfl

theorem exec_archiveRecorderDelete (starts : Starts 0x0C05 r c s) (held : x.st = .held) :
    exec (.archiveRecorderDelete r) s =
      .next (reply c.id ok (updArc (fun a => { a with recs := tdel a.recs (argD c 1 0) }) s)) :=
  exec_of_done (Eq.refl (execArchiveRecorderDelete r s)) starts ((arcService_open opened).trans
    ((withRec_present present may).trans (require_holds (beq_iff_eq.mpr held)))) rfl

/-- R401: the recording that the trigger starts names its folio. -/
theorem exec_archiveTrigger {t : State} {y : Recording} (starts : Starts 0x0C06 r c s) (armed : x.st = .armed)
    (accepted : t = acceptTrig { recorder := argD c 1 0, cause := 8, t := s.time.n, notTraceable := !s.time.traceable } s)
    (recording : (tfind t.arc.recs (argD c 1 0)).bind (·.cur) = some y) :
    exec (.archiveTrigger r) s = .next (reply c.id { ok with res0 := y.folio } t) := by
  subst accepted
  refine exec_of_done (Eq.refl (execArchiveTrigger r s)) starts ((arcService_open opened).trans
    ((withRec_present present may).trans ((require_holds (beq_iff_eq.mpr armed)).trans ?_))) rfl
  simp only [recording]

end RecorderRows

/-! ## Folios and the Reading Room -/

section FolioMeanings
variable {c : Cmd} {s : State}

/-- R416: every folio of the range is closed and may be read, and none is in the Reading Room. -/
theorem folioRelease_sound {ns : List Nat} (range : ns = (List.range (argD c 3 1)).map fun i => argD c 2 0 + i)
    (sound : ∀ n ∈ ns, ∃ f, folioOk c s n = .ok f) (closed : ∀ n ∈ ns, openInRoom s n = false) :
    folioRelease c s =
      .done (updArc (fun a => { a with folios := ns.foldl (fun t n => tdel t n) a.folios }) s) ok := by
  subst range
  have readable : (((List.range (argD c 3 1)).map fun i => argD c 2 0 + i).findSome? fun n =>
      match folioOk c s n with
      | .error e => some e
      | .ok _ => none) = none := by
    refine List.findSome?_eq_none_iff.mpr fun n listed => ?_
    obtain ⟨f, readable⟩ := sound n listed
    rw [readable]
  have free : ¬ (((List.range (argD c 3 1)).map fun i => argD c 2 0 + i).any (openInRoom s)) = true := by
    simpa only [List.any_eq_true, not_exists, not_and, Bool.not_eq_true] using closed
  unfold folioRelease
  extract_lets ns bad
  have none : bad = .none := readable
  simp only [none]
  exact if_neg free

theorem roomOpen_free {f : Folio} (free : tfind s.arc.room (argD c 2 0) = none)
    (readable : folioOk c s (argD c 3 0) = .ok f) (inside : argD c 4 0 * 65536 < folioLen f) :
    roomOpen c s = .done
      (updArc (fun a => { a with room := tput a.room (argD c 2 0) { folio := argD c 3 0, off := argD c 4 0, slice := c.id.slice } }) s)
      { ok with res0 := min (folioLen f - argD c 4 0 * 65536) 0x1000000 } := by
  simp only [roomOpen, thas, free, readable, Option.isSome_none, Bool.false_eq_true, if_false,
    if_neg (Nat.not_le.mpr inside)]

end FolioMeanings

section ArchiveRows
variable {r : CmdId} {c : Cmd} {s : State} (opened : Open s)
include opened

omit opened in
theorem statusWords_length (s : State) : ([pagesFree s, foliosHeld s, arcBw s] ++ arcCounts s).length = 13 := rfl

theorem archiveStatusGet_gives (starts : Starts 0x0C07 r c s) :
    Gives (.archiveStatusGet r) c 52 { ok with res0 := arcStatus s } s :=
  gives_of_done (Eq.refl (execArchiveStatusGet r s)) starts (arcService_open opened) rfl
    (by rw [flatMap_le_length, statusWords_length])

theorem archiveFolioList_gives {l : Tab Folio} (starts : Starts 0x0C08 r c s)
    (listed : l = s.arc.folios.filter fun e => e.2.closed && decide (argD c 2 0 ≤ e.1) &&
      (c.id.slice == 0 || e.2.owner == c.id.slice)) :
    GivesData (.archiveFolioList r) c ((l.take (argD c 3 1)).flatMap fun (e : Nat × Folio) => listRec s e.1 e.2) ok s := by
  subst listed
  exact givesData_of_done (Eq.refl (execArchiveFolioList r s)) starts (arcService_open opened) rfl

theorem exec_archiveFolioKeep {f : Folio} (starts : Starts 0x0C0A r c s) (readable : folioOk c s (argD c 2 0) = .ok f) :
    exec (.archiveFolioKeep r) s =
      .next (reply c.id ok (updFolio (argD c 2 0) (fun f => { f with keep := argD c 3 0 == 1 }) s)) := by
  refine exec_of_done (Eq.refl (execArchiveFolioKeep r s)) starts ((arcService_open opened).trans ?_) rfl
  simp only [readable]

theorem exec_archiveRoomClose {w : RoomWin} (starts : Starts 0x0C0C r c s)
    (shown : tfind s.arc.room (argD c 2 0) = some w) (may : Admin c ∨ w.slice = c.id.slice) :
    exec (.archiveRoomClose r) s =
      .next (reply c.id ok (updArc (fun a => { a with room := tdel a.room (argD c 2 0) }) s)) := by
  refine exec_of_done (Eq.refl (execArchiveRoomClose r s)) starts ((arcService_open opened).trans ?_) rfl
  simp only [shown, require_holds (entitled_of may)]

theorem exec_archiveConfigSet (starts : Starts 0x0C0D r c s) (adm : Admin c) :
    exec (.archiveConfigSet r) s = .next (reply c.id ok (updArc (fun a => { a with recycle := argD c 2 0 == 1 }) s)) :=
  exec_of_done (Eq.refl (execArchiveConfigSet r s)) starts ((adminOnly_admin adm).trans (arcService_open opened)) rfl

theorem exec_archiveCountersClear (starts : Starts 0x0C0E r c s) (adm : Admin c) :
    exec (.archiveCountersClear r) s = .next (reply c.id ok (updArc (fun a => { a with counts := [] }) s)) :=
  exec_of_done (Eq.refl (execArchiveCountersClear r s)) starts ((adminOnly_admin adm).trans (arcService_open opened)) rfl

end ArchiveRows

/-- Settles O33: each row by the answer of its meaning. The states, descriptors and bounds of recorders are log entry 66,
triggers and folios log entry 67, the size of a reading against its buffer log entry 17. -/
theorem archiveCommands : Obligations.ArchiveCommands := by
  refine ⟨fun r c s n opened named => ?recorders, fun r c s opened => ?folios⟩
  case recorders =>
    subst named
    refine ⟨fun starts absent sound may => ?new, fun x starts present sound may held => ?held,
      fun x starts present sound may runs locked => ?running, fun x present may =>
      ⟨archiveRecorderGet_gives opened present may, fun t => exec_archiveRecorderArm opened present may,
        exec_archiveRecorderHold opened present may, exec_archiveRecorderDelete opened present may,
        fun t y => exec_archiveTrigger opened present may⟩⟩
    case new =>
      exact exec_of_done (Eq.refl (execArchiveRecorderSet r s)) starts
        ((arcService_open opened).trans (recorderSet_new absent sound may)) rfl
    case held =>
      exact exec_of_done (Eq.refl (execArchiveRecorderSet r s)) starts
        ((arcService_open opened).trans (recorderSet_held present sound may held)) rfl
    case running =>
      exact exec_of_done (Eq.refl (execArchiveRecorderSet r s)) starts
        ((arcService_open opened).trans (recorderSet_running present sound may runs locked)) (okOrStaged_out _)
  case folios =>
    refine ⟨archiveStatusGet_gives opened, fun l => archiveFolioList_gives opened,
      fun ns starts range sound closed => ?release, fun f => exec_archiveFolioKeep opened,
      fun f starts free readable inside => ?room, fun w => exec_archiveRoomClose opened, exec_archiveConfigSet opened,
      exec_archiveCountersClear opened⟩
    case release =>
      exact exec_of_done (Eq.refl (execArchiveFolioRelease r s)) starts
        ((arcService_open opened).trans (folioRelease_sound range sound closed)) rfl
    case room =>
      exact exec_of_done (Eq.refl (execArchiveRoomOpen r s)) starts
        ((arcService_open opened).trans (roomOpen_free free readable inside)) rfl

end Sys2Proof.Machine
end

section
/-! SUPPORT. The events of the Archive (R396, R401, R403, R411): each row where its condition holds. -/

namespace Sys2Proof.Machine

section ArchiveEvents
variable {s : State} {r n : Nat}

theorem exec_archiveRow {c : Recorder} {x : Nat × Nat × Word × List Byte × List Val}
    (present : tfind s.arc.recs r = some c) (runs : recRuns c = true)
    (final : (if rdKind c.desc = 0 then rawRow s c else gridRow s c) = some x) :
    exec (.archiveRow r) s = .next (writeRow r c x s) := by
  change execArchiveRow r s = _
  simp only [execArchiveRow, archiveRow, present, runs, final, Bool.not_true, Bool.false_eq_true, if_false]

theorem exec_triggerAccept {t : Trig} {l : List Trig} (picked : execTriggerAccept.pickTrig s s.arc.trigs = some (t, l)) :
    exec .triggerAccept s = .next (acceptTrig t (updArc (fun a => { a with trigs := l }) s)) := by
  change execTriggerAccept s = _
  simp only [execTriggerAccept, picked]

/-- R403: AUTO_TIMEOUT is in ms. -/
theorem exec_autoTimeout {c : Recorder} {t : State} (present : tfind s.arc.recs r = some c) (armed : c.st = .armed)
    (automatic : rdFlag c.desc 2 = true) (due : c.quietFrom + rdAuto c.desc * 1000000 ≤ s.clk)
    (counted : t = arcCount 8 (updRec r (fun c => { c with quietFrom := s.clk }) s)) :
    exec (.autoTimeout r) s = .next
      (acceptTrig { recorder := r, cause := 11, t := t.time.n, notTraceable := !t.time.traceable } t) := by
  subst counted
  change execAutoTimeout r s = _
  simp [execAutoTimeout, autoTrigger, ms, present, armed, automatic, due]

/-! A full folio is closed (R411), and with the last of its recording the recording ends. -/

section FolioClose
variable {f : Folio} (present : tfind s.arc.folios n = some f) (full : f.full = true) (opened : f.closed = false)
include present full opened

theorem exec_folioClose_goesOn (goesOn : folioEnds (closeFolio n s) n = none) :
    exec (.folioClose n) s = .next (closeFolio n s) := by
  change execFolioClose n s = _
  simp only [execFolioClose, present, full, opened, goesOn, Bool.not_false, Bool.and_self, if_true]

theorem exec_folioClose_ends {k : Nat} (ends : folioEnds (closeFolio n s) n = some k) :
    exec (.folioClose n) s = .next (endRecording k (closeFolio n s)) := by
  change execFolioClose n s = _
  simp only [execFolioClose, present, full, opened, ends, Bool.not_false, Bool.and_self, if_true]

end FolioClose

end ArchiveEvents

/-- Settles O59: one row's lemma for each clause. When a trigger can be judged and when a folio closes are log entry 67, the
states of recorders log entry 66. -/
theorem archiveEvents : Obligations.ArchiveEvents :=
  fun _ _ _ => ⟨fun _ _ => exec_archiveRow, fun _ _ => exec_triggerAccept, fun _ _ => exec_autoTimeout,
    fun _ => exec_folioClose_goesOn,
    fun _ _ present full opened => exec_folioClose_ends present full opened⟩

end Sys2Proof.Machine
end

section
/-! SUPPORT. The commands of firmware update (R459, R469, R472, R473, R479): what a chunk, an image and a trial answer where
their rules let them pass, then the rows. -/

namespace Sys2Proof.Machine

/-! ## Sessions (R459) -/

/-- A chunk that repeats the last one or continues the deposit puts the session it leaves. -/
theorem chunkAns_taken {c : Cmd} {s : State} {x y : Session} {put : Session → State → State} (given : c.input ≠ [])
    (taken : (takeChunk x (argD c 2 0) c.input s.clk = .repeated ∧ y = { x with at_ := s.clk }) ∨
      takeChunk x (argD c 2 0) c.input s.clk = .accepted y) :
    chunkAns c (some x) put s = .done (put y s) ok := by
  have nonempty : c.input.isEmpty = false := by simpa using given
  rcases taken with ⟨repeated, rfl⟩ | accepted
  · simp only [chunkAns, nonempty, repeated, Bool.false_eq_true, if_false]
  · simp only [chunkAns, nonempty, accepted, Bool.false_eq_true, if_false]

/-! ## Meanings -/

section UpdateMeanings
variable {c : Cmd} {s : State}

/-- R470: a record is written while no power failure is announced. -/
theorem recordFree_idle {k : Ans} (idle : s.pwr.pfw = .idle) : recordFree s k = k :=
  require_holds (beq_iff_eq.mpr idle)

theorem updateBegin_free (untried : s.upd.boot.trialState = 0) (free : s.upd.session = none) :
    updateBegin c s = .done (updUpd (fun u => { u with
      session := some { total := argD c 2 320, at_ := s.clk } }) (setOther .loading {} s)) ok :=
  (require_holds (beq_iff_eq.mpr untried)).trans (require_holds (by rw [free]; rfl))

section Ending
variable {x : Session} (held : s.upd.session = some x) (full : sessionFull x = true)
include held full

theorem updateEnd_loaded {k : Bank} (whole : imageOk x.got = true) (image : k = bankFrom x.got) :
    updateEnd s = .done (noteMod 0x0F01 0 (otherBank s) [k.version, k.svn]
      (updUpd (fun u => { u with session := none }) (setOther .loaded k s))) ok := by
  subst image
  simp only [updateEnd, held, full, whole, Bool.not_true, Bool.false_eq_true, if_false, if_true]

theorem updateEnd_untrusted (broken : imageOk x.got = false) : updateEnd s = .done (dropImage s) untrusted := by
  simp only [updateEnd, held, full, broken, Bool.not_true, Bool.false_eq_true, if_false]

end Ending

/-- R472: the restart that the command may ask for is judged first. -/
theorem updateActivate_sound {b : Nat} (restart : argD c 2 0 ≠ 1 ∨ restartOk s = true)
    (sound : activateBad s (argD c 3 0 == 1) = none) (other : b = otherBank s) :
    updateActivate c s = .done (noteMod 0x0F03 0 b [] (writeRec { s.upd.boot with
      trial := some b, trialState := 1, window := s.upd.window, areaT := 1 - s.upd.boot.areaP,
      fmtT := (bankOf s b).storeFmt } s)) { ok with reset := argD c 2 0 == 1 } := by
  subst other
  have judged : (!(argD c 2 0 == 1) || restartOk s) = true := by simpa using restart
  simp only [updateActivate, require_holds judged, sound]

/-- R473: a running trial is confirmed where no module fault stands and the state is not HALTED. -/
theorem confirmBad_eq_none (runs : trialRuns s = true) (sound : s.sig.fault = false) (running : s.svc.state ≠ .halted) :
    confirmBad s = none := by
  simp [confirmBad, runs, sound, running]

end UpdateMeanings

/-! ## Rows -/

section UpdateRows
variable {r : CmdId} {c : Cmd} {s : State} (booted : Booted s) (adm : Admin c)
include booted adm

/-- What every firmware row that writes the boot record judges before its meaning. -/
theorem adminServing_idle {k : Ans} (idle : s.pwr.pfw = .idle) : adminOnly c (notBoot s (recordFree s k)) = k :=
  (adminServing adm booted).trans (recordFree_idle idle)

theorem updateStatusGet_gives (starts : Starts 0x0F01 r c s) :
    Gives (.updateStatusGet r) c 32 { ok with res0 := updStatus s } s :=
  gives_of_done (Eq.refl (execUpdateStatusGet r s)) starts (adminServing adm booted) rfl
    (by simp only [bankBytes, List.length_append, le_length, zeros_length])

theorem exec_updateDepositBegin (starts : Starts 0x0F02 r c s) (idle : s.pwr.pfw = .idle)
    (untried : s.upd.boot.trialState = 0) (free : s.upd.session = none) :
    exec (.updateDepositBegin r) s = .next (reply c.id ok (updUpd (fun u => { u with
      session := some { total := argD c 2 320, at_ := s.clk } }) (setOther .loading {} s))) :=
  exec_of_done (Eq.refl (execUpdateDepositBegin r s)) starts
    ((adminServing_idle booted adm idle).trans (updateBegin_free untried free)) rfl

theorem exec_updateDepositChunk {x y : Session} (starts : Starts 0x0F03 r c s) (held : s.upd.session = some x)
    (given : c.input ≠ [])
    (taken : (takeChunk x (argD c 2 0) c.input s.clk = .repeated ∧ y = { x with at_ := s.clk }) ∨
      takeChunk x (argD c 2 0) c.input s.clk = .accepted y) :
    exec (.updateDepositChunk r) s = .next (reply c.id ok (updUpd (fun u => { u with session := some y }) s)) :=
  exec_of_done (Eq.refl (execUpdateDepositChunk r s)) starts
    ((adminServing adm booted).trans (by rw [held, chunkAns_taken given taken])) rfl

theorem exec_updateDepositAbort {x : Session} (starts : Starts 0x0F05 r c s) (idle : s.pwr.pfw = .idle)
    (held : s.upd.session = some x) : exec (.updateDepositAbort r) s = .next (reply c.id ok (dropImage s)) :=
  exec_of_done (Eq.refl (execUpdateDepositAbort r s)) starts
    ((adminServing_idle booted adm idle).trans (require_holds (by rw [held]; rfl))) rfl

theorem exec_updateConfirm (starts : Starts 0x0F07 r c s) (idle : s.pwr.pfw = .idle) (runs : trialRuns s = true)
    (sound : s.sig.fault = false) (running : s.svc.state ≠ .halted) :
    exec (.updateConfirm r) s = .next (reply c.id ok (confirmTrial s)) := by
  refine exec_of_done (Eq.refl (execUpdateConfirm r s)) starts ((adminServing_idle booted adm idle).trans ?_) rfl
  simp only [confirmBad_eq_none runs sound running]

theorem exec_updateCancel (starts : Starts 0x0F08 r c s) (idle : s.pwr.pfw = .idle) (armed : s.upd.boot.trialState = 1) :
    exec (.updateCancel r) s = .next (reply c.id ok (noteMod 0x0F09 0 (otherBank s) []
      (writeRec { s.upd.boot with trial := none, trialState := 0 } s))) :=
  exec_of_done (Eq.refl (execUpdateCancel r s)) starts
    ((adminServing_idle booted adm idle).trans (require_holds (beq_iff_eq.mpr armed))) rfl

theorem exec_updateWindowSet (starts : Starts 0x0F09 r c s) :
    exec (.updateWindowSet r) s = .next (reply c.id ok (updUpd (fun u => { u with window := argD c 2 10 }) s)) :=
  exec_of_done (Eq.refl (execUpdateWindowSet r s)) starts (adminServing adm booted) rfl

end UpdateRows

/-- Settles O35: each row by the answer of its meaning. What `imageOk` reads of an image is log entry 73, the size of a
reading against its buffer log entry 17. -/
theorem updateCommands : Obligations.UpdateCommands := by
  intro r c s booted adm
  refine ⟨updateStatusGet_gives booted adm, exec_updateDepositBegin booted adm,
    fun x y => exec_updateDepositChunk booted adm, fun x k starts idle held full whole image => ?loaded,
    fun x starts idle held full broken => ?untrusted, fun x => exec_updateDepositAbort booted adm,
    fun b starts idle restart sound other => ?activate, exec_updateConfirm booted adm, exec_updateCancel booted adm,
    exec_updateWindowSet booted adm⟩
  case loaded =>
    exact exec_of_done (Eq.refl (execUpdateDepositEnd r s)) starts
      ((adminServing_idle booted adm idle).trans (updateEnd_loaded held full whole image)) rfl
  case untrusted =>
    exact exec_of_done (Eq.refl (execUpdateDepositEnd r s)) starts
      ((adminServing_idle booted adm idle).trans (updateEnd_untrusted held full broken)) rfl
  case activate =>
    exact exec_of_done (Eq.refl (execUpdateActivate r s)) starts
      ((adminServing_idle booted adm idle).trans (updateActivate_sound restart sound other)) rfl

end Sys2Proof.Machine
end

section
/-! SUPPORT. The commands of keys, attestation and enrolment (R457 to R459, R462, R463, R465, R466, R478): the answer of each
meaning where its rule admits it, then its row. -/

namespace Sys2Proof.Machine

/-! ## Meanings -/

section KeyMeanings
variable {c : Cmd} {s : State}

theorem keySign_held {k : SignKey} (nonce : 48 ≤ c.input.length) (held : tfind s.keys.store.sign (argD c 2 0) = some k) :
    keySign c s = .done s (withOut (padTo 96 (Config.sign k.priv (c.input.take 48))) ok) := by
  simp only [keySign, require_holds (decide_eq_true nonce), held]

/-- R466: KIND and SLOT are judged, then the nonce, then the subject. -/
theorem keyAttest_sound {x : Nat × Nat × Nat × List Byte} {k : Nat} (kind : argD c 2 0 ≤ 2)
    (slot : k = if argD c 2 0 = 0 then 0 else argD c 3 0) (inside : k ≤ if argD c 2 0 = 1 then 1023 else 15)
    (nonce : 48 ≤ c.input.length) (subject : subjectOf s (argD c 2 0) k = some x) :
    keyAttest c s = .done s (withOut (statement s (argD c 2 0) k (c.input.take 48) x) ok) := by
  subst slot
  simp only [keyAttest, if_neg (Nat.not_lt.mpr kind), if_neg (Nat.not_lt.mpr inside),
    require_holds (decide_eq_true nonce), subject]

theorem ownerEnrol_first (commissioning : s.svc.state = .commissioning) (unowned : s.keys.store.owner = none)
    (given : 224 ≤ c.input.length) :
    ownerEnrol c s = .done (noteMod 0x0E01 0 noObj [] (updStore (fun k => { k with
      owner := some { issuer0 := sliceOf c.input 0 96, issuer1 := sliceOf c.input 96 96, otk := sliceOf c.input 192 32 } }) s))
      ok :=
  (require_holds (beq_iff_eq.mpr commissioning)).trans
    ((require_holds (by rw [unowned]; rfl)).trans (require_holds (decide_eq_true given)))

/-- R462: a deposit that passes the six steps is applied. -/
theorem depositEnd_sound {x : Session} {b : List Byte} (held : s.keys.session = some x) (full : sessionFull x = true)
    (formed : depositBad x.got = none) (mode : dpFormat x.got = 1 ∨ s.keys.mode ≠ 0)
    (signed : openDeposit s x.got = some b) (bound : bindingOk x.got = true)
    (fresh : s.keys.store.counter < dpCounter x.got) (records : recordsBad (dpNrec x.got) b = none) :
    depositEnd s = .done (applyDeposit x.got b s) { ok with res1 := some (dpNrec x.got) } := by
  have admitted : ¬ (dpFormat x.got = 2 ∧ s.keys.mode = 0) := by
    rintro ⟨compat, off⟩
    rcases mode with owned | on
    · simp [compat] at owned
    · exact on off
  simp only [depositEnd, held, full, formed, if_neg admitted, signed, bound, if_neg (Nat.not_le.mpr fresh), records,
    Bool.not_true, Bool.false_eq_true, if_false]

theorem keyPromote_next {k : Key} (next : (tget {} s.keys.slots (argD c 2 0)).nxt = some k) :
    keyPromote c s = .done (promoteKey (argD c 2 0) s) ok :=
  require_holds (by rw [next]; rfl)

end KeyMeanings

/-! ## Rows -/

section KeyRows
variable {r : CmdId} {c : Cmd} {s : State}

theorem keyIdentityGet_gives (starts : Starts 0x0E01 r c s) : GivesData (.keyIdentityGet r) c
    (padTo 96 Config.identityPub ++ le 4 Config.deviceCert.length ++ Config.deviceCert ++ aliasCert s) ok s :=
  givesData_of_done (Eq.refl (execKeyIdentityGet r s)) starts rfl rfl

theorem keyAttest_gives {x : Nat × Nat × Nat × List Byte} {k : Nat} (starts : Starts 0x0E0B r c s) (kind : argD c 2 0 ≤ 2)
    (slot : k = if argD c 2 0 = 0 then 0 else argD c 3 0) (inside : k ≤ if argD c 2 0 = 1 then 1023 else 15)
    (nonce : 48 ≤ c.input.length) (subject : subjectOf s (argD c 2 0) k = some x) :
    GivesData (.keyAttest r) c (statement s (argD c 2 0) k (c.input.take 48) x) ok s :=
  givesData_of_done (Eq.refl (execKeyAttest r s)) starts (keyAttest_sound kind slot inside nonce subject) rfl

variable (adm : Admin c)
include adm

theorem keySlotGet_gives (starts : Starts 0x0E07 r c s) : GivesData (.keySlotGet r) c
    (keyBytes s (tget {} s.keys.slots (argD c 2 0)).cur true ++ keyBytes s (tget {} s.keys.slots (argD c 2 0)).nxt false)
    ok s :=
  givesData_of_done (Eq.refl (execKeySlotGet r s)) starts (adminOnly_admin adm) rfl

/-- R465: the public key is the answer's data, and the pair is in the store. -/
theorem exec_keyGenerate {p : List Byte} {q : List Byte} (starts : Starts 0x0E09 r c s) (room : Takes c s 96)
    (drawn : p = Config.random s.fresh) (pub : q = padTo 96 (Config.publicOf p)) :
    exec (.keyGenerate r) s = .next (sentFrom c q ok s (noteMod 0x0E09 0 (argD c 2 0) []
      (updStore (fun k => { k with sign := tput k.sign (argD c 2 0) { priv := p, pub := q } })
        { s with fresh := s.fresh + 1 }))) := by
  subst pub drawn
  exact exec_of_data (Eq.refl (execKeyGenerate r s)) starts (adminOnly_admin adm) (by rwa [padTo_length])
    (List.ne_nil_of_length_pos (by rw [padTo_length]; decide))

theorem keySign_gives {k : SignKey} (starts : Starts 0x0E0A r c s) (nonce : 48 ≤ c.input.length)
    (held : tfind s.keys.store.sign (argD c 2 0) = some k) :
    GivesData (.keySign r) c (padTo 96 (Config.sign k.priv (c.input.take 48))) ok s :=
  givesData_of_done (Eq.refl (execKeySign r s)) starts ((adminOnly_admin adm).trans (keySign_held nonce held)) rfl

theorem exec_keyDepositBegin (starts : Starts 0x0E03 r c s) (booted : Booted s) (free : s.keys.session = none) :
    exec (.keyDepositBegin r) s = .next (reply c.id ok
      (updKeys (fun k => { k with session := some { total := argD c 2 240, at_ := s.clk } }) s)) :=
  exec_of_done (Eq.refl (execKeyDepositBegin r s)) starts
    ((adminServing adm booted).trans (require_holds (by rw [free]; rfl))) rfl

theorem exec_keyDepositChunk {x y : Session} (starts : Starts 0x0E04 r c s) (booted : Booted s)
    (held : s.keys.session = some x) (given : c.input ≠ [])
    (taken : (takeChunk x (argD c 2 0) c.input s.clk = .repeated ∧ y = { x with at_ := s.clk }) ∨
      takeChunk x (argD c 2 0) c.input s.clk = .accepted y) :
    exec (.keyDepositChunk r) s = .next (reply c.id ok (updKeys (fun k => { k with session := some y }) s)) :=
  exec_of_done (Eq.refl (execKeyDepositChunk r s)) starts
    ((adminServing adm booted).trans (by rw [held, chunkAns_taken given taken])) rfl

theorem exec_keyDepositAbort {x : Session} (starts : Starts 0x0E06 r c s) (booted : Booted s)
    (held : s.keys.session = some x) :
    exec (.keyDepositAbort r) s = .next (reply c.id ok (updKeys (fun k => { k with session := none }) s)) :=
  exec_of_done (Eq.refl (execKeyDepositAbort r s)) starts
    ((adminServing adm booted).trans (require_holds (by rw [held]; rfl))) rfl

theorem exec_keySlotPromote {k : Key} (starts : Starts 0x0E08 r c s) (alone : Alone s)
    (next : (tget {} s.keys.slots (argD c 2 0)).nxt = some k) :
    exec (.keySlotPromote r) s = .next (reply c.id ok (promoteKey (argD c 2 0) s)) :=
  exec_of_done (Eq.refl (execKeySlotPromote r s)) starts
    ((adminOnly_admin adm).trans ((carried_alone alone).trans (keyPromote_next next))) rfl

/-- R463: the mode takes effect at the next soft reset or cold start. -/
theorem exec_keyModeSet (starts : Starts 0x0E0C r c s) (commissioning : s.svc.state = .commissioning) :
    exec (.keyModeSet r) s = .next (reply c.id stagedR
      (noteMod 0x0E07 0 noObj [] (updKeys (fun k => { k with modeStaged := some (argD c 2 0) }) s))) :=
  exec_of_done (Eq.refl (execKeyModeSet r s)) starts
    ((adminOnly_admin adm).trans (require_holds (beq_iff_eq.mpr commissioning))) rfl

end KeyRows

/-- Settles O36: each row by the answer of its meaning. The value drawn for a new key is log entry 8, what a statement and a
deposit say log entries 71 and 72, the size of a reading against its buffer log entry 17. -/
theorem keyCommands : Obligations.KeyCommands := by
  refine ⟨fun r c s i operand => ?readings, fun r c s i adm operand => ?changes⟩
  case readings =>
    subst operand
    exact ⟨keyIdentityGet_gives, fun starts adm => keySlotGet_gives adm starts,
      fun p q starts adm => exec_keyGenerate adm starts, fun k starts adm => keySign_gives adm starts,
      fun x k => keyAttest_gives⟩
  case changes =>
    subst operand
    refine ⟨fun starts commissioning unowned given => ?enrol, exec_keyDepositBegin adm,
      fun x y => exec_keyDepositChunk adm,
      fun x d b starts booted held deposit full formed mode signed bound fresh records => ?apply,
      fun x => exec_keyDepositAbort adm, fun k => exec_keySlotPromote adm, exec_keyModeSet adm⟩
    case enrol =>
      exact exec_of_done (Eq.refl (execKeyOwnerEnrol r s)) starts
        ((adminOnly_admin adm).trans (ownerEnrol_first commissioning unowned given)) rfl
    case apply =>
      subst deposit
      exact exec_of_done (Eq.refl (execKeyDepositEnd r s)) starts ((adminServing adm booted).trans
        (depositEnd_sound held full formed mode signed bound fresh records)) rfl

end Sys2Proof.Machine
end

section
/-! SUPPORT. The commands of the Chronicle, of notifications and alarms (R424, R428 to R430, R441 to R443, R450): the answer of
each meaning where its rule admits it, then its row. -/

namespace Sys2Proof.Machine

/-! ## Meanings -/

section SignallingMeanings
variable {c : Cmd} {s : State}

/-- R441: as many whole entries as asked and as fit. -/
theorem chronicleRead_fits {es : List (Entry × Nat)} (asked : es = (chrFrom s.chr c.id.slice (argD c 2 0)).take (argD c 3 1))
    (fits : es = [] ∨ 64 ≤ c.bufLen) :
    chronicleRead c s = .done s (withOut ((es.take (c.bufLen / 64)).flatMap (chrReply s.chr))
      { ok with res0 := b2n (decide (argD c 2 0 < chrFirst s.chr)) + 2 * b2n (chrReserve s.chr),
                res1 := some (es.take (c.bufLen / 64)).length }) := by
  have room : (!es.isEmpty && decide (c.bufLen < 64)) = false := by
    rcases fits with none | wide
    · simp [none]
    · simp [Nat.not_lt.mpr wide]
  simp only [chronicleRead, ← asked, room, Bool.false_eq_true, if_false]

/-- R442: a note that the queue takes answers its accession. -/
theorem chronicleNote_queued {t : State} (given : 16 ≤ c.input.length)
    (noted : t = note 0x0105 c.id.slice c.id.slice noObj (wordsOf 4 c.input) s)
    (queued : t.chr.dropped = s.chr.dropped) :
    chronicleNote c s = .done t { ok with res1 := some ((t.chr.newest.map (·.acc)).getD 0 % 2 ^ 32) } := by
  subst noted
  simp only [chronicleNote, if_neg (Nat.not_lt.mpr given), if_pos queued]

/-- R424: the routes of an assigned slice are its own. -/
theorem notifySet_sound {u : Ntf}
    (written : ntfKeys (argD c 1 0) none (c.params.filter fun p => p.key != 1) (ntf s (argD c 1 0)) = .ok u)
    (free : argD c 1 0 = 0 ∨ assigned s (argD c 1 0) = false ∨ arg c 4 = none) :
    notifySet c s = .done (withNtf (argD c 1 0) (updNtf (argD c 1 0) fun _ => u) s) ok := by
  simp only [notifySet, written]
  refine if_neg fun ⟨slice, held, routed⟩ => ?_
  rcases free with admin | unassigned | unrouted
  · exact slice admin
  · simp [unassigned] at held
  · simp [unrouted] at routed

end SignallingMeanings

/-! ## The Chronicle -/

section ChronicleRows
variable {r : CmdId} {c : Cmd} {s : State}

/-- R443. -/
theorem exec_chronicleClear (starts : Starts 0x0D03 r c s) (adm : Admin c)
    (permitted : s.svc.state = .commissioning ∨ s.svc.state = .test) (newest : argD c 2 0 = s.chr.next) :
    exec (.chronicleClear r) s = .next (reply c.id ok (chrClear s)) :=
  exec_of_done (Eq.refl (execChronicleClear r s)) starts ((adminOnly_admin adm).trans
    ((require_holds (by simpa using permitted)).trans (require_holds (beq_iff_eq.mpr newest)))) rfl

variable (booted : Booted s)
include booted

theorem chronicleRead_gives {es : List (Entry × Nat)} (starts : Starts 0x0D01 r c s)
    (asked : es = (chrFrom s.chr c.id.slice (argD c 2 0)).take (argD c 3 1)) (fits : es = [] ∨ 64 ≤ c.bufLen) :
    GivesData (.chronicleRead r) c ((es.take (c.bufLen / 64)).flatMap (chrReply s.chr))
      { ok with res0 := b2n (decide (argD c 2 0 < chrFirst s.chr)) + 2 * b2n (chrReserve s.chr),
                res1 := some (es.take (c.bufLen / 64)).length } s :=
  givesData_of_done (Eq.refl (execChronicleRead r s)) starts
    ((notBoot_booted booted).trans (chronicleRead_fits asked fits)) rfl

theorem chronicleStatusGet_gives (starts : Starts 0x0D02 r c s) :
    Gives (.chronicleStatusGet r) c 32 { ok with res0 := chrStatus s } s :=
  gives_of_done (Eq.refl (execChronicleStatusGet r s)) starts (notBoot_booted booted) rfl
    (by simp only [List.length_append, le_length])

theorem exec_chronicleNote {t : State} (starts : Starts 0x0D04 r c s) (given : 16 ≤ c.input.length)
    (noted : t = note 0x0105 c.id.slice c.id.slice noObj (wordsOf 4 c.input) s)
    (queued : t.chr.dropped = s.chr.dropped) :
    exec (.chronicleNote r) s =
      .next (reply c.id { ok with res1 := some ((t.chr.newest.map (·.acc)).getD 0 % 2 ^ 32) } t) :=
  exec_of_done (Eq.refl (execChronicleNote r s)) starts
    ((notBoot_booted booted).trans (chronicleNote_queued given noted queued)) rfl

theorem exec_chronicleConfigSet (starts : Starts 0x0D05 r c s) (adm : Admin c) :
    exec (.chronicleConfigSet r) s = .next (reply c.id ok (updChr (fun x => { x with notifySev := argD c 2 2 }) s)) :=
  exec_of_done (Eq.refl (execChronicleConfigSet r s)) starts (adminServing adm booted) rfl

/-- R447: four contexts of four registers. -/
theorem errorContextsGet_gives (starts : Starts 0x0D06 r c s) (adm : Admin c) : Gives (.errorContextsGet r) c 64 ok s :=
  gives_of_done (Eq.refl (execErrorContextsGet r s)) starts (adminServing adm booted) rfl
    (flatMap_length _ 16 _ fun i _ => flatMap_le_length 4 (ctxWords s i))

end ChronicleRows

/-! ## Notification units, alarms and input filters -/

section NotifyRows
variable {r : CmdId} {c : Cmd} {s : State} (booted : Booted s)
include booted

/-- R424: the admin slice, or the slice whose unit it is. -/
theorem notifyConfigGet_gives {n : Nat} (starts : Starts 0x0D08 r c s) (named : n = argD c 1 c.id.slice)
    (may : Admin c ∨ n = c.id.slice) : GivesData (.notifyConfigGet r) c (ntfBytes n (ntf s n)) ok s := by
  subst named
  have entitled : (fromAdmin c || argD c 1 c.id.slice == c.id.slice) = true := by simpa [fromAdmin] using may
  exact givesData_of_done (Eq.refl (execNotifyConfigGet r s)) starts
    ((notBoot_booted booted).trans (require_holds entitled)) rfl

theorem exec_notifyConfigSet {u : Ntf} (starts : Starts 0x0D07 r c s) (adm : Admin c)
    (written : ntfKeys (argD c 1 0) none (c.params.filter fun p => p.key != 1) (ntf s (argD c 1 0)) = .ok u)
    (free : argD c 1 0 = 0 ∨ assigned s (argD c 1 0) = false ∨ arg c 4 = none) :
    exec (.notifyConfigSet r) s =
      .next (reply c.id ok (withNtf (argD c 1 0) (updNtf (argD c 1 0) fun _ => u) s)) :=
  exec_of_done (Eq.refl (execNotifyConfigSet r s)) starts
    ((adminServing adm booted).trans (notifySet_sound written free)) rfl

theorem exec_notifyAlarmGet (starts : Starts 0x0D09 r c s) (adm : Admin c) :
    exec (.notifyAlarmGet r) s = .next (reply c.id
      { ok with res0 := s.sig.alarm, res1 := some (s.sig.faultCause + b2n s.sig.fault * 256) } s) :=
  exec_of_done (Eq.refl (execNotifyAlarmGet r s)) starts (adminServing adm booted) rfl

theorem exec_notifyAlarmClear (starts : Starts 0x0D0A r c s) (adm : Admin c) :
    exec (.notifyAlarmClear r) s = .next (reply c.id ok (alarmClear (argD c 2 0) s)) :=
  exec_of_done (Eq.refl (execNotifyAlarmClear r s)) starts (adminServing adm booted) rfl

/-- R429: over a publication that stands the descriptor is exchanged; its present state is sent at once. -/
theorem exec_notifyAlarmpubSet_over {u : Pub} (starts : Starts 0x0D0B r c s) (adm : Admin c)
    (sound : alarmPubBad c.input = none) (present : s.trip.alarmPub = some u) :
    exec (.notifyAlarmpubSet r) s = .next (reply c.id ok (alarmPubJudge
      { s with trip := { s.trip with alarmPub := some { u with desc := c.input, sent := none } } })) := by
  refine exec_of_done (Eq.refl (execNotifyAlarmpubSet r s)) starts ((adminServing adm booted).trans ?_) rfl
  simp only [alarmPubSet, sound, present]

theorem exec_notifyAlarmpubSet_new (starts : Starts 0x0D0B r c s) (adm : Admin c)
    (sound : alarmPubBad c.input = none) (absent : s.trip.alarmPub = none) :
    exec (.notifyAlarmpubSet r) s = .next (reply c.id ok (alarmPubJudge
      { s with trip := { s.trip with alarmPub := some { desc := c.input, live := true } } })) := by
  refine exec_of_done (Eq.refl (execNotifyAlarmpubSet r s)) starts ((adminServing adm booted).trans ?_) rfl
  simp only [alarmPubSet, sound, absent]

theorem exec_notifyFilterSet (starts : Starts 0x0D0C r c s) (adm : Admin c) :
    exec (.notifyFilterSet r) s = .next (reply c.id ok
      (updX3 (fun x => { x with trigFilt := argD c 2 x.trigFilt, bkFilt := argD c 3 x.bkFilt }) s)) :=
  exec_of_done (Eq.refl (execNotifyFilterSet r s)) starts (adminServing adm booted) rfl

end NotifyRows

/-- Settles O34: each row by the answer of its meaning. The X3 inputs and notification units are log entry 68, the contents of
entries log entry 69, the publications' records log entry 45, the size of a reading against its buffer log entry 17. -/
theorem signallingCommands : Obligations.SignallingCommands := by
  refine ⟨fun r c s booted => ?chronicle, fun r c s n booted => ?notify⟩
  case chronicle =>
    exact ⟨fun es => chronicleRead_gives booted, chronicleStatusGet_gives booted, exec_chronicleClear,
      fun t => exec_chronicleNote booted, exec_chronicleConfigSet booted, errorContextsGet_gives booted⟩
  case notify =>
    refine ⟨fun u starts adm named written free => ?set, notifyConfigGet_gives booted, exec_notifyAlarmGet booted,
      exec_notifyAlarmClear booted, fun u => exec_notifyAlarmpubSet_over booted, exec_notifyAlarmpubSet_new booted,
      exec_notifyFilterSet booted⟩
    case set =>
      subst named
      exact exec_notifyConfigSet booted starts adm written free

end Sys2Proof.Machine
end

section
/-! SUPPORT. Bits of masks: a mask gathered from a range of numbers, and the list of its bits. -/

namespace Sys2Proof.Machine

theorem bitOf_eq_testBit (v i : Nat) : bitOf v i = v.testBit i := by
  rw [Bool.eq_iff_iff]
  simp [bitOf, Nat.testBit_eq_decide_div_mod_eq, Nat.shiftRight_eq_div_pow]

/-- The mask of the numbers below `n` that satisfy a test. -/
def maskBelow (p : Nat → Bool) (n : Nat) : Nat := ((List.range n).filter p).foldl (fun m i => m + 2 ^ i) 0

theorem maskBelow_succ (p : Nat → Bool) (n : Nat) :
    maskBelow p (n + 1) = maskBelow p n + if p n then 2 ^ n else 0 := by
  simp only [maskBelow, List.range_succ, List.filter_append, List.foldl_append]
  cases top : p n <;> simp [top]

theorem maskBelow_lt (p : Nat → Bool) (n : Nat) : maskBelow p n < 2 ^ n := by
  induction n with
  | zero => simp [maskBelow]
  | succ n ih =>
    rw [maskBelow_succ, Nat.pow_succ]
    split <;> omega

/-- Below its bound the mask has exactly the bits that the test allows. -/
theorem bitOf_maskBelow {p : Nat → Bool} {n i : Nat} (below : i < n) : bitOf (maskBelow p n) i = p i := by
  rw [bitOf_eq_testBit]
  induction n with
  | zero => exact absurd below (Nat.not_lt_zero i)
  | succ n ih =>
    rw [maskBelow_succ, Nat.add_comm]
    rcases Nat.lt_succ_iff_lt_or_eq.mp below with lower | rfl
    · cases top : p n
      · simpa using ih lower
      · rw [if_pos rfl, Nat.testBit_two_pow_add_gt lower]
        exact ih lower
    · have fresh := Nat.testBit_lt_two_pow (maskBelow_lt p i)
      cases top : p i
      · simpa using fresh
      · rw [if_pos rfl, Nat.testBit_two_pow_add_eq, fresh]
        rfl

theorem mem_bitList {m n i : Nat} : i ∈ bitList m n ↔ i < n ∧ bitOf m i = true := by
  simp [bitList]

theorem bitList_pairwise_lt (m n : Nat) : (bitList m n).Pairwise (· < ·) :=
  List.pairwise_lt_range.filter _

end Sys2Proof.Machine
end

section
/-! SUPPORT. Notification sources (R422, R425): which are pending and which a claim considers, the first of them, and what the
messages of a unit leave of its sources. -/

namespace Sys2Proof.Machine

/-! ## Pending sources and those that qualify -/

section Ready
variable {s : State} {n v i : Nat}

/-- R422: an edge source is pending from its event to its claim, a level source while its condition holds unclaimed. -/
def srcPending (s : State) (n i : Nat) : Bool :=
  if bitOf (ntfLevelMask n) i then bitOf (ntfLevel s n) i && !bitOf (ntf s n).claimed i else bitOf (ntf s n).pend i

theorem ntfPending_eq (s : State) (n : Nat) : ntfPending s n = maskBelow (srcPending s n) (ntfSources n) := rfl

theorem mem_ntfReady : i ∈ ntfReady s n v ↔ i < ntfSources n ∧ srcPending s n i = true ∧
    bitOf (ntf s n).enable i = true ∧ ntfRoute n (ntf s n) i = v := by
  simp only [ntfReady, List.mem_filter, mem_bitList, ntfPending_eq, Bool.and_eq_true, beq_iff_eq, and_assoc]
  exact and_congr_right fun below => by rw [bitOf_maskBelow below]

theorem srcPending_iff : srcPending s n i = true ↔
    if bitOf (ntfLevelMask n) i = true then bitOf (ntfLevel s n) i = true ∧ bitOf (ntf s n).claimed i = false
    else bitOf (ntf s n).pend i = true := by
  unfold srcPending
  split <;> simp

theorem ntfReady_pairwise_lt (s : State) (n v : Nat) : (ntfReady s n v).Pairwise (· < ·) :=
  (bitList_pairwise_lt ..).filter _

theorem ntfExempt_iff : ntfExempt s n v = true ↔
    ∃ i ∈ ntfReady s n v, ntfPrio (ntf s n) i / 4 < tget 1 (ntf s n).bypass v := by
  simp [ntfExempt]

end Ready

/-! ## Priorities and the first source -/

section Order
variable {u : Ntf} {l : List Nat}

/-- R425: the group is the upper two bits of a source's four, the sub-priority the lower two. -/
theorem ntfPrio_group (u : Ntf) (i : Nat) : ntfPrio u i / 4 = bitsOf u.prio (4 * i + 2) 2 := by
  simp only [ntfPrio, bitsOf, Nat.shiftRight_add, Nat.shiftRight_eq_div_pow _ 2]
  omega

theorem ntfPrio_sub (u : Ntf) (i : Nat) : ntfPrio u i % 4 = bitsOf u.prio (4 * i) 2 := by
  simp only [ntfPrio, bitsOf]
  omega

/-- A source comes before another: it is the lower in priority's number, or as low and not the higher in ID. -/
def Before (u : Ntf) (k j : Nat) : Prop := ntfPrio u k < ntfPrio u j ∨ (ntfPrio u k = ntfPrio u j ∧ k ≤ j)

theorem Before.refl (u : Ntf) (k : Nat) : Before u k k := .inr ⟨rfl, Nat.le_refl k⟩

theorem Before.trans {k j i : Nat} (first : Before u k j) (second : Before u j i) : Before u k i := by
  unfold Before at *
  omega

/-- The source that the fold keeps of two. -/
def firstOf (u : Ntf) (i j : Nat) : Nat := if ntfPrio u j < ntfPrio u i then j else i

theorem firstOf_eq_or (u : Ntf) (i j : Nat) : firstOf u i j = i ∨ firstOf u i j = j := by
  unfold firstOf
  split
  · exact .inr rfl
  · exact .inl rfl

theorem firstOf_before {i j : Nat} (ordered : i < j) : Before u (firstOf u i j) i ∧ Before u (firstOf u i j) j := by
  unfold firstOf Before
  split <;> omega

/-! The fold, by its first two sources. -/

theorem ntfBest_cons_cons (u : Ntf) (i j : Nat) (l : List Nat) :
    ntfBest u (i :: j :: l) = ntfBest u (firstOf u i j :: l) := by
  simp only [ntfBest, List.foldl_cons, firstOf]
  split <;> rfl

theorem ntfBest_cons_ne_none (u : Ntf) (i : Nat) (l : List Nat) : ntfBest u (i :: l) ≠ none := by
  induction l generalizing i with
  | nil => exact Option.some_ne_none i
  | cons j l ih =>
    rw [ntfBest_cons_cons]
    exact ih _

theorem ntfBest_eq_none_iff : ntfBest u l = none ↔ l = [] := by
  cases l with
  | nil => exact iff_of_true rfl rfl
  | cons i l => exact iff_of_false (ntfBest_cons_ne_none u i l) (List.cons_ne_nil i l)

/-- In a list in order of ID the fold finds the one that comes before all. -/
theorem ntfBest_cons_before {i k : Nat} (sorted : (i :: l).Pairwise (· < ·)) (best : ntfBest u (i :: l) = some k) :
    k ∈ i :: l ∧ ∀ j ∈ i :: l, Before u k j := by
  induction l generalizing i with
  | nil =>
    obtain rfl : i = k := Option.some.inj best
    exact ⟨List.mem_cons_self, fun j listed => List.mem_singleton.mp listed ▸ Before.refl u i⟩
  | cons j l ih =>
    obtain ⟨above, rest⟩ := List.pairwise_cons.mp sorted
    obtain ⟨beyond, tail⟩ := List.pairwise_cons.mp rest
    have ordered : i < j := above j List.mem_cons_self
    have least : ∀ x ∈ l, firstOf u i j < x := fun x listed => by
      rcases firstOf_eq_or u i j with kept | kept
      · rw [kept]
        exact above x (List.mem_cons_of_mem j listed)
      · rw [kept]
        exact beyond x listed
    rw [ntfBest_cons_cons] at best
    obtain ⟨inside, before⟩ := ih (List.pairwise_cons.mpr ⟨least, tail⟩) best
    have first := before _ List.mem_cons_self
    obtain ⟨beforeI, beforeJ⟩ := firstOf_before (u := u) ordered
    constructor
    · rcases List.mem_cons.mp inside with rfl | later
      · rcases firstOf_eq_or u i j with kept | kept <;> simp [kept]
      · exact List.mem_cons_of_mem i (List.mem_cons_of_mem j later)
    · intro x listed
      rcases List.mem_cons.mp listed with rfl | listed
      · exact first.trans beforeI
      · rcases List.mem_cons.mp listed with rfl | later
        · exact first.trans beforeJ
        · exact before x (List.mem_cons_of_mem _ later)

theorem ntfBest_before {k : Nat} (sorted : l.Pairwise (· < ·)) (best : ntfBest u l = some k) :
    k ∈ l ∧ ∀ j ∈ l, Before u k j := by
  cases l with
  | nil => exact absurd best.symm (Option.some_ne_none k)
  | cons i l => exact ntfBest_cons_before sorted best

end Order

/-- Settles O18: the sources that qualify stand in order of ID, and the fold over them keeps the first in R425's order. -/
theorem claimOrder : Obligations.ClaimOrder :=
  fun u _ n v s => ⟨ntfBest_eq_none_iff, fun _ => ntfBest_before, ntfReady_pairwise_lt s n v,
    fun i => ⟨ntfPrio_group u i, ntfPrio_sub u i⟩, ntfExempt_iff⟩

/-! ## What messages leave of a unit's sources -/

section Sources
variable {s : State} {n v i : Nat}

theorem ntf_updNtf (n : Nat) (f : Ntf → Ntf) (s : State) : ntf (updNtf n f s) n = f (ntf s n) := by
  by_cases admin : n = 0
  · simp [ntf, updNtf, admin]
  · simp [ntf, updNtf, admin]

theorem ntf_post (o : Out) (s : State) (n : Nat) : ntf (post o s) n = ntf s n := by
  unfold post
  split
  · rfl
  · split <;> rfl

/-- The three masks of a unit's sources (R422). Moderation does not touch them. -/
def srcMasks (u : Ntf) : Nat × Nat × Nat := (u.pend, u.claimed, u.again)

theorem ntfSend_srcMasks (n v : Nat) (s : State) : srcMasks (ntf (ntfSend n v s) n) = srcMasks (ntf s n) := by
  simp only [ntfSend]
  split
  · rw [ntf_post, ntf_updNtf]
    rfl
  · rw [ntf_updNtf]
    rfl

theorem ntfDue_srcMasks (n v : Nat) (s : State) : srcMasks (ntf (ntfDue n v s) n) = srcMasks (ntf s n) := by
  simp only [ntfDue]
  split
  · split
    · rw [ntf_updNtf]
      rfl
    · exact ntfSend_srcMasks n v s
  · exact ntfSend_srcMasks n v s

theorem ntfJudge_srcMasks (before : State) (n v : Nat) (s : State) :
    srcMasks (ntf (ntfJudge before n v s) n) = srcMasks (ntf s n) := by
  unfold ntfJudge
  split
  · exact ntfDue_srcMasks n v s
  · split
    · exact ntfSend_srcMasks n v s
    · rfl

/-- A judged change leaves of a unit's sources what the change itself leaves. -/
theorem withNtf_srcMasks (n : Nat) (f : State → State) (s : State) :
    srcMasks (ntf (withNtf n f s) n) = srcMasks (ntf (f s) n) := by
  unfold withNtf
  split
  case isTrue admin => rw [admin, ntfJudge_srcMasks]
  case isFalse => simp only [ntfJudge_srcMasks]

/-! An event, by whether its source is claimed. -/

theorem edge_srcMasks (n i : Nat) (s : State) : srcMasks (ntf (edge n i s) n) =
    if bitOf (ntf s n).claimed i then ((ntf s n).pend, (ntf s n).claimed, setBit (ntf s n).again i)
    else (setBit (ntf s n).pend i, (ntf s n).claimed, (ntf s n).again) := by
  rw [edge, withNtf_srcMasks, ntf_updNtf]
  split <;> rfl

theorem edge_pend (n i : Nat) (s : State) : (ntf (edge n i s) n).pend =
    if bitOf (ntf s n).claimed i = true then (ntf s n).pend else setBit (ntf s n).pend i := by
  have masks := congrArg Prod.fst (edge_srcMasks n i s)
  rwa [apply_ite Prod.fst] at masks

theorem edge_again (n i : Nat) (s : State) : (ntf (edge n i s) n).again =
    if bitOf (ntf s n).claimed i = true then setBit (ntf s n).again i else (ntf s n).again := by
  have masks := congrArg (fun m => m.2.2) (edge_srcMasks n i s)
  rwa [apply_ite fun m : Nat × Nat × Nat => m.2.2] at masks

/-! A completion. -/

theorem ntfComplete_unclaimed (spare : bitOf (ntf s n).claimed i = false ∨ ntfSources n ≤ i) : ntfComplete n i s = s := by
  refine if_neg fun ⟨below, claimed⟩ => ?_
  rcases spare with unclaimed | beyond
  · simp [unclaimed] at claimed
  · exact absurd below (Nat.not_lt.mpr beyond)

theorem ntfComplete_srcMasks (below : i < ntfSources n) (claimed : bitOf (ntf s n).claimed i = true) :
    srcMasks (ntf (ntfComplete n i s) n) =
      (if bitOf (ntf s n).again i then setBit (ntf s n).pend i else (ntf s n).pend,
        clrBit (ntf s n).claimed i, clrBit (ntf s n).again i) := by
  simp only [ntfComplete, below, claimed, and_self, if_true]
  split
  · rw [ntfDue_srcMasks, ntf_updNtf]
    rfl
  · rw [ntf_updNtf]
    rfl

end Sources

/-! ## The claim and complete registers -/

section Registers
variable {s : State} {n v i : Nat}

theorem claimRead_some {k : Nat} (best : ntfBest (ntf s n) (ntfReady s n v) = some k) : claimRead n v s =
    emit (.value k) (updNtf n (fun u => { u with claimed := setBit u.claimed k, pend := clrBit u.pend k }) s) := by
  simp only [claimRead, ntfClaim, best]

theorem claimRead_none (none : ntfBest (ntf s n) (ntfReady s n v) = none) : claimRead n v s = emit (.value 0x3FF) s := by
  simp only [claimRead, ntfClaim, none]

variable (up : hostUp s = true)
include up

theorem exec_ntfAdmClaim : exec .ntfAdmClaim s = .next (claimRead 0 0 s) := exec_of_due (Eq.refl (execNtfAdmClaim s)) up

theorem exec_ntfAdmComplete (inside : i < 1024) : exec (.ntfAdmComplete i) s = .next (ntfComplete 0 i s) := by
  have row : exec (.ntfAdmComplete i) s = .next (ntfComplete 0 (i % 1024) s) :=
    exec_of_due (Eq.refl (execNtfAdmComplete i s)) up
  rwa [Nat.mod_eq_of_lt inside] at row

variable (slice : n ≠ 0) (window : n ≤ 512)
include slice window

theorem exec_slcNtfClaim (vector : v < 4) : exec (.slcNtfClaim n v) s = .next (claimRead n v s) :=
  exec_of_due (Eq.refl (execSlcNtfClaim n v s)) (by simp [stationUp_of_hostUp up window slice, vector])

theorem exec_slcNtfComplete (inside : i < 1024) : exec (.slcNtfComplete n i) s = .next (ntfComplete n i s) := by
  have row : exec (.slcNtfComplete n i) s = .next (ntfComplete n (i % 1024) s) :=
    exec_of_due (Eq.refl (execSlcNtfComplete n i s)) (stationUp_of_hostUp up window slice)
  rwa [Nat.mod_eq_of_lt inside] at row

end Registers

/-- Settles O40: the registers' rows by the claim and the completion they make; the masks of a unit's sources through every
message that a completion or an event sends (log entry 68). -/
theorem claimComplete : Obligations.ClaimComplete := by
  intro n v i s up
  refine ⟨fun k best => ?admin, fun none => ?adminNone, fun k slice window vector best => ?slice,
    fun slice window vector none => ?sliceNone, exec_ntfAdmComplete up, exec_slcNtfComplete up, ntfComplete_unclaimed,
    fun below claimed => ?completed, fun k => ?ready, edge_pend n i s, edge_again n i s⟩
  case admin => rw [exec_ntfAdmClaim up, claimRead_some best]
  case adminNone => rw [exec_ntfAdmClaim up, claimRead_none none]
  case slice => rw [exec_slcNtfClaim up slice window vector, claimRead_some best]
  case sliceNone => rw [exec_slcNtfClaim up slice window vector, claimRead_none none]
  case completed =>
    have masks := ntfComplete_srcMasks below claimed
    exact ⟨congrArg (fun m => m.2.1) masks, congrArg Prod.fst masks⟩
  case ready =>
    rw [mem_ntfReady, srcPending_iff]
    exact ⟨fun ⟨below, pending, enabled, routed⟩ => ⟨below, enabled, routed, pending⟩,
      fun ⟨below, enabled, routed, pending⟩ => ⟨below, pending, enabled, routed⟩⟩

end Sys2Proof.Machine
end

section
/-! SUPPORT. The events of moderation, the Chronicle, keys, deposits and trials (R426, R439, R444, R456, R459, R473): each row
where its condition holds. -/

namespace Sys2Proof.Machine

section SignallingEvents
variable {s : State}

/-- R426: a message held past its MOD_INT is sent if the vector still has work, and released if not. -/
theorem ntfExpire_due {n v t : Nat} (held : bitOf (ntf s n).held v = true) (sent : tfind (ntf s n).last v = some t)
    (due : t + tget 0 (ntf s n).modInt v * 1000 ≤ s.clk) :
    ntfExpire n v s = if hasWork s n v then ntfSend n v s else updNtf n (fun u => { u with held := clrBit u.held v }) s := by
  simp only [ntfExpire, held, sent, us]
  exact if_neg (Nat.not_lt.mpr due)

theorem exec_chronicleItemWrite (good0 good1 : Bool) (powered : s.pwr.good = true) :
    exec (.chronicleItemWrite good0 good1) s = .next (chrStep good0 good1 s) :=
  exec_of_due (Eq.refl (execChronicleItemWrite good0 good1 s)) powered

section Devices
variable (powered : s.pwr.good = true) (phase : 4 ≤ s.pwr.phase)
include powered phase

theorem exec_framDeviceFailed_first (works : s.chr.ok0 = true) :
    exec (.framDeviceFailed 0) s = .next (deviceFailed 0 s) :=
  exec_of_due (Eq.refl (execFramDeviceFailed 0 s)) (by simp [powered, phase, works])

theorem exec_framDeviceFailed_second (works : s.chr.ok1 = true) :
    exec (.framDeviceFailed 1) s = .next (deviceFailed 1 s) :=
  exec_of_due (Eq.refl (execFramDeviceFailed 1 s)) (by simp [powered, phase, works])

end Devices

/-! ## Keys (R456, R457) -/

/-- A unit that stands alone or is ACTIVE judges a lapse; one that leads a pair carries it. -/
theorem exec_keyLapse {k : Nat} (due : lapseDue s k = true) (live : unitLive s = true) :
    exec (.keyLapse k) s = .next (if pairLeads s then sendOwn 2 [(2, k)] s else lapseKey k s) :=
  exec_of_due (Eq.refl (execKeyLapse k s)) (by rw [due, live]; rfl)

/-! ## Sessions and trials (R459, R473) -/

/-- R459: a session without a chunk for 60 s is idle. -/
theorem idleSession_of_due {x : Session} {held : Option Session} (present : held = some x)
    (due : x.at_ + 60000000000 ≤ s.clk) : idleSession s held = true := by
  subst present
  exact decide_eq_true due

theorem exec_depositSessionTimeout_keys {x : Session} (held : s.keys.session = some x)
    (due : x.at_ + 60000000000 ≤ s.clk) :
    exec (.depositSessionTimeout false) s = .next (updKeys (fun k => { k with session := none }) s) :=
  congrArg _ (if_pos (idleSession_of_due held due))

theorem exec_depositSessionTimeout_firmware {x : Session} (held : s.upd.session = some x)
    (due : x.at_ + 60000000000 ≤ s.clk) : exec (.depositSessionTimeout true) s = .next (dropImage s) :=
  congrArg _ (if_pos (idleSession_of_due held due))

theorem exec_trialWindowExpiry (powered : s.pwr.good = true) (idle : s.pwr.pfw = .idle)
    (started : s.upd.trialFrom.isSome = true) (runs : trialRuns s = true) (passed : confirmLeft s = 0) :
    exec .trialWindowExpiry s = .next (softReset s) :=
  exec_of_due (Eq.refl (execTrialWindowExpiry s)) (by simp [powered, idle, started, runs, passed])

end SignallingEvents

/-- Settles O60: one row's lemma for each clause. Key lapses are log entry 72, the trial log entry 73, moderation log entry
68, the Chronicle's devices log entry 69. -/
theorem signallingAndKeyEvents : Obligations.SignallingAndKeyEvents := by
  refine ⟨fun s n v good0 good1 => ⟨fun t held sent due => ?moderation, exec_chronicleItemWrite good0 good1,
    exec_framDeviceFailed_first, exec_framDeviceFailed_second⟩, fun s k x => ⟨fun due live alone => ?lapse,
    fun due live leads => ?carry, exec_depositSessionTimeout_keys, exec_depositSessionTimeout_firmware,
    exec_trialWindowExpiry⟩⟩
  case moderation => exact congrArg _ (ntfExpire_due held sent due)
  case lapse => exact (exec_keyLapse due live).trans (congrArg _ (if_neg (by simp [alone])))
  case carry => exact (exec_keyLapse due live).trans (congrArg _ (if_pos leads))

end Sys2Proof.Machine
end
